-- ==== Sys2Proof/Word.lean ====
section
/-! DEFINITION. The word types of the F256, fields of a register word, and the sparse table in which the model
holds register space, vector memory and per-instance contexts. -/

namespace Sys2Proof

/-- One 32-bit register of the register space (R9). -/
abbrev Word := BitVec 32
/-- One byte of vector memory (R8). -/
abbrev Byte := BitVec 8

/-- The field of `n` bits of `w` whose lowest bit is `lo`: REGISTER.FIELD of R7's notation `[lo+n-1:lo]`. -/
def Word.get (w : Word) (lo n : Nat) : Nat := (w.extractLsb' lo n).toNat

/-- `w` with the field of `n` bits at `lo` replaced by the low `n` bits of `v`. -/
def Word.put (w : Word) (lo n v : Nat) : Word :=
  (w &&& ~~~(((BitVec.allOnes n).setWidth 32) <<< lo)) ||| (((BitVec.ofNat n v).setWidth 32) <<< lo)

/-- Bit `i` of `w`. -/
def Word.bit (w : Word) (i : Nat) : Bool := w.getLsbD i

/-- `w` with bit `i` set to `b`. -/
def Word.putBit (w : Word) (i : Nat) (b : Bool) : Word :=
  if b then w ||| (1 : Word) <<< i else w &&& ~~~((1 : Word) <<< i)

/-- Bits of `m` taken from `v`, the others from `w`: a write through a write mask (R10). -/
def Word.merge (m v w : Word) : Word := (v &&& m) ||| (w &&& ~~~m)

/-- Two words as one 64-bit number, low word first (R8). -/
def Word.join (lo hi : Word) : Nat := lo.toNat + 2 ^ 32 * hi.toNat

/-- The value of the low `n` bits of `v` read as two's complement. -/
def signed (n v : Nat) : Int :=
  if v % 2 ^ n < 2 ^ (n - 1) then ((v % 2 ^ n : Nat) : Int) else ((v % 2 ^ n : Nat) : Int) - (2 ^ n : Nat)

/-- The low `n` bits of the two's complement form of `z`. -/
def unsigned (n : Nat) (z : Int) : Nat := (z % ((2 ^ n : Nat) : Int)).toNat

/-- The least multiple of `m` at or above `n` divided by `m`: division rounded up. -/
def ceilDiv (n m : Nat) : Nat := (n + m - 1) / m

/-- Bit `i` of a natural number. -/
def natBit (n i : Nat) : Bool := n.testBit i

/-- `n` with bit `i` set. -/
def natSetBit (n i : Nat) : Nat := n ||| 2 ^ i

/-- `n` with bit `i` cleared. -/
def natClearBit (n i : Nat) : Nat := if n.testBit i then n - 2 ^ i else n

/-- The lowest set bit of `n` below `w`. -/
def lowestBit (n w : Nat) : Option Nat := (List.range w).find? (fun i => n.testBit i)

/-- How many of the low `w` bits of `n` are 1. -/
def popCount (n w : Nat) : Nat := (List.range w).countP (fun i => n.testBit i)

/-- The number whose bit `i` is `f i`, for `i` below `w`. -/
def bitsOf (w : Nat) (f : Nat → Bool) : Nat :=
  (List.range w).foldl (fun a i => if f i then a ||| 2 ^ i else a) 0

/-- A counter that stops at `2 ^ w - 1`. -/
def satAdd (w a b : Nat) : Nat := min (a + b) (2 ^ w - 1)

/-! ## The sparse table -/

/-- A table keyed by a natural number. A key it does not list has the table's default value. In its canonical form
keys rise strictly and no entry equals the default of its key. -/
abbrev Tab (α : Type) := List (Nat × α)

/-- The value at `k`; `dflt` gives what an unlisted key holds. -/
def Tab.get {α : Type} (dflt : Nat → α) : Tab α → Nat → α
  | [], k => dflt k
  | (k', v) :: t, k => if k = k' then v else Tab.get dflt t k

/-- The table with `v` listed at `k`, in key order. -/
def Tab.put {α : Type} : Tab α → Nat → α → Tab α
  | [], k, v => [(k, v)]
  | (k', v') :: t, k, v =>
    if k < k' then (k, v) :: (k', v') :: t
    else if k = k' then (k, v) :: t
    else (k', v') :: Tab.put t k v

/-- The table without an entry for `k`. -/
def Tab.erase {α : Type} : Tab α → Nat → Tab α
  | [], _ => []
  | (k', v') :: t, k => if k = k' then Tab.erase t k else (k', v') :: Tab.erase t k

/-- The table with the value at `k` set to `v`; setting the default removes the entry, so that equal tables are
equal data. -/
def Tab.set {α : Type} [DecidableEq α] (dflt : Nat → α) (t : Tab α) (k : Nat) (v : α) : Tab α :=
  if v = dflt k then Tab.erase t k else Tab.put t k v

/-- The table without the entries whose key `p` selects: those keys return to their defaults. -/
def Tab.drop {α : Type} (p : Nat → Bool) (t : Tab α) : Tab α := t.filter (fun e => !p e.1)

/-- The canonical form: keys rise strictly, and no entry equals the default of its key. -/
def Tab.wf {α : Type} [DecidableEq α] (dflt : Nat → α) : Tab α → Bool
  | [] => true
  | [(k, v)] => decide (v ≠ dflt k)
  | (k, v) :: (k', v') :: t => decide (v ≠ dflt k) && decide (k < k') && Tab.wf dflt ((k', v') :: t)

end Sys2Proof
end

