-- ==== Sys2Proof/Syntax.lean ====
section
/-! DEFINITION. The commands of the F256: one constructor per row of the command table, with the data they bring. -/

namespace Sys2Proof

/-- What the comparators of one channel deliver for one tester cycle (R37, R45, R77): CH_CHI and CH_CLO at the compare
events of the cycle (bit i for event or UI i), and whether every sample of window i stayed within its level range. -/
structure Sample where
  chi : BitVec 8
  clo : BitVec 8
  win : BitVec 16
deriving DecidableEq, Repr

/-- What an ECC check finds (R71, R94, R97, R137, R223, R247). -/
inductive Ecc where
  | good | corrected | bad
deriving DecidableEq, Repr

/-- How a register is read: with an aligned 32-bit access or another one (R9), and what the ECC check of the window pair that holds it finds
(R71, R94, R97, R260). -/
structure ReadHow where
  full : Bool
  ecc : Ecc
deriving DecidableEq, Repr

/-- How many dwords a register read packet asks for (R296), and what the ECC checks of the window pairs among them find, by dword. -/
structure ReadLen where
  len : BitVec 7
  ecc : List (BitVec 6 × Ecc)
deriving DecidableEq, Repr

/-- A word to be written to a window, and what the read of its read-modify-write finds (R260). -/
structure WinWord where
  v : Word
  ecc : Ecc
deriving DecidableEq, Repr

/-- What SECDED finds when the micro-engine dispatches a sequence instruction: an uncorrectable error in its sequence-store word, and what
the read of its control-store word finds: the dispatch entry, or the micro-operation NOP itself (R97, R137); and the words of the opcode's vendor
routine that the engine fetches, with what each read finds (R129, R146). -/
structure Fetched where
  ue : Bool
  word : Ecc
  routine : List (BitVec 14 × Ecc)
deriving DecidableEq, Repr

/-- What the SHA-256 of a firmware slot is against the one recorded: the same, the same with an error in Keystone SRAM corrected on the way, or another
(R260, R364). -/
inductive SlotHash where
  | same | repaired | other
deriving DecidableEq, Repr

/-- The voltages at the two balls of a guard monitor, in nanovolts (R347). -/
structure GuardVolts where
  p : Int
  n : Int
deriving DecidableEq, Repr

/-- What a full calibration finds of one fine path (R240): the delay of tap 0 through the loop, the delays of the 48 physical
elements in ticks, the greatest spread of 16 measurements of a quantity, and the deviations of the 64 interpolator steps in half-ticks. -/
structure PathMeas where
  loop : Int
  elems : List Nat
  spread : Nat
  interp : List Int
deriving DecidableEq, Repr

/-- The measurement covers 48 elements and 64 interpolator steps (R240). -/
def PathMeas.ok (m : PathMeas) : Bool := decide (m.elems.length = 48 ∧ m.interp.length = 64)

/-- A full calibration's measurements of one gathered channel. -/
structure ChanMeas where
  chan : BitVec 8
  a : PathMeas
  b : PathMeas
deriving DecidableEq, Repr

/-- The measurements of the reference slice of one pier: two fine paths of the same layout as a channel's (R241). -/
structure SliceMeas where
  pier : BitVec 4
  a : PathMeas
  b : PathMeas
deriving DecidableEq, Repr

/-- The delays of tap 0 measured through the loops of one gathered channel in a VERIFY, with the greatest spread of 16 measurements. -/
structure ChanOffs where
  chan : BitVec 8
  a : Int
  b : Int
  spread : Nat
deriving DecidableEq, Repr

/-- The same of the reference slice of one pier, whose channels are tracked (R241). -/
structure SliceOffs where
  pier : BitVec 4
  a : Int
  b : Int
  spread : Nat
deriving DecidableEq, Repr

/-- What a VERIFY measures: gathered channels, and the slices of piers with tracked ones (R241, R244). -/
structure VerifyMeas where
  chans : List ChanOffs
  slices : List SliceOffs
deriving DecidableEq, Repr

/-- TAG of a signal set (R334), and whether the lanes carried identical copies of the set free of code errors. -/
structure SigTag where
  tag : BitVec 16
  same : Bool
deriving DecidableEq, Repr

/-- What is wrong with a data packet (R295, R297): its CRC or framing; or, with a good CRC, its TYPE or a reserved field, with its credit class
(0 posted, 1 non-posted, 2 completion), tag and payload length. DESIGN CHOICE: a packet of an unlisted TYPE is of the class given (log entry 118). -/
inductive PktFlaw where
  | corrupt
  | reserved (cls : Fin 3) (tag : BitVec 8) (len : BitVec 7)
deriving DecidableEq, Repr

/-- What was abandoned after three failed replays (R222): the read of an origin of R224, or a write, with its requester. -/
inductive Abandoned where
  | fetch (s : Fin 16)
  | dmaRead (q : Fin 2)
  | coreRead (k : Fin 16)
  | corePartial (k : Fin 16)
  | dmaPartial (q : Fin 2)
  | enginePartial
  | coreWrite (k : Fin 16)
  | scrub
  | bitmapRead (p : Fin 16)
  | imageRead
  | dmaWrite (q : Fin 2)
  | capWrite (p : Fin 16)
  | bitmapWrite (p : Fin 16)
deriving DecidableEq, Repr

/-- The serial links (R286, R318, R393). -/
inductive Link where
  | trestle | up | down | twin
deriving DecidableEq, Repr

/-- Who issues a register access (R9, R17): the host, a Newt core, or Keystone. -/
inductive Requester where
  | host
  | core (k : Fin 16)
  | keystone
deriving DecidableEq, Repr

/-- A byte address of the register space (R9, R411), with the core ports of R263 above it: port of core k at
0x100_0000 + 0x1000 × k. -/
abbrev RegAddr := BitVec 25

/-- The commands of the F256, one constructor per row of the command table, in its order. -/
inductive Instr where
  /-- REFCLK_LOSS (R18): REFCLK has been absent or outside ±500 ppm for 2 µs: the PLLs fed by REFCLK lose lock, the always-on PLL moves to the oscillator, Trestle drops and ALERT_N is asserted. -/
  | refclkLoss
  /-- REFCLK_RETURN (R448): REFCLK has been present and in tolerance for 100 µs: REFOK becomes 1, the always-on PLL switches back and Keystone relocks the other PLLs. -/
  | refclkReturn
  /-- PLL_LOCK_LOSS (R18): A PLL loses lock: channels are forced off before any unlocked TCLK period and the PLL safe-state cause arrives. -/
  | pllLockLoss (k : Fin 6)
  /-- PLL_LOCK (R448): A PLL reports lock: the PLL cause condition ends once all PLLs are locked, and cores held for a core PLL loss are released. -/
  | pllLock (k : Fin 6)
  /-- PWR_REQ_READY (R25): A PWR_REQ write with TARGET READY starts a wake from DOZE or RETAIN: PLL relock, governed unit wakes and a verification pass. -/
  | pwrReqReady (q : Requester)
  /-- PWR_REQ_DOZE (R22): A PWR_REQ write with TARGET DOZE is refused or starts entry to DOZE. -/
  | pwrReqDoze (q : Requester)
  /-- PWR_REQ_RETAIN (R24): A PWR_REQ write with TARGET RETAIN is refused or starts entry to RETAIN with the stack named in RET_STACK kept. -/
  | pwrReqRetain (q : Requester) (stackB : Bool)
  /-- POWER_ENTRY_DONE (R27): Entry to DOZE or RETAIN completes: STATE leaves ENTERING, STATE_DONE is raised and any held PWR_REQ value is acted on. -/
  | powerEntryDone
  /-- RETAIN_ZERO_FILL_DONE (R24): The zero-fill of the stack lost to RETAIN completes during the exit from RETAIN. -/
  | retainZeroFillDone
  /-- PWR_PGATE_WRITE (R352): A write of PWR_PGATE gates piers or requests their wake, and is ignored for an assigned pier. -/
  | pwrPgateWrite (q : Requester) (v : Word)
  /-- PWR_SGATE_WRITE (R352): A write of PWR_SGATE puts a stack in self-refresh or requests its wake, unless the stack is charged, holds an armed region or DMA runs. -/
  | pwrSgateWrite (q : Requester) (v : Word)
  /-- GOVERNOR_ADMIT (R353): A governor interval expires and the next queued pier or memory channel begins its wake. -/
  | governorAdmit
  /-- UNIT_WAKE_DONE (R353): A pier or memory channel completes its wake; GATE_DONE is raised when the queue is empty. -/
  | unitWakeDone (u : Fin 48)
  /-- PIER_CTRL_WRITE (R31): A write of PIER_CTRL changes the stream assignment and MASKED_DRV, or is ignored whole while either stream is not halted. -/
  | pierCtrlWrite (q : Requester) (p : Fin 16) (v : Word)
  /-- STATIC_RESUME (R50): PIER_CMD.STATIC_RESUME releases the pier's static channels to drive STATIC_LVL, unless the device is in the safe state. -/
  | staticResume (q : Requester) (p : Fin 16)
  /-- PG_COMMIT (R40): PG_CTRL.COMMIT applies the page's shadowed registers at once or holds the commit until the burst end or cycle boundary. -/
  | pgCommit (q : Requester) (page : BitVec 12)
  /-- PG_FREEZE (R416): A write of PG_CTRL.FREEZE holds commits, and writing 0 releases a held commit. -/
  | pgFreeze (q : Requester) (page : BitVec 12) (on : Bool)
  /-- PG_SOFT_RESET (R416): PG_CTRL.SOFT_RESET returns the page's registers and applied values to reset, or is refused with code 0xFE. -/
  | pgSoftReset (q : Requester) (page : BitVec 12)
  /-- PG_FCLR (R415): PG_CTRL.FCLR clears FAULT and PG_FAULT_CODE. -/
  | pgFclr (q : Requester) (page : BitVec 12)
  /-- PG_ENABLE (R416): A write of PG_CTRL.ENABLE on a CHN, CAP or GRD page enables or disables the block. -/
  | pgEnable (q : Requester) (page : BitVec 12) (on : Bool)
  /-- PG_LOCK_WRITE (R417): A write of PG_LOCK locks an unlocked page with the value as key, or unlocks a locked page when it carries the key. -/
  | pgLockWrite (q : Requester) (page : BitVec 12) (key : Word)
  /-- PG_EVT_PEND_CLEAR (R414): A W1C write of PG_EVT_PEND clears RAW event bits and may deassert the block's request. -/
  | pgEvtPendClear (q : Requester) (page : BitVec 12) (v : Word)
  /-- PG_EVT_SET (R414): A W1S write of PG_EVT_SET sets RAW event bits for test. -/
  | pgEvtSet (q : Requester) (page : BitVec 12) (v : Word)
  /-- PG_EVT_EN_WRITE (R414): A write of PG_EVT_EN enables events and asserts the request at once when an enabled RAW bit is already 1. -/
  | pgEvtEnWrite (q : Requester) (page : BitVec 12) (v : Word)
  /-- REGISTER_WRITE (R10): A write to a register or window word without a row of its own, under the access code, alignment, mapping, lock and page rules. -/
  | registerWrite (q : Requester) (addr : RegAddr) (full : Bool) (v : Word)
  /-- READ_CLEAR (R10): A read of an RC register returns the value and clears it in the same access. -/
  | readClear (q : Requester) (addr : RegAddr) (how : ReadHow)
  /-- SPLIT_READ_LOW (R17): A read of the lower register of a split value latches the upper part for that requester. -/
  | splitReadLow (q : Requester) (addr : RegAddr)
  /-- HELD_WRITE_LOWER (R73): A write of the lower register of a held-write pair places the value in the requester's write latch. -/
  | heldWriteLower (q : Requester) (addr : RegAddr) (v : Word)
  /-- HELD_WRITE_UPPER (R73): A write of the upper register of a held-write pair stores both halves, or its own half alone, and empties the latch. -/
  | heldWriteUpper (q : Requester) (addr : RegAddr) (v : Word) (ue : Bool)
  /-- TSMEM_WRITE (R71): A write to the timing-set memory performs a read-modify-write of its word pair, refused on an uncorrectable error. -/
  | tsmemWrite (q : Requester) (chan : BitVec 8) (set : BitVec 8) (word : BitVec 3) (v : Word) (ecc : Ecc)
  /-- SPAN_DESC_WRITE (R95): A write to a span-table descriptor word is stored or ignored under the READY and ACTIVE restrictions. -/
  | spanDescWrite (q : Requester) (span : BitVec 16) (word : BitVec 2) (v : Word) (ue : Bool)
  /-- CTRL_STORE_WRITE (R136): A write to the control-store window completes with an error and changes nothing. -/
  | ctrlStoreWrite (q : Requester) (w : BitVec 14) (v : Word)
  /-- TASK_RAM_WRITE (R264): A write to a task descriptor is stored, or ignored with fault 0x01 while the task is not IDLE. -/
  | taskRamWrite (q : Requester) (task : BitVec 12) (word : BitVec 4) (v : WinWord)
  /-- PEB_GO (R55): PEB_CMDk.GO queues a frame on the port, or raises OVERRUN when the queue is full. -/
  | pebGo (q : Requester) (port : Fin 8) (cs : BitVec 2)
  /-- PEB_FRAME_DONE (R54): A PEBUS frame completes: received bits are stored, DONE is raised and the next queued frame starts. -/
  | pebFrameDone (port : Fin 8) (rx : BitVec 64)
  /-- CYCLE_START (R75): A tester cycle of a stream begins: the player issues the cycle word and pier data, edges are placed and compares, capture, triggers and the APG act. -/
  | cycleStart (s : Fin 16) (samples : List Sample) (arrived : Nat) (ueVec : Bool) (eccTs : List (BitVec 8 × Ecc))
  /-- BITMAP_UPDATE_WRITE (R182): A queued fail-bitmap update is written by read-modify-write of its 32-byte unit. -/
  | bitmapUpdateWrite (p : Fin 16) (ue : Bool)
  /-- GAP_END (R111): A WAIT, PHASE or timeout gap ends and the next cycle starts on a whole tick. -/
  | gapEnd (s : Fin 16)
  /-- SPAN_BOUNDARY (R105): Play reaches boundary B and the boundary actions queued for it act in program order. -/
  | spanBoundary (s : Fin 16)
  /-- SPAN_FETCH_BEGIN (R98): The player begins a span request: it checks READY, checks the descriptor and starts fetching or loads the loop cache. -/
  | spanFetchBegin (s : Fin 16) (ue : Bool)
  /-- SPAN_READY_POLL (R98): The player re-reads the descriptor of a span with READY = 0 in each pier-clock cycle. -/
  | spanReadyPoll (s : Fin 16) (ue : Bool)
  /-- MICRO_ENGINE_RESUME (R98): The request queue or stream buffer gains room and the micro-engine resumes running ahead. -/
  | microEngineResume (s : Fin 16)
  /-- STR_LAUNCH (R119): STR_CMD.LAUNCH requests an immediate launch, which is refused or accepted into PRIMING. -/
  | strLaunch (q : Requester) (s : Fin 16)
  /-- STR_SCHED (R120): STR_CMD.SCHED arms a launch at STR_LAUNCH_T. -/
  | strSched (q : Requester) (s : Fin 16)
  /-- STR_QUORUM (R120): STR_CMD.QUORUM arms a launch at STR_LAUNCH_T whose start depends on the chain's verdict. -/
  | strQuorum (q : Requester) (s : Fin 16)
  /-- STR_CANCEL (R120): STR_CMD.CANCEL returns an armed stream to HALTED before T − 2 µs. -/
  | strCancel (q : Requester) (s : Fin 16)
  /-- STR_STOP_SPAN (R121): STR_CMD.STOP 0b01 ends the burst at the next span boundary. -/
  | strStopSpan (q : Requester) (s : Fin 16)
  /-- STR_STOP_CYCLE (R121): STR_CMD.STOP 0b10 ends the burst at the end of the current tester cycle. -/
  | strStopCycle (q : Requester) (s : Fin 16)
  /-- STR_JUMP_REQUEST (R115): STR_CMD.JUMP requests the armed jump, ignored with JUMP_REFUSED while JREADY = 0. -/
  | strJumpRequest (q : Requester) (s : Fin 16)
  /-- STR_JUMP_ARM (R114): A write of STR_JUMP with ARM = 1 arms a jump and starts the target prefetch, or fails. -/
  | strJumpArm (q : Requester) (s : Fin 16) (target : BitVec 18)
  /-- JUMP_PREFETCH_DONE (R114): The prefetch of the armed jump target completes and JREADY becomes 1. -/
  | jumpPrefetchDone (s : Fin 16)
  /-- STREAM_PRIMED (R119): The stream buffer is primed: an immediate launch waits for its 5 ns slot, a scheduled one becomes ARMED. -/
  | streamPrimed (s : Fin 16)
  /-- LAUNCH_FIRST_CYCLE (R119): An immediate launch reaches its first cycle time and STATE becomes RUNNING. -/
  | launchFirstCycle (s : Fin 16)
  /-- SCHED_READINESS (R120): At T − 2 µs an armed stream evaluates GO or NOGO. -/
  | schedReadiness (s : Fin 16)
  /-- SCHED_START (R120): At T a scheduled launch with GO, or a quorum launch with GO verdict, plays its first cycle. -/
  | schedStart (s : Fin 16)
  /-- STR_FLAGS_SET (R125): A W1S write of STR_FLAGS sets external flags, which may release a WAIT FLAG. -/
  | strFlagsSet (q : Requester) (s : Fin 16) (v : Word)
  /-- STR_FLAGS_CLEAR (R125): A W1C write of STR_FLAGS_CLR clears external flags. -/
  | strFlagsClear (q : Requester) (s : Fin 16) (v : Word)
  /-- NOP (R106): The micro-engine executes NOP. -/
  | nop (s : Fin 16) (ft : Fetched)
  /-- HALT (R109): HALT queues the end of the burst at B. -/
  | halt (s : Fin 16) (ft : Fetched)
  /-- PLAY (R106): PLAY queues COUNT plays of a span. -/
  | play (s : Fin 16) (ft : Fetched)
  /-- PLAYR (R106): PLAYR queues COUNT plays of the span named in G[rs]. -/
  | playr (s : Fin 16) (ft : Fetched)
  /-- MATCH (R112): MATCH plays a span from the loop cache pass after pass until the match decision or timeout. -/
  | matchSpan (s : Fin 16) (ft : Fetched)
  /-- JUMP (R106): JUMP continues the micro-engine at an address. -/
  | jump (s : Fin 16) (ft : Fetched)
  /-- CALL (R107): CALL pushes the next address on the call stack and continues at an address. -/
  | call (s : Fin 16) (ft : Fetched)
  /-- RET (R107): RET pops the call stack and continues at the popped address. -/
  | ret (s : Fin 16) (ft : Fetched)
  /-- BRF (R106): BRF branches when an STR_FLAGS bit is 1 and optionally clears it. -/
  | brf (s : Fin 16) (ft : Fetched)
  /-- LOOP (R107): LOOP pushes a count and address, or skips the body when the count is 0. -/
  | loop (s : Fin 16) (ft : Fetched) (ueAt : Option (BitVec 18))
  /-- ENDL (R107): ENDL decrements the top count and branches back or pops. -/
  | endl (s : Fin 16) (ft : Fetched)
  /-- WAIT_DELAY (R110): WAIT DELAY inserts a gap of a given length at B. -/
  | waitDelay (s : Fin 16) (ft : Fetched)
  /-- WAIT_UNTIL (R110): WAIT UNTIL delays the next cycle to a time after the burst's first cycle. -/
  | waitUntil (s : Fin 16) (ft : Fetched)
  /-- WAIT_FLAG (R110): WAIT FLAG stops the micro-engine until an STR_FLAGS bit is 1, then clears it. -/
  | waitFlag (s : Fin 16) (ft : Fetched)
  /-- WAIT_DRAIN (R110): WAIT DRAIN inserts a gap of STR_MATCHMIN reference cycles after which all results are final. -/
  | waitDrain (s : Fin 16) (ft : Fetched)
  /-- SETR (R106): SETR loads a G register and sets the Z and N state. -/
  | setr (s : Fin 16) (ft : Fetched)
  /-- ADDI (R106): ADDI adds a value to a G register and sets the Z and N state. -/
  | addi (s : Fin 16) (ft : Fetched)
  /-- SITEMSK (R108): SITEMSK changes half of the active-site mask at B. -/
  | sitemsk (s : Fin 16) (ft : Fetched)
  /-- SITEDROP (R108): SITEDROP inserts a drain gap and then removes failed sites from the mask. -/
  | sitedrop (s : Fin 16) (ft : Fetched)
  /-- FAILCLR (R108): FAILCLR clears STR_SITEFAIL at B. -/
  | failclr (s : Fin 16) (ft : Fetched)
  /-- CAPOP_ENABLE (R108): CAPOP OP 0b00 turns capture on at B. -/
  | capopEnable (s : Fin 16) (ft : Fetched)
  /-- CAPOP_DISABLE (R108): CAPOP OP 0b01 turns capture off at B. -/
  | capopDisable (s : Fin 16) (ft : Fetched)
  /-- CAPOP_SEGMENT (R108): CAPOP OP 0b10 closes the open segment and starts the next at B. -/
  | capopSegment (s : Fin 16) (ft : Fetched)
  /-- TRIG (R108): TRIG pulses stream trigger lines for the first cycle after B. -/
  | trig (s : Fin 16) (ft : Fetched)
  /-- SIGNAL (R108): SIGNAL writes STR_SIGNAL, raises SIGNAL and presents the completion hook at B. -/
  | signal (s : Fin 16) (ft : Fetched)
  /-- SETPE (R57): SETPE queues a PEBUS frame at the boundary after the preceding span. -/
  | setpe (s : Fin 16) (ft : Fetched)
  /-- PHASE (R85): PHASE re-bases the lattice on a tester-time grid at B, with a gap up to the grid instant. -/
  | phase (s : Fin 16) (ft : Fetched)
  /-- ASET (R159): ASET writes an APG register at B. -/
  | aset (s : Fin 16) (ft : Fetched)
  /-- ASAVE (R159): ASAVE copies address generators into their save registers at B. -/
  | asave (s : Fin 16) (ft : Fetched)
  /-- AREST (R159): AREST restores address generators from their save registers at B. -/
  | arest (s : Fin 16) (ft : Fetched)
  /-- SCRLD (R159): SCRLD loads the 14 scramble registers from the sequence store at B. -/
  | scrld (s : Fin 16) (ft : Fetched) (ueData : Bool)
  /-- CUSTOMER_OPCODE_DISPATCH (R128): A customer opcode is dispatched to its routine in the customer region. -/
  | customerOpcodeDispatch (s : Fin 16) (ue : Bool) (entry : Ecc)
  /-- ALU (R131): An ALU micro-operation computes into DST and sets the micro-flags. -/
  | alu (s : Fin 16) (ecc : Ecc)
  /-- LDI (R131): LDI loads a zero-extended immediate into DST. -/
  | ldi (s : Fin 16) (ecc : Ecc)
  /-- LDIH (R131): LDIH loads the upper 16 bits of DST. -/
  | ldih (s : Fin 16) (ecc : Ecc)
  /-- BR (R129): BR branches within the routine when UCOND holds. -/
  | br (s : Fin 16) (ecc : Ecc)
  /-- CALLU (R129): CALLU pushes uPC + 1 and calls a micro-subroutine. -/
  | callu (s : Fin 16) (ecc : Ecc)
  /-- RETU (R129): RETU returns from a micro-subroutine. -/
  | retu (s : Fin 16) (ecc : Ecc)
  /-- EMIT (R132): EMIT queues plays of a span, waiting for free queue slots. -/
  | emit (s : Fin 16) (ecc : Ecc)
  /-- NEXT (R129): NEXT ends the routine and dispatches the instruction at SPC. -/
  | next (s : Fin 16) (ecc : Ecc)
  /-- SEQ (R131): A SEQ micro-operation changes SPC, the call stack, the loop stack or the Z and N state. -/
  | seq (s : Fin 16) (ecc : Ecc)
  /-- BND (R133): BND queues a boundary action for B. -/
  | bnd (s : Fin 16) (ecc : Ecc)
  /-- APG_MICRO_OP (R160): An APG micro-operation queues ASET, ASAVE, AREST or SCRLD for B. -/
  | apgMicroOp (s : Fin 16) (ecc : Ecc) (ueData : Bool)
  /-- RDX (R131): RDX reads stream state into DST. -/
  | rdx (s : Fin 16) (ecc : Ecc)
  /-- WRX (R131): WRX sets or clears STR_FLAGS bits. -/
  | wrx (s : Fin 16) (ecc : Ecc)
  /-- LDS (R134): LDS reads a sequence-store word into DST. -/
  | lds (s : Fin 16) (ecc : Ecc) (ueData : Bool)
  /-- MATCHU (R131): MATCHU starts a MATCH from registers and IR fields. -/
  | matchu (s : Fin 16) (ecc : Ecc)
  /-- FAULT (R131): The FAULT micro-operation raises a sequencer fault with CODE. -/
  | faultOp (s : Fin 16) (ecc : Ecc)
  /-- LOAD_CUST (R141): UCS_CMD.LOAD_CUST starts a load of the customer region, or refuses it. -/
  | loadCust (q : Requester)
  /-- CLEAR_CUST (R145): UCS_CMD.CLEAR_CUST invalidates every customer dispatch entry. -/
  | clearCust (q : Requester)
  /-- LOAD_VEND (R146): UCS_CMD.LOAD_VEND from Keystone loads a vendor image into the free half. -/
  | loadVend (image : List Word)
  /-- VSWITCH (R146): UCS_CMD.VSWITCH from Keystone sets VTARGET and moves halted streams to it. -/
  | vswitch
  /-- UCS_LOAD_READ_DONE (R142): The load engine finishes copying the image into staging and moves to CHECK, or refuses on a read error. -/
  | ucsLoadReadDone (ue : Option (BitVec 15))
  /-- UCS_LOAD_CHECK_DONE (R142): Header, signature and static verifier checks finish and the load moves to WRITE or is refused. -/
  | ucsLoadCheckDone
  /-- UCS_LOAD_WRITE_DONE (R142): The payload is written and read back: dispatch entries are set, CUST_VALID is set and LOAD_DONE is raised. -/
  | ucsLoadWriteDone (bad : Option (BitVec 13 × Word))
  /-- CS_SCRUB_STEP (R137): The control-store scrubber reads one word, repairing corrected errors and recording uncorrectable ones. -/
  | csScrubStep (w : BitVec 14) (ecc : Ecc)
  /-- CAP_ARM (R170): CAP_CMD.ARM checks and installs a capture region and clears its segment headers. -/
  | capArm (q : Requester) (p : Fin 16)
  /-- CAP_DISARM (R170): CAP_CMD.DISARM closes the open segment and clears ARMED. -/
  | capDisarm (q : Requester) (p : Fin 16)
  /-- CAP_RELEASE (R180): A write of CAP_RELEASE lowers a site's quota use or sets every use to 0. -/
  | capRelease (q : Requester) (p : Fin 16) (v : Word)
  /-- CAP_REARM_DONE (R173): The re-arm of a Gecko engine ends and a pending segment opens at the next cycle. -/
  | capRearmDone (p : Fin 16)
  /-- TRIGGER_ACTIONS (R190): The actions of a fired condition take effect at their fixed times: flags, jump request, TRIGOUT and TRIGGER record. -/
  | triggerActions (p : Fin 16)
  /-- TRIGOUT_PULSE_END (R189): A TRIGOUT pulse reaches its width and the line falls. -/
  | trigoutPulseEnd (line : Fin 8)
  /-- TRIGIN_EDGE (R187): An edge on a TRIGIN ball is synchronised and attributed to a cycle or lost. -/
  | triginEdge (line : Fin 4) (t : BitVec 64) (rise : Bool)
  /-- IVM_ARM (R201): IVM_CMD.ARM starts the meter's calibration and run. -/
  | ivmArm (q : Requester) (i : Fin 32)
  /-- IVM_DISARM (R212): IVM_CMD.DISARM abandons an interval measurement or ends a run with the events so far. -/
  | ivmDisarm (q : Requester) (i : Fin 32)
  /-- IVM_SWEVT (R196): IVM_CMD.SWEVT produces a software event stamped at the next TCLK edge. -/
  | ivmSwevt (q : Requester) (i : Fin 32)
  /-- IVM_FLUSH (R213): IVM_CMD.FLUSH empties the meter's FIFO. -/
  | ivmFlush (q : Requester) (i : Fin 32)
  /-- IVM_CAL_DONE (R201): The meter's interpolator calibration ends, passing into the run or failing with CALBAD. -/
  | ivmCalDone (i : Fin 32) (a1 : BitVec 18) (a2 : BitVec 18) (b1 : BitVec 18) (b2 : BitVec 18)
  /-- IVM_EVENT (R198): An event of a selected source reaches the meter and is accepted, held off, stamped or counted. -/
  | ivmEvent (i : Fin 32) (src : BitVec 10) (rise : Bool) (ball : BitVec 64) (past : Bool) (code : BitVec 14)
  /-- IVM_GATE_CLOSE (R202): The meter's gate closes and the run ends. -/
  | ivmGateClose (i : Fin 32)
  /-- IVM_TIMEOUT (R206): The meter's time limit expires and the measurement or run ends with TIMEOUT. -/
  | ivmTimeout (i : Fin 32)
  /-- IVM_RESULT_FINAL (R209): A measurement's result becomes final: RES and the FIFO update, DONE is raised and a record may be written. -/
  | ivmResultFinal (i : Fin 32)
  /-- IVM_FIFO_READ (R208): A read of IVM_FIFO_LO removes the head entry and latches its upper bits and flags. -/
  | ivmFifoRead (q : Requester) (i : Fin 32)
  /-- IVM_LOAN_END (R211): A meter's loan to the calibration engine ends and a held ARM takes effect. -/
  | ivmLoanEnd (i : Fin 32)
  /-- REFRESH_DUE (R219): A per-bank refresh falls due and is issued in a refresh slot. -/
  | refreshDue (n : Fin 32) (pc : Fin 2) (banks : List (Fin 48))
  /-- ROW_IDLE_CLOSE (R218): A bank's row idle time expires and the row closes. -/
  | rowIdleClose (n : Fin 32) (pc : Fin 2) (bank : Fin 48)
  /-- STACK_TEMP_READ (R215): A stack's temperature is read through the test port every 1 ms. -/
  | stackTempRead (k : Fin 2) (t : BitVec 8)
  /-- MEM_PARITY_ERROR (R222): A parity error on a pseudo-channel starts a replay from the retry buffer. -/
  | memParityError (n : Fin 32) (pc : Fin 2)
  /-- MEM_REPLAY_DONE (R222): A replay completes, or a command that failed three replays is abandoned with REPLAY_FAIL. -/
  | memReplayDone (n : Fin 32) (pc : Fin 2) (lost : Option Abandoned) (a : BitVec 36)
  /-- MEM_CE_WRITEBACK (R223): A corrected access is written back in a service slot unless superseded. -/
  | memCeWriteback (a : BitVec 36) (syndrome : BitVec 8) (superseded : Bool)
  /-- MEM_SCRUB_READ (R225): The scrubber reads words of a pseudo-channel in a service slot. -/
  | memScrubRead (a : BitVec 36) (ecc : Ecc) (syndrome : BitVec 8)
  /-- MEM_ZERO_FILL_DONE (R221): The bring-up zero-fill of the stacks completes and STKOK is set for each good stack. -/
  | memZeroFillDone (okA : Bool) (okB : Bool)
  /-- LEDGER_ADMIT (R231): LDG_CMD.ADMIT starts admission of the streams in LDG_REQ. -/
  | ledgerAdmit (q : Requester)
  /-- LEDGER_WITHDRAW (R231): LDG_CMD.WITHDRAW starts removal of the admissions of the streams in LDG_REQ. -/
  | ledgerWithdraw (q : Requester)
  /-- LEDGER_COMMAND_DONE (R231): An ADMIT or WITHDRAW completes, admitting, withdrawing or refusing with a cause. -/
  | ledgerCommandDone
  /-- LDG_DMA_WRITE (R232): A write of LDG_DMA lowers a share, raises it within the limit, or is refused. -/
  | ldgDmaWrite (q : Requester) (v : Word)
  /-- CAL_FULL (R244): CAL_CMD.FULL starts a FULL run of the selected channels. -/
  | calFull (q : Requester)
  /-- CAL_VERIFY (R244): CAL_CMD.VERIFY starts a VERIFY run of the selected channels. -/
  | calVerify (q : Requester)
  /-- CAL_TRIMS (R244): CAL_CMD.TRIMS starts a TRIMS run of the selected channels. -/
  | calTrims (q : Requester)
  /-- CAL_COMMIT (R248): CAL_CMD.COMMIT moves staged values to COMMIT_WAIT. -/
  | calCommit (q : Requester)
  /-- CAL_ABORT (R250): CAL_CMD.ABORT ends a run in progress, leaving the active values. -/
  | calAbort (q : Requester)
  /-- CAL_DISCARD (R250): CAL_CMD.DISCARD discards staged values. -/
  | calDiscard (q : Requester)
  /-- CAL_PERIOD_TRIGGER (R244): CAL_PERIOD.SEC seconds pass after the last commit and a FULL run starts or is remembered. -/
  | calPeriodTrigger
  /-- CAL_NO_METER_TIMEOUT (R245): A run finds no meter to borrow for 10 ms and ends with outcome 0x02. -/
  | calNoMeterTimeout
  /-- CAL_GATHER_DONE (R245): Gathering of a run completes; a VERIFY compares offsets, others proceed to compute. -/
  | calGatherDone (offs : VerifyMeas)
  /-- CAL_COMPUTE_DONE (R245): Computation ends, plausibility checks apply and results are staged or the run is rejected. -/
  | calComputeDone (meas : List ChanMeas) (slices : List SliceMeas) (eccTs : List (BitVec 8 × BitVec 10 × Ecc))
  /-- CAL_RESTART_WAIT_EXPIRY (R246): 100 µs after the change has settled the aborted run restarts. -/
  | calRestartWaitExpiry
  /-- CAL_COMMIT_APPLY (R248): In the first cycle with no stream running the commit switches BANK for every channel and writes CAL_DONE. -/
  | calCommitApply
  /-- CAL_HOLD_EXPIRY (R249): CAL_HOLDMAX expires and a held immediate launch is released. -/
  | calHoldExpiry (s : Fin 16)
  /-- CAL_TABLE_SCRUB (R247): The calibration table scrubber reads every word once per 10 ms. -/
  | calTableScrub (bank : Bool) (ecc : Ecc)
  /-- CAL_MRAM_WRITE_DONE (R251): Keystone completes the MRAM calibration record with its commit word. -/
  | calMramWriteDone
  /-- DISP_SUBMIT (R266): DISP_CMD SUBMIT takes an IDLE task to WAITING. -/
  | dispSubmit (q : Requester) (task : BitVec 12) (ecc : Ecc)
  /-- DISP_DEC (R267): DISP_CMD DEC decrements a task or adds to OWED. -/
  | dispDec (q : Requester) (task : BitVec 12) (ecc : Ecc)
  /-- DISP_CANCEL (R274): DISP_CMD CANCEL cancels a task by its state. -/
  | dispCancel (q : Requester) (task : BitVec 12) (ecc : Ecc)
  /-- HOOK_FIRE (R268): A completion hook fires and decrements the next task of its ring with the hook data. -/
  | hookFire (ecc : Ecc)
  /-- TASK_PLACE (R269): Every 2 core clocks the dispatcher places the first eligible READY task into a core slot. -/
  | taskPlace (found : Option (BitVec 12 × Ecc))
  /-- NCP_TAKE (R270): A read of NCP_TAKE moves the slotted task to RUNNING on the core. -/
  | ncpTake (k : Fin 16)
  /-- NCP_DONE (R270): A write of NCP_DONE completes the running task. -/
  | ncpDone (k : Fin 16) (result : Word)
  /-- DISP_FLOW_WRITE (R272): A write of DISP_FLOWf changes a flow's budget or window and returns slotted tasks beyond it. -/
  | dispFlowWrite (q : Requester) (f : Fin 64) (v : Word)
  /-- DISP_CORE_RUN (R261): A write of DISP_COREk.RUN holds a core in reset or releases it at DISP_RVEC. -/
  | dispCoreRun (q : Requester) (k : Fin 16) (run : Bool)
  /-- DELAY_LIST_TICK (R273): A delay list ticks on tester time and its due tasks become READY. -/
  | delayListTick (l : Fin 4)
  /-- DISP_TICK_WRITE (R273): A write of DISP_TICKl changes a delay list's period from its next tick. -/
  | dispTickWrite (q : Requester) (l : Fin 4) (v : Word)
  /-- CORE_WFI (R262): A core executes WFI and sleeps when DEEP = 1. -/
  | coreWfi (k : Fin 16)
  /-- CORE_WAKE (R262): A sleeping core wakes on its wake line, a slotted task, its timer or an enabled interrupt. -/
  | coreWake (k : Fin 16) (atCompare : Bool)
  /-- CORE_TIMER_COMPARE (R263): The time CSR reaches NCP_TCMP and the machine timer interrupt is pending. -/
  | coreTimerCompare (k : Fin 16)
  /-- INTC_REQUEST_EDGE (R277): A block source's request rises and the source becomes pending. -/
  | intcRequestEdge (n : BitVec 9)
  /-- INTC_SWTRIG (R277): A write of INTC_SWTRIG makes a software source pending. -/
  | intcSwtrig (q : Requester) (id : BitVec 10)
  /-- INTC_OFFER (R278): A pending source is offered to one eligible target in round-robin order. -/
  | intcOffer (n : BitVec 9)
  /-- INTC_CLAIM (R279): A read of INTC_CLAIMt claims the highest-priority offered source. -/
  | intcClaim (q : Requester) (t : Fin 17)
  /-- INTC_COMPLETE (R279): A write of a source's ID to INTC_CLAIMt completes it, re-offering it if still pending. -/
  | intcComplete (q : Requester) (t : Fin 17) (id : BitVec 10)
  /-- LANE_LOSS (R289): A receive lane loses lock or sees too many errors and is declared lost, starting a retrain. -/
  | laneLoss (link : Link) (lane : Fin 16)
  /-- DETECT_RETRY (R291): In DETECT, 10 ms pass and training sets are sent again. -/
  | detectRetry (link : Link)
  /-- TRAINING_SET_RECEIVED (R291): Training sets received on a link advance it through TRAIN, CONFIG, ACTIVE or a wake. -/
  | trainingSetReceived (link : Link) (lanes : BitVec 16) (mask : BitVec 16) (ts2 : Bool) (wake : Bool) (inv : BitVec 16) (fits : Bool)
  /-- TRAINING_TIMEOUT (R291): TRAIN, CONFIG or RETRAIN runs out of time and the link returns to DETECT. -/
  | trainingTimeout (link : Link)
  /-- LANE_READD_RETRY (R292): Every 1 ms a lost lane is retried with TS1 while the others stay ACTIVE. -/
  | laneReaddRetry (link : Link) (lane : Fin 16) (answered : Bool)
  /-- TRS_TEST_WRITE (R294): A write of TRS_TEST enters TEST with loopback or PRBS, or returns to DETECT. -/
  | trsTestWrite (q : Requester) (v : Word)
  /-- TRS_RETRAIN (R308): TRS_CMD.RETRAIN takes the link from ACTIVE to RETRAIN. -/
  | trsRetrain (q : Requester)
  /-- DQ_RESTART (R300): TRS_CMD.DQn_RESTART clears ERR and restarts a stopped DMA queue at HEAD. -/
  | dqRestart (q : Requester) (n : Fin 2)
  /-- TRS_LEQ_WRITE (R290): A write of TRS_LEQi is held until the lane's next training, with EQPEND = 1. -/
  | trsLeqWrite (q : Requester) (i : Fin 16) (v : Word)
  /-- RRD (R296): A register read packet is performed as LEN aligned reads and answered with one completion. -/
  | rrd (seq : BitVec 12) (tag : BitVec 8) (len : ReadLen) (addr : BitVec 64)
  /-- RWR (R296): A register write packet is performed as LEN aligned writes in arrival order. -/
  | rwr (seq : BitVec 12) (tag : BitVec 8) (addr : BitVec 64) (data : List Word)
  /-- CPL (R299): A completion with data answers an MRD and its data moves on toward vector memory. -/
  | cpl (seq : BitVec 12) (tag : BitVec 8) (data : List Word)
  /-- CPLE (R300): A completion without data answers an MRD with an error and ends the descriptor with code 0x04. -/
  | cple (seq : BitVec 12) (tag : BitVec 8) (status : BitVec 4)
  /-- BAD_DATA_PACKET (R297): A data packet with a bad CRC, framing or sequence gap is discarded and answered with NAK, or a duplicate is acknowledged. -/
  | badDataPacket (seq : BitVec 12) (flaw : PktFlaw)
  /-- ACK (R297): An ACK link packet frees acknowledged packets from the replay buffer. -/
  | ack (seq : BitVec 12)
  /-- NAK (R297): A NAK link packet makes the F256 resend every unacknowledged packet. -/
  | nak (seq : BitVec 12)
  /-- CREDIT (R298): A CREDIT link packet updates the host's credits for a class. -/
  | credit (cls : Fin 3) (hdr : BitVec 8) (units : BitVec 16)
  /-- DOZE_REQ (R305): A DOZE_REQ link packet is answered with DOZE_ACK and entry to the DOZE link state, or DOZE_NAK. -/
  | dozeReq
  /-- ACK_TIMER (R297): The ACK interval passes and the F256 sends a cumulative ACK. -/
  | ackTimer
  /-- REPLAY_TIMEOUT (R297): 4 µs pass without an ACK for the oldest packet and the F256 replays, retraining after four futile replays. -/
  | replayTimeout
  /-- CREDIT_RETURN_TIMER (R298): The credit return interval passes and unreturned credits are sent in CREDIT packets. -/
  | creditReturnTimer
  /-- MRD_TIMEOUT (R298): An MRD waits 50 µs without completion and its descriptor ends with code 0x05. -/
  | mrdTimeout (tag : BitVec 8)
  /-- DMA_DOORBELL (R299): A write of TRS_DQn_TAIL posts descriptors to a DMA queue. -/
  | dmaDoorbell (q : Requester) (n : Fin 2) (tail : BitVec 16)
  /-- DMA_DESCRIPTOR_FETCHED (R300): A DMA descriptor read arrives, its range is checked and transfer begins or it ends with code 0x01. -/
  | dmaDescriptorFetched (n : Fin 2)
  /-- DMA_DESCRIPTOR_DONE (R301): A descriptor finishes: its status is written, HEAD advances, DMA_DONE is raised and an INTR sent if asked. -/
  | dmaDescriptorDone (n : Fin 2)
  /-- DQ_DISABLE (R308): Clearing TRS_DQn_CTRL.EN resets HEAD and TAIL once the running descriptor ends. -/
  | dqDisable (q : Requester) (n : Fin 2)
  /-- EVENT_RECORD_WRITE (R303): A pending event record is written to the ring in two MWR packets once the ring, EN and link allow. -/
  | eventRecordWrite
  /-- EVQ_ENABLE (R303): A write of EVQ_CTRL.EN from 0 to 1 resets PROD, CONS and PHASE and ends the old ring's notification state. -/
  | evqEnable (q : Requester)
  /-- EVQ_CONS_WRITE (R304): A write of EVQ_CONS records records consumed, or is ignored with fault 0x02. -/
  | evqConsWrite (q : Requester) (v : Word)
  /-- EVQ_AGE_EXPIRY (R304): The oldest unnotified record reaches the age limit and a notification is sent. -/
  | evqAgeExpiry
  /-- WDOG_KICK (R306): A write of 0xA5 to TRS_WDKICK kicks the host watchdog; any other value sets fault 0x02. -/
  | wdogKick (q : Requester) (v : Word)
  /-- WDOG_WRITE (R306): A write of TRS_WDOG sets or disables the host watchdog period. -/
  | wdogWrite (q : Requester) (v : Word)
  /-- WDOG_EXPIRY (R306): The host watchdog expires: cause WDOG, WDOG event and a LOG entry in MRAM. -/
  | wdogExpiry
  /-- TTIME_WRAP (R310): TTIME wraps to 0: TIME_EPOCH increments and a TIME_EPOCH record is written. -/
  | ttimeWrap
  /-- SYNC_EDGE (R316): A SYNC rising edge is stamped and, when armed, applies a pending SETTIME or APPLY. -/
  | syncEdge (t : BitVec 64)
  /-- SYNC_ARM_LAPSE (R316): A device armed for 100 ms without a SYNC edge lapses and writes LINK 0x17. -/
  | syncArmLapse
  /-- VIA_SETTIME (R317): VIA_CMD.SETTIME on the master sends a SETTIME frame after its next SYNC edge. -/
  | viaSettime (q : Requester)
  /-- VIA_SKEWCAL (R326): VIA_CMD.SKEWCAL on the master broadcasts SKEWCAL. -/
  | viaSkewcal (q : Requester)
  /-- VIA_APPLY (R328): VIA_CMD.APPLY on the master broadcasts APPLY. -/
  | viaApply (q : Requester)
  /-- VIA_QANNOUNCE (R332): VIA_CMD.QANNOUNCE on the master broadcasts a quorum time, or is refused. -/
  | viaQannounce (q : Requester)
  /-- VIA_RETRAIN (R340): VIA_CMD.RETRAIN retrains both Viaduct ports. -/
  | viaRetrain (q : Requester)
  /-- VIA_SKEW_WRITE (R328): A host write of VIA_SKEW restores a saved correction and sets SKEW_VALID. -/
  | viaSkewWrite (q : Requester) (v : Word)
  /-- ADDR (R320): An ADDR frame assigns the receiver its address and is forwarded or answered with END. -/
  | addr (param : BitVec 32)
  /-- END (R320): An END frame travels up; at the master it sets CHAINLEN or raises CALDONE. -/
  | endFrame (complete : Bool) (addr : BitVec 6)
  /-- SETTIME (R317): A SETTIME frame is forwarded and arms the device for the next SYNC edge. -/
  | settime (t : BitVec 64) (epoch : BitVec 32)
  /-- TIME (R331): A TIME frame is forwarded and its residual is monitored against VIA_TOL. -/
  | time (tstamp : BitVec 64) (corr : BitVec 64) (src : BitVec 8) (arr : BitVec 64) (dep : BitVec 64)
  /-- DREQ (R326): A DREQ frame from the down neighbour is stamped and answered with DRESP. -/
  | dreq (arr : BitVec 64) (dep : BitVec 64)
  /-- DRESP (R326): A DRESP frame completes a skew exchange, averaged after 4,096 exchanges. -/
  | dresp (tstamp : BitVec 64) (diff : BitVec 32) (arr : BitVec 64)
  /-- SKEWSUM (R327): A SKEWSUM frame lets the device form its pending correction and pass its own down. -/
  | skewsum (c : BitVec 32) (path : BitVec 64)
  /-- SKEWCAL (R326): A SKEWCAL frame starts a slave's skew exchanges. -/
  | skewcal
  /-- APPLY (R328): An APPLY frame arms the device to step by its pending correction. -/
  | apply
  /-- QANNOUNCE (R332): A QANNOUNCE frame records the quorum time's tag. -/
  | qannounce (t : BitVec 64)
  /-- BAD_FRAME (R323): A Viaduct frame with a bad CRC, framing or field is discarded and counted. -/
  | badFrame
  /-- TIME_FRAME_ORIGINATE (R325): Every VIA_TPER µs the master originates a TIME frame. -/
  | timeFrameOriginate (dep : BitVec 64)
  /-- SKEW_EXCHANGE_TICK (R326): Every 500 ns during skew calibration a slave sends a DREQ. -/
  | skewExchangeTick (dep : BitVec 64)
  /-- QUORUM_READINESS (R333): At T − 2 µs each device evaluates readiness and, at the chain end, sends READY upward. -/
  | quorumReadiness
  /-- READY (R334): A READY signal set from below is merged and passed up the chain. -/
  | ready (tag : SigTag) (nogo : Bool) (count : BitVec 7) (addr : BitVec 6)
  /-- VERDICT (R335): A VERDICT signal set is received and forwarded, deciding whether quorum streams start. -/
  | verdict (tag : SigTag) (go : Bool)
  /-- QUORUM_DECIDE (R335): At T − 1 µs the master sends VERDICT GO or NOGO. -/
  | quorumDecide
  /-- VERDICT_DEADLINE (R335): At T − 100 ns a device without GO starts none of its quorum streams. -/
  | verdictDeadline
  /-- TSTR_ENABLE (R337): Writing TSTR_CTRLk.EN from 0 to 1 arms a strobe, or refuses it. -/
  | tstrEnable (q : Requester) (k : Fin 4) (v : Word)
  /-- TSTR_DISABLE (R337): Writing EN = 0 stops a strobe after any pulse in progress. -/
  | tstrDisable (q : Requester) (k : Fin 4)
  /-- TSTROBE_PULSE (R337): A strobe's pulse time arrives and its line rises. -/
  | tstrobePulse (k : Fin 4)
  /-- TSTROBE_PULSE_END (R337): A strobe pulse reaches its width and the line falls. -/
  | tstrobePulseEnd (k : Fin 4)
  /-- SUPPLY_SAMPLE (R342): Each own rail is sampled and compared with its warning, minimum and reset levels. -/
  | supplySample (rail : Fin 8) (mv : BitVec 12)
  /-- REGION_REBRINGUP (R344): All rails stay above minimum for 1 ms and Keystone repeats bring-up of the reset regions. -/
  | regionRebringup
  /-- GUARD_SAMPLE (R348): A guard monitor takes a sample and decides IN, OUT or UNRESOLVED. -/
  | guardSample (i : Fin 32) (volts : GuardVolts)
  /-- GUARD_LATCH_PERIOD (R349): At a latch-period multiple, latched bits of monitors in state IN clear under LATCH 0b10. -/
  | guardLatchPeriod
  /-- GRD_LATCH_CLEAR (R349): A W1C write of GRD_LATCH clears latched bits whose monitors are no longer out. -/
  | grdLatchClear (q : Requester) (v : Word)
  /-- SENSOR_READING (R380): The die sensors report and Tj is compared with the warning level and 110 °C. -/
  | sensorReading (ts : List (BitVec 12))
  /-- SAFE_ENTRY (R356): A safe-state cause arrives: SAFE_N, channels, TRIGOUT, MARKOUT and strobes go safe and streams halt at their next boundary. -/
  | safeEntry (cause : Fin 14)
  /-- SAFE_CAUSE_CLEAR (R355): A W1C write of SAFE_CAUSE clears cause bits whose conditions no longer hold. -/
  | safeCauseClear (q : Requester) (v : Word)
  /-- SAFE_KEY_WRITE (R358): A write of SAFE_KEY advances, resets or completes the exit key sequence into EXIT_WAIT. -/
  | safeKeyWrite (q : Requester) (v : Word)
  /-- SAFE_CMD_ENTER (R355): SAFE_CMD.ENTER raises safe-state cause SW. -/
  | safeCmdEnter (q : Requester)
  /-- SAFE_N_EXTERNAL_LOW (R357): SAFE_N is held low at the ball for 4 ns in state NORMAL and cause EXT arrives. -/
  | safeNExternalLow
  /-- SAFE_EXIT (R358): SAFE_N reads high for 1 µs in EXIT_WAIT and STATE becomes NORMAL with a SAFE_EXIT record. -/
  | safeExit
  /-- RESET_ASSERT (R433): RESET_N is asserted or power-on reset occurs, acting as power-on reset with cause POWERON. -/
  | resetAssert
  /-- BRINGUP_START (R366): RESET_N is released with VAUX in range and the ROM starts bring-up. -/
  | bringupStart (boardId : BitVec 6) (viaMaster : Bool) (twinEn : Bool) (fuseOk : Bool) (keyEngineOk : Bool)
  /-- ROM_IMAGE_LOADED (R367): The ROM accepts a flash image and loads its Keystone code, or falls back to link boot. -/
  | romImageLoaded (answers : Bool) (board : List Word) (imgA : List Word) (imgB : List Word)
  /-- FIRMWARE_START (R369): Keystone firmware starts in its slot and Keystone becomes awake. -/
  | firmwareStart (h0 : SlotHash) (h1 : SlotHash)
  /-- BRINGUP_STEP_DONE (R369): A firmware bring-up step completes, or fails and stops bring-up at stage 0x0D. -/
  | bringupStepDone (step : Fin 5)
  /-- BRINGUP_COMPLETE (R369): Page settings and locks are applied, STAGE becomes 0x07 and PWR_STATE becomes READY. -/
  | bringupComplete
  /-- MGMT_KRESTART (R364): MGMT_CMD.KRESTART starts a Keystone warm restart with reason 1. -/
  | mgmtKrestart (q : Requester)
  /-- KEYSTONE_WDOG_EXPIRY (R365): The Keystone watchdog expires and a warm restart with reason 2 begins. -/
  | keystoneWdogExpiry
  /-- FW_CONFIRM_TIMEOUT (R386): The confirmation time expires with CONFPEND = 1 and Keystone falls back to the old slot and half. -/
  | fwConfirmTimeout
  /-- UPDATE_STAGE_DONE (R385): Programming and read-back of the idle flash image complete and the update request is answered. -/
  | updateStageDone (ok : Bool)
  /-- MB_POST (R387): MGMT_MBCMD.POST posts the host mailbox request to Keystone. -/
  | mbPost (q : Requester)
  /-- MB_ABORT (R389): MGMT_MBCMD.ABORT abandons the host mailbox request. -/
  | mbAbort (q : Requester)
  /-- JTAG_MBOX_SETPTR (R387): A JTAG MBOX SETPTR operation sets the mailbox pointer. -/
  | jtagMboxSetptr (ptr : BitVec 9)
  /-- JTAG_MBOX_WRITE (R387): A JTAG MBOX WRITE stores a dword at the pointer. -/
  | jtagMboxWrite (v : Word)
  /-- JTAG_MBOX_READ (R387): A JTAG MBOX READ returns the dword at the pointer. -/
  | jtagMboxRead
  /-- JTAG_MBOX_POST (R387): A JTAG MBOX POST posts the JTAG mailbox request. -/
  | jtagMboxPost
  /-- BP_SETPTR (R387): A board-port SETPTR sets the mailbox pointer. -/
  | bpSetptr (ptr : BitVec 9)
  /-- BP_WRITE (R387): A board-port WRITE stores dwords at the pointer. -/
  | bpWrite (data : List Word)
  /-- BP_POST (R387): A board-port POST posts the board mailbox request. -/
  | bpPost
  /-- BP_STATUS (R387): A board-port STATUS returns the mailbox state byte. -/
  | bpStatus
  /-- BP_READ (R387): A board-port read transfer returns the dwords at the pointer. -/
  | bpRead (count : Nat)
  /-- GET_INFO (R387): GET_INFO returns device identity, stage, image and version counters. -/
  | getInfo
  /-- LOG_READ (R387): LOG_READ returns up to 15 log entries from a given LSEQ. -/
  | logRead
  /-- SENSORS (R387): SENSORS returns temperature and rail readings. -/
  | sensors
  /-- ATTEST (R379): ATTEST returns a report over a nonce signed with the identity key. -/
  | attest
  /-- GET_CERT (R378): GET_CERT returns the identity certificate. -/
  | getCert
  /-- UPDATE_STAGE (R385): UPDATE_STAGE checks a bundle in vector memory and starts programming the idle flash image. -/
  | updateStage
  /-- FW_SWITCH (R386): FW_SWITCH loads the staged image into the idle slot and half and warm-restarts into it. -/
  | fwSwitch
  /-- FW_CONFIRM (R386): FW_CONFIRM clears CONFPEND and writes a boot-select record. -/
  | fwConfirm
  /-- ARB_COMMIT (R375): ARB_COMMIT raises the anti-rollback counter to the running SVN. -/
  | arbCommit (stuck : BitVec 256)
  /-- FUSE_PROGRAM (R373): FUSE_PROGRAM blows fuse bits in both copies, or is refused. -/
  | fuseProgram (stuck : Word)
  /-- KRESTART (R364): A mailbox KRESTART starts a Keystone warm restart with reason 1. -/
  | krestart
  /-- BOOT_LOAD (R368): BOOT_LOAD delivers bundle bytes during link boot at stage 0x05. -/
  | bootLoad
  /-- FUSE_FCLR (R377): FUSE_CMD.FCLR clears security fault 0x02 or 0x03. -/
  | fuseFclr (q : Requester)
  /-- EXTEST (R443): Update-IR of EXTEST enters the safe state with cause SW and then drives balls from the boundary register. -/
  | extest
  /-- EXTEST_PULSE (R443): Update-IR of EXTEST_PULSE enters the safe state and drives the AC-coupled lanes with pulses. -/
  | extestPulse
  /-- EXTEST_TRAIN (R443): Update-IR of EXTEST_TRAIN enters the safe state and drives the AC-coupled lanes with trains. -/
  | extestTrain
  /-- CLAMP (R443): Update-IR of CLAMP enters the safe state and holds balls from the boundary register. -/
  | clamp
  /-- HIGHZ (R443): Update-IR of HIGHZ enters the safe state and releases the outputs. -/
  | highz
  /-- SAMPLE_PRELOAD (R442): SAMPLE/PRELOAD captures or loads the boundary register without affecting the balls. -/
  | samplePreload (load : Option Nat)
  /-- IDCODE (R442): IDCODE selects the identification register. -/
  | idcode
  /-- BYPASS (R442): BYPASS selects the one-bit bypass register, also for unlisted and locked instructions. -/
  | bypass (code : BitVec 8)
  /-- TWIN_WRITE (R399): A journal WRITE frame is applied in JSEQ order by the standby. -/
  | twinWrite (addr : BitVec 24) (jseq : BitVec 32) (v : Word)
  /-- TWIN_SNAP (R397): A SNAP frame loads up to four dwords into the standby. -/
  | twinSnap (addr : BitVec 24) (jseq : BitVec 32) (data : List Word)
  /-- TWIN_CHECKPOINT (R400): A CHECKPOINT frame marks a burst end or calibration commit and clears the pending launch. -/
  | twinCheckpoint (jseq : BitVec 32) (kind : BitVec 8) (s : Fin 16) (status : BitVec 16) (burst : BitVec 32)
  /-- TWIN_HB (R404): An HB frame acknowledges or reports journal progress and resets the heartbeat timeout. -/
  | twinHb (jseq : Option (BitVec 32))
  /-- TWIN_HELLO (R397): A HELLO frame settles roles and starts the snapshot. -/
  | twinHello (jseq : BitVec 32) (role : BitVec 3) (side : Bool) (pref : Bool) (synced : Bool)
  /-- TWIN_FAIL (R404): A FAIL frame starts a takeover on a synced standby with AUTO = 1. -/
  | twinFail (jseq : BitVec 32)
  /-- TWIN_SWAP_FRAME (R407): A SWAP frame starts the partner's takeover with nothing to reissue. -/
  | twinSwapFrame (jseq : BitVec 32)
  /-- TWIN_HASH (R402): A HASH frame delivers half a digest for the span-hash comparison. -/
  | twinHash (jseq : BitVec 32) (half : BitVec 128) (part : Bool) (kind : Bool) (span : BitVec 16)
  /-- TWIN_HB_SEND (R404): After 1 µs without a sent frame a device sends HB. -/
  | twinHbSend
  /-- TWIN_HB_TIMEOUT (R404): No valid frame arrives for HBTO µs and a synced standby with AUTO = 1 starts a takeover. -/
  | twinHbTimeout
  /-- TWIN_SETTLE_DONE (R404): SETTLE ends after TWIN_ACT_N goes low: the TWIN cause is cleared and exit begins or the safe state stays. -/
  | twinSettleDone
  /-- TWN_SWAP (R407): TWN_CMD.SWAP requests a planned swap, ignored unless active and synced. -/
  | twnSwap (q : Requester)
  /-- TWIN_SWAP_START (R407): In the first cycle with every stream halted the active device sends SWAP and becomes STANDBY. -/
  | twinSwapStart
  /-- TWN_HASHCHK (R402): TWN_CMD.HASHCHK starts the span-hash check on both devices. -/
  | twnHashchk (q : Requester)
  /-- TWIN_HASH_DONE (R402): A device finishes its span hashing and comparison and raises HASH_DONE. -/
  | twinHashDone
  /-- SPAN_FETCH_DONE (R98): The last byte of a span's last queued play arrives from vector memory, and ACTIVE returns to 0 unless the span stays in the loop cache or is an armed jump target. -/
  | spanFetchDone (s : Fin 16)
  /-- ARM_STATUS_FILL_DONE (R170): The ARM status fill of every segment header finishes and the engine sets the index, PHASE, CAP_USEs and ARMED. -/
  | armStatusFillDone (p : Fin 16)
  /-- CAL_RECORD_DEFERRED_WRITE (R384): The 10 s mark after the last calibration record passes and Keystone writes the deferred record with the tables then active. -/
  | calRecordDeferredWrite
  /-- KEYSTONE_SRAM_UE (R364): An uncorrectable error in Keystone SRAM starts a warm restart with reason 5. -/
  | keystoneSramUe
  /-- FIRMWARE_RESTART_REQUEST (R364): Keystone firmware requests its own warm restart with reason 6. -/
  | firmwareRestartRequest
  /-- MBOX (R443): Update-IR of the MBOX instruction selects the mailbox data register, and after a boundary instruction every channel returns to CH_DEN deasserted and CH_DHI low. -/
  | mbox
deriving DecidableEq, Repr

end Sys2Proof
end

