-- ==== Sys2Proof/Decode.lean ====
section
/-! DEFINITION. Decoding of command words. The commands of this block are operations at its registers, links and pins: `spec/opcode_table.json` gives no row
any bits, so no word spells a command. -/

namespace Sys2Proof

/-- The command that the word `_w` of `_nbits` bits spells by the bits of the opcode table: none, for no row has bits. -/
def decodeTableWord (_nbits _w : Nat) : Option Instr := none

end Sys2Proof
end

