-- ==== Sys2Proof/Config.lean ====
section
/-! DEFINITION. What the spec leaves open: free values (opaque, so that no proof can see them) and the values a
part's keys and production data give, which the model does not fix. -/

namespace Sys2Proof

/-- The n-th free value: whatever the spec does not fix. No body: every claim holds for every choice (log entry 2). -/
opaque Config.free : Nat → Nat

/-- The result of hashing a byte string with SHA-256, as a 256-bit number. The spec names the function and does not define it;
the model leaves it uninterpreted (log entry 3). -/
opaque Config.sha256 : List Byte → Nat

/-- Whether an ECDSA signature over a digest verifies under a key; uninterpreted (log entry 3). -/
opaque Config.sigOk : (key digest sig : Nat) → Bool

/-- The signature of a digest by the device's identity key; uninterpreted (log entry 3). -/
opaque Config.sign : Nat → Nat

/-- The production contents of fuse word `n` (R372): vendor key hashes, the device secret, DEVICE_ID and production data. Left
open: it differs from part to part. -/
opaque Config.prodFuse : Nat → Word

/-- The place in the boundary register of the output ball with a number (R442). The spec gives no order (log entry 90). -/
opaque Config.bsrPlace : Nat → Nat

/-- The TRIM in half-ticks that corrects the deviations, in half-ticks, of one interpolator step in a channel's two fine paths (R70,
R240). The spec gives no formula for it (log entry 99). -/
opaque Config.trimOf : (devA devB : Int) → Int

/-- The production-test offset, in ticks, of the drivers and receivers of channel `n` that MRAM holds for one of its fine paths
(R238, R381). Left open: it differs from part to part. -/
opaque Config.fixedOfs : (n : Nat) → (b : Bool) → Int

/-- The length in dwords of the identity certificate in MRAM (R378, R381). Left open. -/
opaque Config.certLen : Nat

/-- Dword `i` of the identity certificate (R378). Left open. -/
opaque Config.certWord : Nat → Word

end Sys2Proof
end

