-- ==== Sys2Proof/Machine/RegMap.lean ====
section
/-! DEFINITION. The register map: every register's address, access code, reset value and writable bits, from the
register and field tables of the spec's chapters, and the pages of R411 and R421. -/

namespace Sys2Proof

/-- Blocks that own pages of the register space (R421); INTC has three pages. -/
inductive Block where
  | chip | clk | pwr | fuse | mgmt | sns | sup | grd | safe | intcCtl | intcSrc | intcTgt | disp | time | via | trs | evq | mem | ldg | cal | twn | ucs | peb | mch | str | pier | cap | trg | ivm | chn
deriving DecidableEq, Repr

/-- The access codes of R10. -/
inductive AccCode where
  | ro | rw | wo | w1c | w1s | rc | rws | rwf
deriving DecidableEq, Repr

/-- One register, or an array of registers, of a page: `count` registers from `off`, `stride` apart; `reset + rstep * i`
is the reset value of register i; `mask` holds the bits that software writes. -/
structure RegRow where
  off : Nat
  stride : Nat
  count : Nat
  acc : AccCode
  reset : Nat
  rstep : Nat
  mask : Nat
deriving DecidableEq, Repr

/-- One block of pages (R413, R421): base of instance 0, instances, type code, defined events (bit mask) and the CAPS bits. -/
structure PageRow where
  block : Block
  base : Nat
  count : Nat
  type : Nat
  events : Nat
  enctl : Bool
  mirror : Bool
  aon : Bool
  shadow : Bool
deriving DecidableEq, Repr

/-! ## Register addresses -/

/-- The page header of R413, at the base of page `p`. -/
def Reg.PG_ID (p : Nat) : Nat := p + 0x0
/-- PG_CAPS of the page at `p` (R413). -/
def Reg.PG_CAPS (p : Nat) : Nat := p + 0x4
/-- PG_CTRL of the page at `p` (R413). -/
def Reg.PG_CTRL (p : Nat) : Nat := p + 0x8
/-- PG_STATUS of the page at `p` (R413). -/
def Reg.PG_STATUS (p : Nat) : Nat := p + 0xC
/-- PG_EVT_RAW of the page at `p` (R413). -/
def Reg.PG_EVT_RAW (p : Nat) : Nat := p + 0x10
/-- PG_EVT_EN of the page at `p` (R413). -/
def Reg.PG_EVT_EN (p : Nat) : Nat := p + 0x14
/-- PG_EVT_PEND of the page at `p` (R413). -/
def Reg.PG_EVT_PEND (p : Nat) : Nat := p + 0x18
/-- PG_EVT_SET of the page at `p` (R413). -/
def Reg.PG_EVT_SET (p : Nat) : Nat := p + 0x1C
/-- PG_FAULT_CODE of the page at `p` (R413). -/
def Reg.PG_FAULT_CODE (p : Nat) : Nat := p + 0x20
/-- PG_LOCK of the page at `p` (R413). -/
def Reg.PG_LOCK (p : Nat) : Nat := p + 0x24

/-- Base of the CHIP page (R421). -/
def Page.CHIP : Nat := 0x0
/-- Base of the CLK page (R421). -/
def Page.CLK : Nat := 0x1000
/-- Base of the PWR page (R421). -/
def Page.PWR : Nat := 0x2000
/-- Base of the FUSE page (R421). -/
def Page.FUSE : Nat := 0x3000
/-- Base of the MGMT page (R421). -/
def Page.MGMT : Nat := 0x4000
/-- Base of the SNS page (R421). -/
def Page.SNS : Nat := 0x5000
/-- Base of the SUP page (R421). -/
def Page.SUP : Nat := 0x6000
/-- Base of the GRD page (R421). -/
def Page.GRD : Nat := 0x7000
/-- Base of the SAFE page (R421). -/
def Page.SAFE : Nat := 0x8000
/-- Base of the INTC_CTL page (R421). -/
def Page.INTC_CTL : Nat := 0x9000
/-- Base of the INTC_SRC page (R421). -/
def Page.INTC_SRC : Nat := 0xA000
/-- Base of the INTC_TGT page (R421). -/
def Page.INTC_TGT : Nat := 0xB000
/-- Base of the DISP page (R421). -/
def Page.DISP : Nat := 0xC000
/-- Base of the TIME page (R421). -/
def Page.TIME : Nat := 0xD000
/-- Base of the VIA page (R421). -/
def Page.VIA : Nat := 0xE000
/-- Base of the TRS page (R421). -/
def Page.TRS : Nat := 0xF000
/-- Base of the EVQ page (R421). -/
def Page.EVQ : Nat := 0x10000
/-- Base of the MEM page (R421). -/
def Page.MEM : Nat := 0x11000
/-- Base of the LDG page (R421). -/
def Page.LDG : Nat := 0x12000
/-- Base of the CAL page (R421). -/
def Page.CAL : Nat := 0x13000
/-- Base of the TWN page (R421). -/
def Page.TWN : Nat := 0x14000
/-- Base of the UCS page (R421). -/
def Page.UCS : Nat := 0x15000
/-- Base of the PEB page (R421). -/
def Page.PEB : Nat := 0x16000
/-- Base of the page of MCH instance `i` (R411). -/
def Page.MCH (i : Nat) : Nat := 0x20000 + 0x1000 * i
/-- Base of the page of STR instance `i` (R411). -/
def Page.STR (i : Nat) : Nat := 0x40000 + 0x1000 * i
/-- Base of the page of PIER instance `i` (R411). -/
def Page.PIER (i : Nat) : Nat := 0x50000 + 0x1000 * i
/-- Base of the page of CAP instance `i` (R411). -/
def Page.CAP (i : Nat) : Nat := 0x60000 + 0x1000 * i
/-- Base of the page of TRG instance `i` (R411). -/
def Page.TRG (i : Nat) : Nat := 0x70000 + 0x1000 * i
/-- Base of the page of IVM instance `i` (R411). -/
def Page.IVM (i : Nat) : Nat := 0x80000 + 0x1000 * i
/-- Base of the page of CHN instance `i` (R411). -/
def Page.CHN (i : Nat) : Nat := 0x100000 + 0x1000 * i
/-- The private core port of Newt core `k` (R263), placed above the register space. -/
def Page.NCP (i : Nat) : Nat := 0x1000000 + 0x1000 * i

/-- PWR_REQ (R26). -/
def Reg.PWR_REQ : Nat := Page.PWR + 0x40
/-- PWR_STATE (R26). -/
def Reg.PWR_STATE : Nat := Page.PWR + 0x44
/-- PIER_CTRL (R62). -/
def Reg.PIER_CTRL (i : Nat) : Nat := Page.PIER i + 0x40
/-- PIER_STATUS (R62). -/
def Reg.PIER_STATUS (i : Nat) : Nat := Page.PIER i + 0x44
/-- PIER_CMD (R62). -/
def Reg.PIER_CMD (i : Nat) : Nat := Page.PIER i + 0x48
/-- PIER_UCT (R62). -/
def Reg.PIER_UCT (i : Nat) : Nat := Page.PIER i + 0x4C
/-- PIER_SITE_EN_LO (R62). -/
def Reg.PIER_SITE_EN_LO (i : Nat) : Nat := Page.PIER i + 0x50
/-- PIER_SITE_EN_HI (R62). -/
def Reg.PIER_SITE_EN_HI (i : Nat) : Nat := Page.PIER i + 0x54
/-- PIER_BADCODE (R62). -/
def Reg.PIER_BADCODE (i : Nat) : Nat := Page.PIER i + 0x58
/-- CHN_PINMAP (R63). -/
def Reg.CHN_PINMAP (i : Nat) : Nat := Page.CHN i + 0x40
/-- CHN_SITE (R63). -/
def Reg.CHN_SITE (i : Nat) : Nat := Page.CHN i + 0x44
/-- CHN_DRV_DLY (R63). -/
def Reg.CHN_DRV_DLY (i : Nat) : Nat := Page.CHN i + 0x48
/-- CHN_RTD (R63). -/
def Reg.CHN_RTD (i : Nat) : Nat := Page.CHN i + 0x4C
/-- CHN_DEN_OFS (R63). -/
def Reg.CHN_DEN_OFS (i : Nat) : Nat := Page.CHN i + 0x50
/-- CHN_LIVE (R63). -/
def Reg.CHN_LIVE (i : Nat) : Nat := Page.CHN i + 0x54
/-- CHN_DIRSET (R63). -/
def Reg.CHN_DIRSET (i j : Nat) : Nat := Page.CHN i + 0x100 + 0x4 * j
/-- PEB_CFG (R64). -/
def Reg.PEB_CFG (j : Nat) : Nat := Page.PEB + 0x40 + 0x20 * j
/-- PEB_TXLO (R64). -/
def Reg.PEB_TXLO (j : Nat) : Nat := Page.PEB + 0x44 + 0x20 * j
/-- PEB_TXHI (R64). -/
def Reg.PEB_TXHI (j : Nat) : Nat := Page.PEB + 0x48 + 0x20 * j
/-- PEB_CMD (R64). -/
def Reg.PEB_CMD (j : Nat) : Nat := Page.PEB + 0x4C + 0x20 * j
/-- PEB_RXLO (R64). -/
def Reg.PEB_RXLO (j : Nat) : Nat := Page.PEB + 0x50 + 0x20 * j
/-- PEB_RXHI (R64). -/
def Reg.PEB_RXHI (j : Nat) : Nat := Page.PEB + 0x54 + 0x20 * j
/-- PEB_STAT (R64). -/
def Reg.PEB_STAT (j : Nat) : Nat := Page.PEB + 0x58 + 0x20 * j
/-- PEB_SAFE (R64). -/
def Reg.PEB_SAFE (j : Nat) : Nat := Page.PEB + 0x5C + 0x20 * j
/-- STR_PER_INT (R72). -/
def Reg.STR_PER_INT (i j : Nat) : Nat := Page.STR i + 0x800 + 0x8 * j
/-- STR_PER_FRAC (R72). -/
def Reg.STR_PER_FRAC (i j : Nat) : Nat := Page.STR i + 0x804 + 0x8 * j
/-- STR_CTRL (R125). -/
def Reg.STR_CTRL (i : Nat) : Nat := Page.STR i + 0x40
/-- STR_STATUS (R125). -/
def Reg.STR_STATUS (i : Nat) : Nat := Page.STR i + 0x44
/-- STR_CMD (R125). -/
def Reg.STR_CMD (i : Nat) : Nat := Page.STR i + 0x48
/-- STR_START (R125). -/
def Reg.STR_START (i : Nat) : Nat := Page.STR i + 0x4C
/-- STR_LAUNCH_T_LO (R125). -/
def Reg.STR_LAUNCH_T_LO (i : Nat) : Nat := Page.STR i + 0x50
/-- STR_LAUNCH_T_HI (R125). -/
def Reg.STR_LAUNCH_T_HI (i : Nat) : Nat := Page.STR i + 0x54
/-- STR_MATCHLAT (R125). -/
def Reg.STR_MATCHLAT (i : Nat) : Nat := Page.STR i + 0x58
/-- STR_MATCHMIN (R125). -/
def Reg.STR_MATCHMIN (i : Nat) : Nat := Page.STR i + 0x5C
/-- STR_JUMP (R125). -/
def Reg.STR_JUMP (i : Nat) : Nat := Page.STR i + 0x60
/-- STR_FLAGS (R125). -/
def Reg.STR_FLAGS (i : Nat) : Nat := Page.STR i + 0x64
/-- STR_FLAGS_CLR (R125). -/
def Reg.STR_FLAGS_CLR (i : Nat) : Nat := Page.STR i + 0x68
/-- STR_FAULT (R125). -/
def Reg.STR_FAULT (i : Nat) : Nat := Page.STR i + 0x6C
/-- STR_SITE_INIT_LO (R125). -/
def Reg.STR_SITE_INIT_LO (i : Nat) : Nat := Page.STR i + 0x70
/-- STR_SITE_INIT_HI (R125). -/
def Reg.STR_SITE_INIT_HI (i : Nat) : Nat := Page.STR i + 0x74
/-- STR_SITE_LO (R125). -/
def Reg.STR_SITE_LO (i : Nat) : Nat := Page.STR i + 0x78
/-- STR_SITE_HI (R125). -/
def Reg.STR_SITE_HI (i : Nat) : Nat := Page.STR i + 0x7C
/-- STR_SITEFAIL_LO (R125). -/
def Reg.STR_SITEFAIL_LO (i : Nat) : Nat := Page.STR i + 0x80
/-- STR_SITEFAIL_HI (R125). -/
def Reg.STR_SITEFAIL_HI (i : Nat) : Nat := Page.STR i + 0x84
/-- STR_MATCHSITE_LO (R125). -/
def Reg.STR_MATCHSITE_LO (i : Nat) : Nat := Page.STR i + 0x88
/-- STR_MATCHSITE_HI (R125). -/
def Reg.STR_MATCHSITE_HI (i : Nat) : Nat := Page.STR i + 0x8C
/-- STR_CYCLES_LO (R125). -/
def Reg.STR_CYCLES_LO (i : Nat) : Nat := Page.STR i + 0x90
/-- STR_CYCLES_HI (R125). -/
def Reg.STR_CYCLES_HI (i : Nat) : Nat := Page.STR i + 0x94
/-- STR_BURST_ID (R125). -/
def Reg.STR_BURST_ID (i : Nat) : Nat := Page.STR i + 0x98
/-- STR_MARKSEL (R125). -/
def Reg.STR_MARKSEL (i : Nat) : Nat := Page.STR i + 0x9C
/-- STR_SIGNAL (R125). -/
def Reg.STR_SIGNAL (i : Nat) : Nat := Page.STR i + 0xA0
/-- STR_BUFLVL (R125). -/
def Reg.STR_BUFLVL (i : Nat) : Nat := Page.STR i + 0xA4
/-- STR_PC (R125). -/
def Reg.STR_PC (i : Nat) : Nat := Page.STR i + 0xA8
/-- STR_G (R125). -/
def Reg.STR_G (i j : Nat) : Nat := Page.STR i + 0x100 + 0x4 * j
/-- UCS_CTRL (R148). -/
def Reg.UCS_CTRL : Nat := Page.UCS + 0x40
/-- UCS_STATUS (R148). -/
def Reg.UCS_STATUS : Nat := Page.UCS + 0x44
/-- UCS_CMD (R148). -/
def Reg.UCS_CMD : Nat := Page.UCS + 0x48
/-- UCS_IMG_ADDR_LO (R148). -/
def Reg.UCS_IMG_ADDR_LO : Nat := Page.UCS + 0x4C
/-- UCS_IMG_ADDR_HI (R148). -/
def Reg.UCS_IMG_ADDR_HI : Nat := Page.UCS + 0x50
/-- UCS_IMG_LEN (R148). -/
def Reg.UCS_IMG_LEN : Nat := Page.UCS + 0x54
/-- UCS_LOAD_STATUS (R148). -/
def Reg.UCS_LOAD_STATUS : Nat := Page.UCS + 0x58
/-- UCS_CUST_EN (R148). -/
def Reg.UCS_CUST_EN : Nat := Page.UCS + 0x5C
/-- UCS_VSEL (R148). -/
def Reg.UCS_VSEL : Nat := Page.UCS + 0x60
/-- UCS_CUST_SVN (R148). -/
def Reg.UCS_CUST_SVN : Nat := Page.UCS + 0x64
/-- UCS_VEND_SVN0 (R148). -/
def Reg.UCS_VEND_SVN0 : Nat := Page.UCS + 0x68
/-- UCS_VEND_SVN1 (R148). -/
def Reg.UCS_VEND_SVN1 : Nat := Page.UCS + 0x6C
/-- UCS_CE_CNT (R148). -/
def Reg.UCS_CE_CNT : Nat := Page.UCS + 0x70
/-- UCS_UE_ADDR (R148). -/
def Reg.UCS_UE_ADDR : Nat := Page.UCS + 0x74
/-- APG_CTRL (R158). -/
def Reg.APG_CTRL (i : Nat) : Nat := Page.STR i + 0x200
/-- APG_STATUS (R158). -/
def Reg.APG_STATUS (i : Nat) : Nat := Page.STR i + 0x204
/-- APG_RING (R158). -/
def Reg.APG_RING (i : Nat) : Nat := Page.STR i + 0x208
/-- APG_BMCFG (R158). -/
def Reg.APG_BMCFG (i : Nat) : Nat := Page.STR i + 0x20C
/-- APG_X (R158). -/
def Reg.APG_X (i : Nat) : Nat := Page.STR i + 0x210
/-- APG_Y (R158). -/
def Reg.APG_Y (i : Nat) : Nat := Page.STR i + 0x214
/-- APG_Z (R158). -/
def Reg.APG_Z (i : Nat) : Nat := Page.STR i + 0x218
/-- APG_XSAVE (R158). -/
def Reg.APG_XSAVE (i : Nat) : Nat := Page.STR i + 0x21C
/-- APG_YSAVE (R158). -/
def Reg.APG_YSAVE (i : Nat) : Nat := Page.STR i + 0x220
/-- APG_ZSAVE (R158). -/
def Reg.APG_ZSAVE (i : Nat) : Nat := Page.STR i + 0x224
/-- APG_XMIN (R158). -/
def Reg.APG_XMIN (i : Nat) : Nat := Page.STR i + 0x228
/-- APG_XMAX (R158). -/
def Reg.APG_XMAX (i : Nat) : Nat := Page.STR i + 0x22C
/-- APG_YMIN (R158). -/
def Reg.APG_YMIN (i : Nat) : Nat := Page.STR i + 0x230
/-- APG_YMAX (R158). -/
def Reg.APG_YMAX (i : Nat) : Nat := Page.STR i + 0x234
/-- APG_ZLIM (R158). -/
def Reg.APG_ZLIM (i : Nat) : Nat := Page.STR i + 0x238
/-- APG_XSTEP (R158). -/
def Reg.APG_XSTEP (i : Nat) : Nat := Page.STR i + 0x23C
/-- APG_YSTEP (R158). -/
def Reg.APG_YSTEP (i : Nat) : Nat := Page.STR i + 0x240
/-- APG_D_LO (R158). -/
def Reg.APG_D_LO (i : Nat) : Nat := Page.STR i + 0x244
/-- APG_D_HI (R158). -/
def Reg.APG_D_HI (i : Nat) : Nat := Page.STR i + 0x248
/-- APG_BG_LO (R158). -/
def Reg.APG_BG_LO (i : Nat) : Nat := Page.STR i + 0x24C
/-- APG_BG_HI (R158). -/
def Reg.APG_BG_HI (i : Nat) : Nat := Page.STR i + 0x250
/-- APG_POLY_LO (R158). -/
def Reg.APG_POLY_LO (i : Nat) : Nat := Page.STR i + 0x254
/-- APG_POLY_HI (R158). -/
def Reg.APG_POLY_HI (i : Nat) : Nat := Page.STR i + 0x258
/-- APG_TOPO_X (R158). -/
def Reg.APG_TOPO_X (i : Nat) : Nat := Page.STR i + 0x25C
/-- APG_TOPO_Y (R158). -/
def Reg.APG_TOPO_Y (i : Nat) : Nat := Page.STR i + 0x260
/-- APG_TOPO_Z (R158). -/
def Reg.APG_TOPO_Z (i : Nat) : Nat := Page.STR i + 0x264
/-- APG_TOPO_D_LO (R158). -/
def Reg.APG_TOPO_D_LO (i : Nat) : Nat := Page.STR i + 0x268
/-- APG_TOPO_D_HI (R158). -/
def Reg.APG_TOPO_D_HI (i : Nat) : Nat := Page.STR i + 0x26C
/-- APG_STEP (R158). -/
def Reg.APG_STEP (i j : Nat) : Nat := Page.STR i + 0x280 + 0x4 * j
/-- APG_SCR (R158). -/
def Reg.APG_SCR (i j : Nat) : Nat := Page.STR i + 0x2C0 + 0x4 * j
/-- CAP_CTRL (R194). -/
def Reg.CAP_CTRL (i : Nat) : Nat := Page.CAP i + 0x40
/-- CAP_STATUS (R194). -/
def Reg.CAP_STATUS (i : Nat) : Nat := Page.CAP i + 0x44
/-- CAP_CMD (R194). -/
def Reg.CAP_CMD (i : Nat) : Nat := Page.CAP i + 0x48
/-- CAP_BASE_LO (R194). -/
def Reg.CAP_BASE_LO (i : Nat) : Nat := Page.CAP i + 0x4C
/-- CAP_BASE_HI (R194). -/
def Reg.CAP_BASE_HI (i : Nat) : Nat := Page.CAP i + 0x50
/-- CAP_SEG64 (R194). -/
def Reg.CAP_SEG64 (i : Nat) : Nat := Page.CAP i + 0x54
/-- CAP_SEGCNT (R194). -/
def Reg.CAP_SEGCNT (i : Nat) : Nat := Page.CAP i + 0x58
/-- CAP_PRE (R194). -/
def Reg.CAP_PRE (i : Nat) : Nat := Page.CAP i + 0x5C
/-- CAP_POST (R194). -/
def Reg.CAP_POST (i : Nat) : Nat := Page.CAP i + 0x60
/-- CAP_RELEASE (R194). -/
def Reg.CAP_RELEASE (i : Nat) : Nat := Page.CAP i + 0x64
/-- CAP_BMBASE_LO (R194). -/
def Reg.CAP_BMBASE_LO (i : Nat) : Nat := Page.CAP i + 0x68
/-- CAP_BMBASE_HI (R194). -/
def Reg.CAP_BMBASE_HI (i : Nat) : Nat := Page.CAP i + 0x6C
/-- CAP_BMSTRIDE (R194). -/
def Reg.CAP_BMSTRIDE (i : Nat) : Nat := Page.CAP i + 0x70
/-- CAP_FAILCYC (R194). -/
def Reg.CAP_FAILCYC (i : Nat) : Nat := Page.CAP i + 0x74
/-- CAP_FIRST_LO (R194). -/
def Reg.CAP_FIRST_LO (i : Nat) : Nat := Page.CAP i + 0x78
/-- CAP_FIRST_HI (R194). -/
def Reg.CAP_FIRST_HI (i : Nat) : Nat := Page.CAP i + 0x7C
/-- CAP_LAST_LO (R194). -/
def Reg.CAP_LAST_LO (i : Nat) : Nat := Page.CAP i + 0x80
/-- CAP_LAST_HI (R194). -/
def Reg.CAP_LAST_HI (i : Nat) : Nat := Page.CAP i + 0x84
/-- CAP_FIRSTLANE (R194). -/
def Reg.CAP_FIRSTLANE (i : Nat) : Nat := Page.CAP i + 0x88
/-- CAP_WREJ (R194). -/
def Reg.CAP_WREJ (i : Nat) : Nat := Page.CAP i + 0x8C
/-- CAP_BMLOST (R194). -/
def Reg.CAP_BMLOST (i : Nat) : Nat := Page.CAP i + 0x90
/-- CAP_LANEFAIL (R194). -/
def Reg.CAP_LANEFAIL (i j : Nat) : Nat := Page.CAP i + 0x100 + 0x4 * j
/-- CAP_SITEFAIL (R194). -/
def Reg.CAP_SITEFAIL (i j : Nat) : Nat := Page.CAP i + 0x200 + 0x4 * j
/-- CAP_QUOTA (R194). -/
def Reg.CAP_QUOTA (i j : Nat) : Nat := Page.CAP i + 0x300 + 0x4 * j
/-- CAP_USE (R194). -/
def Reg.CAP_USE (i j : Nat) : Nat := Page.CAP i + 0x400 + 0x4 * j
/-- TRG_CTRL (R195). -/
def Reg.TRG_CTRL (i : Nat) : Nat := Page.TRG i + 0x40
/-- TRG_STATUS (R195). -/
def Reg.TRG_STATUS (i : Nat) : Nat := Page.TRG i + 0x44
/-- TRG_LAST_LO (R195). -/
def Reg.TRG_LAST_LO (i : Nat) : Nat := Page.TRG i + 0x48
/-- TRG_LAST_HI (R195). -/
def Reg.TRG_LAST_HI (i : Nat) : Nat := Page.TRG i + 0x4C
/-- TRG_LASTBITS (R195). -/
def Reg.TRG_LASTBITS (i : Nat) : Nat := Page.TRG i + 0x50
/-- TRG_CFG (R195). -/
def Reg.TRG_CFG (i j : Nat) : Nat := Page.TRG i + 0x60 + 0x10 * j
/-- TRG_MASK (R195). -/
def Reg.TRG_MASK (i j : Nat) : Nat := Page.TRG i + 0x64 + 0x10 * j
/-- TRG_VAL (R195). -/
def Reg.TRG_VAL (i j : Nat) : Nat := Page.TRG i + 0x68 + 0x10 * j
/-- TRG_ACT (R195). -/
def Reg.TRG_ACT (i j : Nat) : Nat := Page.TRG i + 0x6C + 0x10 * j
/-- TRG_DEC_CFG (R195). -/
def Reg.TRG_DEC_CFG (i : Nat) : Nat := Page.TRG i + 0xA0
/-- TRG_DEC_FMT (R195). -/
def Reg.TRG_DEC_FMT (i : Nat) : Nat := Page.TRG i + 0xA4
/-- TRG_DEC_FLD_LO (R195). -/
def Reg.TRG_DEC_FLD_LO (i : Nat) : Nat := Page.TRG i + 0xA8
/-- TRG_DEC_FLD_HI (R195). -/
def Reg.TRG_DEC_FLD_HI (i : Nat) : Nat := Page.TRG i + 0xAC
/-- TRG_DEC_CNT (R195). -/
def Reg.TRG_DEC_CNT (i : Nat) : Nat := Page.TRG i + 0xB0
/-- IVM_CTRL (R213). -/
def Reg.IVM_CTRL (i : Nat) : Nat := Page.IVM i + 0x40
/-- IVM_STATUS (R213). -/
def Reg.IVM_STATUS (i : Nat) : Nat := Page.IVM i + 0x44
/-- IVM_CMD (R213). -/
def Reg.IVM_CMD (i : Nat) : Nat := Page.IVM i + 0x48
/-- IVM_START (R213). -/
def Reg.IVM_START (i : Nat) : Nat := Page.IVM i + 0x4C
/-- IVM_STOP (R213). -/
def Reg.IVM_STOP (i : Nat) : Nat := Page.IVM i + 0x50
/-- IVM_HOLDOFF (R213). -/
def Reg.IVM_HOLDOFF (i : Nat) : Nat := Page.IVM i + 0x54
/-- IVM_GATE (R213). -/
def Reg.IVM_GATE (i : Nat) : Nat := Page.IVM i + 0x58
/-- IVM_COUNT (R213). -/
def Reg.IVM_COUNT (i : Nat) : Nat := Page.IVM i + 0x5C
/-- IVM_DIV (R213). -/
def Reg.IVM_DIV (i : Nat) : Nat := Page.IVM i + 0x60
/-- IVM_REPEAT (R213). -/
def Reg.IVM_REPEAT (i : Nat) : Nat := Page.IVM i + 0x64
/-- IVM_TIMEOUT (R213). -/
def Reg.IVM_TIMEOUT (i : Nat) : Nat := Page.IVM i + 0x68
/-- IVM_CALCODE_A (R213). -/
def Reg.IVM_CALCODE_A (i : Nat) : Nat := Page.IVM i + 0x6C
/-- IVM_CALCODE_B (R213). -/
def Reg.IVM_CALCODE_B (i : Nat) : Nat := Page.IVM i + 0x70
/-- IVM_RES_LO (R213). -/
def Reg.IVM_RES_LO (i : Nat) : Nat := Page.IVM i + 0x74
/-- IVM_RES_HI (R213). -/
def Reg.IVM_RES_HI (i : Nat) : Nat := Page.IVM i + 0x78
/-- IVM_RES_FLAGS (R213). -/
def Reg.IVM_RES_FLAGS (i : Nat) : Nat := Page.IVM i + 0x7C
/-- IVM_FREQ_LO (R213). -/
def Reg.IVM_FREQ_LO (i : Nat) : Nat := Page.IVM i + 0x80
/-- IVM_FREQ_HI (R213). -/
def Reg.IVM_FREQ_HI (i : Nat) : Nat := Page.IVM i + 0x84
/-- IVM_NSTAMP (R213). -/
def Reg.IVM_NSTAMP (i : Nat) : Nat := Page.IVM i + 0x88
/-- IVM_MISSED (R213). -/
def Reg.IVM_MISSED (i : Nat) : Nat := Page.IVM i + 0x8C
/-- IVM_FIFO_LO (R213). -/
def Reg.IVM_FIFO_LO (i : Nat) : Nat := Page.IVM i + 0x90
/-- IVM_FIFO_HI (R213). -/
def Reg.IVM_FIFO_HI (i : Nat) : Nat := Page.IVM i + 0x94
/-- IVM_FIFO_TAG (R213). -/
def Reg.IVM_FIFO_TAG (i : Nat) : Nat := Page.IVM i + 0x98
/-- MEM_CTRL (R235). -/
def Reg.MEM_CTRL : Nat := Page.MEM + 0x40
/-- MEM_STATUS (R235). -/
def Reg.MEM_STATUS : Nat := Page.MEM + 0x44
/-- MEM_TEMP (R235). -/
def Reg.MEM_TEMP : Nat := Page.MEM + 0x48
/-- MEM_CE_CNT (R235). -/
def Reg.MEM_CE_CNT : Nat := Page.MEM + 0x4C
/-- MEM_UE_CNT (R235). -/
def Reg.MEM_UE_CNT : Nat := Page.MEM + 0x50
/-- MEM_UE_ADDR_LO (R235). -/
def Reg.MEM_UE_ADDR_LO : Nat := Page.MEM + 0x54
/-- MEM_UE_ADDR_HI (R235). -/
def Reg.MEM_UE_ADDR_HI : Nat := Page.MEM + 0x58
/-- MCH_CTRL (R236). -/
def Reg.MCH_CTRL (i : Nat) : Nat := Page.MCH i + 0x40
/-- MCH_STATUS (R236). -/
def Reg.MCH_STATUS (i : Nat) : Nat := Page.MCH i + 0x44
/-- MCH_CE_CNT (R236). -/
def Reg.MCH_CE_CNT (i : Nat) : Nat := Page.MCH i + 0x48
/-- MCH_UE_CNT (R236). -/
def Reg.MCH_UE_CNT (i : Nat) : Nat := Page.MCH i + 0x4C
/-- MCH_REPLAY (R236). -/
def Reg.MCH_REPLAY (i : Nat) : Nat := Page.MCH i + 0x50
/-- MCH_REFDEBT (R236). -/
def Reg.MCH_REFDEBT (i : Nat) : Nat := Page.MCH i + 0x54
/-- LDG_CMD (R237). -/
def Reg.LDG_CMD : Nat := Page.LDG + 0x40
/-- LDG_REQ (R237). -/
def Reg.LDG_REQ : Nat := Page.LDG + 0x44
/-- LDG_ADMITTED (R237). -/
def Reg.LDG_ADMITTED : Nat := Page.LDG + 0x48
/-- LDG_RESULT (R237). -/
def Reg.LDG_RESULT : Nat := Page.LDG + 0x4C
/-- LDG_DMA (R237). -/
def Reg.LDG_DMA : Nat := Page.LDG + 0x50
/-- LDG_SUM_A (R237). -/
def Reg.LDG_SUM_A : Nat := Page.LDG + 0x54
/-- LDG_SUM_B (R237). -/
def Reg.LDG_SUM_B : Nat := Page.LDG + 0x58
/-- LDG_LIMIT (R237). -/
def Reg.LDG_LIMIT : Nat := Page.LDG + 0x5C
/-- LDG_SCFG (R237). -/
def Reg.LDG_SCFG (j : Nat) : Nat := Page.LDG + 0x100 + 0x10 * j
/-- LDG_RDEM (R237). -/
def Reg.LDG_RDEM (j : Nat) : Nat := Page.LDG + 0x104 + 0x10 * j
/-- LDG_CDEM_A (R237). -/
def Reg.LDG_CDEM_A (j : Nat) : Nat := Page.LDG + 0x108 + 0x10 * j
/-- LDG_CDEM_B (R237). -/
def Reg.LDG_CDEM_B (j : Nat) : Nat := Page.LDG + 0x10C + 0x10 * j
/-- CAL_CTRL (R256). -/
def Reg.CAL_CTRL : Nat := Page.CAL + 0x40
/-- CAL_STATUS (R256). -/
def Reg.CAL_STATUS : Nat := Page.CAL + 0x44
/-- CAL_CMD (R256). -/
def Reg.CAL_CMD : Nat := Page.CAL + 0x48
/-- CAL_PERIOD (R256). -/
def Reg.CAL_PERIOD : Nat := Page.CAL + 0x4C
/-- CAL_TEMP (R256). -/
def Reg.CAL_TEMP : Nat := Page.CAL + 0x50
/-- CAL_PLAUS (R256). -/
def Reg.CAL_PLAUS : Nat := Page.CAL + 0x54
/-- CAL_HOLDMAX (R256). -/
def Reg.CAL_HOLDMAX : Nat := Page.CAL + 0x58
/-- CAL_RESULT (R256). -/
def Reg.CAL_RESULT : Nat := Page.CAL + 0x5C
/-- CAL_COUNT (R256). -/
def Reg.CAL_COUNT : Nat := Page.CAL + 0x60
/-- CAL_FAILCH (R256). -/
def Reg.CAL_FAILCH : Nat := Page.CAL + 0x64
/-- CAL_TJ (R256). -/
def Reg.CAL_TJ : Nat := Page.CAL + 0x68
/-- CAL_TIME_LO (R256). -/
def Reg.CAL_TIME_LO : Nat := Page.CAL + 0x6C
/-- CAL_TIME_HI (R256). -/
def Reg.CAL_TIME_HI : Nat := Page.CAL + 0x70
/-- CAL_COMMITS (R256). -/
def Reg.CAL_COMMITS : Nat := Page.CAL + 0x74
/-- CAL_CHSEL (R256). -/
def Reg.CAL_CHSEL (j : Nat) : Nat := Page.CAL + 0x80 + 0x4 * j
/-- CAL_KEPT (R256). -/
def Reg.CAL_KEPT (j : Nat) : Nat := Page.CAL + 0xA0 + 0x4 * j
/-- NCP_ID (R263). -/
def Reg.NCP_ID (i : Nat) : Nat := Page.NCP i + 0x0
/-- NCP_TAKE (R263). -/
def Reg.NCP_TAKE (i : Nat) : Nat := Page.NCP i + 0x4
/-- NCP_ENTRY (R263). -/
def Reg.NCP_ENTRY (i : Nat) : Nat := Page.NCP i + 0x8
/-- NCP_SEQ (R263). -/
def Reg.NCP_SEQ (i : Nat) : Nat := Page.NCP i + 0xC
/-- NCP_ARG (R263). -/
def Reg.NCP_ARG (i j : Nat) : Nat := Page.NCP i + 0x10 + 0x4 * j
/-- NCP_HOOKDATA (R263). -/
def Reg.NCP_HOOKDATA (i : Nat) : Nat := Page.NCP i + 0x20
/-- NCP_DONE (R263). -/
def Reg.NCP_DONE (i : Nat) : Nat := Page.NCP i + 0x24
/-- NCP_STATUS (R263). -/
def Reg.NCP_STATUS (i : Nat) : Nat := Page.NCP i + 0x28
/-- NCP_CTL (R263). -/
def Reg.NCP_CTL (i : Nat) : Nat := Page.NCP i + 0x2C
/-- NCP_VMWIN0 (R263). -/
def Reg.NCP_VMWIN0 (i : Nat) : Nat := Page.NCP i + 0x30
/-- NCP_VMWIN1 (R263). -/
def Reg.NCP_VMWIN1 (i : Nat) : Nat := Page.NCP i + 0x34
/-- NCP_TCMP_LO (R263). -/
def Reg.NCP_TCMP_LO (i : Nat) : Nat := Page.NCP i + 0x38
/-- NCP_TCMP_HI (R263). -/
def Reg.NCP_TCMP_HI (i : Nat) : Nat := Page.NCP i + 0x3C
/-- DISP_CMD (R284). -/
def Reg.DISP_CMD : Nat := Page.DISP + 0x40
/-- DISP_STATUS (R284). -/
def Reg.DISP_STATUS : Nat := Page.DISP + 0x44
/-- DISP_RVEC (R284). -/
def Reg.DISP_RVEC : Nat := Page.DISP + 0x48
/-- DISP_HOOKLOST (R284). -/
def Reg.DISP_HOOKLOST : Nat := Page.DISP + 0x4C
/-- DISP_LASTERR (R284). -/
def Reg.DISP_LASTERR : Nat := Page.DISP + 0x50
/-- DISP_CORE (R284). -/
def Reg.DISP_CORE (j : Nat) : Nat := Page.DISP + 0x80 + 0x4 * j
/-- DISP_FLOW (R284). -/
def Reg.DISP_FLOW (j : Nat) : Nat := Page.DISP + 0x100 + 0x4 * j
/-- DISP_FLOWST (R284). -/
def Reg.DISP_FLOWST (j : Nat) : Nat := Page.DISP + 0x200 + 0x4 * j
/-- DISP_TICK (R284). -/
def Reg.DISP_TICK (j : Nat) : Nat := Page.DISP + 0x300 + 0x4 * j
/-- DISP_TCNT (R284). -/
def Reg.DISP_TCNT (j : Nat) : Nat := Page.DISP + 0x310 + 0x4 * j
/-- DISP_HOOK (R284). -/
def Reg.DISP_HOOK (j : Nat) : Nat := Page.DISP + 0x400 + 0x4 * j
/-- TRS_CTRL (R308). -/
def Reg.TRS_CTRL : Nat := Page.TRS + 0x40
/-- TRS_STATUS (R308). -/
def Reg.TRS_STATUS : Nat := Page.TRS + 0x44
/-- TRS_CMD (R308). -/
def Reg.TRS_CMD : Nat := Page.TRS + 0x48
/-- TRS_TEST (R308). -/
def Reg.TRS_TEST : Nat := Page.TRS + 0x4C
/-- TRS_REPLAY (R308). -/
def Reg.TRS_REPLAY : Nat := Page.TRS + 0x50
/-- TRS_CRCERR (R308). -/
def Reg.TRS_CRCERR : Nat := Page.TRS + 0x54
/-- TRS_WDOG (R308). -/
def Reg.TRS_WDOG : Nat := Page.TRS + 0x58
/-- TRS_WDKICK (R308). -/
def Reg.TRS_WDKICK : Nat := Page.TRS + 0x5C
/-- TRS_WDLEFT (R308). -/
def Reg.TRS_WDLEFT : Nat := Page.TRS + 0x60
/-- TRS_DQ_BASE_LO (R308). -/
def Reg.TRS_DQ_BASE_LO (j : Nat) : Nat := Page.TRS + 0x80 + 0x20 * j
/-- TRS_DQ_BASE_HI (R308). -/
def Reg.TRS_DQ_BASE_HI (j : Nat) : Nat := Page.TRS + 0x84 + 0x20 * j
/-- TRS_DQ_SIZE (R308). -/
def Reg.TRS_DQ_SIZE (j : Nat) : Nat := Page.TRS + 0x88 + 0x20 * j
/-- TRS_DQ_TAIL (R308). -/
def Reg.TRS_DQ_TAIL (j : Nat) : Nat := Page.TRS + 0x8C + 0x20 * j
/-- TRS_DQ_HEAD (R308). -/
def Reg.TRS_DQ_HEAD (j : Nat) : Nat := Page.TRS + 0x90 + 0x20 * j
/-- TRS_DQ_CTRL (R308). -/
def Reg.TRS_DQ_CTRL (j : Nat) : Nat := Page.TRS + 0x94 + 0x20 * j
/-- TRS_DQ_STAT (R308). -/
def Reg.TRS_DQ_STAT (j : Nat) : Nat := Page.TRS + 0x98 + 0x20 * j
/-- TRS_LEQ (R308). -/
def Reg.TRS_LEQ (j : Nat) : Nat := Page.TRS + 0x100 + 0x4 * j
/-- TRS_LST (R308). -/
def Reg.TRS_LST (j : Nat) : Nat := Page.TRS + 0x140 + 0x4 * j
/-- EVQ_CTRL (R309). -/
def Reg.EVQ_CTRL : Nat := Page.EVQ + 0x40
/-- EVQ_STATUS (R309). -/
def Reg.EVQ_STATUS : Nat := Page.EVQ + 0x44
/-- EVQ_BASE_LO (R309). -/
def Reg.EVQ_BASE_LO : Nat := Page.EVQ + 0x48
/-- EVQ_BASE_HI (R309). -/
def Reg.EVQ_BASE_HI : Nat := Page.EVQ + 0x4C
/-- EVQ_SIZE (R309). -/
def Reg.EVQ_SIZE : Nat := Page.EVQ + 0x50
/-- EVQ_PROD (R309). -/
def Reg.EVQ_PROD : Nat := Page.EVQ + 0x54
/-- EVQ_CONS (R309). -/
def Reg.EVQ_CONS : Nat := Page.EVQ + 0x58
/-- EVQ_MOD (R309). -/
def Reg.EVQ_MOD : Nat := Page.EVQ + 0x5C
/-- EVQ_LOST (R309). -/
def Reg.EVQ_LOST : Nat := Page.EVQ + 0x60
/-- EVQ_SEQ (R309). -/
def Reg.EVQ_SEQ : Nat := Page.EVQ + 0x64
/-- TIME_NOW_LO (R339). -/
def Reg.TIME_NOW_LO : Nat := Page.TIME + 0x40
/-- TIME_NOW_HI (R339). -/
def Reg.TIME_NOW_HI : Nat := Page.TIME + 0x44
/-- TIME_EPOCH (R339). -/
def Reg.TIME_EPOCH : Nat := Page.TIME + 0x48
/-- TSTR_CTRL (R339). -/
def Reg.TSTR_CTRL (j : Nat) : Nat := Page.TIME + 0x80 + 0x10 * j
/-- TSTR_T_LO (R339). -/
def Reg.TSTR_T_LO (j : Nat) : Nat := Page.TIME + 0x84 + 0x10 * j
/-- TSTR_T_HI (R339). -/
def Reg.TSTR_T_HI (j : Nat) : Nat := Page.TIME + 0x88 + 0x10 * j
/-- TSTR_PER (R339). -/
def Reg.TSTR_PER (j : Nat) : Nat := Page.TIME + 0x8C + 0x10 * j
/-- VIA_CTRL (R340). -/
def Reg.VIA_CTRL : Nat := Page.VIA + 0x40
/-- VIA_STATUS (R340). -/
def Reg.VIA_STATUS : Nat := Page.VIA + 0x44
/-- VIA_CMD (R340). -/
def Reg.VIA_CMD : Nat := Page.VIA + 0x48
/-- VIA_SET_LO (R340). -/
def Reg.VIA_SET_LO : Nat := Page.VIA + 0x4C
/-- VIA_SET_HI (R340). -/
def Reg.VIA_SET_HI : Nat := Page.VIA + 0x50
/-- VIA_SKEW (R340). -/
def Reg.VIA_SKEW : Nat := Page.VIA + 0x54
/-- VIA_ASYM (R340). -/
def Reg.VIA_ASYM : Nat := Page.VIA + 0x58
/-- VIA_LINKDLY (R340). -/
def Reg.VIA_LINKDLY : Nat := Page.VIA + 0x5C
/-- VIA_PATHDLY (R340). -/
def Reg.VIA_PATHDLY : Nat := Page.VIA + 0x60
/-- VIA_RESID (R340). -/
def Reg.VIA_RESID : Nat := Page.VIA + 0x64
/-- VIA_TOL (R340). -/
def Reg.VIA_TOL : Nat := Page.VIA + 0x68
/-- VIA_TPER (R340). -/
def Reg.VIA_TPER : Nat := Page.VIA + 0x6C
/-- VIA_QT_LO (R340). -/
def Reg.VIA_QT_LO : Nat := Page.VIA + 0x70
/-- VIA_QT_HI (R340). -/
def Reg.VIA_QT_HI : Nat := Page.VIA + 0x74
/-- VIA_QEXP (R340). -/
def Reg.VIA_QEXP : Nat := Page.VIA + 0x78
/-- VIA_QSTAT (R340). -/
def Reg.VIA_QSTAT : Nat := Page.VIA + 0x7C
/-- VIA_ERR (R340). -/
def Reg.VIA_ERR : Nat := Page.VIA + 0x80
/-- SUP_CTRL (R346). -/
def Reg.SUP_CTRL : Nat := Page.SUP + 0x40
/-- SUP_STATUS (R346). -/
def Reg.SUP_STATUS : Nat := Page.SUP + 0x44
/-- SUP_WARNCNT (R346). -/
def Reg.SUP_WARNCNT : Nat := Page.SUP + 0x48
/-- SUP_THR (R346). -/
def Reg.SUP_THR (j : Nat) : Nat := Page.SUP + 0x100 + 0x10 * j
/-- SUP_NOW (R346). -/
def Reg.SUP_NOW (j : Nat) : Nat := Page.SUP + 0x104 + 0x10 * j
/-- SUP_EXTR (R346). -/
def Reg.SUP_EXTR (j : Nat) : Nat := Page.SUP + 0x108 + 0x10 * j
/-- GRD_OUT (R351). -/
def Reg.GRD_OUT : Nat := Page.GRD + 0x40
/-- GRD_LATCH (R351). -/
def Reg.GRD_LATCH : Nat := Page.GRD + 0x44
/-- GRD_LPER (R351). -/
def Reg.GRD_LPER : Nat := Page.GRD + 0x48
/-- GRD_GOCFG (R351). -/
def Reg.GRD_GOCFG : Nat := Page.GRD + 0x4C
/-- GRD_GOLVL (R351). -/
def Reg.GRD_GOLVL : Nat := Page.GRD + 0x50
/-- GRD_CFG (R351). -/
def Reg.GRD_CFG (j : Nat) : Nat := Page.GRD + 0x100 + 0x10 * j
/-- GRD_THR (R351). -/
def Reg.GRD_THR (j : Nat) : Nat := Page.GRD + 0x104 + 0x10 * j
/-- GRD_HYST (R351). -/
def Reg.GRD_HYST (j : Nat) : Nat := Page.GRD + 0x108 + 0x10 * j
/-- GRD_STATE (R351). -/
def Reg.GRD_STATE (j : Nat) : Nat := Page.GRD + 0x10C + 0x10 * j
/-- PWR_GOV (R354). -/
def Reg.PWR_GOV : Nat := Page.PWR + 0x48
/-- PWR_PGATE (R354). -/
def Reg.PWR_PGATE : Nat := Page.PWR + 0x4C
/-- PWR_SGATE (R354). -/
def Reg.PWR_SGATE : Nat := Page.PWR + 0x50
/-- PWR_AWAKE_P (R354). -/
def Reg.PWR_AWAKE_P : Nat := Page.PWR + 0x54
/-- PWR_AWAKE_M (R354). -/
def Reg.PWR_AWAKE_M : Nat := Page.PWR + 0x58
/-- PWR_GOVQ (R354). -/
def Reg.PWR_GOVQ : Nat := Page.PWR + 0x5C
/-- SAFE_CAUSE (R361). -/
def Reg.SAFE_CAUSE : Nat := Page.SAFE + 0x40
/-- SAFE_STATUS (R361). -/
def Reg.SAFE_STATUS : Nat := Page.SAFE + 0x44
/-- SAFE_KEY (R361). -/
def Reg.SAFE_KEY : Nat := Page.SAFE + 0x48
/-- SAFE_CMD (R361). -/
def Reg.SAFE_CMD : Nat := Page.SAFE + 0x4C
/-- SAFE_STREAMS (R361). -/
def Reg.SAFE_STREAMS : Nat := Page.SAFE + 0x50
/-- SAFE_T_LO (R361). -/
def Reg.SAFE_T_LO : Nat := Page.SAFE + 0x54
/-- SAFE_T_HI (R361). -/
def Reg.SAFE_T_HI : Nat := Page.SAFE + 0x58
/-- SAFE_ENTRIES (R361). -/
def Reg.SAFE_ENTRIES : Nat := Page.SAFE + 0x5C
/-- MGMT_CTRL (R389). -/
def Reg.MGMT_CTRL : Nat := Page.MGMT + 0x40
/-- MGMT_STATUS (R389). -/
def Reg.MGMT_STATUS : Nat := Page.MGMT + 0x44
/-- MGMT_CMD (R389). -/
def Reg.MGMT_CMD : Nat := Page.MGMT + 0x48
/-- MGMT_MBCMD (R389). -/
def Reg.MGMT_MBCMD : Nat := Page.MGMT + 0x4C
/-- MGMT_MBSTAT (R389). -/
def Reg.MGMT_MBSTAT : Nat := Page.MGMT + 0x50
/-- MGMT_FWSVN (R389). -/
def Reg.MGMT_FWSVN : Nat := Page.MGMT + 0x54
/-- MGMT_LOGSEQ (R389). -/
def Reg.MGMT_LOGSEQ : Nat := Page.MGMT + 0x58
/-- MGMT_RESTARTS (R389). -/
def Reg.MGMT_RESTARTS : Nat := Page.MGMT + 0x5C
/-- MGMT_REQ (R389). -/
def Reg.MGMT_REQ (j : Nat) : Nat := Page.MGMT + 0x400 + 0x4 * j
/-- MGMT_RSP (R389). -/
def Reg.MGMT_RSP (j : Nat) : Nat := Page.MGMT + 0x800 + 0x4 * j
/-- FUSE_ARB (R390). -/
def Reg.FUSE_ARB : Nat := Page.FUSE + 0x40
/-- FUSE_CFG0 (R390). -/
def Reg.FUSE_CFG0 : Nat := Page.FUSE + 0x44
/-- FUSE_PLOCK (R390). -/
def Reg.FUSE_PLOCK : Nat := Page.FUSE + 0x48
/-- FUSE_DEVID_LO (R390). -/
def Reg.FUSE_DEVID_LO : Nat := Page.FUSE + 0x4C
/-- FUSE_DEVID_HI (R390). -/
def Reg.FUSE_DEVID_HI : Nat := Page.FUSE + 0x50
/-- FUSE_CMD (R390). -/
def Reg.FUSE_CMD : Nat := Page.FUSE + 0x54
/-- FUSE_WORD (R390). -/
def Reg.FUSE_WORD (j : Nat) : Nat := Page.FUSE + 0x400 + 0x4 * j
/-- SNS_TJ (R391). -/
def Reg.SNS_TJ : Nat := Page.SNS + 0x40
/-- SNS_TLIM (R391). -/
def Reg.SNS_TLIM : Nat := Page.SNS + 0x44
/-- SNS_STATUS (R391). -/
def Reg.SNS_STATUS : Nat := Page.SNS + 0x48
/-- SNS_TMAX (R391). -/
def Reg.SNS_TMAX : Nat := Page.SNS + 0x4C
/-- SNS_T (R391). -/
def Reg.SNS_T (j : Nat) : Nat := Page.SNS + 0x100 + 0x4 * j
/-- TWN_CTRL (R410). -/
def Reg.TWN_CTRL : Nat := Page.TWN + 0x40
/-- TWN_STATUS (R410). -/
def Reg.TWN_STATUS : Nat := Page.TWN + 0x44
/-- TWN_CMD (R410). -/
def Reg.TWN_CMD : Nat := Page.TWN + 0x48
/-- TWN_TIMING (R410). -/
def Reg.TWN_TIMING : Nat := Page.TWN + 0x4C
/-- TWN_FOMASK (R410). -/
def Reg.TWN_FOMASK : Nat := Page.TWN + 0x50
/-- TWN_PROT (R410). -/
def Reg.TWN_PROT : Nat := Page.TWN + 0x54
/-- TWN_HRANGE (R410). -/
def Reg.TWN_HRANGE : Nat := Page.TWN + 0x58
/-- TWN_HSTAT (R410). -/
def Reg.TWN_HSTAT : Nat := Page.TWN + 0x5C
/-- TWN_JSEQ (R410). -/
def Reg.TWN_JSEQ : Nat := Page.TWN + 0x60
/-- TWN_JACK (R410). -/
def Reg.TWN_JACK : Nat := Page.TWN + 0x64
/-- TWN_DIRREJ (R410). -/
def Reg.TWN_DIRREJ : Nat := Page.TWN + 0x68
/-- CHIP_IDENT (R419). -/
def Reg.CHIP_IDENT : Nat := Page.CHIP + 0x40
/-- CHIP_REV (R419). -/
def Reg.CHIP_REV : Nat := Page.CHIP + 0x44
/-- CHIP_STRAP (R419). -/
def Reg.CHIP_STRAP : Nat := Page.CHIP + 0x48
/-- CLK_STATUS (R420). -/
def Reg.CLK_STATUS : Nat := Page.CLK + 0x40
/-- CLK_LOCKLOSS (R420). -/
def Reg.CLK_LOCKLOSS : Nat := Page.CLK + 0x44
/-- INTC_SWTRIG (R285). -/
def Reg.INTC_SWTRIG : Nat := Page.INTC_CTL + 0x40
/-- INTC_GRP (R285). -/
def Reg.INTC_GRP (j : Nat) : Nat := Page.INTC_CTL + 0x100 + 0x4 * j
/-- INTC_PEND (R285). -/
def Reg.INTC_PEND (j : Nat) : Nat := Page.INTC_CTL + 0x200 + 0x4 * j
/-- INTC_ACT (R285). -/
def Reg.INTC_ACT (j : Nat) : Nat := Page.INTC_CTL + 0x280 + 0x4 * j
/-- INTC_SRC (R285). -/
def Reg.INTC_SRC (j : Nat) : Nat := Page.INTC_SRC + 0x400 + 0x4 * j
/-- INTC_TCTRL (R285). -/
def Reg.INTC_TCTRL (j : Nat) : Nat := Page.INTC_TGT + 0x100 + 0x10 * j
/-- INTC_THR (R285). -/
def Reg.INTC_THR (j : Nat) : Nat := Page.INTC_TGT + 0x104 + 0x10 * j
/-- INTC_CLAIM (R285). -/
def Reg.INTC_CLAIM (j : Nat) : Nat := Page.INTC_TGT + 0x108 + 0x10 * j
/-- INTC_TSTAT (R285). -/
def Reg.INTC_TSTAT (j : Nat) : Nat := Page.INTC_TGT + 0x10C + 0x10 * j

/-! ## Rows of each page -/

/-- CHIP registers (R419). -/
def chipRows : List RegRow := [
  ⟨0x40, 0x0, 1, .ro, 0x46323536, 0x0, 0x0⟩,
  ⟨0x44, 0x0, 1, .ro, 0x4230, 0x0, 0x0⟩,
  ⟨0x48, 0x0, 1, .ro, 0x0, 0x0, 0x0⟩]
/-- CLK registers (R420). -/
def clkRows : List RegRow := [
  ⟨0x40, 0x0, 1, .ro, 0x0, 0x0, 0x0⟩,
  ⟨0x44, 0x0, 1, .rc, 0x0, 0x0, 0x0⟩]
/-- PWR registers (R26, R354). -/
def pwrRows : List RegRow := [
  ⟨0x40, 0x0, 1, .rw, 0x0, 0x0, 0x7⟩,
  ⟨0x44, 0x0, 1, .ro, 0x5, 0x0, 0x0⟩,
  ⟨0x48, 0x0, 1, .rw, 0x1F4, 0x0, 0x3FFF⟩,
  ⟨0x4C, 0x0, 1, .rw, 0x0, 0x0, 0xFFFF⟩,
  ⟨0x50, 0x0, 1, .rw, 0x0, 0x0, 0x3⟩,
  ⟨0x54, 0x0, 1, .ro, 0x0, 0x0, 0x0⟩,
  ⟨0x58, 0x0, 1, .ro, 0x0, 0x0, 0x0⟩,
  ⟨0x5C, 0x0, 1, .ro, 0x0, 0x0, 0x0⟩]
/-- FUSE registers (R390). -/
def fuseRows : List RegRow := [
  ⟨0x40, 0x0, 1, .ro, 0x0, 0x0, 0x0⟩,
  ⟨0x44, 0x0, 1, .ro, 0x0, 0x0, 0x0⟩,
  ⟨0x48, 0x0, 1, .ro, 0x0, 0x0, 0x0⟩,
  ⟨0x4C, 0x0, 1, .ro, 0x0, 0x0, 0x0⟩,
  ⟨0x50, 0x0, 1, .ro, 0x0, 0x0, 0x0⟩,
  ⟨0x54, 0x0, 1, .wo, 0x0, 0x0, 0x1⟩,
  ⟨0x400, 0x4, 256, .ro, 0x0, 0x0, 0x0⟩]
/-- MGMT registers (R389). -/
def mgmtRows : List RegRow := [
  ⟨0x40, 0x0, 1, .rw, 0x1, 0x0, 0x1⟩,
  ⟨0x44, 0x0, 1, .ro, 0x1000000, 0x0, 0x0⟩,
  ⟨0x48, 0x0, 1, .wo, 0x0, 0x0, 0x1⟩,
  ⟨0x4C, 0x0, 1, .wo, 0x0, 0x0, 0x3⟩,
  ⟨0x50, 0x0, 1, .ro, 0x0, 0x0, 0x0⟩,
  ⟨0x54, 0x0, 1, .ro, 0x0, 0x0, 0x0⟩,
  ⟨0x58, 0x0, 1, .ro, 0x0, 0x0, 0x0⟩,
  ⟨0x5C, 0x0, 1, .ro, 0x0, 0x0, 0x0⟩,
  ⟨0x400, 0x4, 256, .rw, 0x0, 0x0, 0xFFFFFFFF⟩,
  ⟨0x800, 0x4, 256, .ro, 0x0, 0x0, 0x0⟩]
/-- SNS registers (R391). -/
def snsRows : List RegRow := [
  ⟨0x40, 0x0, 1, .ro, 0x0, 0x0, 0x0⟩,
  ⟨0x44, 0x0, 1, .rwf, 0x80190, 0x0, 0xFF0FFF⟩,
  ⟨0x48, 0x0, 1, .ro, 0x0, 0x0, 0x0⟩,
  ⟨0x4C, 0x0, 1, .rc, 0x0, 0x0, 0x0⟩,
  ⟨0x100, 0x4, 20, .ro, 0x0, 0x0, 0x0⟩]
/-- SUP registers (R346). -/
def supRows : List RegRow := [
  ⟨0x40, 0x0, 1, .rw, 0xFF0005, 0x0, 0xFF00FF⟩,
  ⟨0x44, 0x0, 1, .ro, 0x0, 0x0, 0x0⟩,
  ⟨0x48, 0x0, 1, .rc, 0x0, 0x0, 0x0⟩,
  ⟨0x100, 0x10, 8, .rw, 0x0, 0x0, 0xFFF0FFF⟩,
  ⟨0x104, 0x10, 8, .ro, 0x0, 0x0, 0x0⟩,
  ⟨0x108, 0x10, 8, .rc, 0xFFF, 0x0, 0x0⟩]
/-- GRD registers (R351). -/
def grdRows : List RegRow := [
  ⟨0x40, 0x0, 1, .ro, 0x0, 0x0, 0x0⟩,
  ⟨0x44, 0x0, 1, .w1c, 0x0, 0x0, 0xFFFFFFFF⟩,
  ⟨0x48, 0x0, 1, .rw, 0x3E8, 0x0, 0xFFFFFF⟩,
  ⟨0x4C, 0x0, 1, .rw, 0x0, 0x0, 0x77777777⟩,
  ⟨0x50, 0x0, 1, .ro, 0x0, 0x0, 0x0⟩,
  ⟨0x100, 0x10, 32, .rw, 0x0, 0x0, 0xF8FF3F3F⟩,
  ⟨0x104, 0x10, 32, .rw, 0xFFF0000, 0x0, 0xFFF0FFF⟩,
  ⟨0x108, 0x10, 32, .rw, 0x0, 0x0, 0xFF⟩,
  ⟨0x10C, 0x10, 32, .ro, 0x0, 0x0, 0x0⟩]
/-- SAFE registers (R361). -/
def safeRows : List RegRow := [
  ⟨0x40, 0x0, 1, .w1c, 0x1, 0x0, 0x3FFF⟩,
  ⟨0x44, 0x0, 1, .ro, 0xB0000000, 0x0, 0x0⟩,
  ⟨0x48, 0x0, 1, .wo, 0x0, 0x0, 0xFFFFFFFF⟩,
  ⟨0x4C, 0x0, 1, .wo, 0x0, 0x0, 0x1⟩,
  ⟨0x50, 0x0, 1, .ro, 0x0, 0x0, 0x0⟩,
  ⟨0x54, 0x0, 1, .ro, 0x0, 0x0, 0x0⟩,
  ⟨0x58, 0x0, 1, .ro, 0x0, 0x0, 0x0⟩,
  ⟨0x5C, 0x0, 1, .ro, 0x0, 0x0, 0x0⟩]
/-- INTC_CTL registers (R285). -/
def intcCtlRows : List RegRow := [
  ⟨0x40, 0x0, 1, .wo, 0x0, 0x0, 0x3FF⟩,
  ⟨0x100, 0x4, 16, .rw, 0x10000, 0x0, 0x1FFFF⟩,
  ⟨0x200, 0x4, 32, .ro, 0x0, 0x0, 0x0⟩,
  ⟨0x280, 0x4, 32, .ro, 0x0, 0x0, 0x0⟩]
/-- INTC_SRC registers (R285). -/
def intcSrcRows : List RegRow := [
  ⟨0x400, 0x4, 512, .rw, 0x0, 0x0, 0xF0F0F0F⟩]
/-- INTC_TGT registers (R285). -/
def intcTgtRows : List RegRow := [
  ⟨0x100, 0x10, 17, .rw, 0x0, 0x0, 0x1⟩,
  ⟨0x104, 0x10, 17, .rw, 0x0, 0x0, 0xF⟩,
  ⟨0x108, 0x10, 17, .rw, 0x0, 0x0, 0x3FF⟩,
  ⟨0x10C, 0x10, 17, .ro, 0x0, 0x0, 0x0⟩]
/-- DISP registers (R284). -/
def dispRows : List RegRow := [
  ⟨0x40, 0x0, 1, .wo, 0x0, 0x0, 0xF0000FFF⟩,
  ⟨0x44, 0x0, 1, .ro, 0x0, 0x0, 0x0⟩,
  ⟨0x48, 0x0, 1, .rw, 0x10000000, 0x0, 0xFFFFFFFC⟩,
  ⟨0x4C, 0x0, 1, .rc, 0x0, 0x0, 0x0⟩,
  ⟨0x50, 0x0, 1, .ro, 0x0, 0x0, 0x0⟩,
  ⟨0x80, 0x4, 16, .rw, 0x0, 0x0, 0x3⟩,
  ⟨0x100, 0x4, 64, .rw, 0x400000, 0x0, 0xFFFF0000⟩,
  ⟨0x200, 0x4, 64, .ro, 0x0, 0x0, 0x0⟩,
  ⟨0x300, 0x4, 4, .rw, 0x3E8, 0x0, 0xFFFFFFFF⟩,
  ⟨0x310, 0x4, 4, .ro, 0x0, 0x0, 0x0⟩,
  ⟨0x400, 0x4, 128, .rw, 0x0, 0x0, 0x8F000FFF⟩]
/-- TIME registers (R339). -/
def timeRows : List RegRow := [
  ⟨0x40, 0x0, 1, .ro, 0x0, 0x0, 0x0⟩,
  ⟨0x44, 0x0, 1, .ro, 0x0, 0x0, 0x0⟩,
  ⟨0x48, 0x0, 1, .ro, 0x0, 0x0, 0x0⟩,
  ⟨0x80, 0x10, 4, .rw, 0x1, 0x0, 0xE00000FF⟩,
  ⟨0x84, 0x10, 4, .rw, 0x0, 0x0, 0xFFFFFFFF⟩,
  ⟨0x88, 0x10, 4, .rw, 0x0, 0x0, 0xFFFFFFFF⟩,
  ⟨0x8C, 0x10, 4, .rw, 0xC80, 0x0, 0xFFFFFFFF⟩]
/-- VIA registers (R340). -/
def viaRows : List RegRow := [
  ⟨0x40, 0x0, 1, .rw, 0xB, 0x0, 0xF⟩,
  ⟨0x44, 0x0, 1, .ro, 0x10, 0x0, 0x0⟩,
  ⟨0x48, 0x0, 1, .wo, 0x0, 0x0, 0x1F⟩,
  ⟨0x4C, 0x0, 1, .rw, 0x0, 0x0, 0xFFFFFFFF⟩,
  ⟨0x50, 0x0, 1, .rw, 0x0, 0x0, 0xFFFFFFFF⟩,
  ⟨0x54, 0x0, 1, .rws, 0x0, 0x0, 0xFFFFFFFF⟩,
  ⟨0x58, 0x0, 1, .rw, 0x0, 0x0, 0xFFFF⟩,
  ⟨0x5C, 0x0, 1, .ro, 0x0, 0x0, 0x0⟩,
  ⟨0x60, 0x0, 1, .ro, 0x0, 0x0, 0x0⟩,
  ⟨0x64, 0x0, 1, .ro, 0x0, 0x0, 0x0⟩,
  ⟨0x68, 0x0, 1, .rw, 0x50, 0x0, 0xFFFF⟩,
  ⟨0x6C, 0x0, 1, .rw, 0x3E8, 0x0, 0xFFFF⟩,
  ⟨0x70, 0x0, 1, .rw, 0x0, 0x0, 0xFFFFFFFF⟩,
  ⟨0x74, 0x0, 1, .rw, 0x0, 0x0, 0xFFFFFFFF⟩,
  ⟨0x78, 0x0, 1, .rw, 0x0, 0x0, 0x7F⟩,
  ⟨0x7C, 0x0, 1, .ro, 0x0, 0x0, 0x0⟩,
  ⟨0x80, 0x0, 1, .rc, 0x0, 0x0, 0x0⟩]
/-- TRS registers (R308). -/
def trsRows : List RegRow := [
  ⟨0x40, 0x0, 1, .rw, 0x1FFFF, 0x0, 0x1FFFF⟩,
  ⟨0x44, 0x0, 1, .ro, 0x0, 0x0, 0x0⟩,
  ⟨0x48, 0x0, 1, .wo, 0x0, 0x0, 0x7⟩,
  ⟨0x4C, 0x0, 1, .rw, 0x0, 0x0, 0xFFFF0073⟩,
  ⟨0x50, 0x0, 1, .rc, 0x0, 0x0, 0x0⟩,
  ⟨0x54, 0x0, 1, .rc, 0x0, 0x0, 0x0⟩,
  ⟨0x58, 0x0, 1, .rw, 0x0, 0x0, 0xFFFFFF⟩,
  ⟨0x5C, 0x0, 1, .wo, 0x0, 0x0, 0xFF⟩,
  ⟨0x60, 0x0, 1, .ro, 0x0, 0x0, 0x0⟩,
  ⟨0x80, 0x20, 2, .rw, 0x0, 0x0, 0xFFFFFFE0⟩,
  ⟨0x84, 0x20, 2, .rw, 0x0, 0x0, 0xFFFFFFFF⟩,
  ⟨0x88, 0x20, 2, .rw, 0x0, 0x0, 0xFFFF⟩,
  ⟨0x8C, 0x20, 2, .rw, 0x0, 0x0, 0xFFFF⟩,
  ⟨0x90, 0x20, 2, .ro, 0x0, 0x0, 0x0⟩,
  ⟨0x94, 0x20, 2, .rw, 0x0, 0x0, 0x8000FFFF⟩,
  ⟨0x98, 0x20, 2, .ro, 0x0, 0x0, 0x0⟩,
  ⟨0x100, 0x4, 16, .rw, 0x8000800, 0x0, 0x3F3F3F00⟩,
  ⟨0x140, 0x4, 16, .ro, 0x0, 0x0, 0x0⟩]
/-- EVQ registers (R309). -/
def evqRows : List RegRow := [
  ⟨0x40, 0x0, 1, .rw, 0x0, 0x0, 0x8001FFFF⟩,
  ⟨0x44, 0x0, 1, .ro, 0x1, 0x0, 0x0⟩,
  ⟨0x48, 0x0, 1, .rw, 0x0, 0x0, 0xFFFFF000⟩,
  ⟨0x4C, 0x0, 1, .rw, 0x0, 0x0, 0xFFFFFFFF⟩,
  ⟨0x50, 0x0, 1, .rw, 0xC, 0x0, 0x1F⟩,
  ⟨0x54, 0x0, 1, .ro, 0x0, 0x0, 0x0⟩,
  ⟨0x58, 0x0, 1, .rw, 0x0, 0x0, 0xFFFFFFFF⟩,
  ⟨0x5C, 0x0, 1, .rw, 0x4000000, 0x0, 0xFFFFFFFF⟩,
  ⟨0x60, 0x0, 1, .rc, 0x0, 0x0, 0x0⟩,
  ⟨0x64, 0x0, 1, .ro, 0x0, 0x0, 0x0⟩]
/-- MEM registers (R235). -/
def memRows : List RegRow := [
  ⟨0x40, 0x0, 1, .rw, 0x180003, 0x0, 0xFF0003⟩,
  ⟨0x44, 0x0, 1, .ro, 0x0, 0x0, 0x0⟩,
  ⟨0x48, 0x0, 1, .ro, 0x0, 0x0, 0x0⟩,
  ⟨0x4C, 0x0, 1, .rc, 0x0, 0x0, 0x0⟩,
  ⟨0x50, 0x0, 1, .rc, 0x0, 0x0, 0x0⟩,
  ⟨0x54, 0x0, 1, .ro, 0x0, 0x0, 0x0⟩,
  ⟨0x58, 0x0, 1, .ro, 0x0, 0x0, 0x0⟩]
/-- LDG registers (R237). -/
def ldgRows : List RegRow := [
  ⟨0x40, 0x0, 1, .wo, 0x0, 0x0, 0x3⟩,
  ⟨0x44, 0x0, 1, .rw, 0x0, 0x0, 0xFFFF⟩,
  ⟨0x48, 0x0, 1, .ro, 0x0, 0x0, 0x0⟩,
  ⟨0x4C, 0x0, 1, .ro, 0x0, 0x0, 0x0⟩,
  ⟨0x50, 0x0, 1, .rw, 0x500050, 0x0, 0xFFFFFFFF⟩,
  ⟨0x54, 0x0, 1, .ro, 0x53880, 0x0, 0x0⟩,
  ⟨0x58, 0x0, 1, .ro, 0x53880, 0x0, 0x0⟩,
  ⟨0x5C, 0x0, 1, .ro, 0x4B0000, 0x0, 0x0⟩,
  ⟨0x100, 0x10, 16, .rw, 0x10000, 0x0, 0x30FFF⟩,
  ⟨0x104, 0x10, 16, .ro, 0x7D7D, 0x0, 0x0⟩,
  ⟨0x108, 0x10, 16, .ro, 0x0, 0x0, 0x0⟩,
  ⟨0x10C, 0x10, 16, .ro, 0x0, 0x0, 0x0⟩]
/-- CAL registers (R256). -/
def calRows : List RegRow := [
  ⟨0x40, 0x0, 1, .rw, 0x8001E, 0x0, 0xFF001E⟩,
  ⟨0x44, 0x0, 1, .ro, 0x0, 0x0, 0x0⟩,
  ⟨0x48, 0x0, 1, .wo, 0x0, 0x0, 0x7D⟩,
  ⟨0x4C, 0x0, 1, .rw, 0x258, 0x0, 0xFFFF⟩,
  ⟨0x50, 0x0, 1, .rw, 0xC, 0x0, 0xFF⟩,
  ⟨0x54, 0x0, 1, .rw, 0x182800A0, 0x0, 0xFFFFFFFF⟩,
  ⟨0x58, 0x0, 1, .rw, 0xC8, 0x0, 0xFFFF⟩,
  ⟨0x5C, 0x0, 1, .ro, 0x0, 0x0, 0x0⟩,
  ⟨0x60, 0x0, 1, .ro, 0x0, 0x0, 0x0⟩,
  ⟨0x64, 0x0, 1, .ro, 0x0, 0x0, 0x0⟩,
  ⟨0x68, 0x0, 1, .ro, 0x0, 0x0, 0x0⟩,
  ⟨0x6C, 0x0, 1, .ro, 0x0, 0x0, 0x0⟩,
  ⟨0x70, 0x0, 1, .ro, 0x0, 0x0, 0x0⟩,
  ⟨0x74, 0x0, 1, .ro, 0x0, 0x0, 0x0⟩,
  ⟨0x80, 0x4, 8, .rw, 0xFFFFFFFF, 0x0, 0xFFFFFFFF⟩,
  ⟨0xA0, 0x4, 8, .ro, 0x0, 0x0, 0x0⟩]
/-- TWN registers (R410). -/
def twnRows : List RegRow := [
  ⟨0x40, 0x0, 1, .rw, 0x2, 0x0, 0x7⟩,
  ⟨0x44, 0x0, 1, .ro, 0x400, 0x0, 0x0⟩,
  ⟨0x48, 0x0, 1, .wo, 0x0, 0x0, 0x3⟩,
  ⟨0x4C, 0x0, 1, .rw, 0x4B0032, 0x0, 0xFFFFFFFF⟩,
  ⟨0x50, 0x0, 1, .rw, 0xB4, 0x0, 0x2FFF⟩,
  ⟨0x54, 0x0, 1, .rw, 0x0, 0x0, 0xFFFF⟩,
  ⟨0x58, 0x0, 1, .rw, 0xFFFF0000, 0x0, 0xFFFFFFFF⟩,
  ⟨0x5C, 0x0, 1, .ro, 0x0, 0x0, 0x0⟩,
  ⟨0x60, 0x0, 1, .ro, 0x0, 0x0, 0x0⟩,
  ⟨0x64, 0x0, 1, .ro, 0x0, 0x0, 0x0⟩,
  ⟨0x68, 0x0, 1, .rc, 0x0, 0x0, 0x0⟩]
/-- UCS registers (R148). -/
def ucsRows : List RegRow := [
  ⟨0x40, 0x0, 1, .rw, 0x1, 0x0, 0x1⟩,
  ⟨0x44, 0x0, 1, .ro, 0x0, 0x0, 0x0⟩,
  ⟨0x48, 0x0, 1, .wo, 0x0, 0x0, 0x33⟩,
  ⟨0x4C, 0x0, 1, .rw, 0x0, 0x0, 0xFFFFFFC0⟩,
  ⟨0x50, 0x0, 1, .rw, 0x0, 0x0, 0xF⟩,
  ⟨0x54, 0x0, 1, .rw, 0x0, 0x0, 0x7FFF⟩,
  ⟨0x58, 0x0, 1, .ro, 0xFFFF0000, 0x0, 0x0⟩,
  ⟨0x5C, 0x0, 1, .rw, 0x0, 0x0, 0xFFFF⟩,
  ⟨0x60, 0x0, 1, .ro, 0x0, 0x0, 0x0⟩,
  ⟨0x64, 0x0, 1, .ro, 0x0, 0x0, 0x0⟩,
  ⟨0x68, 0x0, 1, .ro, 0x0, 0x0, 0x0⟩,
  ⟨0x6C, 0x0, 1, .ro, 0x0, 0x0, 0x0⟩,
  ⟨0x70, 0x0, 1, .rc, 0x0, 0x0, 0x0⟩,
  ⟨0x74, 0x0, 1, .rc, 0x0, 0x0, 0x0⟩]
/-- PEB registers (R64). -/
def pebRows : List RegRow := [
  ⟨0x40, 0x20, 8, .rw, 0x37C20, 0x0, 0xFFFFFB⟩,
  ⟨0x44, 0x20, 8, .rw, 0x0, 0x0, 0xFFFFFFFF⟩,
  ⟨0x48, 0x20, 8, .rw, 0x0, 0x0, 0xFFFFFFFF⟩,
  ⟨0x4C, 0x20, 8, .wo, 0x0, 0x0, 0x103⟩,
  ⟨0x50, 0x20, 8, .ro, 0x0, 0x0, 0x0⟩,
  ⟨0x54, 0x20, 8, .ro, 0x0, 0x0, 0x0⟩,
  ⟨0x58, 0x20, 8, .ro, 0x0, 0x0, 0x0⟩,
  ⟨0x5C, 0x20, 8, .rw, 0x0, 0x0, 0xFFFFFFFF⟩]
/-- MCH registers (R236). -/
def mchRows : List RegRow := [
  ⟨0x40, 0x0, 1, .rw, 0x20, 0x0, 0xFF⟩,
  ⟨0x44, 0x0, 1, .ro, 0x0, 0x0, 0x0⟩,
  ⟨0x48, 0x0, 1, .rc, 0x0, 0x0, 0x0⟩,
  ⟨0x4C, 0x0, 1, .rc, 0x0, 0x0, 0x0⟩,
  ⟨0x50, 0x0, 1, .rc, 0x0, 0x0, 0x0⟩,
  ⟨0x54, 0x0, 1, .ro, 0x0, 0x0, 0x0⟩]
/-- STR registers (R72, R125, R158). -/
def strRowsA : List RegRow := [
  ⟨0x800, 0x8, 256, .rw, 0xFFF, 0x0, 0xFFFFFFFF⟩,
  ⟨0x804, 0x8, 256, .rw, 0x0, 0x0, 0xFFFF⟩,
  ⟨0x40, 0x0, 1, .rw, 0x10, 0x0, 0x13⟩,
  ⟨0x44, 0x0, 1, .ro, 0x0, 0x0, 0x0⟩,
  ⟨0x48, 0x0, 1, .wo, 0x0, 0x0, 0x13F⟩,
  ⟨0x4C, 0x0, 1, .rw, 0x0, 0x0, 0x3FFFF⟩,
  ⟨0x50, 0x0, 1, .rw, 0x0, 0x0, 0xFFFFFFFF⟩,
  ⟨0x54, 0x0, 1, .rw, 0x0, 0x0, 0xFFFFFFFF⟩,
  ⟨0x58, 0x0, 1, .rw, 0x10, 0x0, 0xFF0007FF⟩,
  ⟨0x5C, 0x0, 1, .ro, 0x28, 0x0, 0x0⟩,
  ⟨0x60, 0x0, 1, .rw, 0x0, 0x0, 0x8003FFFF⟩,
  ⟨0x64, 0x0, 1, .w1s, 0x0, 0x0, 0xFFFFFFFF⟩,
  ⟨0x68, 0x0, 1, .w1c, 0x0, 0x0, 0xFFFFFFFF⟩,
  ⟨0x6C, 0x0, 1, .ro, 0x0, 0x0, 0x0⟩,
  ⟨0x70, 0x0, 1, .rw, 0xFFFFFFFF, 0x0, 0xFFFFFFFF⟩,
  ⟨0x74, 0x0, 1, .rw, 0xFFFFFFFF, 0x0, 0xFFFFFFFF⟩,
  ⟨0x78, 0x0, 1, .ro, 0x0, 0x0, 0x0⟩,
  ⟨0x7C, 0x0, 1, .ro, 0x0, 0x0, 0x0⟩,
  ⟨0x80, 0x0, 1, .ro, 0x0, 0x0, 0x0⟩,
  ⟨0x84, 0x0, 1, .ro, 0x0, 0x0, 0x0⟩,
  ⟨0x88, 0x0, 1, .ro, 0x0, 0x0, 0x0⟩,
  ⟨0x8C, 0x0, 1, .ro, 0x0, 0x0, 0x0⟩,
  ⟨0x90, 0x0, 1, .ro, 0x0, 0x0, 0x0⟩,
  ⟨0x94, 0x0, 1, .ro, 0x0, 0x0, 0x0⟩,
  ⟨0x98, 0x0, 1, .ro, 0x0, 0x0, 0x0⟩,
  ⟨0x9C, 0x0, 1, .rw, 0x0, 0x0, 0xFF⟩,
  ⟨0xA0, 0x0, 1, .ro, 0x0, 0x0, 0x0⟩,
  ⟨0xA4, 0x0, 1, .ro, 0x0, 0x0, 0x0⟩,
  ⟨0xA8, 0x0, 1, .ro, 0x0, 0x0, 0x0⟩,
  ⟨0x100, 0x4, 16, .rw, 0x0, 0x0, 0xFFFFFFFF⟩,
  ⟨0x200, 0x0, 1, .rw, 0x0, 0x0, 0x3F000E⟩,
  ⟨0x204, 0x0, 1, .ro, 0x0, 0x0, 0x0⟩,
  ⟨0x208, 0x0, 1, .rw, 0x0, 0x0, 0xFF⟩,
  ⟨0x20C, 0x0, 1, .rw, 0x0, 0x0, 0xBFFFFFF0⟩,
  ⟨0x210, 0x0, 1, .rw, 0x0, 0x0, 0xFFFFFF⟩,
  ⟨0x214, 0x0, 1, .rw, 0x0, 0x0, 0xFFFFFF⟩,
  ⟨0x218, 0x0, 1, .rw, 0x0, 0x0, 0xFF⟩,
  ⟨0x21C, 0x0, 1, .rw, 0x0, 0x0, 0xFFFFFF⟩,
  ⟨0x220, 0x0, 1, .rw, 0x0, 0x0, 0xFFFFFF⟩,
  ⟨0x224, 0x0, 1, .rw, 0x0, 0x0, 0xFF⟩]
/-- STR registers (R158). -/
def strRowsB : List RegRow := [
  ⟨0x228, 0x0, 1, .rw, 0x0, 0x0, 0xFFFFFF⟩,
  ⟨0x22C, 0x0, 1, .rw, 0xFFFFFF, 0x0, 0xFFFFFF⟩,
  ⟨0x230, 0x0, 1, .rw, 0x0, 0x0, 0xFFFFFF⟩,
  ⟨0x234, 0x0, 1, .rw, 0xFFFFFF, 0x0, 0xFFFFFF⟩,
  ⟨0x238, 0x0, 1, .rw, 0x1FF00, 0x0, 0xFFFFFF⟩,
  ⟨0x23C, 0x0, 1, .rw, 0x1, 0x0, 0xFFFFFF⟩,
  ⟨0x240, 0x0, 1, .rw, 0x1, 0x0, 0xFFFFFF⟩,
  ⟨0x244, 0x0, 1, .rw, 0x0, 0x0, 0xFFFFFFFF⟩,
  ⟨0x248, 0x0, 1, .rw, 0x0, 0x0, 0xFFFFFFFF⟩,
  ⟨0x24C, 0x0, 1, .rw, 0x0, 0x0, 0xFFFFFFFF⟩,
  ⟨0x250, 0x0, 1, .rw, 0x0, 0x0, 0xFFFFFFFF⟩,
  ⟨0x254, 0x0, 1, .rw, 0x0, 0x0, 0xFFFFFFFF⟩,
  ⟨0x258, 0x0, 1, .rw, 0x0, 0x0, 0xFFFFFFFF⟩,
  ⟨0x25C, 0x0, 1, .rw, 0x0, 0x0, 0xFFFFFF⟩,
  ⟨0x260, 0x0, 1, .rw, 0x0, 0x0, 0xFFFFFF⟩,
  ⟨0x264, 0x0, 1, .rw, 0x0, 0x0, 0xFF⟩,
  ⟨0x268, 0x0, 1, .rw, 0x0, 0x0, 0xFFFFFFFF⟩,
  ⟨0x26C, 0x0, 1, .rw, 0x0, 0x0, 0xFFFFFFFF⟩,
  ⟨0x280, 0x4, 16, .rw, 0x0, 0x0, 0xFFF00000⟩,
  ⟨0x2C0, 0x4, 14, .rw, 0x3020100, 0x4040404, 0xBFBFBFBF⟩]
/-- All STR registers. -/
def strRows : List RegRow := strRowsA ++ strRowsB
/-- PIER registers (R62). -/
def pierRows : List RegRow := [
  ⟨0x40, 0x0, 1, .rw, 0x0, 0x0, 0x1F01⟩,
  ⟨0x44, 0x0, 1, .ro, 0xC, 0x0, 0x0⟩,
  ⟨0x48, 0x0, 1, .wo, 0x0, 0x0, 0x1⟩,
  ⟨0x4C, 0x0, 1, .rw, 0x0, 0x0, 0x3F3F3F⟩,
  ⟨0x50, 0x0, 1, .rw, 0xFFFFFFFF, 0x0, 0xFFFFFFFF⟩,
  ⟨0x54, 0x0, 1, .rw, 0xFFFFFFFF, 0x0, 0xFFFFFFFF⟩,
  ⟨0x58, 0x0, 1, .ro, 0x0, 0x0, 0x0⟩]
/-- CAP registers (R194). -/
def capRows : List RegRow := [
  ⟨0x40, 0x0, 1, .rw, 0x0, 0x0, 0x1F01F3⟩,
  ⟨0x44, 0x0, 1, .ro, 0x0, 0x0, 0x0⟩,
  ⟨0x48, 0x0, 1, .wo, 0x0, 0x0, 0x3⟩,
  ⟨0x4C, 0x0, 1, .rw, 0x0, 0x0, 0xFFFFFFC0⟩,
  ⟨0x50, 0x0, 1, .rw, 0x0, 0x0, 0xF⟩,
  ⟨0x54, 0x0, 1, .rw, 0x2, 0x0, 0xFFFFFFF⟩,
  ⟨0x58, 0x0, 1, .rw, 0x1, 0x0, 0x1FFFFF⟩,
  ⟨0x5C, 0x0, 1, .rw, 0x0, 0x0, 0xFFFFFF⟩,
  ⟨0x60, 0x0, 1, .rw, 0x1, 0x0, 0xFFFFFFFF⟩,
  ⟨0x64, 0x0, 1, .wo, 0x0, 0x0, 0xBFFFFFFF⟩,
  ⟨0x68, 0x0, 1, .rw, 0x0, 0x0, 0xFFFFFFC0⟩,
  ⟨0x6C, 0x0, 1, .rw, 0x0, 0x0, 0xF⟩,
  ⟨0x70, 0x0, 1, .rw, 0x0, 0x0, 0x3FFFFFFF⟩,
  ⟨0x74, 0x0, 1, .ro, 0x0, 0x0, 0x0⟩,
  ⟨0x78, 0x0, 1, .ro, 0x0, 0x0, 0x0⟩,
  ⟨0x7C, 0x0, 1, .ro, 0x0, 0x0, 0x0⟩,
  ⟨0x80, 0x0, 1, .ro, 0x0, 0x0, 0x0⟩,
  ⟨0x84, 0x0, 1, .ro, 0x0, 0x0, 0x0⟩,
  ⟨0x88, 0x0, 1, .ro, 0x0, 0x0, 0x0⟩,
  ⟨0x8C, 0x0, 1, .rc, 0x0, 0x0, 0x0⟩,
  ⟨0x90, 0x0, 1, .rc, 0x0, 0x0, 0x0⟩,
  ⟨0x100, 0x4, 16, .ro, 0x0, 0x0, 0x0⟩,
  ⟨0x200, 0x4, 64, .ro, 0x0, 0x0, 0x0⟩,
  ⟨0x300, 0x4, 64, .rw, 0xFFFFFFFF, 0x0, 0xFFFFFFFF⟩,
  ⟨0x400, 0x4, 64, .ro, 0x0, 0x0, 0x0⟩]
/-- TRG registers (R195). -/
def trgRows : List RegRow := [
  ⟨0x40, 0x0, 1, .rw, 0x300, 0x0, 0xFF0F⟩,
  ⟨0x44, 0x0, 1, .ro, 0x0, 0x0, 0x0⟩,
  ⟨0x48, 0x0, 1, .ro, 0x0, 0x0, 0x0⟩,
  ⟨0x4C, 0x0, 1, .ro, 0x0, 0x0, 0x0⟩,
  ⟨0x50, 0x0, 1, .ro, 0x0, 0x0, 0x0⟩,
  ⟨0x60, 0x10, 4, .rw, 0x8000000, 0x0, 0xFF9F0000⟩,
  ⟨0x64, 0x10, 4, .rw, 0x0, 0x0, 0xFFFFFFFF⟩,
  ⟨0x68, 0x10, 4, .rw, 0x0, 0x0, 0xFFFFFFFF⟩,
  ⟨0x6C, 0x10, 4, .rw, 0x200, 0x0, 0xFF03FF⟩,
  ⟨0xA0, 0x0, 1, .rw, 0x0, 0x0, 0xFCFFFF07⟩,
  ⟨0xA4, 0x0, 1, .rw, 0x70002, 0x0, 0xFFFFFFFF⟩,
  ⟨0xA8, 0x0, 1, .ro, 0x0, 0x0, 0x0⟩,
  ⟨0xAC, 0x0, 1, .ro, 0x0, 0x0, 0x0⟩,
  ⟨0xB0, 0x0, 1, .ro, 0x0, 0x0, 0x0⟩]
/-- IVM registers (R213). -/
def ivmRows : List RegRow := [
  ⟨0x40, 0x0, 1, .rw, 0x40, 0x0, 0xFF00007F⟩,
  ⟨0x44, 0x0, 1, .ro, 0x0, 0x0, 0x0⟩,
  ⟨0x48, 0x0, 1, .wo, 0x0, 0x0, 0xF⟩,
  ⟨0x4C, 0x0, 1, .rw, 0x3FF, 0x0, 0xC3FF⟩,
  ⟨0x50, 0x0, 1, .rw, 0x3FF, 0x0, 0xC3FF⟩,
  ⟨0x54, 0x0, 1, .rw, 0x0, 0x0, 0xFFFF⟩,
  ⟨0x58, 0x0, 1, .rw, 0x0, 0x0, 0xFFFFFFFF⟩,
  ⟨0x5C, 0x0, 1, .rw, 0x0, 0x0, 0x1FFFF⟩,
  ⟨0x60, 0x0, 1, .rw, 0x0, 0x0, 0xFFFF⟩,
  ⟨0x64, 0x0, 1, .rw, 0x0, 0x0, 0xFFFF⟩,
  ⟨0x68, 0x0, 1, .rw, 0x0, 0x0, 0xFFFFFF⟩,
  ⟨0x6C, 0x0, 1, .ro, 0x0, 0x0, 0x0⟩,
  ⟨0x70, 0x0, 1, .ro, 0x0, 0x0, 0x0⟩,
  ⟨0x74, 0x0, 1, .ro, 0x0, 0x0, 0x0⟩,
  ⟨0x78, 0x0, 1, .ro, 0x0, 0x0, 0x0⟩,
  ⟨0x7C, 0x0, 1, .ro, 0x0, 0x0, 0x0⟩,
  ⟨0x80, 0x0, 1, .ro, 0x0, 0x0, 0x0⟩,
  ⟨0x84, 0x0, 1, .ro, 0x0, 0x0, 0x0⟩,
  ⟨0x88, 0x0, 1, .ro, 0x0, 0x0, 0x0⟩,
  ⟨0x8C, 0x0, 1, .rc, 0x0, 0x0, 0x0⟩,
  ⟨0x90, 0x0, 1, .rc, 0x0, 0x0, 0x0⟩,
  ⟨0x94, 0x0, 1, .ro, 0x0, 0x0, 0x0⟩,
  ⟨0x98, 0x0, 1, .ro, 0x0, 0x0, 0x0⟩]
/-- CHN registers (R63). -/
def chnRows : List RegRow := [
  ⟨0x40, 0x0, 1, .rw, 0x0, 0x0, 0xF8FF7F30⟩,
  ⟨0x44, 0x0, 1, .rw, 0x0, 0x0, 0x7F⟩,
  ⟨0x48, 0x0, 1, .rw, 0x0, 0x0, 0x1FFFF⟩,
  ⟨0x4C, 0x0, 1, .rw, 0x0, 0x0, 0x3FFFF⟩,
  ⟨0x50, 0x0, 1, .rw, 0x0, 0x0, 0xFFF⟩,
  ⟨0x54, 0x0, 1, .ro, 0x0, 0x0, 0x0⟩,
  ⟨0x100, 0x4, 16, .rw, 0xAAAAAAAA, 0x0, 0xFFFFFFFF⟩]
/-- NCP registers (R263). -/
def ncpRows : List RegRow := [
  ⟨0x0, 0x0, 1, .ro, 0x0, 0x0, 0x0⟩,
  ⟨0x4, 0x0, 1, .ro, 0x0, 0x0, 0x0⟩,
  ⟨0x8, 0x0, 1, .ro, 0x0, 0x0, 0x0⟩,
  ⟨0xC, 0x0, 1, .ro, 0x0, 0x0, 0x0⟩,
  ⟨0x10, 0x4, 4, .ro, 0x0, 0x0, 0x0⟩,
  ⟨0x20, 0x0, 1, .ro, 0x0, 0x0, 0x0⟩,
  ⟨0x24, 0x0, 1, .wo, 0x0, 0x0, 0xFFFFFFFF⟩,
  ⟨0x28, 0x0, 1, .ro, 0x0, 0x0, 0x0⟩,
  ⟨0x2C, 0x0, 1, .rw, 0x0, 0x0, 0x1⟩,
  ⟨0x30, 0x0, 1, .rw, 0x0, 0x0, 0xFF⟩,
  ⟨0x34, 0x0, 1, .rw, 0x0, 0x0, 0xFF⟩,
  ⟨0x38, 0x0, 1, .rw, 0xFFFFFFFF, 0x0, 0xFFFFFFFF⟩,
  ⟨0x3C, 0x0, 1, .rw, 0xFFFFFFFF, 0x0, 0xFFFFFFFF⟩]

/-- The registers of a block's page, the header apart. -/
def Block.rows : Block → List RegRow
  | .chip => chipRows
  | .clk => clkRows
  | .pwr => pwrRows
  | .fuse => fuseRows
  | .mgmt => mgmtRows
  | .sns => snsRows
  | .sup => supRows
  | .grd => grdRows
  | .safe => safeRows
  | .intcCtl => intcCtlRows
  | .intcSrc => intcSrcRows
  | .intcTgt => intcTgtRows
  | .disp => dispRows
  | .time => timeRows
  | .via => viaRows
  | .trs => trsRows
  | .evq => evqRows
  | .mem => memRows
  | .ldg => ldgRows
  | .cal => calRows
  | .twn => twnRows
  | .ucs => ucsRows
  | .peb => pebRows
  | .mch => mchRows
  | .str => strRows
  | .pier => pierRows
  | .cap => capRows
  | .trg => trgRows
  | .ivm => ivmRows
  | .chn => chnRows

/-- The index of pages (R421), with the header properties of R413. -/
def pageTable : List PageRow := [
  ⟨.chip, 0x0, 1, 0x1, 0x0, false, false, true, false⟩,
  ⟨.clk, 0x1000, 1, 0x2, 0x3, false, false, false, false⟩,
  ⟨.pwr, 0x2000, 1, 0x3, 0x7, false, false, true, false⟩,
  ⟨.fuse, 0x3000, 1, 0x4, 0x7, false, false, true, false⟩,
  ⟨.mgmt, 0x4000, 1, 0x5, 0xF, false, false, true, false⟩,
  ⟨.sns, 0x5000, 1, 0x6, 0x3, false, false, true, false⟩,
  ⟨.sup, 0x6000, 1, 0x7, 0xFFFF, false, false, true, false⟩,
  ⟨.grd, 0x7000, 1, 0x8, 0xFFFFFFFF, true, false, true, false⟩,
  ⟨.safe, 0x8000, 1, 0x9, 0x7, false, false, true, false⟩,
  ⟨.intcCtl, 0x9000, 1, 0xA, 0x0, false, false, false, false⟩,
  ⟨.intcSrc, 0xA000, 1, 0xA, 0x0, false, false, false, false⟩,
  ⟨.intcTgt, 0xB000, 1, 0xA, 0x0, false, false, false, false⟩,
  ⟨.disp, 0xC000, 1, 0xB, 0xF, false, false, false, false⟩,
  ⟨.time, 0xD000, 1, 0xC, 0x3, false, false, false, false⟩,
  ⟨.via, 0xE000, 1, 0xD, 0xFF, false, false, false, false⟩,
  ⟨.trs, 0xF000, 1, 0xE, 0xFFFF011F, false, false, false, false⟩,
  ⟨.evq, 0x10000, 1, 0xF, 0x3, false, false, false, false⟩,
  ⟨.mem, 0x11000, 1, 0x10, 0x0, false, false, false, false⟩,
  ⟨.ldg, 0x12000, 1, 0x11, 0x7, false, true, false, false⟩,
  ⟨.cal, 0x13000, 1, 0x12, 0x1F, false, false, false, false⟩,
  ⟨.twn, 0x14000, 1, 0x13, 0x3F, false, false, false, false⟩,
  ⟨.ucs, 0x15000, 1, 0x14, 0x1F, false, false, false, false⟩,
  ⟨.peb, 0x16000, 1, 0x15, 0xFFFF, false, false, false, false⟩,
  ⟨.mch, 0x20000, 32, 0x20, 0x3F, false, false, false, false⟩,
  ⟨.str, 0x40000, 16, 0x30, 0xFF, false, true, false, false⟩,
  ⟨.pier, 0x50000, 16, 0x40, 0x0, false, true, false, true⟩,
  ⟨.cap, 0x60000, 16, 0x50, 0x3F, true, true, false, false⟩,
  ⟨.trg, 0x70000, 16, 0x60, 0x3F, false, true, false, false⟩,
  ⟨.ivm, 0x80000, 32, 0x70, 0xF, false, false, false, false⟩,
  ⟨.chn, 0x100000, 256, 0x80, 0x0, true, true, false, true⟩]

/-- The page that holds address `a`, with its instance (R411). -/
def pageAt (a : Nat) : Option (PageRow × Nat) :=
  match pageTable.find? (fun p => p.base ≤ a && a < p.base + 0x1000 * p.count) with
  | some p => some (p, (a - p.base) / 0x1000)
  | none => none

/-- The index within row `r` of the register at page offset `o`. -/
def RegRow.index? (r : RegRow) (o : Nat) : Option Nat :=
  if o < r.off then none
  else if r.stride = 0 then (if o = r.off then some 0 else none)
  else if (o - r.off) % r.stride = 0 ∧ (o - r.off) / r.stride < r.count then some ((o - r.off) / r.stride)
  else none

/-- The row and index of the register at page offset `o` in a list of rows. -/
def findRow (rows : List RegRow) (o : Nat) : Option (RegRow × Nat) :=
  match rows with
  | [] => none
  | r :: rs =>
    match r.index? o with
    | some i => some (r, i)
    | none => findRow rs o

/-- The reset values of SUP_THRr, r = 0–7 (R346). -/
def supThrReset : List Nat :=
  [0x030502E2, 0x039F0375, 0x04EC0488, 0x036C0344, 0x046D0436, 0x01A40184, 0x073E06E4, 0x076206CC]

/-- How many bits of the 32-bit mask `m` are 1. -/
def evtCount (m : Nat) : Nat := popCount m 32

/-- PG_ID of a page (R413). -/
def pgId (p : PageRow) (i : Nat) : Nat :=
  p.type * 0x10000 + (match p.block with | .intcSrc => 1 | .intcTgt => 2 | _ => i) * 0x100 + 1

/-- PG_CAPS of a page (R413). IRQ follows the events the page defines. -/
def pgCaps (p : PageRow) : Nat :=
  (match p.block with | .intcCtl | .intcSrc | .intcTgt => 3 | _ => p.count) * 0x10000 + evtCount p.events * 0x100
    + (if p.enctl then 0x10 else 0) + (if p.mirror then 8 else 0) + (if p.aon then 4 else 0)
    + (if p.events = 0 then 0 else 2) + (if p.shadow then 1 else 0)

/-- The reset value of the register at address `a` (R12, R413 and the register tables); an address without a register
holds 0. The windows hold 0 (R418). The strap bits read 0 until bring-up latches the straps. -/
def resetNat (a : Nat) : Nat :=
  if a < 0x200000 then
    match pageAt a with
    | none => 0
    | some (p, i) =>
      let o := a % 0x1000
      if o = 0 then pgId p i
      else if o = 4 then pgCaps p
      else if o = 8 then (if p.enctl then 0 else 1)
      else if o = 0xC then 1
      else match findRow p.block.rows o with
        | none => 0
        | some (r, j) =>
          match p.block with
          | .chn => if r.off = 0x40 then i * 0x10000 else r.reset
          | .sup => if r.off = 0x100 then supThrReset.getD j 0 else r.reset + r.rstep * j
          | .intcTgt => if r.off = 0x100 ∧ j = 16 then 1 else r.reset
          | _ => r.reset + r.rstep * j
  else if 0x1000000 ≤ a then
    let o := a % 0x1000
    if o = 0 then (a - 0x1000000) / 0x1000
    else match findRow ncpRows o with
      | none => 0
      | some (r, _) => r.reset
  else 0

/-- The reset value as a register word. -/
def resetWord (a : Nat) : Word := BitVec.ofNat 32 (resetNat a)

/-- The interrupt source of event bit `b` on instance `i` of a block (R277, R421); none where the page raises no interrupt. -/
def evtSource (blk : Block) (i b : Nat) : Option Nat :=
  match blk with
  | .clk => some 3
  | .pwr => some 63
  | .fuse => some 5
  | .mgmt => some (match b with | 0 => 57 | 1 => 58 | _ => 59)
  | .sns => some (if b = 0 then 56 else 4)
  | .sup => some (48 + b % 8)
  | .grd => some (16 + b)
  | .safe => some (if b = 1 then 2 else 1)
  | .disp => some (232 + b)
  | .time => some 7
  | .via => some (208 + b)
  | .trs => some (if b = 8 then 6 else if 16 ≤ b then 184 + (b - 16) else 200)
  | .evq => some 201
  | .ldg => some 176
  | .cal => some (224 + b)
  | .twn => some (216 + b)
  | .ucs => some 62
  | .peb => some (240 + b % 8)
  | .mch => some (144 + i)
  | .str => some (64 + i)
  | .cap => some (80 + i)
  | .trg => some (96 + i)
  | .ivm => some (112 + i)
  | .chip | .intcCtl | .intcSrc | .intcTgt | .mem | .pier | .chn => none

end Sys2Proof
end

