-- ==== Sys2Proof/Machine/State.lean ====
section
/-! DEFINITION. The state of the F256: its register space, its memories, the contexts of its engines, and the queue
of waiting commands. Every software-visible register lives in `Device.regs` at its own address (R411); the structures
here hold what the spec gives the engines beside their registers. -/

namespace Sys2Proof.Machine

/-! ## Accesses and records -/

/-- What the last register access answered on the path that issued it (R9): the data read, and the error status. -/
structure Access where
  data : Word
  error : Bool
deriving DecidableEq, Repr

/-- An event record of R302 before it is written to the ring: PHASE is added by the write. -/
structure EvRec where
  ttime : Nat
  source : Nat
  code : Nat
  p0 : Nat
  p1 : Nat
  p2 : Nat
  type : Nat
  sev : Nat
  seq : Nat
deriving DecidableEq, Repr

/-! ## Streams, channels, piers -/

/-- The drive actions of R42. -/
inductive Drive where
  | keep | low | high | off | apg | toggle
deriving DecidableEq, Repr

/-- The compare actions of R42. -/
inductive Cmp where
  | none | low | high | between | apg | capture | outside
deriving DecidableEq, Repr

/-- What a placed event does at the ball: a level of CH_DEN or CH_DHI, a sample, or nothing (an edge whose action does not apply, R76). -/
inductive Sig where
  | den (level : Bool)
  | dhi (level : Bool)
  | sample
  | idle
deriving DecidableEq, Repr

/-- An event in the timing generator (R66, R67): its edge word, its ball time (later by `slotBias`), the TCLK period, delay-line tap and
interpolator step that place it, what it does, and whether it counts toward the edge budget (R81). -/
structure Placed where
  word : Nat
  ball : Nat
  slot : Nat
  tap : Nat
  step : Nat
  sig : Sig
  budget : Bool
deriving DecidableEq, Repr

/-- Per-channel state of the pier logic: the levels of its outputs when every placed event has acted, the actions and direction of the
previous cycle, and the events placed that may still lie ahead or share a coarse slot with later ones (R42, R46, R66, R81). -/
structure ChanCtx where
  dhi : Bool
  den : Bool
  drive : Drive
  cmp : Cmp
  dir : Nat
  placed : List Placed
deriving DecidableEq, Repr

/-- A channel after reset: driver off, CH_DHI low (R36). -/
def ChanCtx.reset : ChanCtx := ⟨false, false, .off, .none, 2, []⟩

/-- A frame waiting in or sent by a PEBUS port (R54). -/
structure Frame where
  cs : Nat
  data : Nat
deriving DecidableEq, Repr

/-- One PEBUS port: its queue of at most 16 frames and the frame in progress (R55). -/
structure PebPort where
  queue : List Frame
  busy : Option Frame
deriving DecidableEq, Repr

/-- A port with nothing queued. -/
def PebPort.reset : PebPort := ⟨[], none⟩

/-- A boundary action waiting for its B (R105), with its operands as the micro-engine read them. -/
inductive Bnd where
  | halt
  | waitDelay (ns : Nat)
  | waitUntil (ns : Nat)
  | waitFlag (flag : Nat) (seen : Option Nat)
  | waitDrain
  | siteMask (op : Nat) (half : Bool) (operand : Nat)
  | siteDrop
  | failClr
  | capOn
  | capOff
  | capSeg
  | trig (lines : Nat)
  | signal (code : Nat)
  | setpe (port cs data : Nat)
  | phase (grid ofs : Nat)
  | aset (tgt value : Nat)
  | asave (mask : Nat)
  | arest (mask : Nat)
  | scrld (words : List Nat)
  | fault (code : Nat)
deriving DecidableEq, Repr

/-- A span as the player holds it (R98): descriptor values, the bytes of its records that are not 0, and the aligned
64-bit words (address divided by 8) that hold an uncorrectable error. -/
structure SpanBuf where
  span : Nat
  start : Nat
  len : Nat
  segt : Bool
  size : Nat
  cells : List Host.Cell
  bad : List Nat
deriving DecidableEq, Repr

/-- How far the player has got with a span request (R98, R99): waiting for its turn or for READY, being fetched (its bytes, those that
have arrived, and whether the loop cache takes them), found faulty, in the stream buffer, or in the loop cache. -/
inductive Fetch where
  | waiting
  | fetching (size got : Nat) (cache : Bool)
  | bad (code : Nat)
  | ready (buf : SpanBuf)
  | cached (buf : SpanBuf)
deriving DecidableEq, Repr

/-- The micro-engine state a MATCH timeout restores (R113). -/
structure EngSave where
  g : List Word
  calls : List Nat
  loops : List (Nat × Nat)
  zf : Bool
  nf : Bool
  mask : Nat
deriving DecidableEq, Repr

/-- The operands of a MATCH (R112), with the micro-engine state at its execution. -/
structure MatchReq where
  sense : Bool
  scope : Bool
  maxpass : Nat
  target : Nat
  save : EngSave
deriving DecidableEq, Repr

/-- One item of a stream's queue, in program order. `addr` is the instruction it came from (STR_FAULT.ADDR). -/
inductive QItem where
  | play (span addr : Nat) (fetch : Fetch)
  | matchPlay (span addr : Nat) (fetch : Fetch) (req : MatchReq)
  | act (b : Bnd) (addr : Nat)
deriving DecidableEq, Repr

/-- What the micro-engine is doing. -/
inductive Eng where
  | idle
  | running
  | waitRoom
  | waitFlag (flag : Nat)
  | waitGap
  | micro
  | done
deriving DecidableEq, Repr

/-- Where the player is within a span: whether it plays from the loop cache, next byte to read, records left after the one in play,
repeats left of it, and its cycle word. `fresh` marks the first cycle of a play. -/
structure PlayPos where
  addr : Nat
  buf : SpanBuf
  cached : Bool
  ptr : Nat
  left : Nat
  reps : Nat
  word : Nat
  fresh : Bool
deriving DecidableEq, Repr

/-- What boundary instructions after a WAIT FLAG at the same B do to the start of the next cycle (R85, R110): a delay in ticks, an instant
not to come before, a grid. -/
inductive GapAdj where
  | delay (ticks : Nat)
  | notBefore (t : Nat)
  | grid (spacing ofs : Nat)
deriving DecidableEq, Repr

/-- Why a stream is in STATE GAP, and when its next cycle starts: at an instant; once primed, at a 5 ns multiple not before an instant,
with what later instructions add; `p` at the earliest, while a flag is awaited; at the end of a drain, which SITEDROP follows with its
mask. -/
inductive Gap where
  | none
  | till (t : Nat)
  | primed (t : Nat) (post : List GapAdj)
  | flag (f p : Nat)
  | drain (t : Nat)
  | drop (t : Nat)
deriving DecidableEq, Repr

/-- How a launch was requested (R118). -/
inductive Arm where
  | none | immediate | sched | quorum
deriving DecidableEq, Repr

/-- A MATCH in play (R113): the index of its first cycle, passes begun, the sites and the unsited group satisfied so far, the
participants, the cycle index of the match path once the decision has been made, and the last satisfactions by cycle for
STR_MATCHSITE. -/
structure MatchCtx where
  req : MatchReq
  since : Nat
  pass : Nat
  parts : List (Nat × Nat)
  partU : Bool
  sat : Nat
  satU : Bool
  leave : Option Nat
  recent : List (Nat × Nat)
deriving DecidableEq, Repr

/-- One output of an algorithmic pattern generator (R149, R156): logical and physical address and DOUT. -/
structure ApgOut where
  x : Nat
  y : Nat
  z : Nat
  phys : Nat
  dout : Nat
deriving DecidableEq, Repr

/-- The micro-engine of a stream on a customer routine (R126): whether one is in progress, the instruction and its address, and
the state of R126. SPC is STR_PC. `flagsOk` is false once a vendor routine has run, whose micro-flags the spec does not give. -/
structure Micro where
  active : Bool
  ir : Nat
  addr : Nat
  upc : Nat
  stack : List Nat
  t : List Word
  uz : Bool
  un : Bool
  uc : Bool
  flagsOk : Bool
  lim : Nat
deriving DecidableEq, Repr

/-- The micro-engine before its first dispatch. -/
def Micro.reset : Micro := ⟨false, 0, 0, 0, [], List.replicate 8 0, false, false, false, false, 0⟩

/-- A strobe or UI sample of one channel in a cycle: its index, its edge action (R77; STROBE in fast-bit modes), its channel time and its
ball time (later by `slotBias`). -/
structure Strobe where
  idx : Nat
  attr : Nat
  t : Nat
  ball : Nat
deriving DecidableEq, Repr

/-- What a channel does in a cycle as far as its results depend on it: UIs per cycle (0 in waveform mode), whether it plays and its site
is active, the compare action, whether UIs compare, the expected bits, the slots of the decoder, its drive level there, its samples in
time order with the comparator inputs, the APG data bits its slots carry (R162), and whether a window left open was closed by the
deassertion of CH_DEN, with what the comparators had shown by then (R58). -/
structure ChanPlay where
  uis : Nat
  plays : Bool
  on : Bool
  cmp : Cmp
  compares : Bool
  expect : Nat
  en : Nat
  drv : Nat
  strobes : List Strobe
  x : Sample
  io : List (Option Nat)
  cut : Option Bool
deriving DecidableEq, Repr

/-- What a cycle is for the capture and trigger engines of every pier of the stream. -/
structure CycView where
  t : Nat
  tEnd : Nat
  prevEnd : Nat
  cycle : Nat
  isMatch : Bool
  word : Nat
  first : Bool
  start : Bool
  segt : Bool
  mode : Nat
  lines : Nat
  edges : List (Nat × Bool)
  marginal : Bool
deriving DecidableEq, Repr

/-- A cycle whose results are in the compare pipeline (R40, R190): what it is, the expect view of the APG, what each channel did, the
instant at which its results are known, and the sites that take part in its MATCH. -/
structure Flight where
  view : CycView
  expect : ApgOut
  outs : List (Nat × ChanPlay)
  due : Nat
  parts : Nat
deriving DecidableEq, Repr

/-- What follows the cycles through the compare pipeline of a stream, in order: a cycle; capture turned on or off at a boundary; the end
of a re-arm on a pier. -/
inductive Pipe where
  | cycle (f : Flight)
  | capOn
  | capOff
  | rearmed (p : Nat)
deriving DecidableEq, Repr

/-- One stream beside its registers (R89). S is the start of the next cycle in ticks with its 16-bit fraction (R75). `late` lists, oldest
first, the spans taken into play whose fetch goes on, each with the bytes that have arrived and whether the loop cache takes them; `jumpBuf` the span of a jump just taken whose
first 8 KiB lie in the buffer; `jumpReq` the instant of a jump request; `apgSeen` lists the APG registers that a boundary has changed with
the values of the cycle last played (R157); `flights` the compare pipeline; `segNext` a segment start that a trigger action asked for; `mark` is its
term of MARKOUT and `markWas` the MARK bits of the last cycle (R117, R198);
`credit` the read credit in units of 1/32,768,000 byte as it stood at `creditT` (R230). -/
structure StrCtx where
  calls : List Nat
  loops : List (Nat × Nat)
  zf : Bool
  nf : Bool
  mask : Nat
  eng : Eng
  queue : List QItem
  held : Option (Nat × Nat × Nat)
  actSpans : List Nat
  jump : Option Nat
  lc : Option SpanBuf
  jumpBuf : Option Nat
  late : List (Nat × Nat × Bool)
  fetchBad : List Nat
  pos : Option PlayPos
  lastData : List Nat
  sInt : Nat
  sFrac : Nat
  period : Option (Nat × Nat)
  t0 : Nat
  first : Bool
  fresh : Bool
  gap : Gap
  stop : Nat
  jumpReq : Option Nat
  jumped : Bool
  marginal : Bool
  arm : Arm
  launchT : Nat
  primed : Bool
  verdict : Option Nat
  trigLines : Nat
  segStart : Bool
  mark : Nat
  markWas : Nat
  mtch : Option MatchCtx
  hist : List ApgOut
  trigin : List (Nat × Nat × Bool)
  lastEnd : Nat
  apgDue : Bool
  apgSeen : List (Nat × Word)
  flights : List Pipe
  segNext : Bool
  credit : Nat
  creditT : Nat
  mayHold : Bool
  micro : Micro
deriving DecidableEq, Repr

/-- A stream after reset: halted, nothing queued. -/
def StrCtx.reset : StrCtx :=
  { calls := [], loops := [], zf := false, nf := false, mask := 0, eng := .idle, queue := [], held := none, actSpans := [], jump := none, lc := none, jumpBuf := none, late := [], fetchBad := [], pos := none,
    lastData := [], sInt := 0, sFrac := 0, period := none, t0 := 0, first := true, fresh := true, gap := .none, stop := 0,
    jumpReq := none, jumped := false, marginal := false, arm := .none, launchT := 0, primed := false,
    verdict := none, trigLines := 0, segStart := false, mark := 0, markWas := 0, mtch := none, hist := [], trigin := [], lastEnd := 0, apgDue := false, apgSeen := [],
    flights := [], segNext := false, credit := 0, creditT := 0, mayHold := false, micro := Micro.reset }

/-! ## Capture and triggers -/

/-- An installed capture region: base, bytes per segment divided by 64, segments (R170). -/
structure Region where
  base : Nat
  seg64 : Nat
  cnt : Nat
deriving DecidableEq, Repr

/-- A valid record of the open segment: its slot, the sites charged for it (bit s is site s) and its blocks. -/
structure SlotUse where
  slot : Nat
  sites : Nat
  nblk : Nat
deriving DecidableEq, Repr

/-- Edge measurements of a segment (R178): last level seen, edges, rises, first and last rise, first width. -/
structure Meas where
  level : Option Bool
  edges : Nat
  rises : Nat
  firstRise : Nat
  lastRise : Nat
  width : Option Nat
deriving DecidableEq, Repr

/-- The measurements of a segment that has seen no slot. -/
def Meas.reset : Meas := ⟨none, 0, 0, 0, 0, none⟩

/-- The open segment of a Gecko engine (R172–R177). -/
structure SegCtx where
  ttime : Nat
  openCycle : Nat
  trig : Option Nat
  slots : List SlotUse
  kept : List Nat
  next : Nat
  post : Nat
  dead : Nat
  fails : Nat
  firstFail : Option Nat
  lastFail : Option Nat
  trunc : Bool
  full : Bool
  quota : Bool
  marginal : Bool
  wrej : Bool
  skip : Nat
  isFirst : Bool
  meas : Meas
deriving DecidableEq, Repr

/-- A capture record being filled (R168, R169): each block with its contributing lanes; `keep` when it holds pre-trigger blocks that the
trigger point protects (R176). -/
structure OpenRec where
  ttime : Nat
  cycle : Nat
  skip : Nat
  slot : Nat
  blocks : List (Nat × Nat)
  post : Nat
  keep : Bool
deriving DecidableEq, Repr

/-- A queued fail-bitmap update: a 32-byte unit and the bits to set in it (R182). -/
structure BmUpdate where
  addr : Nat
  bits : Nat
deriving DecidableEq, Repr

/-- One Gecko capture engine beside its registers. -/
structure CapCtx where
  region : Option Region
  seg : Option SegCtx
  openRec : Option OpenRec
  pendOpen : Bool
  dead : Nat
  prev : Option Nat
  overs : Nat
  bmq : List BmUpdate
  fill : Bool
  bmOff : Bool
deriving DecidableEq, Repr

/-- A capture engine after reset. -/
def CapCtx.reset : CapCtx := ⟨none, none, none, false, 0, none, 0, [], false, false⟩

/-- The serial decoder of a trigger engine (R188). -/
structure DecCtx where
  clk : Bool
  dat : Bool
  sel : Bool
  seen : Bool
  tap : Nat
  ones : Nat
  synced : Bool
  inFrame : Bool
  bitNo : Nat
  taken : Nat
  field : Nat
  got : Nat
  phase : Nat
  done : Bool
deriving DecidableEq, Repr

/-- A decoder at launch: no level seen, no frame, TAP unsynchronised. -/
def DecCtx.reset : DecCtx := ⟨false, false, false, false, 0, 0, false, false, 0, 0, 0, 0, 0, false⟩

/-- The actions of one firing of a trigger engine, waiting for their fixed time (R190, R191). -/
structure TrigAct where
  pier : Nat
  stream : Nat
  start : Nat
  cycleT : Nat
  cycle : Nat
  conds : Nat
  flags : Nat
  jump : Bool
  out : Nat
  evt : Bool
  capact : Nat
  seg : Option Nat
deriving DecidableEq, Repr

/-- One trigger engine beside its registers: the decoder, failing cycles of the open segment (R185), the conditions fired in the burst
(R186), and the actions that wait for their time. -/
structure TrgCtx where
  dec : DecCtx
  segFails : Nat
  burst : Nat
  acts : List TrigAct
deriving DecidableEq, Repr

/-- A trigger engine after reset. -/
def TrgCtx.reset : TrgCtx := ⟨DecCtx.reset, 0, 0, []⟩

/-! ## Links -/

/-- A frame of the twin link (R393, R394), the CRC apart. -/
structure TwinFrame where
  ftype : Nat
  addr : Nat
  jseq : Nat
  data : Nat
deriving DecidableEq, Repr

/-- A launch recorded by a standby from a journaled STR_CMD write (R401): its kind, whether it was protected, and the
STR_BURST_ID its burst will have. -/
structure PendLaunch where
  arm : Arm
  prot : Bool
  burst : Nat
deriving DecidableEq, Repr

/-- An access of the host that waits while the twin journal is full (R399): a dword written, or an RRD with its tag, address and length and
what the ECC check of each of its dwords finds. -/
inductive HostAcc where
  | write (a v : Nat)
  | read (tag a len : Nat) (found : List (Nat × Ecc))
deriving DecidableEq, Repr

/-- Twin-pair state beside the TWN registers: the journal not yet acknowledged (R399), the dwords of the snapshot still
expected (R397), pending launches (R401), a requested swap (R407), a HELLO still awaited
(R397), a takeover that comes from a swap (R407), the end of SETTLE
(R404), the last frame sent and received, and the span-hash check (R402): the own digest, the partner's, the low half of
one in arrival, and the partner's and the own span digests by index; the host's accesses that wait for room in the journal (R399); and a HELLO that came
before bring-up ended, as its ROLE, PREF and SYNCED (R397). -/
structure TwinCtx where
  journal : List TwinFrame
  syncLeft : Nat
  pend : Tab (Option PendLaunch)
  swapReq : Bool
  hello : Bool
  swapped : Bool
  settle : Option Nat
  lastTx : Nat
  lastRx : Nat
  own : Option Nat
  other : Option Nat
  half : Nat
  spans : List (Nat × Nat)
  mine : List (Nat × Nat)
  waiting : List HostAcc
  early : Option (Nat × Bool × Bool)
deriving DecidableEq, Repr

/-- Twin state after reset. -/
def TwinCtx.reset : TwinCtx :=
  { journal := [], syncLeft := 0, pend := [], swapReq := false, hello := false, swapped := false, settle := none, lastTx := 0, lastRx := 0,
    own := none, other := none, half := 0, spans := [], mine := [], waiting := [], early := none }

/-- A Trestle data packet (R295). -/
structure DataPkt where
  seq : Nat
  type : Nat
  tag : Nat
  status : Nat
  vec : Nat
  len : Nat
  addr : Nat
  payload : List Word
deriving DecidableEq, Repr

/-- A Trestle link packet (R297). -/
structure LinkPkt where
  ltype : Nat
  seq : Nat
  cls : Nat
  hdr : Nat
  units : Nat
deriving DecidableEq, Repr

/-- A Viaduct frame (R323). -/
structure ViaFrame where
  ftype : Nat
  src : Nat
  dst : Nat
  fseq : Nat
  tstamp : Nat
  corr : Nat
  param : Nat
deriving DecidableEq, Repr

/-- A quorum signal set on the Viaduct chain (R334, R335): for READY `flag` is NOGO, with COUNT and NOGOADDR; for VERDICT it is
GO. -/
structure ViaSig where
  verdict : Bool
  tag : Nat
  flag : Bool
  count : Nat
  addr : Nat
deriving DecidableEq, Repr

/-! ## Calibration -/

/-- The tables of one fine path (R240): path offset in ticks, the selected elements (bit per physical element), and the
deviation of each interpolator step in half-ticks. -/
structure PathTab where
  offset : Int
  elements : Nat
  interp : List Int
deriving DecidableEq, Repr

/-- One channel's calibration tables (R240, R247), `none` for a channel that holds no valid values; with the tables and the Tj of the
channel's last full calibration, and those of its pier's reference slice then, from which tracking starts (R241). -/
structure ChanTab where
  a : PathTab
  b : PathTab
  baseA : PathTab
  baseB : PathTab
  refA : PathTab
  refB : PathTab
  tj : Int
deriving DecidableEq, Repr

/-- The tables of all channels. -/
abbrev CalTabs := Tab (Option ChanTab)

/-- What the TRIMs of one channel were computed from (R240): the interpolator tables of its two fine paths, the applied corrections of R39,
and the edge words that held another value than 0. A TRIM bank holds the TRIM of an edge word as this, so that a bank is data of a
channel's size and not of half a million words. -/
structure ChanTrim where
  interpA : List Int
  interpB : List Int
  dly : Nat
  rtd : Nat
  den : Int
  words : Tab Word
deriving DecidableEq, Repr

/-- A TRIM bank (R70): every TRIM of a channel that is not listed is 0. -/
abbrev TrimBank := Tab (Option ChanTrim)

/-- A calibration record of the MRAM store (R251, R382): its generation, the tables of all channels, and the Tj at which they were
gathered, in 0.25 °C. -/
structure CalRec where
  gen : Nat
  tabs : CalTabs
  tj : Nat
deriving DecidableEq, Repr

/-- A burst record that is complete but for CAL_COMMIT, which depends on the rest of the pier-clock cycle of the instant `due` at which the
stream left play (R122, R248). -/
structure EndRec where
  due : Nat
  stream : Nat
  status : Nat
  flags : Nat
  t : Nat
  id : Nat
  cycles : Nat
deriving DecidableEq, Repr

/-- The calibration engine beside the CAL registers (R244–R253). Masks have one bit per channel. CAL_CTRL and CAL_PLAUS are
kept as they were when the run began. -/
structure CalCtx where
  trigPeriod : Bool
  trigTemp : Bool
  tempOver : Bool
  perDone : Bool
  ctrl : Word
  plaus : Word
  sel : Nat
  gathered : Nat
  tracked : Nat
  atOnce : Bool
  required : Bool
  settle : Nat
  held : List (Nat × Nat)
  tabA : CalTabs
  tabB : CalTabs
  rec0 : Option CalRec
  rec1 : Option CalRec
  writing : Option (CalTabs × Nat)
  lastRec : Option Nat
  deferred : Bool
  reload : Bool
  ends : List EndRec
deriving DecidableEq, Repr

/-- The calibration engine after reset: idle, no tables. -/
def CalCtx.reset : CalCtx :=
  { trigPeriod := false, trigTemp := false, tempOver := false, perDone := false, ctrl := 0, plaus := 0, sel := 0,
    gathered := 0, tracked := 0, atOnce := false, required := false, settle := 0, held := [], tabA := [], tabB := [],
    rec0 := none, rec1 := none, writing := none, lastRec := none, deferred := false, reload := false, ends := [] }

/-! ## Guards, supplies, strobes -/

/-- One TSTROBE line (R337): its level, the next pulse time, and when a pulse in progress ends. -/
structure StrobeCtx where
  high : Bool
  next : Option Nat
  fall : Option Nat
deriving DecidableEq, Repr

/-- A strobe after reset. -/
def StrobeCtx.reset : StrobeCtx := ⟨false, none, none⟩

/-- One guard monitor (R348): its last samples, newest first, each with whether it was out and whether it was clear, and its state changes since
enable. -/
structure GrdCtx where
  samples : List (Bool × Bool)
  changes : Nat
deriving DecidableEq, Repr

/-- A monitor after reset. -/
def GrdCtx.reset : GrdCtx := ⟨[], 0⟩

/-- A warning excursion in progress (R342, R345): first sample, kind so far, extreme in mV, samples so far. -/
structure Excursion where
  t0 : Nat
  kind : Nat
  extreme : Nat
  count : Nat
deriving DecidableEq, Repr

/-- One own rail (R342–R345): the last sample and its time, the excursion in progress, the last MRAM entry with the
excursions it has left out since, and excursions that ended while the regions were in reset, with SUP_WARNCNT then. -/
structure SupCtx where
  prev : Option Nat
  lastT : Nat
  exc : Option Excursion
  logged : Option Nat
  quiet : Nat
  late : List (Nat × Excursion)
deriving DecidableEq, Repr

/-- A rail after reset. -/
def SupCtx.reset : SupCtx := ⟨none, 0, none, none, 0, []⟩

/-! ## The control store -/

/-- The load engine of the control store (R142, R146): the image in staging as dwords, whether it is a vendor image and for
which half, the address and length accepted; and the SHA-256 of the images loaded into half 0, half 1 and the customer region (R379). -/
structure UcsCtx where
  stage : List Nat
  vend : Bool
  half : Nat
  addr : Nat
  len : Nat
  hash0 : Nat
  hash1 : Nat
  hashC : Nat
deriving DecidableEq, Repr

/-- The load engine after reset. -/
def UcsCtx.reset : UcsCtx := ⟨[], false, 0, 0, 0, 0, 0, 0⟩

/-! ## Interval meters -/

/-- An event that has reached a meter during its run (R196–R198): its number of arrival, its time at the ball and whether it lies
after that whole tick, the code an interpolator yields for it, whether its source is exact, the applied corrections that refer it to the DUT pin
(R197), and whether it is a start, a stop, a falling edge; `counts` is false for an edge too near to the one before it in
TOTALIZE (R202). -/
structure IvmRaw where
  n : Nat
  ball : Nat
  past : Bool
  code : Nat
  exact : Bool
  drv : Nat
  rtd : Nat
  start : Bool
  stop : Bool
  fall : Bool
  counts : Bool
deriving DecidableEq, Repr

/-- An accepted event of a meter: its number of arrival, its stamp, and whether an interpolator or an exact source stamped it. -/
structure IvmEv where
  n : Nat
  t : Nat
  start : Bool
  stop : Bool
  fall : Bool
  stamped : Bool
deriving DecidableEq, Repr

/-- Why a run ended (R202). -/
inductive IvmEnd where
  | stop | count | gate | disarm | timeout
deriving DecidableEq, Repr

/-- What a meter has made of the events of its run: the accepted events in the order of their stamps, the interpolators, the
last accepted stamps and the counts of the two series, the opening, and how many events were not stamped (R198–R202). -/
structure IvmView where
  acc : List IvmEv
  useB : Bool
  busyA : Nat
  busyB : Nat
  lastStart : Option Nat
  lastStop : Option Nat
  starts : Nat
  stops : Nat
  opened : Option Nat
  missed : Nat
deriving DecidableEq, Repr

/-- One interval meter beside its registers (R200–R208): the events of its run in the order of their times at the ball, when it
opened and when calibration ended, an end that its events do not decide (gate, DISARM, timeout), the calibration sums of 16
codes, SEQ, how many missed events are counted, the last edge of the start input, the numbers of the stamps sent to the
FIFO, the FIFO, an ARM held during a loan, and what the wraps of TTIME within the run amount to: instants of the run count on over them. -/
structure IvmCtx where
  events : List IvmRaw
  opened : Option Nat
  calEnd : Nat
  ended : Option (IvmEnd × Nat)
  a1 : Nat
  a2 : Nat
  b1 : Nat
  b2 : Nat
  seq : Nat
  missed : Nat
  lastEdge : Option Nat
  sent : List Nat
  fifo : List (Nat × Nat)
  armHeld : Bool
  base : Nat
deriving DecidableEq, Repr

/-- A meter after reset. -/
def IvmCtx.reset : IvmCtx :=
  { events := [], opened := none, calEnd := 0, ended := none, a1 := 0, a2 := 0, b1 := 0, b2 := 0, seq := 0, missed := 0,
    lastEdge := none, sent := [], fifo := [], armHeld := false, base := 0 }

/-! ## Memory and ledger -/

/-- One memory channel beside its registers (R219, R222, R223): refresh debt and consecutive replays of its two
pseudo-channels, and the corrected errors since its last MEM_CE record with the instant of that record. -/
structure MchCtx where
  debt0 : Nat
  debt1 : Nat
  rep0 : Nat
  rep1 : Nat
  ce : Nat
  ceAt : Option Nat
deriving DecidableEq, Repr

/-- A channel after reset. -/
def MchCtx.reset : MchCtx := ⟨0, 0, 0, 0, 0, none⟩

/-- The reservation of an admitted stream (R228): read, capture on stack A, capture on stack B; and its read stacks. -/
structure LdgRes where
  read : Nat
  capA : Nat
  capB : Nat
  stackSet : Nat
deriving DecidableEq, Repr

/-- The ledger beside its registers (R231): reservations, and the command in progress (admit or withdraw, its streams). -/
structure LdgCtx where
  res : Tab LdgRes
  cmd : Option (Bool × Nat)
deriving DecidableEq, Repr

/-- The ledger after reset. -/
def LdgCtx.reset : LdgCtx := ⟨[], none⟩

/-! ## Cores, dispatcher, interrupts -/

/-- The processor of a Newt core (R257): the pc, the registers x1 to x31, user mode, the CSRs by number, the counters, the address that an
LR has reserved, the halfwords that the instruction cache holds by core address, newest first, and a WFI that waits. -/
structure Newt where
  pc : Word
  x : Tab Word
  user : Bool
  csr : Tab Word
  cycle : Nat
  instret : Nat
  resv : Option Nat
  icache : List (Nat × Nat)
  wait : Bool
deriving DecidableEq, Repr

/-- A processor at the reset values of its registers, caches and CSRs, in machine mode at `pc` (R261, log entry 100). -/
def Newt.reset (pc : Word) : Newt :=
  { pc := pc, x := [], user := false, csr := [], cycle := 0, instret := 0, resv := none, icache := [], wait := false }

/-- One Newt core (R261–R263, R270): the task in its slot, the running task, whether that one has been cancelled, asleep after WFI, held in
reset by hardware, the accesses to vector memory in flight that were abandoned (word address, store) (R222), and its processor. -/
structure CoreCtx where
  slot : Option Nat
  running : Option Nat
  cancelled : Bool
  asleep : Bool
  hold : Bool
  lost : List (Nat × Bool)
  cpu : Newt
deriving DecidableEq, Repr

/-- A core after reset: held by RUN = 0. -/
def CoreCtx.reset : CoreCtx := ⟨none, none, false, false, false, [], Newt.reset 0⟩

/-- One flow (R271): the next sequence number to give, the oldest unreleased one, and cancelled numbers not yet passed. -/
structure FlowCtx where
  next : Nat
  rel : Nat
  gone : List Nat
deriving DecidableEq, Repr

/-- A flow before its first ordered task. -/
def FlowCtx.reset : FlowCtx := ⟨0, 0, []⟩

/-- A completed ordered task that awaits its release: task, the core that ran it, NCP_HOOKDATA as taken (R271, R275). -/
structure HeldTask where
  task : Nat
  core : Nat
  hook : Nat
deriving DecidableEq, Repr

/-- A task on a delay list: list, due count, task (R273). -/
structure Delayed where
  list : Nat
  due : Nat
  task : Nat
deriving DecidableEq, Repr

/-- The dispatcher beside its registers: READY tasks in the order of their lists, delayed and held tasks, the core of the
previous placement, the tick periods in force, tasks whose descriptors an operation has found unreadable, aligned 64-bit words of core SRAM
(by address divided by 8) that hold an uncorrectable error, and corrected errors since the last log entry, with its second (R260). -/
structure DispCtx where
  ready : List Nat
  delayed : List Delayed
  held : List HeldTask
  lastCore : Nat
  cores : Tab CoreCtx
  flows : Tab FlowCtx
  ticks : Tab Nat
  bad : List Nat
  sramBad : Tab Bool
  sramCe : Nat
  sramSec : Nat
deriving DecidableEq, Repr

/-- The dispatcher after reset. -/
def DispCtx.reset : DispCtx := ⟨[], [], [], 15, [], [], [], [], [], 0, 0⟩

/-- The interrupt controller beside its registers (R277–R281): pending sources (bit per source), sources whose request has
been seen asserted, offers and active sources with their target, the target a withdrawn source is kept from, targets with
a withdrawal since their last claim, and the target of each group's previous offer. -/
structure IntcCtx where
  pend : Nat
  seen : List Nat
  offers : List (Nat × Nat)
  active : List (Nat × Nat)
  excl : List (Nat × Nat)
  withdrawn : Nat
  last : Tab Nat
deriving DecidableEq, Repr

/-- The interrupt controller after reset. -/
def IntcCtx.reset : IntcCtx := ⟨0, [], [], [], [], 0, []⟩

/-! ## Serial links and Trestle -/

/-- One serial link in training or in use (R291, R319, R393): its state, the lanes it proposes, rounds of agreement in a row,
the active mask, lanes that are lost, those of them that a retrain in progress adds, the number of lanes it last carried, and how often the
retry of each lost lane has failed. -/
structure LinkCtx where
  lst : Nat
  mine : Nat
  agree : Nat
  active : Nat
  lost : Nat
  join : Nat
  width : Nat
  retries : Tab Nat
deriving DecidableEq, Repr

/-- A link after reset: DETECT. -/
def LinkCtx.reset : LinkCtx := ⟨0, 0, 0, 0, 0, 0, 0, []⟩

/-- A training set on one lane of a link (R288): TS1 or TS2, LINKID, physical lane, proposed mask, wake and fast-retrain bits, and the
logical lane number, 0xFF for none. Links are numbered as in `Device.links`. -/
structure TrainSet where
  link : Nat
  lane : Nat
  ts2 : Bool
  linkId : Nat
  mask : Nat
  wake : Bool
  fast : Bool
  logical : Nat
deriving DecidableEq, Repr

/-- The host's credits for one class (R298): the absolute credits last received, what has been used, and whether they have
been received since the link became ACTIVE. -/
structure Credit where
  hdr : Nat
  units : Nat
  usedHdr : Nat
  usedUnits : Nat
  known : Bool
deriving DecidableEq, Repr

/-- No credits. -/
def Credit.reset : Credit := ⟨0, 0, 0, 0, false⟩

/-- An outstanding MRD (R298): its tag, its DMA queue, whether it reads the descriptor, its byte offset and length in dwords. -/
structure Mrd where
  tag : Nat
  queue : Nat
  fetch : Bool
  ofs : Nat
  len : Nat
deriving DecidableEq, Repr

/-- One DMA queue beside its registers (R299–R301): the descriptor being processed (8 dwords once fetched), whether its range
has been checked, bytes requested or sent, bytes completed, data that has arrived ahead (by offset) and in order, bytes
that were not delivered, the code that ends the descriptor, and a disable that waits for its end. -/
structure DmaCtx where
  desc : List Word
  run : Bool
  sent : Nat
  done : Nat
  got : List (Nat × List Word)
  have_ : List Word
  lostB : Nat
  code : Option Nat
  disable : Bool
  closing : Option Nat
deriving DecidableEq, Repr

/-- A queue with no descriptor in progress. -/
def DmaCtx.reset : DmaCtx := ⟨[], false, 0, 0, [], [], 0, none, false, none⟩

/-- The Trestle link layer (R297, R298) and DMA service: next SEQ expected and to be sent, packets sent and not acknowledged,
futile replays, packets accepted since the last ACK, packets that wait to be sent, the host's credits by class, the
credits granted (posted headers, posted units, non-posted headers) with a return that is due, MRDs, the DMA queues, the
queue whose 4 KiB turn it is with the bytes left of it, the last kick of the watchdog, and whether a DOZE_REQ waits for its answer (R305). -/
structure TrsCtx where
  rxSeq : Nat
  txSeq : Nat
  unacked : List DataPkt
  futile : Nat
  ackDue : Nat
  txq : List DataPkt
  credit : Tab Credit
  grantH : Nat
  grantU : Nat
  grantN : Nat
  grantDue : Bool
  mrds : List Mrd
  dq : Tab DmaCtx
  turn : Nat
  left : Nat
  kick : Nat
  dozeWait : Bool
deriving DecidableEq, Repr

/-- The link layer after reset. -/
def TrsCtx.reset : TrsCtx :=
  { rxSeq := 0, txSeq := 0, unacked := [], futile := 0, ackDue := 0, txq := [], credit := [], grantH := 64, grantU := 512,
    grantN := 32, grantDue := false, mrds := [], dq := [], turn := 0, left := 4096, kick := 0, dozeWait := false }

/-- Records written to the ring and not yet notified (R304): how many, when the oldest was written, the highest severity. -/
structure EvqCtx where
  owed : Nat
  oldest : Nat
  worst : Nat
deriving DecidableEq, Repr

/-- Nothing owed. -/
def EvqCtx.reset : EvqCtx := ⟨0, 0, 0⟩

/-! ## Viaduct -/

/-- The Viaduct chain beside its registers (R316–R335): a SETTIME load and an APPLY that wait for the SYNC edge with the
instant of arming, the master's SETTIME that waits for an edge and its addressing in progress, the skew calibration with
its sums over exchanges, the sums received and formed, the pending correction, residuals newest first, the frame count,
and the quorum: its time, whether readiness was evaluated and the device participates, the report so far, the verdict received. -/
structure ViaCtx where
  load : Option (Nat × Nat)
  apply : Bool
  armedAt : Nat
  setReq : Bool
  addressing : Bool
  calRun : Bool
  t1 : Option Nat
  exch : Nat
  sumRT : Int
  sumD : Int
  o : Option Int
  sumIn : Option (Int × Nat)
  pendC : Option Int
  resid : List Int
  fseq : Nat
  qt : Option Nat
  qDone : Bool
  part : Bool
  report : Option ViaSig
  nogo : Bool
  verdict : Option Bool
deriving DecidableEq, Repr

/-- The chain after reset. -/
def ViaCtx.reset : ViaCtx :=
  { load := none, apply := false, armedAt := 0, setReq := false, addressing := false, calRun := false, t1 := none, exch := 0,
    sumRT := 0, sumD := 0, o := none, sumIn := none, pendC := none, resid := [], fseq := 0, qt := none, qDone := false,
    part := false, report := none, nogo := false, verdict := none }
/-! ## Power -/

/-- Power states and the step governor (R21–R27, R353): the transition in progress (target of an entry, with RET_STACK as the accepted
request gave it; phase of a wake: 0 none, 1 relock, 2 units, 3 verification), a held PWR_REQ value, the stack whose zero-fill is due, units
queued and waking (0–31 MCHn, 32–47 pier n − 32), when the last one was admitted, and the interval in ns that runs since. -/
structure PwrCtx where
  target : Nat
  keep : Nat
  phase : Nat
  held : Option Nat
  zfill : Option Nat
  queue : List Nat
  waking : List Nat
  lastAdm : Nat
  interval : Nat
deriving DecidableEq, Repr

/-- Power after reset: WAKING until bring-up ends. -/
def PwrCtx.reset : PwrCtx := ⟨0, 0, 0, none, none, [], [], 0, 0⟩

/-! ## Keystone -/

/-- A firmware bundle that has been accepted (R367, R371): its image (0 A, 1 B, 2 over the link) and its dwords. -/
structure Bundle where
  image : Nat
  words : List Word
deriving DecidableEq, Repr

/-- The mailbox of the JTAG port or of the board port (R387): 512 dwords, the pointer, and the state (0 IDLE, 1 BUSY, 2 DONE). -/
structure Mbox where
  buf : Tab Word
  ptr : Nat
  st : Nat
deriving DecidableEq, Repr

/-- A mailbox after reset. -/
def Mbox.reset : Mbox := ⟨[], 0, 0⟩

/-- A boot-select record in MRAM (R382, R386): its GEN, and whether it names image B. -/
structure BootRec where
  gen : Nat
  imageB : Bool
deriving DecidableEq, Repr

/-- Keystone beside its registers. `custHash` is CUST_UC_KEYHASH as the last bring-up applied it (R373). What a reset keeps: fuse bits blown beyond
production by word (both copies, R372), the boot
flash as the device last saw or wrote it (board table, images A and B, R370), the boot-select records of the two slots (R382, R386).
The rest: whether the idle image holds a staged bundle, the bundles in firmware slots 0 and 1, the target slot of a warm
restart in progress (R364), the bring-up steps done (R369), the end of the confirmation time and the slot before the switch (R386), the bundle being
programmed (R385), bytes of a bundle sent over the link (R368), waiting mailbox requests by owner (0 host, 1 JTAG, 2 board;
R387), the two port mailboxes, and the PLOCK groups that Keystone has locked since power-on reset or RESET_N (R376). -/
structure KeyCtx where
  blown : Tab Word
  custHash : Nat
  board : List Word
  imgA : List Word
  imgB : List Word
  boot0 : Option BootRec
  boot1 : Option BootRec
  staged : Bool
  slot0 : Option Bundle
  slot1 : Option Bundle
  target : Option Nat
  steps : Nat
  confirm : Option (Nat × Nat)
  updating : Option (List Word)
  link : List Byte
  posts : List Nat
  jtag : Mbox
  bport : Mbox
  plock : Nat
deriving DecidableEq, Repr

/-- Keystone after reset, with production fuses alone and no flash seen. -/
def KeyCtx.reset : KeyCtx :=
  { blown := [], custHash := 0, board := [], imgA := [], imgB := [], boot0 := none, boot1 := none, staged := false, slot0 := none, slot1 := none,
    target := none, steps := 0, confirm := none, updating := none, link := [], posts := [], jtag := Mbox.reset,
    bport := Mbox.reset, plock := 0 }

/-- The test access port (R442, R443): the instruction register, the boundary register, what the selected data register holds for the next
scan, and whether the balls follow the boundary register (HIGHZ: are released). -/
structure TapCtx where
  ir : Nat
  bsr : Nat
  dr : Nat
  drives : Bool
deriving DecidableEq, Repr

/-- The identification register (R2, R442): version, part number, manufacturer 0x4E5, and the 1 of IEEE 1149.1. -/
def idcodeValue : Nat := 0x1F2569CB

/-- The output balls whose levels the model holds (R35, R435): channel pairs, triggers, markers, strobes, guard outputs, the idle levels of the
PEBUS chip selects, clocks and data outputs and of the flash chip select, TWIN_ACT_N, and the open-drain SAFE_N and ALERT_N. -/
inductive Ball where
  | chDen (n : Nat) | chDhi (n : Nat)
  | trigout (k : Nat) | markout (k : Nat) | tstrobe (k : Nat) | guardOut (k : Nat)
  | pebCs (port cs : Nat)
  | pebSck (port : Nat) | pebMosi (port : Nat)
  | twinAct
  | flCs
  | safeN | alertN
deriving DecidableEq, Repr

/-- The TAP after power-on: IDCODE is selected, as IEEE 1149.1 asks. -/
def TapCtx.reset : TapCtx := ⟨2, 0, idcodeValue, false⟩

/-! ## The device -/

/-- An entry of the MRAM log (R383). -/
structure LogEntry where
  ttime : Nat
  epoch : Nat
  lseq : Nat
  source : Nat
  code : Nat
  data : Nat
  dropped : Nat
deriving DecidableEq, Repr

/-- The frames and messages the device sends while it carries out one command. -/
inductive Out where
  | twin (frame : List Word)
  | pkt (p : DataPkt)
  | lnk (p : LinkPkt)
  | via (port : Nat) (frame : List Word)
  | sig (port : Nat) (s : ViaSig)
  | train (t : TrainSet)
  | idleSet (link lanes : Nat)
  | peb (port cs : Nat) (mode3 : Bool) (div gap : Nat) (bits : List Bool)
  | reply (owner : Nat) (words : List Word)
  | bytes (owner : Nat) (data : List Nat)
deriving DecidableEq, Repr

/-- Everything the spec gives the F256, the queue of waiting commands apart. -/
structure Device where
  /-- The register space and its windows (R411), at their own addresses; an unlisted address holds its reset value. -/
  regs : Tab Word
  /-- Applied values of the shadowed registers (R40, R53), at the address of their register. -/
  applied : Tab Word
  /-- TRIM bank 1 of the edge words (R70), keyed by window address; bank 0 is `trimA`. -/
  trimB : TrimBank
  /-- TRIM bank 0 of the edge words (R70). -/
  trimA : TrimBank
  /-- Window words, by address divided by 8, that hold an uncorrectable error (R71, R94, R97, R137, R276). -/
  poison : Tab Bool
  /-- Vector memory (R216): bytes not listed read 0, as the zero-fill left them (R221). -/
  mem : List Host.Cell
  /-- Aligned 64-bit words of vector memory, by address divided by 8, that hold an uncorrectable error (R224). -/
  mpoison : Tab Bool
  /-- The SRAM of the site complex (R258) by core address: local SRAM of NCk at 0x0400_0000 + 0x4_0000 × k, site SRAM at
  0x1000_0000; bytes not listed read 0 (log entry 7). -/
  sram : List Host.Cell
  /-- TTIME in ticks (R310), interpolated to the tick between TCLK edges. -/
  ttime : Nat
  /-- The write latch of each requester (R73): upper register of the held pair, and the held value. -/
  wlatch : Tab (Option (Nat × Word))
  /-- The split-read latch of each requester (R17): upper register and latched part. -/
  rlatch : Tab (Option (Nat × Word))
  /-- TIME_EPOCH as each requester's read of TIME_NOW_LO latched it (R311). -/
  elatch : Tab (Option Word)
  /-- What the last register access answered (R9). -/
  last : Access
  /-- What the device sent during the last command, oldest first. -/
  out : List Out
  /-- The model's own counter of free values drawn so far. -/
  free : Nat
  /-- Event records generated and not yet written to the ring, at most 256 (R303). -/
  evbuf : List EvRec
  /-- Records discarded since the last LOG record of R303. -/
  evlost : Nat
  /-- Completion hooks presented and not yet fired, with their hook data (R268). -/
  hooks : List (Nat × Nat)
  /-- The MRAM log, oldest first (R383). -/
  log : List LogEntry
  /-- Log entries dropped since the last one written (R384). -/
  logDropped : Nat
  /-- The second of TTIME in which the last log entries were written (R384). -/
  logSec : Nat
  /-- Log entries written in that second (R384). -/
  logCnt : Nat
  /-- Channels, by number (R30). -/
  chan : Tab ChanCtx
  /-- PEBUS ports (R55). -/
  peb : Tab PebPort
  /-- Streams (R89). -/
  str : Tab StrCtx
  /-- Gecko capture engines, by pier. -/
  cap : Tab CapCtx
  /-- Trigger engines, by pier. -/
  trg : Tab TrgCtx
  /-- TRIGOUT lines that are high, with the instant at which each falls (R189). -/
  trigout : Tab (Option Nat)
  /-- The calibration engine and the calibration store in MRAM (R244–R253, R382). -/
  cal : CalCtx
  /-- TSTROBE lines (R337). -/
  strobe : Tab StrobeCtx
  /-- Guard monitors (R348). -/
  grd : Tab GrdCtx
  /-- GUARD_OUT levels at the instant of the last safe entry (R350). -/
  goHold : Nat
  /-- Own rails (R342). -/
  sup : Tab SupCtx
  /-- The regions outside the always-on domain are held in reset by a rail (R344). -/
  regionReset : Bool
  /-- The host watchdog has expired and holds its cause (R306, R355). -/
  wdExpired : Bool
  /-- The instant of the last safe entry, moved with TTIME when it wraps or steps, and so perhaps before its 0 (R359). -/
  safeAt : Int
  /-- The requester that wrote the first exit key word, and when (R358). -/
  keyReq : Option (Nat × Nat)
  /-- Twin-pair state (R392–R409). -/
  twin : TwinCtx
  /-- The control-store load engine (R141, R142). -/
  ucs : UcsCtx
  /-- Interval meters. -/
  ivm : Tab IvmCtx
  /-- Corrected errors of the timing-set memory (R71). -/
  tsCe : Nat
  /-- Events of the engines on their way to the meters: source, stamp, falling edge (R196). -/
  ivmq : List (Nat × Nat × Bool)
  /-- The flag word of the FIFO entry each requester read last (R208). -/
  taglatch : Tab Word
  /-- Open rows, by bank (R218): row + 1, unlisted banks closed. -/
  rows : Tab Nat
  /-- Memory channels. -/
  mch : Tab MchCtx
  /-- The ledger (R228–R232). -/
  ldg : LdgCtx
  /-- The dispatcher and the Newt cores (R257–R276). -/
  disp : DispCtx
  /-- The interrupt controller (R277–R282). -/
  intc : IntcCtx
  /-- Serial links: 0 Trestle, 1 Viaduct up, 2 Viaduct down, 3 twin (R291, R319, R393). -/
  links : Tab LinkCtx
  /-- The Trestle link layer and the DMA queues (R295–R301). -/
  trs : TrsCtx
  /-- Notifications of the event queue (R304). -/
  evq : EvqCtx
  /-- The Viaduct chain (R316–R335). -/
  via : ViaCtx
  /-- Power states and the step governor (R21–R27, R353). -/
  pwr : PwrCtx
  /-- Keystone, its fuses, flash and mailboxes (R362–R390). -/
  key : KeyCtx
  /-- The test access port (R442, R443). -/
  tap : TapCtx
deriving DecidableEq, Repr

/-- The device after reset (R12, R366): every register at its reset value, the windows and vector memory listing
nothing, every engine idle. -/
def Device.reset : Device :=
  { regs := [], applied := [], trimB := [], trimA := [], poison := [], mem := [], mpoison := [], sram := [], ttime := 0,
    wlatch := [], rlatch := [], elatch := [], last := ⟨0, false⟩, out := [], free := 0, evbuf := [], evlost := 0, hooks := [],
    log := [], logDropped := 0, logSec := 0, logCnt := 0, chan := [], peb := [], str := [], cap := [], trg := [],
    trigout := [], cal := CalCtx.reset, strobe := [], grd := [], goHold := 0, sup := [], regionReset := false,
    wdExpired := false, safeAt := 0, keyReq := none, twin := TwinCtx.reset, ucs := UcsCtx.reset, ivm := [], tsCe := 0, ivmq := [], taglatch := [],
    rows := [], mch := [], ldg := LdgCtx.reset, disp := DispCtx.reset, intc := IntcCtx.reset, links := [], trs :=
    TrsCtx.reset, evq := EvqCtx.reset, via := ViaCtx.reset, pwr := PwrCtx.reset, key := KeyCtx.reset, tap :=
    TapCtx.reset }

/-- The machine: the device and the commands that wait, first in, first out. -/
structure State where
  dev : Device
  pending : List Instr
deriving DecidableEq, Repr

/-- The machine after reset: nothing waits. -/
def State.reset : State := { dev := Device.reset, pending := [] }

/-- Why a step stops with a fault. -/
inductive Fault where
  /-- Raised by `exec` for a command whose operands lie outside what its row admits (`Instr.wellFormed`): no sender can
  form such a command. Safe: the device never sees it. -/
  | illFormed
deriving DecidableEq, Repr

/-- Why a step is refused. -/
inductive Refusal where
  /-- Raised by an arm of `exec` for a command that has no meaning in the model yet. Safe: nothing is claimed of it. -/
  | notModelled (mnemonic : String)
deriving DecidableEq, Repr

end Sys2Proof.Machine
end

