-- ==== Sys2Proof/Machine/Ops.lean ====
section
/-! DEFINITION. The named operations every meaning is built from: registers and their fields, page events and faults,
event records, the MRAM log, vector memory, free values, and the contexts of the engines. -/

namespace Sys2Proof.Machine

/-! ## Time units -/

/-- Ticks in one nanosecond (R7: one tick is 1/4,096 ns). -/
def nsTicks : Nat := 4096
/-- Ticks in one microsecond. -/
def usTicks : Nat := 4096000
/-- Ticks of 5 ns, the grid of launches and restarts (R119, R110). -/
def gridTicks : Nat := 20480

/-- The first multiple of `m` at or above `t`. -/
def roundUp (t m : Nat) : Nat := ceilDiv t m * m

/-! ## Registers -/

/-- The value held at register address `a`. -/
def Device.reg (d : Device) (a : Nat) : Word := Tab.get resetWord d.regs a

/-- The value held at register address `a`, as a number. -/
def Device.regN (d : Device) (a : Nat) : Nat := (d.reg a).toNat

/-- Register address `a` set to `v`. -/
def Device.setReg (d : Device) (a : Nat) (v : Word) : Device := { d with regs := Tab.set resetWord d.regs a v }

/-- Register address `a` set to the low 32 bits of a number. -/
def Device.setRegN (d : Device) (a v : Nat) : Device := d.setReg a (BitVec.ofNat 32 v)

/-- Field `[lo+n-1:lo]` of the register at `a`. -/
def Device.fld (d : Device) (a lo n : Nat) : Nat := (d.reg a).get lo n

/-- Field `[lo+n-1:lo]` of the register at `a` set to `v`. -/
def Device.setFld (d : Device) (a lo n v : Nat) : Device := d.setReg a ((d.reg a).put lo n v)

/-- Bit `i` of the register at `a`. -/
def Device.bit (d : Device) (a i : Nat) : Bool := (d.reg a).bit i

/-- Bit `i` of the register at `a` set to `b`. -/
def Device.setBit (d : Device) (a i : Nat) (b : Bool) : Device := d.setReg a ((d.reg a).putBit i b)

/-- Adds `k` to a counter field that saturates. -/
def Device.addSat (d : Device) (a lo n k : Nat) : Device := d.setFld a lo n (satAdd n (d.fld a lo n) k)

/-- The 64-bit value of two registers, low word first. -/
def Device.reg64 (d : Device) (lo hi : Nat) : Nat := Word.join (d.reg lo) (d.reg hi)

/-- Two registers set to the halves of a 64-bit value. -/
def Device.setReg64 (d : Device) (lo hi v : Nat) : Device := (d.setRegN lo v).setRegN hi (v / 2 ^ 32)

/-- The applied value of the shadowed register at `a` (R40, R53). -/
def Device.app (d : Device) (a : Nat) : Word := Tab.get resetWord d.applied a

/-- The applied value of the shadowed register at `a` set to `v`. -/
def Device.setApp (d : Device) (a : Nat) (v : Word) : Device := { d with applied := Tab.set resetWord d.applied a v }

/-! ## Page events and faults (R414, R415) -/

/-- Event `b` of the page at `p` occurs: its PG_EVT_RAW bit is set whatever the enables hold. -/
def Device.event (d : Device) (p b : Nat) : Device := d.setBit (Reg.PG_EVT_RAW p) b true

/-- The page at `p` reports fault `code` in PG_FAULT_CODE and PG_STATUS.FAULT. -/
def Device.fault (d : Device) (p code : Nat) : Device :=
  (d.setRegN (Reg.PG_FAULT_CODE p) (code % 256)).setBit (Reg.PG_STATUS p) 2 true

/-- FCLR: FAULT and the code cleared. -/
def Device.faultClear (d : Device) (p : Nat) : Device :=
  (d.setRegN (Reg.PG_FAULT_CODE p) 0).setBit (Reg.PG_STATUS p) 2 false

/-! ## Event records (R302, R303) -/

/-- The fixed severity of a record type (R302); BURST_ABORT is given by its status. -/
def severity (type : Nat) : Nat :=
  match type with
  | 0x01 => 1 | 0x02 => 3 | 0x03 => 5 | 0x04 => 2 | 0x05 => 1 | 0x06 => 1 | 0x07 => 1 | 0x08 => 3 | 0x09 => 3
  | 0x0A => 2 | 0x0B => 4 | 0x0C => 3 | 0x0D => 1 | 0x0E => 3 | 0x0F => 3 | 0x10 => 3 | 0x11 => 3 | 0x12 => 1
  | 0x13 => 3 | 0x14 => 2 | 0x15 => 1 | 0x16 => 2 | _ => 1

/-- Generates an event record: it takes the next SEQ, and waits in the 256-record buffer or is discarded and counted
(R302, R303). -/
def Device.recordAt (d : Device) (t type sev source code p0 p1 p2 : Nat) : Device :=
  let seq := d.fld Reg.EVQ_SEQ 0 15
  let d := d.setFld Reg.EVQ_SEQ 0 15 (seq + 1)
  if d.evbuf.length < 256 then
    { d with evbuf := d.evbuf ++ [⟨t % 2 ^ 64, source, code % 2 ^ 32, p0 % 2 ^ 32, p1 % 2 ^ 32, p2 % 2 ^ 32, type, sev, seq⟩] }
  else
    ({ (d.addSat Reg.EVQ_LOST 0 32 1) with evlost := d.evlost + 1 }).event Page.EVQ 0

/-- A record of the present instant with its type's fixed severity. `source` is block type × 0x1_0000 + instance. -/
def Device.record (d : Device) (type source code p0 p1 p2 : Nat) : Device :=
  d.recordAt d.ttime type (severity type) source code p0 p1 p2

/-- Completion hook `h` is presented with hook data `v` (R268). -/
def Device.hook (d : Device) (h v : Nat) : Device := { d with hooks := d.hooks ++ [(h, v % 2 ^ 32)] }

/-- A message leaves the device. -/
def Device.send (d : Device) (o : Out) : Device := { d with out := d.out ++ [o] }

/-- VIO is within its operating range, as the supply watch has found it, or as the ROM has before the first sample (R341, R366). -/
def Device.vioIn (d : Device) : Bool :=
  !d.bit Reg.SUP_STATUS 18 && (match (Tab.get (fun _ => SupCtx.reset) d.sup 2).prev with
    | some v => decide (1140 ≤ v)
    | none => decide (4 < d.fld Reg.MGMT_STATUS 24 8))

/-- Symbols leave on the lanes of a link: nothing does while VIO is below its range (R432). -/
def Device.emit (d : Device) (o : Out) : Device := if d.vioIn then d.send o else d

/-- The bytes of a list of dwords, little-endian. -/
def dwBytes (ws : List Nat) : List Byte :=
  ws.flatMap (fun w => [BitVec.ofNat 8 w, BitVec.ofNat 8 (w / 256), BitVec.ofNat 8 (w / 65536), BitVec.ofNat 8 (w / 16777216)])

/-- One step of the CRC of R295 over a byte (reflected 0x04C11DB7). -/
def crcByte (c : Nat) (b : Byte) : Nat :=
  (List.range 8).foldl (fun c _ => if c % 2 = 1 then (c / 2) ^^^ 0xEDB88320 else c / 2) (c ^^^ b.toNat)

/-- The CRC-32 of R295. -/
def crc32 (bs : List Byte) : Nat := bs.foldl crcByte 0xFFFFFFFF ^^^ 0xFFFFFFFF

/-- Entries the log ring holds (R381). -/
def logSize : Nat := 24576

/-! ## Vector memory (R216) -/

/-- The end of vector memory. -/
def memEnd : Nat := 0xC00000000
/-- The size of one stack. -/
def stackSize : Nat := 0x600000000

/-- The stack that holds a vector-memory address: 0 is A, 1 is B. -/
def stackOf (a : Nat) : Nat := a / stackSize

/-- What a vector-memory byte that is not listed reads as: 0, as the zero-fill left it (R221). -/
def memDefault (_ : Nat) : Byte := 0

/-- The byte at `a`. -/
def memByte (m : List Host.Cell) (a : Nat) : Byte := Tab.get memDefault m a

/-- The byte at `a` set to `v`. -/
def memSetByte (m : List Host.Cell) (a : Nat) (v : Byte) : List Host.Cell := Tab.set memDefault m a v

/-- `n` bytes from `a` as a little-endian number (R8). -/
def memGet (m : List Host.Cell) (a : Nat) : Nat → Nat
  | 0 => 0
  | n + 1 => (memByte m a).toNat + 256 * memGet m (a + 1) n

/-- The low `n` bytes of `v` stored from `a`, little-endian (R8). -/
def memPut (m : List Host.Cell) (a v : Nat) : Nat → List Host.Cell
  | 0 => m
  | n + 1 => memPut (memSetByte m a (BitVec.ofNat 8 v)) (a + 1) (v / 256) n

/-- `n` bytes of vector memory from `a`. -/
def Device.memRead (d : Device) (a n : Nat) : Nat := memGet d.mem a n

/-- Whether an aligned 64-bit word that overlaps the `n` bytes from `a` holds an uncorrectable error. -/
def Device.memUE (d : Device) (a n : Nat) : Bool :=
  d.mpoison.any (fun e => e.2 && decide (a / 8 ≤ e.1) && decide (e.1 * 8 < a + n))

/-- Words that a store of `n` bytes at `a` covers in full get fresh check bits. -/
def clearPoison (t : Tab Bool) (a n : Nat) : Tab Bool := Tab.drop (fun k => decide (a ≤ k * 8) && decide (k * 8 + 8 ≤ a + n)) t

/-- An unconditional store of `n` bytes at `a`: it changes those bytes alone. -/
def Device.memStore (d : Device) (a n v : Nat) : Device :=
  { d with mem := memPut d.mem a v n, mpoison := clearPoison d.mpoison a n }

/-- Marks the aligned 64-bit word at `a` as uncorrectable. -/
def Device.poisonMem (d : Device) (a : Nat) : Device :=
  { d with mpoison := Tab.set (fun _ => false) d.mpoison (a / 8) true }

/-- Whether the window word pair at register address `a` holds an uncorrectable error. -/
def Device.winUE (d : Device) (a : Nat) : Bool := Tab.get (fun _ => false) d.poison (a / 8)

/-- Marks the window word pair at register address `a` as uncorrectable, or good. -/
def Device.setWinUE (d : Device) (a : Nat) (b : Bool) : Device :=
  { d with poison := Tab.set (fun _ => false) d.poison (a / 8) b }

/-- A read of the pair at `a` that finds an uncorrectable error (`found`) leaves the pair marked. -/
def Device.noteUE (d : Device) (a : Nat) (found : Bool) : Device := if found then d.setWinUE a true else d

/-- What SECDED finds in the timing-set pair at `a` (R71): a corrected error is repaired and counted, an uncorrectable one stays. -/
def Device.tsEcc (d : Device) (a : Nat) : Ecc → Device
  | .good => d
  | .corrected => { d with tsCe := d.tsCe + 1 }
  | .bad => d.setWinUE a true

/-! ## Free values -/

/-- The next free value, and the device that has drawn it. -/
def Device.draw (d : Device) : Nat × Device := (Config.free d.free, { d with free := d.free + 1 })

/-! ## The MRAM log (R383, R384) -/

/-- Keystone writes a log entry; beyond 100 in one second it is dropped and counted in the next (R383, R384). DATA is
given as a number, byte 0 lowest. -/
def Device.logAdd (d : Device) (source code data : Nat) : Device :=
  let sec := d.ttime / (usTicks * 1000000)
  if sec = d.logSec ∧ 100 ≤ d.logCnt then { d with logDropped := d.logDropped + 1 }
  else
    let lseq := ((d.log.getLast?).map (·.lseq)).getD 0 + 1
    let e : LogEntry := ⟨d.ttime, d.regN Reg.TIME_EPOCH, lseq % 2 ^ 32, source, code, data % 2 ^ 160, d.logDropped⟩
    let cnt := if sec = d.logSec then d.logCnt + 1 else 1
    let log := (d.log ++ [e]).drop (d.log.length + 1 - logSize)
    let d := { d with log := log, logDropped := 0, logSec := sec, logCnt := cnt }
    let d := (d.setRegN Reg.MGMT_LOGSEQ lseq).event Page.MGMT 3
    if d.bit Reg.MGMT_CTRL 0 then d.record 0x14 0x00050000 code lseq data (data / 2 ^ 32) else d

/-- A log entry whose DATA holds `v` in its low `bits` bits; the spec does not state the rest, which is free (log entry 2). -/
def Device.logWith (d : Device) (source code bits v : Nat) : Device :=
  let x := d.draw
  x.2.logAdd source code (v % 2 ^ bits + x.1 * 2 ^ bits)

/-! ## Contexts -/

/-- Channel `n`'s context. -/
def Device.chanOf (d : Device) (n : Nat) : ChanCtx := Tab.get (fun _ => ChanCtx.reset) d.chan n
/-- Channel `n`'s context replaced. -/
def Device.setChan (d : Device) (n : Nat) (c : ChanCtx) : Device := { d with chan := Tab.set (fun _ => ChanCtx.reset) d.chan n c }
/-- PEBUS port `k`. -/
def Device.pebOf (d : Device) (k : Nat) : PebPort := Tab.get (fun _ => PebPort.reset) d.peb k
/-- PEBUS port `k` replaced. -/
def Device.setPeb (d : Device) (k : Nat) (c : PebPort) : Device := { d with peb := Tab.set (fun _ => PebPort.reset) d.peb k c }
/-- Stream `s`'s context. -/
def Device.strOf (d : Device) (s : Nat) : StrCtx := Tab.get (fun _ => StrCtx.reset) d.str s
/-- Stream `s`'s context replaced. -/
def Device.setStr (d : Device) (s : Nat) (c : StrCtx) : Device := { d with str := Tab.set (fun _ => StrCtx.reset) d.str s c }
/-- Stream `s`'s context changed by `f`. -/
def Device.modStr (d : Device) (s : Nat) (f : StrCtx → StrCtx) : Device := d.setStr s (f (d.strOf s))
/-- The capture engine of pier `p`. -/
def Device.capOf (d : Device) (p : Nat) : CapCtx := Tab.get (fun _ => CapCtx.reset) d.cap p
/-- The capture engine of pier `p` replaced. -/
def Device.setCap (d : Device) (p : Nat) (c : CapCtx) : Device := { d with cap := Tab.set (fun _ => CapCtx.reset) d.cap p c }
/-- The capture engine of pier `p` changed by `f`. -/
def Device.modCap (d : Device) (p : Nat) (f : CapCtx → CapCtx) : Device := d.setCap p (f (d.capOf p))
/-- The trigger engine of pier `p`. -/
def Device.trgOf (d : Device) (p : Nat) : TrgCtx := Tab.get (fun _ => TrgCtx.reset) d.trg p
/-- The trigger engine of pier `p` replaced. -/
def Device.setTrg (d : Device) (p : Nat) (c : TrgCtx) : Device := { d with trg := Tab.set (fun _ => TrgCtx.reset) d.trg p c }

/-- Applies `f` for each index below `n`, in ascending order. -/
def Device.forN (d : Device) (n : Nat) (f : Device → Nat → Device) : Device := (List.range n).foldl f d

/-! ## Streams and piers (R30, R90) -/

/-- STR_STATUS.STATE of stream `s` (R90). -/
def Device.strState (d : Device) (s : Nat) : Nat := d.fld (Reg.STR_STATUS s) 0 4

/-- STR_STATUS.STATE of stream `s` set. -/
def Device.setStrState (d : Device) (s v : Nat) : Device := d.setFld (Reg.STR_STATUS s) 0 4 v

/-- A stream is halted when STATE is HALTED or FAULTED (R90). -/
def Device.halted (d : Device) (s : Nat) : Bool := d.strState s = 0 || d.strState s = 6

/-- A stream plays a burst: RUNNING, GAP or STOPPING (R90). -/
def Device.playing (d : Device) (s : Nat) : Bool := d.strState s = 3 || d.strState s = 4 || d.strState s = 5

/-- The stream a pier is assigned to (R30). -/
def Device.streamOf (d : Device) (p : Nat) : Option Nat :=
  if d.bit (Reg.PIER_CTRL p) 12 then some (d.fld (Reg.PIER_CTRL p) 8 4) else none

/-- The stream of a pier is halted, or the pier has none. -/
def Device.pierHalted (d : Device) (p : Nat) : Bool :=
  match d.streamOf p with
  | some s => d.halted s
  | none => true

/-- The piers of stream `s`, in ascending order (R30). -/
def Device.piers (d : Device) (s : Nat) : List Nat := (List.range 16).filter (fun p => decide (d.streamOf p = some s))

/-- The channels of pier `p` (R30). -/
def pierChans (p : Nat) : List Nat := (List.range 16).map (fun j => 16 * p + j)

/-- The channels of stream `s`, in ascending order. -/
def Device.chans (d : Device) (s : Nat) : List Nat := (d.piers s).flatMap pierChans

/-- Channel `n` is enabled (R32). -/
def Device.chanOn (d : Device) (n : Nat) : Bool := d.bit (Reg.PG_CTRL (Page.CHN n)) 0

/-- Channel `n` is static (R47). -/
def Device.chanStatic (d : Device) (n : Nat) : Bool := d.fld (Reg.CHN_PINMAP n) 28 2 = 1

/-- The device is in state NORMAL (R355). -/
def Device.normal (d : Device) : Bool := d.fld Reg.SAFE_STATUS 29 2 = 0

/-- PWR_STATE.STATE (R26). -/
def Device.pwrState (d : Device) : Nat := d.fld Reg.PWR_STATE 0 3

/-- The step of the TTIME counter: a TCLK period, in DOZE and RETAIN 40,960 ticks (R310, R314). -/
def Device.timeStride (d : Device) : Nat := if d.pwrState = 2 || d.pwrState = 3 then 40960 else 1280

/-- TTIME as the counter holds it: at the last TCLK edge (R310, R313), in DOZE and RETAIN at the last step of 40,960 ticks (R314). -/
def Device.ttimeNow (d : Device) : Nat := d.ttime / d.timeStride * d.timeStride

/-- DOZE, RETAIN or WAKING, and not READY or RUN (R21). -/
def Device.dozing (d : Device) : Bool := d.pwrState = 2 || d.pwrState = 3 || d.pwrState = 5

/-- DOZE, RETAIN or waking from either, and not the WAKING of a bring-up (R21, R27).
DESIGN CHOICE: ENTERING on the way from DOZE to RETAIN is neither, so the refused pages answer and RUN releases a core in it (log entry 127). -/
def Device.asleep (d : Device) : Bool := d.pwrState = 2 || d.pwrState = 3 || (d.pwrState = 5 && d.pwr.phase ≠ 0)

/-- PWR_STATE moves between READY and RUN with the streams (R19, R27). -/
def Device.syncRun (d : Device) : Device :=
  if d.pwrState ≤ 1 then
    d.setFld Reg.PWR_STATE 0 3 (if (List.range 16).any (fun s => d.playing s) then 1 else 0)
  else d

/-- A switch ends when every stream is on VTARGET (R146). -/
def Device.vendDone (d : Device) : Device :=
  if d.bit Reg.UCS_STATUS 11 && decide (d.fld Reg.UCS_VSEL 0 16 = (if d.bit Reg.UCS_STATUS 12 then 0xFFFF else 0)) then
    (d.setBit Reg.UCS_STATUS 11 false).event Page.UCS 4
  else d

/-- While VSWITCHING is 1, a halted stream moves to vendor half VTARGET; the last to move ends the switch (R146). -/
def Device.vendMove (d : Device) (s : Nat) : Device :=
  if d.bit Reg.UCS_STATUS 11 && d.halted s then
    (d.setFld Reg.UCS_VSEL s 1 (d.fld Reg.UCS_STATUS 12 1)).vendDone
  else d

end Sys2Proof.Machine
end

