-- ==== Sys2Proof/Machine/MemErr.lean ====
section
/-! DEFINITION. Vector memory below the address (R214–R227): mapping, rows, refresh, temperature, parity and replay,
corrected and uncorrectable errors. -/

namespace Sys2Proof.Machine

/-! ## Mapping (R214, R216) -/

/-- The offset of address `a` in its stack. -/
def stackOfs (a : Nat) : Nat := a % stackSize
/-- The memory channel of address `a`. -/
def mchOf (a : Nat) : Nat := 16 * stackOf a + stackOfs a / 512 % 16
/-- The pseudo-channel of address `a` in its channel. -/
def pcOf (a : Nat) : Nat := stackOfs a / 256 % 2
/-- The bank of address `a` in its pseudo-channel: SID, bank group, bank. -/
def bankOf (a : Nat) : Nat := stackOfs a / 2 ^ 33 * 16 + stackOfs a / 2 ^ 15 % 4 * 4 + stackOfs a / 2 ^ 17 % 4
/-- The row of address `a` in its bank. -/
def rowOf (a : Nat) : Nat := stackOfs a / 2 ^ 19 % 2 ^ 14
/-- A bank of the device: channel, pseudo-channel, bank. -/
def bankKey (n pc bank : Nat) : Nat := (2 * n + pc) * 48 + bank

/-- MEM_STATUS.STKOK of a stack. -/
def Device.stkOk (d : Device) (k : Nat) : Bool := d.bit Reg.MEM_STATUS (8 + k)

/-- A stack in service whose 16 channels are awake: accesses to its range are answered (R221, R352). -/
def Device.stackUp (d : Device) (k : Nat) : Bool := d.stkOk k && d.bit Reg.CLK_STATUS 3 && decide (d.fld Reg.PWR_AWAKE_M (16 * k) 16 = 0xFFFF)

/-- The `n` bytes at `a` exist, their stack is in service and awake, and the device is not asleep (R21, R217, R221, R352). -/
def Device.memThere (d : Device) (a n : Nat) : Bool :=
  decide (a + n ≤ memEnd) && !d.asleep && d.stackUp (stackOf a) && d.stackUp (stackOf (a + n - 1))

/-! ## Rows (R218) -/

/-- An access to address `a` leaves its row open, or closed with IDLE = 0. -/
def Device.touchRow (d : Device) (a : Nat) : Device :=
  let k := bankKey (mchOf a) (pcOf a) (bankOf a)
  { d with rows := Tab.set (fun _ => 0) d.rows k (if d.fld (Reg.MCH_CTRL (mchOf a)) 0 8 = 0 then 0 else rowOf a + 1) }

/-- Accesses to the `n` bytes at `a`, one 256-byte block after another. -/
def Device.touchRows (d : Device) (a n : Nat) : Device :=
  (List.range (ceilDiv (a % 256 + n) 256)).foldl (fun d i => d.touchRow (a / 256 * 256 + 256 * i)) d

/-- The row of a bank closes. -/
def Device.closeRow (d : Device) (n pc bank : Nat) : Device :=
  { d with rows := Tab.set (fun _ => 0) d.rows (bankKey n pc bank) 0 }

/-! ## Channels -/

/-- Channel `n`. -/
def Device.mchCtx (d : Device) (n : Nat) : MchCtx := Tab.get (fun _ => MchCtx.reset) d.mch n
/-- Channel `n` changed by `f`. -/
def Device.modMch (d : Device) (n : Nat) (f : MchCtx → MchCtx) : Device :=
  { d with mch := Tab.set (fun _ => MchCtx.reset) d.mch n (f (d.mchCtx n)) }

/-- MCH_STATUS.STATE: 0 RESET, 1 ACTIVE, 2 SELF-REFRESH, 3 OFF. -/
def Device.mchState (d : Device) (n : Nat) : Nat := d.fld (Reg.MCH_STATUS n) 4 2

/-- A refresh falls due on a pseudo-channel and the banks given are refreshed in its slot (R219): the debt stays within 4. -/
def Device.refreshDue (d : Device) (n pc : Nat) (banks : List Nat) : Device :=
  if d.mchState n ≠ 1 then d
  else
    let owed (x : Nat) : Nat := min 4 (x + 1 - banks.length)
    let d := d.modMch n (fun c => if pc = 0 then { c with debt0 := owed c.debt0 } else { c with debt1 := owed c.debt1 })
    let d := banks.foldl (fun d b => d.closeRow n pc b) d
    let now := max (d.mchCtx n).debt0 (d.mchCtx n).debt1
    (d.setFld (Reg.MCH_REFDEBT n) 0 8 now).setFld (Reg.MCH_REFDEBT n) 8 8 (max now (d.fld (Reg.MCH_REFDEBT n) 8 8))

/-! ## Temperature (R219, R220, R227) -/

/-- The bin boundaries in °C. -/
def binBounds : List Int := [10, 25, 40, 55, 70, 85, 100]

/-- The bin of a temperature for a stack in bin `b`: it moves when a boundary has been passed by 2 °C or more. -/
def nextBin (b : Nat) (t : Int) : Nat :=
  let up := binBounds.countP (fun x => decide (x + 2 ≤ t))
  let down := binBounds.countP (fun x => decide (x - 2 < t))
  if b < up then up else if down < b then down else b

/-- Channel `n` applies the delay set of its stack's bin: TBIN, and the event when it changed. -/
def Device.applyBin (d : Device) (n : Nat) : Device :=
  let b := d.fld Reg.MEM_STATUS (if n < 16 then 16 else 24) 4
  if d.fld (Reg.MCH_STATUS n) 0 3 = b then d else (d.setFld (Reg.MCH_STATUS n) 0 3 b).event (Page.MCH n) 4

/-- A stack's temperature is read (R215, R219, R220). `t` is in two's complement of 8 bits. -/
def Device.stackTemp (d : Device) (k t : Nat) : Device :=
  let d := d.setFld Reg.MEM_TEMP (8 * k) 8 t
  let z := signed 8 t
  let d := d.setFld Reg.MEM_STATUS (16 + 8 * k) 4 (nextBin (d.fld Reg.MEM_STATUS (16 + 8 * k) 4) z)
  d.forN 16 (fun d j =>
    let n := 16 * k + j
    let d := d.setBit (Reg.MCH_STATUS n) 8 (decide (85 < z))
    if d.mchState n = 1 then d.applyBin n else d)

/-! ## Errors (R222–R226) -/

/-- A corrected error at address `a` (R223): counted, CE, and a MEM_CE record at most once per 1 ms and channel. -/
def Device.memCE (d : Device) (a syn : Nat) : Device :=
  let n := mchOf a
  let d := (d.addSat (Reg.MCH_CE_CNT n) (16 * pcOf a) 16 1).addSat Reg.MEM_CE_CNT 0 32 1
  let d := (d.event (Page.MCH n) 0).modMch n (fun c => { c with ce := c.ce + 1 })
  let c := d.mchCtx n
  let due := match c.ceAt with | some t => decide (t + 1000 * usTicks ≤ d.ttime) | none => true
  if d.bit Reg.MEM_CTRL 0 && due then
    let d := d.record 0x0A (0x00200000 + n) (min c.ce 0xFFFF) a (a / 2 ^ 32) (pcOf a * 256 + syn % 256)
    d.modMch n (fun c => { c with ce := 0, ceAt := some d.ttime })
  else d

/-- An uncorrectable error found by a read of origin `o` at address `a` (R224, R226); `str` is the stream of origin 0. -/
def Device.memUEat (d : Device) (a o str syn : Nat) : Device :=
  let n := mchOf a
  let d := (d.addSat (Reg.MCH_UE_CNT n) (16 * pcOf a) 16 1).addSat Reg.MEM_UE_CNT 0 32 1
  let d := (d.setRegN Reg.MEM_UE_ADDR_LO a).setRegN Reg.MEM_UE_ADDR_HI (2 ^ 31 + a / 2 ^ 32 % 16)
  let d := d.event (Page.MCH n) 1
  d.record 0x0B (0x00200000 + n) (str * 2 ^ 16 + pcOf a * 256 + o) a (a / 2 ^ 32) (syn % 256)

/-- An uncorrectable error whose syndrome the spec does not give: it is free (log entry 2). -/
def Device.memUEfree (d : Device) (a o str : Nat) : Device := let x := d.draw; x.2.memUEat a o str (x.1 % 256)

/-- The stream field of an error that no stream's fetch found. -/
def noStream : Nat := 0xFFFF

/-- The addresses of the bad words among the `n` bytes at `a`. -/
def Device.badWords (d : Device) (a n : Nat) : List Nat :=
  (d.mpoison.filter (fun e => e.2 && decide (a / 8 ≤ e.1) && decide (e.1 * 8 < a + n))).map (fun e => e.1 * 8)

/-- A corrected access is written back with CE_WB = 1, unless a queued write superseded it (R223); the data held is that
delivered. -/
def Device.ceWriteback (d : Device) (a syn : Nat) (superseded : Bool) : Device :=
  let d := d.memCE a syn
  if d.bit Reg.MEM_CTRL 1 && !superseded then d.touchRow a else d

/-- A scrubber read (R225): an uncorrectable word is recorded and left as it is. -/
def Device.memScrub (d : Device) (a : Nat) (e : Ecc) (syn : Nat) : Device :=
  if d.fld Reg.MEM_CTRL 16 8 = 0 || d.mchState (mchOf a) ≠ 1 then d
  else
    let d := d.touchRow a
    match e with
    | .good => if d.memUE a 8 then d.memUEat a 4 noStream syn else d
    | .corrected => d.memCE a syn
    | .bad => (d.poisonMem a).memUEat a 4 noStream syn

/-- A parity error on a pseudo-channel starts a replay (R222). -/
def Device.memParity (d : Device) (n pc : Nat) : Device :=
  if d.mchState n ≠ 1 then d
  else
    let d := (d.addSat (Reg.MCH_REPLAY n) (16 * pc) 16 1).event (Page.MCH n) 2
    d.modMch n (fun c => if pc = 0 then { c with rep0 := min 3 (c.rep0 + 1) } else { c with rep1 := min 3 (c.rep1 + 1) })

/-- Consecutive replays of a pseudo-channel's command. -/
def Device.replays (d : Device) (n pc : Nat) : Nat := if pc = 0 then (d.mchCtx n).rep0 else (d.mchCtx n).rep1

/-- The replayed commands of a pseudo-channel are done. -/
def Device.replayClear (d : Device) (n pc : Nat) : Device :=
  d.modMch n (fun c => if pc = 0 then { c with rep0 := 0 } else { c with rep1 := 0 })

/-! ## Partial writes (R217) -/

/-- A store by an engine of the device: a bad word that it covers in part takes the new bytes, zeros elsewhere and fresh check
bits, and a MEM_UE record is written. -/
def Device.engineStore (d : Device) (a n v : Nat) : Device :=
  let bad := (d.badWords a n).filter (fun w => !(decide (a ≤ w) && decide (w + 8 ≤ a + n)))
  let d := bad.foldl (fun d w => (d.memUEfree w 3 noStream).memStore w 8 0) d
  (d.memStore a n v).touchRows a n

end Sys2Proof.Machine
end

