-- ==== Sys2Proof/Machine/Spans.lean ====
section
/-! DEFINITION. The span table (R94–R96): descriptors, and which spans are active. -/

namespace Sys2Proof.Machine

/-- Address of word `w` of span descriptor `i` (R94). -/
def spanWord (i w : Nat) : Nat := 0x600000 + 16 * i + 4 * w

/-- Start address of span `i` in vector memory. -/
def Device.spanAddr (d : Device) (i : Nat) : Nat := d.fld (spanWord i 0) 0 30 * 64
/-- Number of records of span `i`. -/
def Device.spanLen (d : Device) (i : Nat) : Nat := d.regN (spanWord i 1)
/-- SIZE64 of span `i`. -/
def Device.spanSize64 (d : Device) (i : Nat) : Nat := d.fld (spanWord i 2) 0 28
/-- READY of span `i`. -/
def Device.spanReady (d : Device) (i : Nat) : Bool := d.bit (spanWord i 3) 31
/-- LOOPC of span `i`. -/
def Device.spanLoopc (d : Device) (i : Nat) : Bool := d.bit (spanWord i 3) 29
/-- SEGT of span `i`. -/
def Device.spanSegt (d : Device) (i : Nat) : Bool := d.bit (spanWord i 3) 28
/-- MODE of span `i`. -/
def Device.spanMode (d : Device) (i : Nat) : Nat := d.fld (spanWord i 3) 26 2
/-- NPIER of span `i`. -/
def Device.spanNpier (d : Device) (i : Nat) : Nat := d.fld (spanWord i 3) 16 5

/-- Whether stream `s` holds span `i` active: it is being fetched, resident in the loop cache, or prefetched as the
armed jump target (R94, R98). -/
def Device.holdsSpan (d : Device) (s i : Nat) : Bool :=
  (d.strOf s).actSpans.contains i || decide ((d.strOf s).jump = some i) || decide ((d.strOf s).jumpBuf = some i) ||
    (d.bit (Reg.STR_STATUS s) 8 && decide (d.fld (Reg.STR_STATUS s) 16 16 = i))

/-- The spans that stream `s` holds active. -/
def Device.heldSpans (d : Device) (s : Nat) : List Nat :=
  (d.strOf s).actSpans ++ (d.strOf s).jump.toList ++ (d.strOf s).jumpBuf.toList ++
    (if d.bit (Reg.STR_STATUS s) 8 then [d.fld (Reg.STR_STATUS s) 16 16] else [])

/-- The lowest stream that holds span `i` active. -/
def Device.spanHolder (d : Device) (i : Nat) : Option Nat := (List.range 16).find? (fun s => d.holdsSpan s i)

/-- ACTIVE of span `i` (R94). -/
def Device.spanActive (d : Device) (i : Nat) : Bool := (d.spanHolder i).isSome

/-- Whether the `n` bytes at `a` overlap the bytes of span `i`. -/
def Device.overSpan (d : Device) (i a n : Nat) : Bool :=
  let b := d.spanAddr i
  decide (a < b + d.spanSize64 i * 64) && decide (b < a + n)

/-- The lowest stream that holds a span active whose bytes the `n` bytes at `a` overlap (R102, R171). -/
def Device.overActive (d : Device) (a n : Nat) : Option Nat :=
  (List.range 16).find? (fun s => (d.heldSpans s).any (fun i => d.overSpan i a n))

/-- The piers of stream `s` counted (NP of R92). -/
def Device.np (d : Device) (s : Nat) : Nat := (d.piers s).length

/-- Bytes of pier data per pier and record in a mode (R92). -/
def pierBytes (mode : Nat) : Nat := if mode = 2 then 16 else 8

/-- Bytes of a record whose cycle word is `w` (R92). -/
def recBytes (mode np w : Nat) : Nat := if natBit w 0 then 4 else 4 + pierBytes mode * np

/-- The record check of R96 on a record of cycle word `w` at `ptr` of a span that ends at `stop`, `left` records before the end counting
itself: it lies within the span, and LAST is 1 on the final record only. -/
def recordOk (mode np w ptr stop left : Nat) : Bool := decide (ptr + recBytes mode np w ≤ stop) && (natBit w 3 == decide (left = 1))

/-- The checks of R96 and R230 on the descriptor. The records are checked as play reaches them (R105). -/
def Device.spanOk (d : Device) (s i : Nat) : Bool :=
  let a := d.spanAddr i
  let size := d.spanSize64 i * 64
  let mode := d.fld (Reg.STR_CTRL s) 0 2
  decide (d.spanMode i = mode) && decide (d.spanNpier i = d.np s) && decide (1 ≤ d.spanLen i) && decide (1 ≤ d.spanSize64 i) &&
    decide (a + size ≤ memEnd) && decide (stackOf a = stackOf (a + size - 1)) &&
    natBit (d.fld (Reg.LDG_SCFG s) 16 2) (stackOf a) && d.stkOk (stackOf a)

/-! ## The stream buffer (R89, R98) -/

/-- Bytes of the stream buffer (R89). -/
def bufSize : Nat := 65536

/-- Bytes that a jump target's prefetch brings: the first 8 KiB, or the whole span if smaller (R114). -/
def Device.jumpBytes (d : Device) (i : Nat) : Nat := min (d.spanSize64 i * 64) 8192

/-- Bytes of the stream buffer that a request holds. -/
def QItem.bufBytes : QItem → Nat
  | .play _ _ f | .matchPlay _ _ f _ =>
    match f with
    | .ready b => b.size * 64
    | .fetching _ got cache => if cache then 0 else got
    | _ => 0
  | .act _ _ => 0

/-- The bytes that have arrived of the span in play, while its own fetch goes on: the last span taken into play. -/
def StrCtx.lateGot (c : StrCtx) : Option Nat :=
  match c.pos, c.late.getLast? with
  | some p, some (n, got, cache) => if n = p.buf.span ∧ cache = p.cached then some got else none
  | _, _ => none

/-- Bytes of the stream buffer that the span in play holds: what has arrived of it and has not been played. -/
def StrCtx.posBytes (c : StrCtx) : Nat :=
  match c.pos with
  | some p => if p.cached then 0 else (c.lateGot).getD (p.buf.size * 64) - (p.ptr - p.buf.start)
  | none => 0

/-- `n` bytes from `a` of a span the player holds. -/
def SpanBuf.get (b : SpanBuf) (a n : Nat) : Nat := memGet b.cells a n

/-- The loop cache holds span `n`, or is being loaded with it (R99). -/
def Device.lcHolds (d : Device) (s n : Nat) : Bool :=
  d.bit (Reg.STR_STATUS s) 8 && decide (d.fld (Reg.STR_STATUS s) 16 16 = n)

/-- The first record of span `n`, of which no fetch has begun, is at hand: the span is resident in the loop cache, which serves the request, or
a jump's prefetch has brought the record (R99, R101, R114). -/
def Device.atHand (d : Device) (s n : Nat) (lcOn : Bool) : Bool :=
  (lcOn && d.lcHolds s n && (d.strOf s).lc.isSome) ||
    (decide ((d.strOf s).jumpBuf = some n) &&
      decide (recBytes (d.fld (Reg.STR_CTRL s) 0 2) (d.np s) (d.memRead (d.spanAddr n) 4) ≤ d.jumpBytes n))

/-- The record that stream `s` needs for its next cycle is neither in the stream buffer nor in the loop cache (R101). -/
def Device.recordAbsent (d : Device) (s : Nat) : Bool :=
  let c := d.strOf s
  let mode := d.fld (Reg.STR_CTRL s) 0 2
  match c.pos with
  | some p =>
    match c.lateGot with
    | some got => p.reps = 0 && decide (p.buf.start + got < p.ptr + recBytes mode (d.np s) (p.buf.get p.ptr 4))
    | none => false
  | none =>
    match c.queue with
    | [] => true
    | .act _ _ :: _ => false
    | .play n _ f :: _ =>
      match f with
      | .waiting => !d.atHand s n (d.bit (Reg.STR_CTRL s) 4)
      | .fetching _ got _ => decide (got < recBytes mode (d.np s) (d.memRead (d.spanAddr n) 4))
      | _ => false
    | .matchPlay n _ f _ :: _ =>
      match f with
      | .waiting => !d.atHand s n true
      | .fetching _ got _ => decide (got < recBytes mode (d.np s) (d.memRead (d.spanAddr n) 4))
      | _ => false

/-- STR_BUFLVL.BYTES: the bytes in the stream buffer (R125). -/
def Device.bufBytes (d : Device) (s : Nat) : Nat :=
  let c := d.strOf s
  let jump := if d.bit (Reg.STR_STATUS s) 5 then c.jump.toList else c.jumpBuf.toList
  (c.queue.map QItem.bufBytes).sum + c.posBytes + (jump.map d.jumpBytes).sum

end Sys2Proof.Machine
end

