-- ==== Sys2Proof/Machine/Capture.lean ====
section
/-! DEFINITION. The Gecko capture engines (R164–R184): fail counters, segments, records, quotas, and fail bitmaps. -/

namespace Sys2Proof.Machine

/-- What one cycle yields on one pier (R164): the two 128-bit blocks (lane j in byte j), which lanes contribute and which
fail, and the slots of the measured lane with their channel times. -/
structure CapIn where
  t : Nat
  tEnd : Nat
  prevEnd : Nat
  cycle : Nat
  sample : Nat
  fail : Nat
  contrib : Nat
  failed : Nat
  isMatch : Bool
  capBit : Bool
  first : Bool
  start : Bool
  marginal : Bool
  meas : List (Nat × Bool)
deriving DecidableEq, Repr

/-- The site of channel `n`, when it belongs to one (R51). -/
def Device.chanSite (d : Device) (n : Nat) : Option Nat :=
  if d.bit (Reg.CHN_SITE n) 6 then some (d.fld (Reg.CHN_SITE n) 0 6) else none

/-- The sites of the lanes of pier `p` in a lane mask, as a 64-bit mask. -/
def Device.laneSites (d : Device) (p lanes : Nat) : Nat :=
  (List.range 16).foldl (fun m j =>
    if natBit lanes j then (match d.chanSite (16 * p + j) with | some s => m ||| 2 ^ s | none => m) else m) 0

/-- Whether a lane in the mask belongs to no site. -/
def Device.laneUnsited (d : Device) (p lanes : Nat) : Bool :=
  (List.range 16).any (fun j => natBit lanes j && (d.chanSite (16 * p + j)).isNone)

/-- Saturation of header counts at 0xFFFF_FFFE (R177). -/
def sat32 (n : Nat) : Nat := min n 0xFFFFFFFE

/-! ## Quotas (R179, R180) -/

/-- A site whose use has fallen below its quota may be reported over quota again (R179). -/
def Device.quotaRefresh (d : Device) (p : Nat) : Device :=
  d.modCap p (fun c => { c with overs := bitsOf 64 (fun s =>
    natBit c.overs s && decide (d.regN (Reg.CAP_QUOTA p s) ≤ d.regN (Reg.CAP_USE p s))) })

/-- Charges `sites` (a mask) with one record, or takes the charge back. -/
def Device.charge (d : Device) (p sites : Nat) (up : Bool) : Device :=
  (List.range 64).foldl (fun d s =>
    if natBit sites s then
      d.setRegN (Reg.CAP_USE p s) (if up then d.regN (Reg.CAP_USE p s) + 1 else d.regN (Reg.CAP_USE p s) - 1)
    else d) d

/-- The sites of `sites` that are over quota (R179). -/
def Device.overQuota (d : Device) (p sites : Nat) : Nat :=
  bitsOf 64 (fun s => natBit sites s && decide (d.regN (Reg.CAP_QUOTA p s) ≤ d.regN (Reg.CAP_USE p s)))

/-- The first withholding of each over-quota site raises QUOTA_OVER and writes a QUOTA record (R179, R192). -/
def Device.withhold (d : Device) (p overs t : Nat) : Device :=
  (List.range 64).foldl (fun d s =>
    if natBit overs s && !natBit (d.capOf p).overs s then
      let d := d.event (Page.CAP p) 2
      let d := d.recordAt t 0x11 3 (0x00500000 + p) 1 s (d.regN (Reg.CAP_QUOTA p s)) (d.regN (Reg.CAP_USE p s))
      d.modCap p (fun c => { c with overs := natSetBit c.overs s })
    else d) d

/-- CAP_RELEASE (R180): lowers one site's use, or sets every use to 0. -/
def Device.capRelease (d : Device) (p v : Nat) : Device :=
  let d := if natBit v 31 then d.forN 64 (fun d s => d.setRegN (Reg.CAP_USE p s) 0)
    else d.setRegN (Reg.CAP_USE p (v / 2 ^ 24 % 64)) (d.regN (Reg.CAP_USE p (v / 2 ^ 24 % 64)) - v % 2 ^ 24)
  d.quotaRefresh p

/-! ## Writing records and headers (R169, R171, R177) -/

/-- A capture write of 64 bytes: refused whole onto an active span, counted and marked (R171). -/
def Device.capStore (d : Device) (p a v : Nat) : Device × Bool :=
  match d.overActive a 64 with
  | some _ => (((d.addSat (Reg.CAP_WREJ p) 0 16 1).event (Page.CAP p) 3), false)
  | none => ((d.memStore a 64 v).touchRow a, true)

/-- A block with the bytes of the lanes outside `keep` written as 0. -/
def maskBlock (block keep : Nat) : Nat :=
  (List.range 16).foldl (fun a j => if natBit keep j then a + (block / 256 ^ j % 256) * 256 ^ j else a) 0

/-- The first slot from `k` in ring order that is not protected. -/
def freeSlot (n : Nat) (kept : List Nat) (k : Nat) : Nat → Option Nat
  | 0 => none
  | fuel + 1 => if kept.contains (k % n) then freeSlot n kept (k + 1) fuel else some (k % n)

/-- Protects slots that hold the last `pre` blocks before the trigger point, newest record first, at most `room` slots
(R176). -/
def protectSlots : List SlotUse → Nat → Nat → List Nat
  | [], _, _ => []
  | u :: us, pre, room =>
    if pre = 0 ∨ room = 0 then [] else u.slot :: protectSlots us (pre - u.nblk) (room - 1)

/-- The open record of a segment is not written: its cycles count in the next one's SKIP, and blocks it held before the trigger point are
protected in older records instead (R171, R176, R179). -/
def Device.unwritten (d : Device) (p : Nat) (r : OpenRec) (g : SegCtx) (rg : Region) : SegCtx :=
  { g with skip := r.skip + r.blocks.length,
           kept := if r.keep then protectSlots g.slots.reverse (d.regN (Reg.CAP_PRE p)) (rg.seg64 - 2) else g.kept }

/-- The record's 64 bytes (R169). -/
def recordImage (r : OpenRec) (p type : Nat) (ovq multi : Bool) (site keep : Nat) : Nat :=
  let hdr := r.ttime % 2 ^ 64 + (r.cycle % 2 ^ 32) * 2 ^ 64 +
    ((min r.skip 32767) * 2 ^ 17 + (if ovq then 2 ^ 16 else 0) + type * 2 ^ 13 + (if multi then 2 ^ 12 else 0) +
      site * 2 ^ 6 + p * 4 + r.blocks.length) * 2 ^ 96
  hdr + maskBlock (r.blocks.getD 0 (0, 0)).1 keep * 2 ^ 128 + maskBlock (r.blocks.getD 1 (0, 0)).1 keep * 2 ^ 256 +
    maskBlock (r.blocks.getD 2 (0, 0)).1 keep * 2 ^ 384

/-- Writes the open record of pier `p` to its slot, under the quota and active-span rules (R168–R171, R179). -/
def Device.flushRec (d : Device) (p : Nat) : Device :=
  let c := d.capOf p
  match c.openRec, c.seg, c.region with
  | some r, some g, some rg =>
    let present := r.blocks.foldl (fun m b => m ||| b.2) 0
    let sites := d.laneSites p present
    let overs := d.overQuota p sites
    let unsited := d.laneUnsited p present
    let d := d.withhold p overs r.ttime
    let g := if overs = 0 then g else { g with quota := true }
    if overs ≠ 0 ∧ overs = sites ∧ !unsited then
      d.modCap p (fun c => { c with openRec := none, seg := some (d.unwritten p r g rg) })
    else
      let keep := bitsOf 16 (fun j => natBit present j &&
        (match d.chanSite (16 * p + j) with | some s => !natBit overs s | none => true))
      let shown := d.laneSites p keep
      let multi := decide (1 < popCount shown 64)
      let site := if multi then 0 else (lowestBit shown 64).getD 0
      let type := if d.fld (Reg.CAP_CTRL p) 0 2 = 0 then 1 else 0
      let addr := rg.base + d.fld (Reg.CAP_STATUS p) 12 20 * rg.seg64 * 64 + 64 * (r.slot + 1)
      let w := d.capStore p addr (recordImage r p type (overs ≠ 0) multi site keep)
      if w.2 then
        let old := g.slots.filter (fun u => u.slot = r.slot)
        let d := old.foldl (fun d u => d.charge p u.sites false) w.1
        let d := d.charge p (sites - (sites &&& overs)) true
        let use : SlotUse := ⟨r.slot, sites - (sites &&& overs), r.blocks.length⟩
        let d := d.modCap p (fun c => { c with openRec := none, seg := some { g with
          slots := g.slots.filter (fun u => u.slot ≠ r.slot) ++ [use]
          kept := if 0 < r.post || r.keep then g.kept ++ [r.slot] else g.kept
          next := (r.slot + 1) % (rg.seg64 - 1)
          post := g.post + r.post } })
        d.quotaRefresh p
      else w.1.modCap p (fun c => { c with openRec := none, seg := some { w.1.unwritten p r g rg with wrej := true } })
  | _, _, _ => d.modCap p (fun c => { c with openRec := none })

/-- The STATUS dword of a segment header (R177). -/
def Device.segStatus (d : Device) (p : Nat) (g : SegCtx) (close : Nat) : Nat :=
  2 ^ 31 + (if d.bit (Reg.CAP_STATUS p) 6 then 2 ^ 30 else 0) + (if g.trig.isSome then 2 ^ 29 else 0) +
    (if g.trunc then 2 ^ 28 else 0) + (if g.full then 2 ^ 27 else 0) + (if g.quota then 2 ^ 26 else 0) +
    (if g.marginal then 2 ^ 25 else 0) + (if g.wrej then 2 ^ 24 else 0) + close * 2 ^ 21 + d.fld (Reg.CAP_STATUS p) 12 20

/-- An optional offset of a header, 0xFFFF_FFFF when absent. -/
def hdrOpt (o : Option Nat) : Nat := match o with | some n => sat32 n | none => 0xFFFFFFFF

/-- The segment header's 64 bytes (R177, R178). -/
def segHeader (g : SegCtx) (measOn : Bool) (status : Nat) : Nat :=
  let period := if g.meas.rises < 2 then 0 else (g.meas.lastRise - g.meas.firstRise) / (g.meas.rises - 1)
  let ws : List Nat := [hdrOpt (g.trig.map (fun c => c - g.openCycle)), sat32 g.slots.length,
    (g.slots.head?.map (fun u => u.slot)).getD 0, sat32 g.post, sat32 g.dead, sat32 g.fails,
    hdrOpt (g.firstFail.map (fun c => c - g.openCycle)), hdrOpt (g.lastFail.map (fun c => c - g.openCycle)),
    if measOn then sat32 g.meas.edges else 0, if measOn then sat32 period else 0,
    if measOn then sat32 (g.meas.width.getD 0) else 0, status]
  g.ttime % 2 ^ 64 + (g.openCycle % 2 ^ 64) * 2 ^ 64 +
    (ws.foldr (fun w a => w % 2 ^ 32 + 2 ^ 32 * a) 0) * 2 ^ 128

/-- The last record slot of a linear segment has been written (R175). -/
def Device.segFull (d : Device) (p : Nat) : Bool :=
  match (d.capOf p).seg, (d.capOf p).region with
  | some g, some rg => !d.bit (Reg.CAP_CTRL p) 6 && g.slots.any (fun u => u.slot = rg.seg64 - 2)
  | _, _ => false

/-- Closes the open segment of pier `p` (R172, R174, R175, R177, R192): its record is finished, the header is written, STATUS
last, and the index advances. `close` is the CLOSE code, `t` the end of the segment's last cycle. -/
def Device.segClose (d : Device) (p close t : Nat) : Device :=
  let d := if (d.capOf p).openRec.isSome then d.flushRec p else d
  let full := d.segFull p
  let d := d.modCap p (fun c => { c with seg := c.seg.map (fun g => { g with full := full }) })
  let c := d.capOf p
  match c.seg, c.region with
  | some g, some rg =>
    let idx := d.fld (Reg.CAP_STATUS p) 12 20
    let addr := rg.base + idx * rg.seg64 * 64
    let g := if (d.overActive addr 64).isSome then { g with wrej := true } else g
    let status := d.segStatus p g close
    let d := (d.capStore p addr (segHeader g (d.bit (Reg.CAP_CTRL p) 20) status)).1
    let wrap := d.bit (Reg.CAP_CTRL p) 7
    let final := decide (idx + 1 = rg.cnt)
    let d := d.event (Page.CAP p) 0
    let d := d.hook (32 + p) idx
    let d := if d.bit (Reg.CAP_CTRL p) 8 || g.trunc || g.quota || g.wrej || close = 4 || (final && !wrap) then
        d.recordAt t 0x05 1 (0x00500000 + p) status (sat32 g.slots.length) (hdrOpt (g.trig.map (fun c => c - g.openCycle)))
          (sat32 g.post)
      else d
    let d := d.setFld (Reg.CAP_STATUS p) 12 20 (if final && wrap then 0 else idx + 1)
    let d := if final && wrap then d.setBit (Reg.CAP_STATUS p) 6 (!d.bit (Reg.CAP_STATUS p) 6) else d
    let d := if final && !wrap then (d.setBit (Reg.CAP_STATUS p) 5 true).event (Page.CAP p) 1 else d
    let d := (d.setBit (Reg.CAP_STATUS p) 1 false).setBit (Reg.CAP_STATUS p) 4 false
    d.modCap p (fun c => { c with seg := none, openRec := none })
  | _, _ => d.modCap p (fun c => { c with seg := none, openRec := none, pendOpen := false })

/-- The record in progress on pier `p` ends; a linear segment whose last slot it takes is full and closes (R168, R175). -/
def Device.endRec (d : Device) (p t : Nat) : Device :=
  if (d.capOf p).openRec.isSome then
    let d := d.flushRec p
    if d.segFull p then d.segClose p 2 t else d
  else d

/-- Closes the segment of pier `p` when one is open. -/
def Device.segCloseIf (d : Device) (p close t : Nat) : Device :=
  let d := d.modCap p (fun c => { c with pendOpen := false, dead := 0 })
  if (d.capOf p).seg.isSome then d.segClose p close t else d

/-- A supply excursion is in progress on a rail that marks bursts and segments (R342). -/
def Device.marginalNow (d : Device) : Bool :=
  ((d.fld Reg.SUP_STATUS 0 8 ||| d.fld Reg.SUP_STATUS 8 8) &&& d.fld Reg.SUP_CTRL 16 8) ≠ 0

/-- Opens the segment at the current index in the cycle `i` (R172, R173); every open starts a re-arm. -/
def Device.segOpen (d : Device) (p : Nat) (i : CapIn) : Device :=
  let dead := (d.capOf p).dead
  let g : SegCtx :=
   { ttime := i.t, openCycle := i.cycle, trig := none, slots := [], kept := [], next := 0, post := 0, dead := dead,
     fails := 0, firstFail := none, lastFail := none, trunc := false, full := false, quota := false, marginal := i.marginal,
     wrej := false, skip := 0, isFirst := true, meas := Meas.reset }
  let d := ((d.setBit (Reg.CAP_STATUS p) 1 true).setBit (Reg.CAP_STATUS p) 3 true).setBit (Reg.CAP_STATUS p) 4 false
  let d := d.modCap p (fun c => { c with seg := some g, openRec := none, pendOpen := false, dead := 0 })
  let d := d.setFld (Reg.TRG_STATUS p) 0 4 0
  let d := match d.streamOf p with
    | some s => { d with ivmq := if d.ivmq.contains (0x2E0 + s, i.t, false) then d.ivmq else d.ivmq ++ [(0x2E0 + s, i.t, false)] }
    | none => d
  d.setTrg p { d.trgOf p with segFails := 0 }

/-- Whether a segment can open on pier `p`: armed, not in BITMAP mode, and the region not full (R172, R174). -/
def Device.canOpen (d : Device) (p : Nat) : Bool :=
  (d.capOf p).region.isSome && d.bit (Reg.CAP_STATUS p) 0 && !(d.fld (Reg.CAP_CTRL p) 0 2 = 3) && !d.bit (Reg.CAP_STATUS p) 5

/-- Takes one measured slot into the measurements of a segment (R178). -/
def Meas.step (m : Meas) (t : Nat) (chi : Bool) : Meas :=
  match m.level with
  | none => { m with level := some chi }
  | some l =>
    if l = chi then m
    else if chi then
      { m with level := some chi, edges := m.edges + 1, rises := m.rises + 1,
               firstRise := if m.rises = 0 then t else m.firstRise, lastRise := t }
    else
      { m with level := some chi, edges := m.edges + 1,
               width := if m.width.isNone && decide (0 < m.rises) then some (t - m.firstRise) else m.width }

/-! ## One cycle -/

/-- The fail counters of R166 for one cycle. -/
def Device.countFails (d : Device) (p : Nat) (i : CapIn) : Device :=
  if i.isMatch || i.failed = 0 then d
  else
    let d := (List.range 16).foldl (fun d j => if natBit i.failed j then d.addSat (Reg.CAP_LANEFAIL p j) 0 32 1 else d) d
    let sites := d.laneSites p i.failed
    let d := (List.range 64).foldl (fun d s => if natBit sites s then d.addSat (Reg.CAP_SITEFAIL p s) 0 32 1 else d) d
    let d := d.addSat (Reg.CAP_FAILCYC p) 0 32 1
    let d := d.setReg64 (Reg.CAP_LAST_LO p) (Reg.CAP_LAST_HI p) i.cycle
    if d.bit (Reg.CAP_FIRSTLANE p) 31 then d
    else (d.setReg64 (Reg.CAP_FIRST_LO p) (Reg.CAP_FIRST_HI p) i.cycle).setRegN (Reg.CAP_FIRSTLANE p) (2 ^ 31 + i.failed % 2 ^ 16)

/-- The part of a cycle before the triggers judge it: segment starts and re-arm, fail counts, measurements (R166, R172,
R173, R178). -/
def Device.capBegin (d : Device) (p : Nat) (i : CapIn) : Device :=
  let d := if i.start && d.canOpen p then
      let d := if (d.capOf p).seg.isSome then d.segClose p 0 i.prevEnd else d
      if d.canOpen p then d.modCap p (fun c => { c with pendOpen := true }) else d
    else d
  let d := if (d.capOf p).pendOpen then
      if d.bit (Reg.CAP_STATUS p) 3 then d.modCap p (fun c => { c with dead := c.dead + 1 }) else d.segOpen p i
    else d
  let d := d.countFails p i
  d.modCap p (fun c => { c with seg := c.seg.map (fun g =>
    let g := if i.isMatch || i.failed = 0 then g
      else { g with fails := g.fails + 1, firstFail := some (g.firstFail.getD i.cycle), lastFail := some i.cycle }
    let g := if i.marginal then { g with marginal := true } else g
    { g with meas := i.meas.foldl (fun m s => m.step s.1 s.2) g.meas }) })

/-- A trigger-point action of the stream in this cycle (R175, R176): the first of the segment counts. -/
def Device.capTrigger (d : Device) (p : Nat) (i : CapIn) : Device :=
  let c := d.capOf p
  match c.seg, c.region with
  | some g, some rg =>
    if g.trig.isSome then d
    else
      let pre := d.regN (Reg.CAP_PRE p)
      let n := (c.openRec.map (fun r => r.blocks.length)).getD 0
      let keep := d.bit (Reg.CAP_CTRL p) 6 && decide (0 < n) && decide (0 < pre) && decide (2 < rg.seg64)
      let cur := if keep then (c.openRec.map (fun r => r.slot)).toList else []
      let kept := if d.bit (Reg.CAP_CTRL p) 6 then
          protectSlots (g.slots.reverse.filter (fun u => !cur.contains u.slot)) (pre - n) (rg.seg64 - 2 - cur.length)
        else []
      (d.setBit (Reg.CAP_STATUS p) 4 true).modCap p (fun c =>
        { c with seg := some { g with trig := some i.cycle, kept := kept }, openRec := c.openRec.map (fun r => { r with keep := keep }) })
  | _, _ => d

/-- Whether a cycle qualifies for capture on pier `p` (R167). -/
def Device.qualifies (d : Device) (p : Nat) (g : SegCtx) (i : CapIn) : Bool :=
  !i.isMatch && (!d.bit (Reg.CAP_CTRL p) 4 || i.capBit) &&
    (match d.fld (Reg.CAP_CTRL p) 0 2 with
     | 0 => decide (i.failed ≠ 0)
     | 1 => decide ((d.capOf p).prev ≠ some i.sample) || g.isFirst || i.first
     | 2 => true
     | _ => false)

/-- Post-trigger blocks wanted: CAP_POST, 0 acting as 1 (R176). -/
def Device.capPost (d : Device) (p : Nat) : Nat := if d.regN (Reg.CAP_POST p) = 0 then 1 else d.regN (Reg.CAP_POST p)

/-- Adds the cycle's block to the open record and writes the record when it is complete (R168, R176). -/
def Device.capAddBlock (d : Device) (p : Nat) (r : OpenRec) (g : SegCtx) (i : CapIn) : Device :=
  let block := if d.fld (Reg.CAP_CTRL p) 0 2 = 0 then i.fail else i.sample
  let post := d.bit (Reg.CAP_CTRL p) 6 && g.trig.isSome
  let r := { r with blocks := r.blocks ++ [(block, i.contrib)], post := if post then r.post + 1 else r.post }
  let d := d.modCap p (fun c => { c with openRec := some r, seg := some { g with skip := 0, isFirst := false } })
  let full := decide (3 ≤ r.blocks.length)
  let reached := post && decide (d.capPost p ≤ g.post + r.post)
  let d := if full || reached then d.endRec p i.tEnd else d
  match (d.capOf p).seg with
  | some g' => if d.bit (Reg.CAP_CTRL p) 6 ∧ g'.trig.isSome ∧ d.capPost p ≤ g'.post then d.segClose p 1 i.tEnd else d
  | none => d

/-- The part of a cycle after the triggers: records (R167, R168, R176). -/
def Device.capRecord (d : Device) (p : Nat) (i : CapIn) : Device :=
  let c := d.capOf p
  let on := d.bit (Reg.CAP_STATUS p) 2
  let d := match c.seg, c.region with
    | some g, some rg =>
      if i.isMatch || !on then
        (d.endRec p i.prevEnd).modCap p (fun c => { c with seg := c.seg.map (fun g => { g with skip := g.skip + 1, isFirst := false }) })
      else match c.openRec with
        | some r => d.capAddBlock p r g i
        | none =>
          if d.qualifies p g i then
            match freeSlot (rg.seg64 - 1) g.kept g.next (rg.seg64 - 1) with
            | some k => d.capAddBlock p ⟨i.t, i.cycle, g.skip, k, [], 0, false⟩ g i
            | none => (d.modCap p (fun c => { c with seg := some { g with trunc := true } })).segClose p 2 i.tEnd
          else d.modCap p (fun c => { c with seg := some { g with skip := g.skip + 1, isFirst := false } })
    | _, _ => d
  if i.isMatch then d else d.modCap p (fun c => { c with prev := some i.sample })

/-- Capture turns off on pier `p` at `t`: the record in progress ends (R168). -/
def Device.capOff (d : Device) (p t : Nat) : Device := (d.endRec p t).setBit (Reg.CAP_STATUS p) 2 false

/-- CAPOP OP 0b00 on pier `p`: capture turns on only where ENABLE is 1, the engine is armed and the bitmap check did not
keep it off (R168, R181). -/
def Device.capOn (d : Device) (p : Nat) : Device :=
  if d.bit (Reg.PG_CTRL (Page.CAP p)) 0 && d.bit (Reg.CAP_STATUS p) 0 && !(d.capOf p).bmOff then d.setBit (Reg.CAP_STATUS p) 2 true
  else d

/-! ## Fail bitmaps (R162, R181, R182) -/

/-- Size in bytes of a site's bitmap from APG_BMCFG of stream `s` (R181). -/
def Device.bmSize (d : Device) (s : Nat) : Nat :=
  let w := d.reg (Reg.APG_BMCFG s)
  ceilDiv (2 ^ (w.get 4 5 + w.get 9 5 + w.get 14 4) * (w.get 24 6 + 1)) 512 * 64

/-- The start of site `k`'s bitmap on pier `p`. -/
def Device.bmBase (d : Device) (p k : Nat) : Nat :=
  d.reg64 (Reg.CAP_BMBASE_LO p) (Reg.CAP_BMBASE_HI p) + k * d.fld (Reg.CAP_BMSTRIDE p) 0 30 * 64

/-- The bitmap checks of a launch (R181). -/
def Device.bmOk (d : Device) (s p : Nat) : Bool :=
  let sites := d.laneSites p 0xFFFF
  let top := ((List.range 64).reverse.find? (fun k => natBit sites k)).getD 0
  let a := d.bmBase p top
  decide (d.bmSize s ≤ d.fld (Reg.CAP_BMSTRIDE p) 0 30 * 64) && decide (d.bmBase p 0 % 64 = 0) &&
    decide (a + d.bmSize s ≤ memEnd) && decide (stackOf a = stackOf (a + d.bmSize s - 1))

/-- The bit offset of a failing data bit in a site's bitmap, from the expect view's address (R162). -/
def Device.bmOffset (d : Device) (s io : Nat) (o : ApgOut) : Nat :=
  let w := d.reg (Reg.APG_BMCFG s)
  let (x, y, z) := if w.bit 31 then (o.phys % 2 ^ 24, o.phys / 2 ^ 24 % 2 ^ 24, o.phys / 2 ^ 48) else (o.x, o.y, o.z)
  let xb := w.get 4 5
  let yb := w.get 9 5
  let zb := w.get 14 4
  (x % 2 ^ xb + y % 2 ^ yb * 2 ^ xb + z % 2 ^ zb * 2 ^ (xb + yb)) * (w.get 24 6 + 1) + io

/-- Queues bitmap bits of one 32-byte unit, coalescing with a queued update of the same unit; a full queue drops the
update and counts it (R182). -/
def Device.bmQueue (d : Device) (p addr bits : Nat) : Device :=
  let q := (d.capOf p).bmq
  if q.any (fun u => u.addr = addr) then
    d.modCap p (fun c => { c with bmq := c.bmq.map (fun u => if u.addr = addr then { u with bits := u.bits ||| bits } else u) })
  else if q.length < 256 then d.modCap p (fun c => { c with bmq := c.bmq ++ [⟨addr, bits⟩] })
  else (d.addSat (Reg.CAP_BMLOST p) 0 16 1).event (Page.CAP p) 4

/-- An update leaves the queue and its unit is written by read-modify-write (R182): an uncorrectable error in the unit sets all
its bits. `ue` says that the read finds such an error. -/
def Device.bmWrite (d : Device) (p : Nat) (ue : Bool) : Device :=
  match (d.capOf p).bmq with
  | [] => d
  | u :: us =>
    let d := d.modCap p (fun c => { c with bmq := us })
    if ue || d.memUE u.addr 32 then
      let d := (d.memUEfree u.addr 5 noStream).addSat (Reg.CAP_BMLOST p) 16 16 1
      (d.memStore u.addr 32 (2 ^ 256 - 1)).touchRow u.addr
    else (d.memStore u.addr 32 (d.memRead u.addr 32 ||| u.bits)).touchRow u.addr

/-! ## Arming (R170) -/

/-- The region that the registers of pier `p` name. -/
def Device.capRegion (d : Device) (p : Nat) : Region :=
  ⟨d.reg64 (Reg.CAP_BASE_LO p) (Reg.CAP_BASE_HI p), d.fld (Reg.CAP_SEG64 p) 0 28, d.fld (Reg.CAP_SEGCNT p) 0 21⟩

/-- Bytes of a region. -/
def Region.bytes (r : Region) : Nat := r.cnt * r.seg64 * 64

/-- Whether a region may be installed. -/
def Region.ok (r : Region) : Bool :=
  decide (r.base % 64 = 0) && decide (2 ≤ r.seg64) && decide (1 ≤ r.cnt) && decide (r.cnt ≤ 1048576) &&
    decide (r.base + r.bytes ≤ memEnd) && decide (stackOf r.base = stackOf (r.base + r.bytes - 1))

/-- CAP_CMD.ARM: refused with code 0x01 while the stream is not halted, with 0x03 for a bad region; else the region is installed
and the status fill starts. -/
def Device.capArm (d : Device) (p : Nat) : Device :=
  if !d.pierHalted p then d.fault (Page.CAP p) 0x01
  else
    let r := d.capRegion p
    if !r.ok then (d.fault (Page.CAP p) 0x03).event (Page.CAP p) 5
    else (d.setBit (Reg.CAP_STATUS p) 0 false).modCap p (fun c => { c with region := some r, fill := true })

/-- The status fill writes 0 to the dword at +0x3C of every segment header. -/
def Device.capFill (d : Device) (p : Nat) (r : Region) : Device :=
  d.forN r.cnt (fun d i =>
    let a := r.base + i * r.seg64 * 64 + 0x3C
    match d.overActive a 4 with
    | some _ => (d.addSat (Reg.CAP_WREJ p) 0 16 1).event (Page.CAP p) 3
    | none =>
      if d.memThere a 4 then d.engineStore a 4 0 else (d.addSat (Reg.CAP_WREJ p) 0 16 1).event (Page.CAP p) 3)

/-- The status fill finishes: index, PHASE and uses are 0 and the engine is armed. -/
def Device.capFillDone (d : Device) (p : Nat) : Device :=
  match (d.capOf p).fill, (d.capOf p).region with
  | true, some r =>
    let d := d.capFill p r
    let d := (d.setFld (Reg.CAP_STATUS p) 12 20 0).setFld (Reg.CAP_STATUS p) 5 2 0
    let d := d.forN 64 (fun d s => d.setRegN (Reg.CAP_USE p s) 0)
    ((d.modCap p (fun c => { c with fill := false })).quotaRefresh p).setBit (Reg.CAP_STATUS p) 0 true
  | _, _ => d

/-- CAP_CMD.DISARM: the open segment closes with CLOSE = 5 and ARMED clears; only while the stream is halted. -/
def Device.capDisarm (d : Device) (p : Nat) : Device :=
  if !d.pierHalted p then d.fault (Page.CAP p) 0x01
  else ((d.segCloseIf p 5 d.ttime).modCap p (fun c => { c with fill := false, region := none })).setBit (Reg.CAP_STATUS p) 0 false

/-- The re-arm ends; a pending segment opens at the next cycle (R173). -/
def Device.capRearmDone (d : Device) (p : Nat) : Device := d.setBit (Reg.CAP_STATUS p) 3 false

end Sys2Proof.Machine
end

