-- ==== Sys2Proof/Machine/Trigger.lean ====
section
/-! DEFINITION. The trigger engines (R185–R193): the serial decoder, conditions, firing, and the combined actions of
the engines of one stream. -/

namespace Sys2Proof.Machine

/-- One lane of a pier in one cycle: which slots were sampled, CHI and CLO there, the drive level per slot, and whether
the lane failed (R164, R188). -/
structure LaneIn where
  en : Nat
  chi : Nat
  clo : Nat
  drv : Nat
  failed : Bool
deriving DecidableEq, Repr

/-- A lane that yields nothing. -/
def LaneIn.none : LaneIn := ⟨0, 0, 0, 0, false⟩

/-- What one cycle shows the trigger engine of a pier. -/
structure TrgIn where
  mode : Nat
  mark : Nat
  lines : Nat
  segStart : Bool
  edges : List (Nat × Bool)
  lanes : List LaneIn
deriving DecidableEq, Repr

/-! ## The serial decoder (R188) -/

/-- What the decoder has found in a cycle: completed fields and errors. -/
structure DecOut where
  fields : List Nat
  errors : Nat
deriving DecidableEq, Repr

/-- The next TAP state of IEEE 1149.1 for TMS at a TCK rising edge. States run: 0 Test-Logic-Reset, 1 Run-Test/Idle, 2–8
Select-, Capture-, Shift-, Exit1-, Pause-, Exit2-, Update-DR, 9–15 the same for IR. -/
def tapNext (s : Nat) (tms : Bool) : Nat :=
  match s with
  | 0 => if tms then 0 else 1
  | 1 => if tms then 2 else 1
  | 2 => if tms then 9 else 3
  | 3 => if tms then 5 else 4
  | 4 => if tms then 5 else 4
  | 5 => if tms then 8 else 6
  | 6 => if tms then 7 else 6
  | 7 => if tms then 8 else 4
  | 8 => if tms then 2 else 1
  | 9 => if tms then 0 else 10
  | 10 => if tms then 12 else 11
  | 11 => if tms then 12 else 11
  | 12 => if tms then 15 else 13
  | 13 => if tms then 14 else 13
  | 14 => if tms then 15 else 11
  | _ => if tms then 2 else 1

/-- A new frame starts. -/
def DecCtx.start (c : DecCtx) : DecCtx := { c with inFrame := true, bitNo := 0, taken := 0, field := 0, got := 0, done := false }

/-- The frame ends. -/
def DecCtx.stop (c : DecCtx) : DecCtx := { c with inFrame := false }

/-- One frame bit: bits OFS to OFS + LENM1 form the field, first bit most significant unless LSB_FIRST. -/
def DecCtx.take (c : DecCtx) (ofs lenm1 : Nat) (lsb bit : Bool) : DecCtx × List Nat :=
  if c.done ∨ c.bitNo < ofs then ({ c with bitNo := c.bitNo + 1 }, [])
  else
    let f := if lsb then c.field + (if bit then 2 ^ c.got else 0) else c.field * 2 + (if bit then 1 else 0)
    let d := decide (c.got = lenm1)
    ({ c with bitNo := c.bitNo + 1, field := f, got := c.got + 1, done := d }, if d then [f] else [])

/-- The decoder's settings: TRG_DEC_CFG and TRG_DEC_FMT. -/
structure DecCfg where
  proto : Nat
  irdr : Bool
  lsb : Bool
  selpol : Bool
  falling : Bool
  ofs : Nat
  parity : Nat
  lenm1 : Nat
  bitlen : Nat
deriving DecidableEq, Repr

/-- JTAG (R188): TAP followed from TMS at TCK rising edges, unsynchronised until five rises with TMS = 1. -/
def decJtag (g : DecCfg) (c : DecCtx) (rise sel dat : Bool) : DecCtx × List Nat :=
  if !rise then (c, [])
  else
    let ones := if sel then c.ones + 1 else 0
    let shift := if g.irdr then 11 else 4
    let (c', fs) := if c.synced && c.tap = shift then c.take g.ofs g.lenm1 g.lsb dat else (c, [])
    let synced := c.synced || decide (5 ≤ ones)
    let tap := if c.synced then tapNext c.tap sel else 0
    let c' := { c' with ones := ones, synced := synced, tap := tap }
    (if c.synced && c.tap ≠ shift && tap = shift then c'.start else if tap ≠ shift then c'.stop else c', fs)

/-- SPI-style (R188). -/
def decSpi (g : DecCfg) (c : DecCtx) (edge sel was dat : Bool) : DecCtx × List Nat × Nat :=
  let act := decide (sel = g.selpol)
  let wasAct := decide (was = g.selpol)
  let err := if wasAct && !act && c.inFrame && !c.done then 1 else 0
  let c := if !wasAct && act then c.start else if !act then c.stop else c
  if act && c.inFrame && edge then
    let (c, fs) := c.take g.ofs g.lenm1 g.lsb dat
    (c, fs, err)
  else (c, [], err)

/-- Two-wire (R188): every ninth bit is left out. -/
def decTwoWire (g : DecCfg) (c : DecCtx) (rise clk dat was : Bool) : DecCtx × List Nat × Nat :=
  if clk && !rise && was && !dat then ({ c.start with phase := 0 }, [], 0)
  else if clk && !rise && !was && dat then (c.stop, [], if c.inFrame && !c.done then 1 else 0)
  else if rise && c.inFrame then
    if c.phase = 8 then ({ c with phase := 0 }, [], 0)
    else
      let (c, fs) := c.take g.ofs g.lenm1 g.lsb dat
      ({ c with phase := c.phase + 1 }, fs, 0)
  else (c, [], 0)

/-- UART-style (R188): the slots of a frame are counted in `phase` from the start bit's first slot; the character is taken
least significant bit first, then parity, then the stop bit.
DESIGN CHOICE: the middle slot of a bit of an even BITLEN is the later of the two (log entry 135). -/
def decUart (g : DecCfg) (c : DecCtx) (was dat : Bool) : DecCtx × List Nat × Nat :=
  if !c.inFrame then
    if was && !dat then ({ c.start with phase := 1 }, [], 0) else (c, [], 0)
  else
    let bit := c.phase / g.bitlen
    let c1 := { c with phase := c.phase + 1 }
    if c.phase % g.bitlen ≠ g.bitlen / 2 then (c1, [], 0)
    else if bit = 0 then (c1, [], 0)
    else if bit ≤ g.lenm1 + 1 then
      let (c2, fs) := c1.take 0 g.lenm1 true dat
      ({ c2 with taken := if dat then c2.taken + 1 else c2.taken }, fs, 0)
    else if bit = g.lenm1 + 2 && g.parity ≠ 0 then
      let odd := decide ((c.taken + (if dat then 1 else 0)) % 2 = 1)
      if odd = decide (g.parity = 2) then (c1, [], 0) else (c1.stop, [], 1)
    else (c1.stop, [], if dat then 0 else 1)

/-- One slot of the decoder: the levels of CLK, DAT and SEL there. The first slot after a launch only sets the levels. -/
def decSlot (g : DecCfg) (c : DecCtx) (clk dat sel : Bool) : DecCtx × List Nat × Nat :=
  let c' := { c with clk := clk, dat := dat, sel := sel, seen := true }
  if !c.seen then (c', [], 0)
  else
    let rise := !c.clk && clk
    let edge := if g.falling then c.clk && !clk else rise
    match g.proto with
    | 1 => let r := decJtag g c' rise sel dat; (r.1, r.2, 0)
    | 2 => decSpi g c' edge sel c.sel dat
    | 3 => decTwoWire g c' rise clk dat c.dat
    | 4 => decUart g c' c.dat dat
    | 5 =>
      if edge && c'.inFrame then
        let r := c'.take g.ofs g.lenm1 g.lsb dat
        (r.1, r.2, 0)
      else (c', [], 0)
    | _ => (c', [], 0)

/-- The level of a decoder lane at a slot: the CHI sample, or the drive level (R188). -/
def LaneIn.level (l : LaneIn) (drive : Bool) (k : Nat) : Bool := if drive then natBit l.drv k else natBit l.chi k

/-- The decoder settings of pier `p`. -/
def Device.decCfg (d : Device) (p : Nat) : DecCfg :=
  let w := d.reg (Reg.TRG_DEC_CFG p)
  let f := d.reg (Reg.TRG_DEC_FMT p)
  ⟨w.get 29 3, w.bit 11, w.bit 10, w.bit 9, w.bit 8, f.get 24 8, f.get 22 2, f.get 16 6, max 1 (f.get 0 16)⟩

/-- The decoder over the slots of one cycle (R188): a field completed is stored and counted, an error is counted. -/
def Device.decCycle (d : Device) (p : Nat) (i : TrgIn) : Device × DecOut :=
  let w := d.reg (Reg.TRG_DEC_CFG p)
  let g := d.decCfg p
  if g.proto = 0 then (d, ⟨[], 0⟩)
  else
    let lane (n : Nat) := i.lanes.getD n LaneIn.none
    let clk := lane (w.get 20 4)
    let dat := lane (w.get 16 4)
    let sel := lane (w.get 12 4)
    let slots := (List.range 8).filter (fun k => if i.mode = 0 then natBit clk.en k else decide (k < 4 * i.mode))
    let c := (d.trgOf p).dec
    let begins := g.proto = 5 && natBit i.mark (w.get 0 3)
    let err0 := if begins && c.inFrame && !c.done then 1 else 0
    let c := if begins then c.start else c
    let r := slots.foldl (fun (a : DecCtx × List Nat × Nat) k =>
      let o := decSlot g a.1 (clk.level (w.bit 28) k) (dat.level (w.bit 27) k) (sel.level (w.bit 26) k)
      (o.1, a.2.1 ++ o.2.1, a.2.2 + o.2.2)) (c, [], err0)
    let c := r.1
    let fs := r.2.1
    let errs := r.2.2
    let d := d.setTrg p { d.trgOf p with dec := c }
    let d := d.setBit (Reg.TRG_STATUS p) 8 c.inFrame
    let d := match fs.getLast? with
      | some f => (d.setReg64 (Reg.TRG_DEC_FLD_LO p) (Reg.TRG_DEC_FLD_HI p) f).event (Page.TRG p) 4
      | none => d
    let d := d.addSat (Reg.TRG_DEC_CNT p) 0 16 fs.length
    let d := d.addSat (Reg.TRG_DEC_CNT p) 16 16 errs
    let d := if 0 < errs then d.event (Page.TRG p) 5 else d
    (d, ⟨fs, errs⟩)

/-! ## Conditions (R185, R186) -/

/-- Whether one lane matches its 2-bit field of a LANE condition. -/
def LaneIn.hit (l : LaneIn) (mode param field : Nat) : Bool :=
  let slots := if param = 31 then List.range 8 else [param]
  match field with
  | 1 => l.failed
  | 2 => slots.any (fun k => natBit l.chi k)
  | 3 => mode ≠ 2 && slots.any (fun k => natBit l.clo k)
  | _ => false

/-- Whether condition `k` of pier `p` is true in the cycle. -/
def Device.condTrue (d : Device) (p k : Nat) (i : TrgIn) (o : DecOut) (failing : Bool) : Bool :=
  let cfg := d.reg (Reg.TRG_CFG p k)
  let mask := d.regN (Reg.TRG_MASK p k)
  let val := d.regN (Reg.TRG_VAL p k)
  let param := cfg.get 16 5
  match cfg.get 28 4 with
  | 1 =>
    let sel := (List.range 16).filter (fun j => mask / 4 ^ j % 4 ≠ 0)
    let hit (j : Nat) := (i.lanes.getD j LaneIn.none).hit i.mode param (mask / 4 ^ j % 4)
    !sel.isEmpty && (if cfg.bit 23 then sel.any hit else sel.all hit)
  | 2 => decide (i.mark &&& (mask % 256) = val % 256)
  | 3 => decide (i.lines &&& (mask % 256) ≠ 0) || (natBit mask 8 && i.segStart)
  | 4 => i.edges.any (fun e => decide (e.1 = param % 4) && decide (e.2 = !natBit val 0))
  | 5 => (d.capOf p).seg.isSome && failing && decide ((d.trgOf p).segFails = if val = 0 then 1 else val)
  | 6 => o.fields.any (fun f => decide ((f / 2 ^ param) % 2 ^ 32 &&& mask = val))
  | 7 => decide (0 < o.errors)
  | _ => false

/-- The conditions that fire on pier `p`, as a mask; ONCE and AFTER look at the open segment, or at the burst while none is open
(R186). -/
def Device.condsFired (d : Device) (p : Nat) (i : TrgIn) (o : DecOut) (failing : Bool) : Nat :=
  let old := if (d.capOf p).seg.isSome then d.fld (Reg.TRG_STATUS p) 0 4 else (d.trgOf p).burst
  bitsOf 4 (fun k =>
    let cfg := d.reg (Reg.TRG_CFG p k)
    natBit (d.fld (Reg.TRG_CTRL p) 0 4) k && (!cfg.bit 27 || !natBit old k) &&
      (!cfg.bit 26 || natBit old (cfg.get 24 2)) && d.condTrue p k i o failing)

/-- One engine's evaluation of a cycle that starts at `t`: the device with decoder, FIRED, events, hook and meters updated, and the fired
conditions (R185, R186, R196). -/
def Device.trgEval (d : Device) (p : Nat) (i : TrgIn) (t cycle : Nat) (failing : Bool) : Device × Nat :=
  let r := d.decCycle p i
  let d := r.1
  let d := if failing then d.setTrg p { d.trgOf p with segFails := (d.trgOf p).segFails + 1 } else d
  let fired := d.condsFired p i r.2 failing
  if fired = 0 then (d, 0)
  else
    let d := d.setFld (Reg.TRG_STATUS p) 0 4 (d.fld (Reg.TRG_STATUS p) 0 4 ||| fired)
    let d := d.setTrg p { d.trgOf p with burst := (d.trgOf p).burst ||| fired }
    let d := { d with ivmq := d.ivmq ++ ((List.range 4).filter (fun k => natBit fired k)).map (fun k => (0x290 + 4 * p + k, t, false)) }
    let d := d.setReg64 (Reg.TRG_LAST_LO p) (Reg.TRG_LAST_HI p) cycle
    let d := d.setRegN (Reg.TRG_LASTBITS p) fired
    let d := (List.range 4).foldl (fun d k => if natBit fired k then d.event (Page.TRG p) k else d) d
    let seg := if (d.capOf p).seg.isSome then d.fld (Reg.CAP_STATUS p) 12 20 else 0xFFFFF
    (d.hook (48 + p) (fired * 2 ^ 20 + seg), fired)

/-- The CAPACT of an engine's firing: that of the lowest-numbered condition with a nonzero one (R191). -/
def Device.trgCapact (d : Device) (p fired : Nat) : Nat :=
  (((List.range 4).filter (fun k => natBit fired k)).map (fun k => d.fld (Reg.TRG_ACT p k) 0 2)).find? (· ≠ 0) |>.getD 0

/-- The actions of a firing that wait for their fixed time (R189–R191). -/
def Device.trgAct (d : Device) (p s t0 t cycle fired capact : Nat) : TrigAct :=
  let ks := (List.range 4).filter (fun k => natBit fired k)
  { pier := p, stream := s, start := t0, cycleT := t, cycle := cycle, conds := fired,
    flags := ks.foldl (fun m k => if d.bit (Reg.TRG_ACT p k) 3 then m ||| 2 ^ d.fld (Reg.TRG_ACT p k) 4 5 else m) 0,
    jump := ks.any (fun k => d.bit (Reg.TRG_ACT p k) 2),
    out := ks.foldl (fun m k => m ||| d.fld (Reg.TRG_ACT p k) 16 8) 0,
    evt := ks.any (fun k => d.bit (Reg.TRG_ACT p k) 9),
    capact := capact,
    seg := if (d.capOf p).seg.isSome then some (d.fld (Reg.CAP_STATUS p) 12 20) else none }

/-- A launch clears FIRED, the decoder and its counts (R186, R188). -/
def Device.trgLaunch (d : Device) (p : Nat) : Device :=
  (((d.setRegN (Reg.TRG_STATUS p) 0).setRegN (Reg.TRG_DEC_CNT p) 0)).setTrg p { d.trgOf p with dec := DecCtx.reset, segFails := 0, burst := 0 }

end Sys2Proof.Machine
end

