-- ==== Sys2Proof/Machine/Pier.lean ====
section
/-! DEFINITION. Piers and channels beside the cycle: shadowed settings and their commits (R40, R53), the levels of
channels that play nothing (R32, R47, R50), the minimum MATCH latency, and the PEBUS ports (R54, R55, R59). -/

namespace Sys2Proof.Machine

/-! ## Commits (R40, R53, R416) -/

/-- Bits of PG_CTRL and PG_STATUS used here: FREEZE and SHADOW_PENDING. -/
def Device.frozen (d : Device) (page : Nat) : Bool := d.bit (Reg.PG_CTRL page) 2
/-- PG_STATUS.SHADOW_PENDING of a page. -/
def Device.pendingCommit (d : Device) (page : Nat) : Bool := d.bit (Reg.PG_STATUS page) 4
/-- PG_STATUS.SHADOW_PENDING of a page set to `b`. -/
def Device.setPendingCommit (d : Device) (page : Nat) (b : Bool) : Device := d.setBit (Reg.PG_STATUS page) 4 b

/-- The commit of a CHN page applies now: it takes all three shadow values together, or fails with code 0x01 (R40). -/
def Device.commitChn (d : Device) (n : Nat) : Device :=
  let p := Page.CHN n
  let dly := d.fld (Reg.CHN_DRV_DLY n) 0 17
  let rtd := d.fld (Reg.CHN_RTD n) 0 18
  let d := d.setPendingCommit p false
  if rtd < dly ∨ 81920 < dly ∨ 163840 < rtd then d.fault p 0x01
  else
    ((d.setApp (Reg.CHN_DRV_DLY n) (d.reg (Reg.CHN_DRV_DLY n))).setApp (Reg.CHN_RTD n) (d.reg (Reg.CHN_RTD n))).setApp
      (Reg.CHN_DEN_OFS n) (d.reg (Reg.CHN_DEN_OFS n))

/-- The commit of a PIER page applies now: both halves of the site mask together (R53). -/
def Device.commitPier (d : Device) (p : Nat) : Device :=
  ((d.setPendingCommit (Page.PIER p) false).setApp (Reg.PIER_SITE_EN_LO p) (d.reg (Reg.PIER_SITE_EN_LO p))).setApp
    (Reg.PIER_SITE_EN_HI p) (d.reg (Reg.PIER_SITE_EN_HI p))

/-- A held commit of channel `n` that nothing holds any more applies (R40, R416). -/
def Device.releaseChn (d : Device) (n : Nat) : Device :=
  if d.pendingCommit (Page.CHN n) && !d.frozen (Page.CHN n) && d.pierHalted (n / 16) then d.commitChn n else d

/-- A held commit of pier `p` that nothing holds any more applies (R53, R416). -/
def Device.releasePier (d : Device) (p : Nat) : Device :=
  if d.pendingCommit (Page.PIER p) && !d.frozen (Page.PIER p) && d.pierHalted p then d.commitPier p else d

/-- A cycle boundary of stream `s`: pending site-mask commits of its piers apply unless frozen (R53). -/
def Device.boundaryCommits (d : Device) (s : Nat) : Device :=
  (d.piers s).foldl (fun d p =>
    if d.pendingCommit (Page.PIER p) && !d.frozen (Page.PIER p) then d.commitPier p else d) d

/-- The burst end of stream `s`: held commits of its piers and channels apply (R40). -/
def Device.burstEndCommits (d : Device) (s : Nat) : Device :=
  (d.chans s).foldl (fun d n => d.releaseChn n) (d.boundaryCommits s)

/-- The site mask in force on pier `p` (R53). -/
def Device.siteEn (d : Device) (p : Nat) : Nat := Word.join (d.app (Reg.PIER_SITE_EN_LO p)) (d.app (Reg.PIER_SITE_EN_HI p))

/-- Applied CHN_DRV_DLY of channel `n`, in ticks. -/
def Device.drvDly (d : Device) (n : Nat) : Nat := (d.app (Reg.CHN_DRV_DLY n)).get 0 17
/-- Applied CHN_RTD of channel `n`, in ticks. -/
def Device.rtd (d : Device) (n : Nat) : Nat := (d.app (Reg.CHN_RTD n)).get 0 18
/-- Applied CHN_DEN_OFS of channel `n`, in ticks. -/
def Device.denOfs (d : Device) (n : Nat) : Int := signed 12 ((d.app (Reg.CHN_DEN_OFS n)).get 0 12)

/-- The stream's largest applied CHN_RTD, over all channels of its piers (R40). -/
def Device.rtdMax (d : Device) (s : Nat) : Nat := (d.chans s).foldl (fun m n => max m (d.rtd n)) 0

/-- The period of timing set `m` of stream `s` in units of 2^-16 tick (R72). -/
def Device.perFix (d : Device) (s m : Nat) : Nat :=
  (d.regN (Reg.STR_PER_INT s m) + 1) * 65536 + d.fld (Reg.STR_PER_FRAC s m) 0 16

/-- Field STR_MATCHLAT.REFTS (R125). -/
def Device.refTs (d : Device) (s : Nat) : Nat := d.fld (Reg.STR_MATCHLAT s) 24 8

/-- STR_MATCHMIN: the largest round trip plus 24 ns plus 16 ns in cycles of the reference timing set, rounded up (R40). -/
def Device.matchMin (d : Device) (s : Nat) : Nat := ceilDiv ((d.rtdMax s + 40 * nsTicks) * 65536) (d.perFix s (d.refTs s))

/-! ## Placing events (R39, R66, R67) -/

/-- An offset that keeps ball times of a device's first moments positive: whole coarse slots. -/
def slotBias : Nat := 163840

/-- The ball time, `slotBias` later, of an event at channel time `t` of channel `n` (R39): `den` for one of CH_DEN, `cmp` for a sample. -/
def Device.ballTime (d : Device) (n : Nat) (den cmp : Bool) (t : Nat) : Nat :=
  ((t + slotBias : Nat) - (d.drvDly n : Int) + (if den then d.denOfs n else 0) + (if cmp then (d.rtd n : Int) else 0)).toNat

/-- The generator places an event at ball time `b` (R67): coarse count, tap and interpolator step with the trim; a step outside 0 to 63
carries into or borrows from the neighbouring tap, and from tap 39 or tap 0 into the next or the previous coarse slot (log entry 96). -/
def placeEvent (word b : Nat) (trim : Int) (sig : Sig) (budget : Bool) : Placed :=
  let f := b % 1280
  let step : Int := 2 * (f % 32 : Nat) + trim
  let tap : Int := (f / 32 : Nat) + (if step < 0 then -1 else if 63 < step then 1 else 0)
  { word := word, ball := b, slot := if tap < 0 then b / 1280 - 1 else if 39 < tap then b / 1280 + 1 else b / 1280,
    tap := (tap % 40).toNat, step := (step % 64).toNat, sig := sig, budget := budget }

/-! ## Levels of channels that play nothing (R32, R47, R50) -/

/-- A channel's balls set. -/
def Device.setBalls (d : Device) (n : Nat) (den dhi : Bool) : Device := d.setChan n { d.chanOf n with den := den, dhi := dhi }

/-- A channel that plays no cycle: its balls are set, nothing waits to be placed, and its direction counts as OFF (R32, R46). -/
def Device.leaveBalls (d : Device) (n : Nat) (den dhi : Bool) : Device :=
  d.setChan n { d.chanOf n with den := den, dhi := dhi, dir := 2, placed := [] }

/-- Whether the static channels of pier `p` drive: neither held off after reset or safe exit, nor held at safe levels, with the
pier awake and TCLK and the pier clock locked (R18, R47, R50, R352). -/
def Device.staticDrives (d : Device) (p : Nat) : Bool :=
  !d.bit (Reg.PIER_STATUS p) 2 && !d.bit (Reg.PIER_STATUS p) 3 && d.bit Reg.PWR_AWAKE_P p && decide (d.fld Reg.CLK_STATUS 0 2 = 3)

/-- Brings channel `n` to the level its settings give it when no cycle decides: disabled, static, or at rest; a channel of
a playing stream keeps its level (R32, R47), and one that safe entry takes to its safe levels goes on to them (R58). -/
def Device.restChan (d : Device) (n : Nat) : Device :=
  let p := n / 16
  if d.bit (Reg.PIER_STATUS p) 3 then d
  else if !d.chanOn n then d.leaveBalls n false false
  else if d.chanStatic n then
    let lvl := d.fld (Reg.CHN_PINMAP n) 4 2
    if d.staticDrives p then d.leaveBalls n (lvl = 1 || lvl = 2) (lvl = 2) else d.leaveBalls n false false
  else match d.streamOf p with
    | some s => if d.playing s then d else d.leaveBalls n false false
    | none => d.leaveBalls n false false

/-- Brings every channel of pier `p` to its resting level. -/
def Device.restPier (d : Device) (p : Nat) : Device := (pierChans p).foldl (fun d n => d.restChan n) d

/-- Brings every channel of stream `s` to its resting level. -/
def Device.restStream (d : Device) (s : Nat) : Device := (d.piers s).foldl (fun d p => d.restPier p) d

/-! ## PEBUS (R54, R55, R59) -/

/-- Bits of a frame of port `k`: LEN + 1, at least 8 (R54, R64). -/
def Device.pebBits (d : Device) (k : Nat) : Nat := max 7 (d.fld (Reg.PEB_CFG k) 10 6) + 1

/-- The bits of a frame in the order in which MOSI carries them (R54). -/
def Device.pebOrder (d : Device) (k data : Nat) : List Bool :=
  let bits := (List.range (d.pebBits k)).map (fun i => natBit data i)
  if d.bit (Reg.PEB_CFG k) 8 then bits else bits.reverse

/-- An idle port starts its next queued frame: its chip select falls and the bits follow in the port's format (R54), unless the VIO bank is
undriven (R432). CS_GAP 0 acts as 1, as CLKDIV 0 does (R64). -/
def Device.pebKick (d : Device) (k : Nat) : Device :=
  match (d.pebOf k).busy, (d.pebOf k).queue with
  | none, f :: fs =>
    let cfg := d.reg (Reg.PEB_CFG k)
    if !d.vioIn then d.setPeb k ⟨fs, some f⟩
    else { d.setPeb k ⟨fs, some f⟩ with
      out := d.out ++ [.peb k f.cs (cfg.bit 9) (max 1 (cfg.get 16 8)) (max 1 (cfg.get 4 4)) (d.pebOrder k f.data)] }
  | _, _ => d

/-- PEB_CS_N of port `k`: low for the chip select of the frame in progress (R54). -/
def Device.pebCsN (d : Device) (k : Nat) : Nat :=
  match (d.pebOf k).busy with
  | some f => 15 - 2 ^ (f.cs % 4)
  | none => 15

/-- A frame enters the queue of port `k`; none when the queue is full (R55).
DESIGN CHOICE: LEN counts when the frame enters the queue, and again for the received bits when it ends (log entry 101). -/
def Device.pebPush (d : Device) (k : Nat) (f : Frame) : Option Device :=
  let c := d.pebOf k
  if c.queue.length < 16 then some ((d.setPeb k { c with queue := c.queue ++ [⟨f.cs, f.data % 2 ^ d.pebBits k⟩] }).pebKick k)
  else none

/-- PEB_CMDk.GO: a refused frame raises OVERRUN and fault 0x01 (R55, R64). -/
def Device.pebGo (d : Device) (k cs : Nat) : Device :=
  match d.pebPush k ⟨cs, d.reg64 (Reg.PEB_TXLO k) (Reg.PEB_TXHI k)⟩ with
  | some d => d
  | none => (d.event Page.PEB (8 + k)).fault Page.PEB 0x01

/-- A frame completes on port `k`: received bits right-aligned, DONE, and the next queued frame starts (R54). -/
def Device.pebDone (d : Device) (k rx : Nat) : Device :=
  match (d.pebOf k).busy with
  | none => d
  | some _ =>
    (((d.setReg64 (Reg.PEB_RXLO k) (Reg.PEB_RXHI k) (rx % 2 ^ d.pebBits k)).event Page.PEB k).setPeb k
      { d.pebOf k with busy := none }).pebKick k

/-- Safe entry at port `k`: queued frames are discarded, and with SAFE_EN the safe frame follows the frame in progress
(R59). -/
def Device.pebSafe (d : Device) (k : Nat) : Device :=
  let d := d.setPeb k { d.pebOf k with queue := [] }
  if d.bit (Reg.PEB_CFG k) 3 then
    match d.pebPush k ⟨d.fld (Reg.PEB_CFG k) 0 2, d.regN (Reg.PEB_SAFE k)⟩ with
    | some d => d
    | none => d
  else d

end Sys2Proof.Machine
end

