-- ==== Sys2Proof/Machine/Ledger.lean ====
section
/-! DEFINITION. The bandwidth ledger (R228–R232): demands, admission, withdrawal and DMA shares. -/

namespace Sys2Proof.Machine

/-- The limit of each sum, in Mb/s (R228). -/
def ldgLimit : Nat := 4915200

/-- The smallest period of the period table of stream `s`, in 2^-16 tick (R229). -/
def Device.pMin (d : Device) (s : Nat) : Nat := (List.range 256).foldl (fun m k => min m (d.perFix s k)) (2 ^ 32 * 65536)

/-- B_rec of stream `s` (R229). -/
def Device.bRec (d : Device) (s : Nat) : Nat := 4 + pierBytes (d.fld (Reg.STR_CTRL s) 0 2) * d.np s

/-- SPANMIN, 0 meaning 4,096. -/
def Device.spanMin (d : Device) (s : Nat) : Nat :=
  if d.fld (Reg.LDG_SCFG s) 0 12 = 0 then 4096 else d.fld (Reg.LDG_SCFG s) 0 12

/-- R_read of stream `s` in Mb/s (R229). -/
def Device.rRead (d : Device) (s : Nat) : Nat :=
  ceilDiv (32768000 * (d.bRec s * d.spanMin s + 64) * 65536) (d.spanMin s * d.pMin s)

/-- R_cap of a pier of stream `s` in Mb/s (R229). -/
def Device.rCap (d : Device) (s : Nat) : Nat := ceilDiv (2097152000 * 65536) (3 * d.pMin s)

/-- The capture base that decides the stack charged for pier `p` (R228). -/
def Device.chargeBase (d : Device) (p : Nat) : Nat :=
  if d.fld (Reg.CAP_CTRL p) 0 2 = 3 then d.reg64 (Reg.CAP_BMBASE_LO p) (Reg.CAP_BMBASE_HI p)
  else match d.bit (Reg.CAP_STATUS p) 0, (d.capOf p).region with
    | true, some r => r.base
    | _, _ => d.reg64 (Reg.CAP_BASE_LO p) (Reg.CAP_BASE_HI p)

/-- The piers of stream `s` whose capture is charged. -/
def Device.capPiers (d : Device) (s : Nat) : List Nat := (d.piers s).filter (fun p => d.bit (Reg.PG_CTRL (Page.CAP p)) 0)

/-- The capture demand of stream `s` on stack `k`. -/
def Device.capDemand (d : Device) (s k : Nat) : Nat :=
  ((d.capPiers s).filter (fun p => decide (stackOf (d.chargeBase p) = k))).length * d.rCap s

/-- The present demand of stream `s` (R229). -/
def Device.demand (d : Device) (s : Nat) : LdgRes :=
  ⟨d.rRead s, d.capDemand s 0, d.capDemand s 1, d.fld (Reg.LDG_SCFG s) 16 2⟩

/-- What a reservation charges on stack `k`. -/
def LdgRes.charge (r : LdgRes) (k : Nat) : Nat := (if natBit r.stackSet k then r.read else 0) + (if k = 0 then r.capA else r.capB)

/-- The reservation of stream `s`. -/
def Device.resOf (d : Device) (s : Nat) : LdgRes := Tab.get (fun _ => ⟨0, 0, 0, 0⟩) d.ldg.res s

/-- Stream `s` is admitted. -/
def Device.admitted (d : Device) (s : Nat) : Bool := d.bit Reg.LDG_ADMITTED s

/-- The fixed classes of stack `k` with a DMA share in Gb/s (R228). -/
def fixedSum (share : Nat) : Nat := share * 1000 + 196608 + 65536

/-- The DMA share of stack `k` in Gb/s. -/
def Device.dmaShare (d : Device) (k : Nat) : Nat := d.fld Reg.LDG_DMA (16 * k) 16

/-- The sum of stack `k`: fixed classes and the reservations of admitted streams outside `out` (R228). -/
def Device.ldgSum (d : Device) (k share out : Nat) : Nat :=
  (List.range 16).foldl (fun a s => if d.admitted s && !natBit out s then a + (d.resOf s).charge k else a) (fixedSum share)

/-- The admission of stream `s` is withdrawn because a change raised its charge (R232). -/
def Device.ldgDrop (d : Device) (s : Nat) : Device := (d.setBit Reg.LDG_ADMITTED s false).event Page.LDG 2

/-- The charge of admitted stream `s` on a stack would rise if the device were `d'` (R232). -/
def Device.raises (d d' : Device) (s : Nat) : Bool :=
  d.admitted s && (List.range 2).any (fun k => decide ((d.resOf s).charge k < (d'.demand s).charge k))

/-- A capture base of stream `s` lies at or above the end of vector memory (R231). -/
def Device.badBase (d : Device) (s : Nat) : Bool := (d.capPiers s).any (fun p => decide (memEnd ≤ d.chargeBase p))

/-- Stream `s` charges stack `k`. -/
def Device.chargesStack (d : Device) (s k : Nat) : Bool := decide (0 < (d.demand s).charge k)

/-- The streams of a mask, ascending. -/
def maskStreams (m : Nat) : List Nat := (List.range 16).filter (fun s => natBit m s)

/-- The first check of R231: the LDG_RESULT value of a refusal. -/
def Device.admitRefusal (d : Device) (m : Nat) : Option Nat :=
  match (maskStreams m).find? (fun s => !d.halted s) with
  | some s => some (s * 2 ^ 16 + 0x03)
  | none =>
    match (maskStreams m).find? (fun s => decide (d.fld (Reg.LDG_SCFG s) 16 2 = 0) || d.badBase s) with
    | some s => some (s * 2 ^ 16 + 0x04)
    | none =>
      match (List.range 2).find? (fun k => !d.stackUp k && (maskStreams m).any (fun s => d.chargesStack s k)) with
      | some k => some (k * 2 ^ 8 + 0x02)
      | none => none

/-- A command is refused with an LDG_RESULT value. -/
def Device.ldgRefuse (d : Device) (r : Nat) : Device :=
  ({ d.setRegN Reg.LDG_RESULT r with ldg := { d.ldg with cmd := none } }).event Page.LDG 1

/-- A write of LDG_CMD (R231). -/
def Device.ldgCmd (d : Device) (adm withdraw : Bool) : Device :=
  let m := d.fld Reg.LDG_REQ 0 16
  if d.bit Reg.LDG_RESULT 31 then d.fault Page.LDG 0x01
  else if adm && withdraw then d.ldgRefuse 0x05
  else if adm then
    match d.admitRefusal m with
    | some r => d.ldgRefuse r
    | none => { d.setBit Reg.LDG_RESULT 31 true with ldg := { d.ldg with cmd := some (true, m) } }
  else if withdraw then
    match (maskStreams m).find? (fun s => !d.halted s && d.strState s ≠ 2) with
    | some s => d.ldgRefuse (s * 2 ^ 16 + 0x03)
    | none => { d.setBit Reg.LDG_RESULT 31 true with ldg := { d.ldg with cmd := some (false, m) } }
  else d

/-- The sum of stack `k` if the streams of `m` were admitted at their present demands (R231). -/
def Device.sumWith (d : Device) (m k : Nat) : Nat :=
  (maskStreams m).foldl (fun a s => a + (d.demand s).charge k) (d.ldgSum k (d.dmaShare k) m)

/-- Streams of `m` become admitted with their present demands. -/
def Device.admitAll (d : Device) (m : Nat) : Device :=
  (maskStreams m).foldl (fun d s =>
    { d.setBit Reg.LDG_ADMITTED s true with ldg := { d.ldg with res := Tab.put d.ldg.res s (d.demand s) } }) d

/-- The command in progress completes (R231). -/
def Device.ldgDone (d : Device) : Device :=
  match d.ldg.cmd with
  | none => d
  | some (true, m) =>
    match d.admitRefusal m with
    | some r => d.ldgRefuse r
    | none =>
      match (List.range 2).find? (fun k => decide (ldgLimit < d.sumWith m k)) with
      | some k => d.ldgRefuse (k * 2 ^ 8 + 0x01)
      | none =>
        let d := d.admitAll m
        ({ d.setRegN Reg.LDG_RESULT 0 with ldg := { d.ldg with cmd := none } }).event Page.LDG 0
  | some (false, m) =>
    let d := (maskStreams m).foldl (fun d s => d.setBit Reg.LDG_ADMITTED s false) d
    ({ d.setRegN Reg.LDG_RESULT 0 with ldg := { d.ldg with cmd := none } }).event Page.LDG 0

/-- A write of LDG_DMA (R232, R237): a reserved share is refused, a raise needs room within the limit. -/
def Device.ldgDmaWrite (d : Device) (v : Nat) : Device :=
  let a := v % 2 ^ 16
  let b := v / 2 ^ 16 % 2 ^ 16
  if 1600 < a ∨ 1600 < b then d.fault Page.LDG 0x02
  else
    let ok (k share : Nat) : Bool := decide (share ≤ d.dmaShare k) || decide (d.ldgSum k share 0 ≤ ldgLimit)
    if ok 0 a && ok 1 b then d.setRegN Reg.LDG_DMA v
    else (d.fault Page.LDG 0x01).event Page.LDG 1

end Sys2Proof.Machine
end

