-- ==== Sys2Proof/Machine/Apg.lean ====
section
/-! DEFINITION. The algorithmic pattern generator (R149–R163): address chain, data generator, inversion, scrambling,
step ring, expect view, and the boundary actions of the APG opcodes. -/

namespace Sys2Proof.Machine

/-! ## One step (R151, R152, R155) -/

/-- One address operation (R151): the new value and the carry. `carry` is that of the next lower generator, `lowest`
marks a generator without one; a STEP of 0 acts as 1. -/
def apgAddr (op g step mn mx save : Nat) (lowest carry : Bool) : Nat × Bool :=
  let st := if step = 0 then 1 else step
  let inc := if g + st ≤ mx then (g + st, false) else (mn, true)
  let dec := if mn + st ≤ g then (g - st, false) else (mx, true)
  match op with
  | 0 => (g, false)
  | 1 => inc
  | 2 => dec
  | 3 => if !lowest && carry then inc else (g, false)
  | 4 => if !lowest && carry then dec else (g, false)
  | 5 => (mn, false)
  | 6 => (mx, false)
  | _ => (save, false)

/-- One data operation (R152) on the 64-bit D. -/
def apgData (op dv bg poly : Nat) : Nat :=
  let m := 2 ^ 64
  match op with
  | 1 => m - 1 - dv % m
  | 2 => bg
  | 3 => m - 1 - bg % m
  | 4 => (dv * 2) % m + dv / 2 ^ 63
  | 5 => dv / 2 + (dv % 2) * 2 ^ 63
  | 6 => if dv / 2 ^ 63 = 1 then ((dv * 2) % m) ^^^ poly else (dv * 2) % m
  | _ => dv

/-- The ring position after `ptr` (R155). -/
def ringNext (first lenm1 ptr : Nat) : Nat := (first + ((ptr + 16 - first) % 16 + 1) % (lenm1 + 1)) % 16

/-- The step an APG cycle applies at its end: the step word at PTR, then PTR advances (R149, R155). -/
def Device.apgStep (d : Device) (s : Nat) : Device :=
  let ptr := d.fld (Reg.APG_STATUS s) 0 4
  let w := d.reg (Reg.APG_STEP s ptr)
  let zl := d.reg (Reg.APG_ZLIM s)
  let order := d.bit (Reg.APG_CTRL s) 1
  let xStep (low c : Bool) := apgAddr (w.get 29 3) (d.regN (Reg.APG_X s)) (d.regN (Reg.APG_XSTEP s))
    (d.regN (Reg.APG_XMIN s)) (d.regN (Reg.APG_XMAX s)) (d.regN (Reg.APG_XSAVE s)) low c
  let yStep (low c : Bool) := apgAddr (w.get 26 3) (d.regN (Reg.APG_Y s)) (d.regN (Reg.APG_YSTEP s))
    (d.regN (Reg.APG_YMIN s)) (d.regN (Reg.APG_YMAX s)) (d.regN (Reg.APG_YSAVE s)) low c
  let x := if order then xStep false (yStep true false).2 else xStep true false
  let y := if order then yStep true false else yStep false x.2
  let z := apgAddr (w.get 23 3) (d.regN (Reg.APG_Z s)) (zl.get 16 8) (zl.get 0 8) (zl.get 8 8)
    (d.regN (Reg.APG_ZSAVE s)) false (if order then x.2 else y.2)
  let dv := apgData (w.get 20 3) (d.reg64 (Reg.APG_D_LO s) (Reg.APG_D_HI s)) (d.reg64 (Reg.APG_BG_LO s) (Reg.APG_BG_HI s))
    (d.reg64 (Reg.APG_POLY_LO s) (Reg.APG_POLY_HI s))
  let d := (((d.setRegN (Reg.APG_X s) (x.1 % 2 ^ 24)).setRegN (Reg.APG_Y s) (y.1 % 2 ^ 24)).setRegN (Reg.APG_Z s) (z.1 % 256))
  let d := d.setReg64 (Reg.APG_D_LO s) (Reg.APG_D_HI s) dv
  let d := if z.2 then d.setBit (Reg.APG_STATUS s) 8 true else d
  d.setFld (Reg.APG_STATUS s) 0 4 (ringNext (d.fld (Reg.APG_RING s) 0 4) (d.fld (Reg.APG_RING s) 4 4) ptr)

/-- The step of the last APG cycle is applied: at the next cycle, at B ahead of the actions there, or at the burst's end
(R149, R150). -/
def Device.apgSettle (d : Device) (s : Nat) : Device :=
  if (d.strOf s).apgDue then (d.apgStep s).modStr s (fun c => { c with apgDue := false }) else d

/-! ## Output (R153, R154, R156) -/

/-- The entry of the scramble table for physical bit `e` (R154). -/
def Device.scrEntry (d : Device) (s e : Nat) : Nat := d.fld (Reg.APG_SCR s (e / 4)) (8 * (e % 4)) 8

/-- The 56-bit physical address of logical address `l` (R154). -/
def Device.apgPhys (d : Device) (s l : Nat) : Nat :=
  if d.bit (Reg.APG_CTRL s) 2 then
    bitsOf 56 (fun e => let en := d.scrEntry s e; xor (natBit en 7) (en % 64 < 56 && natBit l (en % 64)))
  else l

/-- The parity of the 1 bits of `n`. -/
def parity (n : Nat) : Bool := popCount n 32 % 2 = 1

/-- The output of the APG from its present state (R153, R156). -/
def Device.apgOut (d : Device) (s : Nat) : ApgOut :=
  let x := d.regN (Reg.APG_X s)
  let y := d.regN (Reg.APG_Y s)
  let z := d.regN (Reg.APG_Z s)
  let p := d.apgPhys s (x + y * 2 ^ 24 + z * 2 ^ 48)
  let dv := d.reg64 (Reg.APG_D_LO s) (Reg.APG_D_HI s)
  let t := xor (parity ((p % 2 ^ 24) &&& d.regN (Reg.APG_TOPO_X s)))
    (xor (parity ((p / 2 ^ 24 % 2 ^ 24) &&& d.regN (Reg.APG_TOPO_Y s))) (parity ((p / 2 ^ 48) &&& d.regN (Reg.APG_TOPO_Z s))))
  let dout := if d.bit (Reg.APG_CTRL s) 3 && t then dv ^^^ d.reg64 (Reg.APG_TOPO_D_LO s) (Reg.APG_TOPO_D_HI s) else dv
  ⟨x, y, z, p, dout⟩

/-- Bit `i` of an APG output vector (R48): D, X, Y, Z, and 0 above. -/
def ApgOut.bit (o : ApgOut) (i : Nat) : Bool :=
  if i < 64 then natBit o.dout i else if i < 120 then natBit o.phys (i - 64) else false

/-- The expect view (R157): the output of the APG cycle ELAT APG cycles back. `cur` is the cycle's own output. -/
def Device.apgExpect (d : Device) (s : Nat) (cur : ApgOut) : ApgOut :=
  let elat := d.fld (Reg.APG_CTRL s) 16 6
  if elat = 0 then cur else (d.strOf s).hist.getD (elat - 1) cur

/-- An APG cycle's output joins the history of the last 63 (R149). -/
def Device.apgPush (d : Device) (s : Nat) (o : ApgOut) : Device := d.modStr s (fun c => { c with hist := (o :: c.hist).take 63 })

/-- A launch sets PTR, clears WRAP and drops the history, which fills with the launch output at the first cycle (R150). -/
def Device.apgLaunch (d : Device) (s : Nat) : Device :=
  (d.setReg (Reg.APG_STATUS s) (BitVec.ofNat 32 (d.fld (Reg.APG_RING s) 0 4))).modStr s (fun c => { c with hist := [] })

/-- The first cycle of a burst fills every history entry with its output (R150). -/
def Device.apgFill (d : Device) (s : Nat) : Device :=
  let o := d.apgOut s
  d.modStr s (fun c => { c with hist := List.replicate 63 o })

/-! ## Writes and boundary actions (R159) -/

/-- A value reserved for the APG register at page offset `o` (R158): DOP 7, or a bitmap index too wide. -/
def apgReserved (o v : Nat) : Bool :=
  if 0x280 ≤ o ∧ o < 0x2C0 then v / 2 ^ 20 % 8 = 7
  else if o = 0x20C then
    24 < v / 16 % 32 || 24 < v / 512 % 32 || 8 < v / 16384 % 16 || 32 < v / 16 % 32 + v / 512 % 32 + v / 16384 % 16
  else false

/-- An ASET target that names no writable APG register (R159). -/
def asetBadTarget (tgt : Nat) : Bool := tgt = 1 || tgt = 3 || (28 ≤ tgt && tgt ≤ 31) || 62 ≤ tgt

/-- Stores an APG register through its write mask; a write of APG_RING also sets PTR to FIRST (R155). -/
def Device.apgWrite (d : Device) (s o v : Nat) : Device :=
  let a := Page.STR s + o
  let mask := match findRow strRows o with | some (r, _) => r.mask | none => 0
  let d := d.setReg a (Word.merge (BitVec.ofNat 32 mask) (BitVec.ofNat 32 v) (d.reg a))
  if o = 0x208 then d.setFld (Reg.APG_STATUS s) 0 4 (v % 16) else d

/-- ASAVE (R159). -/
def Device.apgSave (d : Device) (s m : Nat) : Device :=
  let d := if natBit m 0 then d.setReg (Reg.APG_XSAVE s) (d.reg (Reg.APG_X s)) else d
  let d := if natBit m 1 then d.setReg (Reg.APG_YSAVE s) (d.reg (Reg.APG_Y s)) else d
  if natBit m 2 then d.setReg (Reg.APG_ZSAVE s) (d.reg (Reg.APG_Z s)) else d

/-- AREST (R159). -/
def Device.apgRest (d : Device) (s m : Nat) : Device :=
  let d := if natBit m 0 then d.setReg (Reg.APG_X s) (d.reg (Reg.APG_XSAVE s)) else d
  let d := if natBit m 1 then d.setReg (Reg.APG_Y s) (d.reg (Reg.APG_YSAVE s)) else d
  if natBit m 2 then d.setReg (Reg.APG_Z s) (d.reg (Reg.APG_ZSAVE s)) else d

/-- SCRLD: all 14 scramble registers change together (R159). -/
def Device.apgScr (d : Device) (s : Nat) (ws : List Nat) : Device :=
  d.forN 14 (fun d j => d.apgWrite s (0x2C0 + 4 * j) (ws.getD j 0))

end Sys2Proof.Machine
end

