-- ==== Sys2Proof/Machine/TwinLink.lean ====
section
/-! DEFINITION. The twin link's operations that other blocks use (R393–R403): frames, records, roles, the journal and
the checkpoints. -/

namespace Sys2Proof.Machine

/-- TWN_STATUS.ROLE (R396): 0 OFF, 1 ALONE, 2 SYNCING, 3 STANDBY, 4 TAKEOVER, 5 ACTIVE. -/
def Device.role (d : Device) : Nat := d.fld Reg.TWN_STATUS 0 3

/-- A TWIN record (R406): event, detail, and the streams reissued. -/
def Device.twinRecord (d : Device) (ev detail mask : Nat) : Device :=
  d.record 0x10 0x00130000 (ev * 256 + detail) (d.regN Reg.TWN_JACK) mask (d.regN Reg.TWN_STATUS)

/-- TWIN_ACT_N driven to a level (R395). -/
def Device.setActN (d : Device) (high : Bool) : Device := d.setBit Reg.TWN_STATUS 10 high

/-- The role changes: ROLE is raised, and TWIN_ACT_N is low in ALONE and ACTIVE only (R395, R396). -/
def Device.setRole (d : Device) (r : Nat) : Device :=
  if d.role = r then d
  else ((d.setFld Reg.TWN_STATUS 0 3 r).setActN (!(r = 1 || r = 5))).event Page.TWN 0

/-- A frame of the twin link as its 8 dwords, the CRC last (R393). -/
def twinWords (f : TwinFrame) : List Word :=
  let ws : List Nat := [f.ftype % 256 + f.addr % 2 ^ 24 * 256, f.jseq % 2 ^ 32] ++ (List.range 5).map (fun i => f.data / 2 ^ (32 * i) % 2 ^ 32)
  (ws ++ [crc32 (dwBytes ws)]).map (BitVec.ofNat 32)

/-- A frame leaves on the twin link with the present JSEQ: entries sent on the active device, applied on a standby (R394). -/
def Device.twinSend (d : Device) (ftype addr data : Nat) : Device :=
  let j := if d.role = 2 || d.role = 3 then d.regN Reg.TWN_JACK else d.regN Reg.TWN_JSEQ
  { d with twin := { d.twin with lastTx := d.ttime } }.emit (.twin (twinWords ⟨ftype, addr % 2 ^ 24, j % 2 ^ 32, data % 2 ^ 160⟩))

/-- Whether host writes to register address `a` are mirrored (R398). -/
def mirrored (a : Nat) : Bool :=
  decide (0x40000 ≤ a ∧ a < 0x80000) || decide (0x12000 ≤ a ∧ a < 0x13000) ||
    (decide (0x100000 ≤ a ∧ a < 0x200000) && !(a % 0x1000 = 0x48 || a % 0x1000 = 0x4C || a % 0x1000 = 0x50)) ||
    decide (0x200000 ≤ a ∧ a < 0x700000)

/-- Entries the journal buffer holds (R399). -/
def journalSize : Nat := 4096

/-- An accepted host write to a mirrored target takes the next JSEQ, is kept until acknowledged, and is sent (R398, R399). -/
def Device.journal (d : Device) (a v : Nat) : Device :=
  if d.role = 5 ∧ mirrored a then
    let j := (d.regN Reg.TWN_JSEQ + 1) % 2 ^ 32
    let f : TwinFrame := ⟨1, a % 2 ^ 24, j, v % 2 ^ 32⟩
    ({ d.setRegN Reg.TWN_JSEQ j with twin := { d.twin with journal := d.twin.journal ++ [f], lastTx := d.ttime } }).emit (.twin (twinWords f))
  else d

/-- The dwords of a SNAP frame: `n` of them from address `a`, lowest address in [31:0], and COUNT (R394). -/
def Device.snapData (d : Device) (a n : Nat) : Nat :=
  (List.range n).foldl (fun x k => x + d.regN (a + 4 * k) * 2 ^ (32 * k)) 0 + n * 2 ^ 128

/-- The SNAP frames for `n` dwords from `a`, four to a frame (R394). -/
def Device.snapFrames (d : Device) (a n : Nat) : List Out :=
  (List.range (ceilDiv n 4)).map (fun k =>
    .twin (twinWords ⟨8, a + 16 * k, d.regN Reg.TWN_JSEQ, d.snapData (a + 16 * k) (min 4 (n - 4 * k))⟩))

/-- SNAP frames leave for each range of dwords of a list. -/
def Device.snapSend (d : Device) (rs : List (Nat × Nat)) : Device :=
  { d with out := d.out ++ (if d.vioIn then rs.flatMap (fun r => d.snapFrames r.1 r.2) else []), twin := { d.twin with lastTx := d.ttime } }

/-- The dwords that hold the run state of stream `s` (R400): G0–G15, STR_FLAGS, the APG state, and SEGIDX, PHASE, REGFULL
and CAP_USEs of its piers. -/
def Device.runState (d : Device) (s : Nat) : List (Nat × Nat) :=
  [(Reg.STR_G s 0, 16), (Reg.STR_FLAGS s, 1), (Reg.APG_X s, 6), (Reg.APG_D_LO s, 2)] ++
    (d.piers s).flatMap (fun p => [(Reg.CAP_STATUS p, 1), (Reg.CAP_USE p 0, 64)])

/-- The dwords of the mirrored page at `p` that a snapshot carries: what software writes there (R397, R398). -/
def pageSnap (blk : Block) (p : Nat) : List (Nat × Nat) :=
  [(Reg.PG_CTRL p, 1), (Reg.PG_EVT_EN p, 1), (Reg.PG_LOCK p, 1)] ++
    blk.rows.flatMap (fun r =>
      if !(r.acc = .rw || r.acc = .rws || r.acc = .rwf) || !mirrored (p + r.off) then []
      else if r.count ≤ 1 || r.stride = 4 then [(p + r.off, max 1 r.count)]
      else (List.range r.count).map (fun i => (p + r.off + r.stride * i, 1)))

/-- The mirrored pages and windows (R398). -/
def mirrorSnap : List (Nat × Nat) :=
  (pageTable.filter (fun r => r.mirror)).flatMap (fun r =>
    (List.range r.count).flatMap (fun i => pageSnap r.block (r.base + 0x1000 * i))) ++ [(0x200000, 0x140000)]

/-- The snapshot (R397): every mirrored register and window, with the run state that the checkpoints keep up. -/
def snapshotList : List (Nat × Nat) :=
  mirrorSnap ++ [(Reg.LDG_ADMITTED, 1)] ++ (List.range 16).flatMap (fun s => [(Reg.STR_BURST_ID s, 1), (Reg.STR_FLAGS s, 1)]) ++
    (List.range 16).flatMap (fun p => [(Reg.CAP_STATUS p, 1), (Reg.CAP_USE p 0, 64)])

/-- Dwords of the snapshot. -/
def snapTotal : Nat := (snapshotList.map (·.2)).foldl (· + ·) 0

/-- The device gives up the active role, or takes the other part at formation, and awaits a snapshot. -/
def Device.awaitSnapshot (d : Device) : Device :=
  { d.setBit Reg.TWN_STATUS 11 false with
    twin := { d.twin with syncLeft := snapTotal, journal := [], pend := [], swapReq := false } }

/-- The CHECKPOINT of a burst end of stream `s`, followed by its SNAP frames (R400). -/
def Device.checkpoint (d : Device) (s status : Nat) : Device :=
  if d.role = 5 then
    let rs := d.runState s
    let n := (rs.map (fun r => ceilDiv r.2 4)).foldl (· + ·) 0
    let d := d.twinSend 2 0 (1 + s * 2 ^ 8 + status * 2 ^ 16 + d.regN (Reg.STR_BURST_ID s) * 2 ^ 32 + n * 2 ^ 64)
    d.snapSend rs
  else d

/-- The CHECKPOINT of a calibration commit (R253, R400). -/
def Device.checkpointCal (d : Device) : Device := if d.role = 5 then d.twinSend 2 0 2 else d

/-- A change that the span-hash check did not see clears CURRENT (R403). -/
def Device.hashStale (d : Device) : Device := d.setBit Reg.TWN_HSTAT 28 false

/-- Whether a launch of stream `s` accepted now is twin-protected (R403). -/
def Device.protects (d : Device) (s : Nat) : Bool := natBit (d.fld Reg.TWN_PROT 0 16) s && d.bit Reg.TWN_HSTAT 28

/-- An accepted launch of a stream set in TWN_PROT without CURRENT proceeds unprotected, and a TWIN record tells (R403). -/
def Device.protectLaunch (d : Device) (s : Nat) : Device :=
  if 1 ≤ d.role ∧ natBit (d.fld Reg.TWN_PROT 0 16) s ∧ !d.bit Reg.TWN_HSTAT 28 then d.twinRecord 6 s 0 else d

end Sys2Proof.Machine
end

