-- ==== Sys2Proof/Machine/CalCommit.lean ====
section
/-! DEFINITION. The calibration engine's state changes that other blocks meet (R241, R244–R251): starting runs, giving
channels back, the commit, and the record that follows it. -/

namespace Sys2Proof.Machine

/-- CAL_STATUS.STATE (R256): 0 IDLE, 1 WAIT_METER, 2 GATHER, 3 COMPUTE, 4 STAGED, 5 COMMIT_WAIT, 6 RESTART_WAIT. -/
def Device.calState (d : Device) : Nat := d.fld Reg.CAL_STATUS 0 3

/-- The engine enters a state; PG_STATUS.BUSY shows any state but IDLE. -/
def Device.setCalState (d : Device) (v : Nat) : Device :=
  (d.setFld Reg.CAL_STATUS 0 3 v).setBit (Reg.PG_STATUS Page.CAL) 1 (v ≠ 0)

/-- CAL_STATUS.KIND: 1 FULL, 2 VERIFY, 3 TRIMS. -/
def Device.calKind (d : Device) : Nat := d.fld Reg.CAL_STATUS 12 4

/-- CAL_STATUS.BANK: the active set. -/
def Device.calBank (d : Device) : Bool := d.bit Reg.CAL_STATUS 8

/-- The calibration engine's context changed. -/
def Device.modCal (d : Device) (f : CalCtx → CalCtx) : Device := { d with cal := f d.cal }

/-- The active tables. -/
def Device.calTabs (d : Device) : CalTabs := if d.calBank then d.cal.tabB else d.cal.tabA

/-- The tables of channel `n` in a set. -/
def chanTab (t : CalTabs) (n : Nat) : Option ChanTab := Tab.get (fun _ => none) t n

/-- The inactive set replaced: the engine writes only the other set (R247). -/
def Device.setStaged (d : Device) (t : CalTabs) : Device :=
  d.modCal (fun c => if d.calBank then { c with tabA := t } else { c with tabB := t })

/-- The active TRIM bank (R70). -/
def Device.trims (d : Device) : TrimBank := if d.calBank then d.trimB else d.trimA

/-- The inactive TRIM bank replaced (R70). -/
def Device.setStagedTrims (d : Device) (t : TrimBank) : Device := if d.calBank then { d with trimA := t } else { d with trimB := t }

/-- What a bank's TRIMs of channel `n` were computed from. -/
def chanTrim (t : TrimBank) (n : Nat) : Option ChanTrim := Tab.get (fun _ => none) t n

/-- An entry of a 64-step interpolator table, the least step for an index out of range. -/
def stepDev (l : List Int) (i : Nat) : Int := (l[i]?).getD 0

/-- The fine position of an edge word (R240): the fine part of TIME − CHN_DRV_DLY, with CHN_RTD for a compare word and CHN_DEN_OFS for an
EN or DIS word. `w` is the number of the word in its timing set. -/
def ChanTrim.fine (c : ChanTrim) (w : Nat) (v : Word) : Nat :=
  let attr := v.get 29 3
  let t : Int := (v.get 0 25 : Nat) - (c.dly : Int)
  ((if 4 ≤ w then t + (c.rtd : Int) else if attr = 1 ∨ attr = 6 then t + c.den else t) % 1280).toNat

/-- The TRIM computed for an edge word (R240), in half-ticks, before the check of its range. -/
def ChanTrim.half (c : ChanTrim) (w : Nat) (v : Word) : Int :=
  let i := 2 * (c.fine w v % 32)
  Config.trimOf (stepDev c.interpA i) (stepDev c.interpB i)

/-- TRIM of the edge word at window address `a` in the active bank (R69, R70). -/
def Device.trimAt (d : Device) (a : Nat) : Int :=
  match chanTrim d.trims ((a - 0x200000) / 0x2000) with
  | some c => c.half (a % 32 / 4) (Tab.get (fun _ => 0) c.words a)
  | none => 0

/-- The temperature of the die, SNS_TJ.TJ, as a 16-bit two's complement number of 0.25 °C (R244, R256, R380). -/
def Device.tj (d : Device) : Nat := unsigned 16 (signed 12 (d.fld Reg.SNS_TJ 0 12))

/-- A CAL_FAIL record with an outcome (R254): CAL_RESULT takes it and FAIL is raised. -/
def Device.calFail (d : Device) (outcome p2 : Nat) : Device :=
  let d := d.setRegN Reg.CAL_RESULT outcome
  (d.record 0x0E 0x00120000 (d.calKind * 2 ^ 12 + outcome) (d.regN Reg.CAL_COUNT) (d.regN Reg.CAL_FAILCH) p2).event Page.CAL 2

/-- Whether the device is in or on its way into DOZE or RETAIN, or waking, where no trigger starts a run: it is remembered (R19, R244,
R250). -/
def Device.calAsleep (d : Device) : Bool := 2 ≤ d.pwrState

/-- Whether channel `n` may be gathered now (R241). -/
def Device.gatherable (d : Device) (n : Nat) : Bool := d.pierHalted (n / 16)

/-- The meters the engine may borrow: CALPOOL = 1 and STATE IDLE (R211). -/
def Device.lendable (d : Device) : List Nat :=
  (List.range 32).filter (fun i => d.bit (Reg.IVM_CTRL i) 6 && d.fld (Reg.IVM_STATUS i) 0 3 = 0)

/-- The engine borrows every meter it can: their STATE reads LENT (R211, R245). -/
def Device.borrow (d : Device) : Device := d.lendable.foldl (fun d i => d.setFld (Reg.IVM_STATUS i) 0 3 4) d

/-- A run that needs meters begins to gather, or waits for one (R245). -/
def Device.calGather (d : Device) : Device :=
  if d.lendable.isEmpty then d.setCalState 1
  else
    let g := bitsOf 256 (fun n => natBit d.cal.sel n && d.gatherable n)
    let d := d.modCal (fun c => { c with gathered := g, tracked := c.sel - g })
    (d.borrow.setFld Reg.CAL_TJ 16 16 d.tj).setCalState 2

/-- A waiting run begins to gather when a meter can be borrowed, and a gathering one borrows it too (R245). -/
def Device.calPoll (d : Device) : Device := if d.calState = 1 then d.calGather else if d.calState = 2 then d.borrow else d

/-- A run of `kind` over the channels of the mask `sel` starts (R244), with no results yet. A TRIMS run measures nothing and computes at
once. -/
def Device.calBegin (d : Device) (kind sel : Nat) (atOnce required : Bool) : Device :=
  let d := ((d.setFld Reg.CAL_STATUS 12 4 kind).setRegN Reg.CAL_COUNT 0).setRegN Reg.CAL_FAILCH 0
  let d := d.forN 8 (fun d i => d.setRegN (Reg.CAL_KEPT i) 0)
  let d := d.modCal (fun c =>
    { c with sel := sel, gathered := 0, tracked := 0, atOnce := atOnce, required := required, ctrl := d.reg Reg.CAL_CTRL,
             plaus := d.reg Reg.CAL_PLAUS })
  if kind = 3 then d.setCalState 3 else d.calGather

/-- All 256 channels. -/
def allChans : Nat := 2 ^ 256 - 1

/-- The engine reaches IDLE: a remembered trigger starts one FULL run of all channels (R244). -/
def Device.calIdle (d : Device) : Device :=
  let d := d.setCalState 0
  if (d.cal.trigPeriod || d.cal.trigTemp) && !d.calAsleep then
    (d.modCal (fun c => { c with trigPeriod := false, trigTemp := false })).calBegin 1 allChans false false
  else d

/-- An automatic trigger fires: it starts a FULL run, or is remembered (R244). -/
def Device.calTrigger (d : Device) (temp : Bool) : Device :=
  let d := d.modCal (fun c => if temp then { c with trigTemp := true } else { c with trigPeriod := true })
  if d.calState = 0 then d.calIdle else d

/-- Channels of stream `s` being gathered are given back at its launch, and tracked instead (R241). Once gathering is over the engine holds
none. -/
def Device.calGiveBack (d : Device) (s : Nat) : Device :=
  let m := (d.chans s).foldl (fun a n => a ||| 2 ^ n) 0
  if d.calState = 2 then
    d.modCal (fun c => { c with gathered := c.gathered - (c.gathered &&& m), tracked := c.tracked ||| (c.gathered &&& m) })
  else d

/-- Keystone begins to write a calibration record of the active tables (R251). -/
def Device.calWrite (d : Device) : Device :=
  let x := (d.calTabs, d.fld Reg.CAL_TJ 0 16)
  let g (r : Option CalRec) : Nat := (r.map (·.gen)).getD 0
  d.modCal (fun c =>
    { c with writing := some x, lastRec := some d.ttime, deferred := false,
             rec0 := if g c.rec0 ≤ g c.rec1 then none else c.rec0, rec1 := if g c.rec0 ≤ g c.rec1 then c.rec1 else none })

/-- Keystone starts the calibration record of a commit, or defers it to the 10 s mark (R251, R384); while it restarts there
is none to start it, and its start writes the record (R255). -/
def Device.calStore (d : Device) : Device :=
  if !d.bit Reg.MGMT_STATUS 0 then d
  else match d.cal.lastRec with
  | some t => if d.ttime < t + 10 * 1000000 * usTicks then d.modCal (fun c => { c with deferred := true }) else d.calWrite
  | none => d.calWrite

/-- The first launch slot at or after 100 ns from now (R119). -/
def Device.launchSlot (d : Device) : Nat := roundUp (d.ttime + 100 * nsTicks) gridTicks

/-- A held immediate launch is released: its first cycle counts from now (R249). -/
def Device.calRelease (d : Device) (s : Nat) : Device :=
  let d := d.modCal (fun c => { c with held := c.held.filter (fun h => h.1 ≠ s) })
  let d := d.setBit Reg.CAL_STATUS 4 (!d.cal.held.isEmpty)
  d.modStr s (fun c => { c with launchT := d.launchSlot })

/-- A commit can apply: COMMIT_WAIT, and no stream is RUNNING, GAP or STOPPING (R248). `except` leaves out streams that end
in this cycle. -/
def Device.commitDue (d : Device) (except : Nat → Bool) : Bool :=
  d.calState = 5 && (List.range 16).all (fun s => except s || !d.playing s)

/-- A BURST_DONE (STATUS 0) or BURST_ABORT record, with its severity by STATUS (R122, R302). -/
def Device.burstRec (d : Device) (e : EndRec) (cal : Bool) : Device :=
  let sev := if e.status = 0 then 1 else if 1 ≤ e.status ∧ e.status ≤ 3 then 4 else 3
  d.recordAt e.t (if e.status = 0 then 0x01 else 0x02) sev (0x00300000 + e.stream) (e.flags + (if cal then 2 ^ 26 else 0) + e.status) e.id
    e.cycles (e.cycles / 2 ^ 32)

/-- The records of bursts whose cycle is over go out; `cal` says that a commit applies in the present pier-clock cycle, and those that ended
in it carry CAL_COMMIT (R122, R248). -/
def Device.burstFlush (d : Device) (cal : Bool) : Device :=
  let l := d.cal.ends
  l.foldl (fun d e => d.burstRec e (cal && decide (e.due / 4096 = d.ttime / 4096))) (d.modCal (fun c => { c with ends := [] }))

/-- The records that no commit can concern any more go out. -/
def Device.burstSync (d : Device) : Device :=
  if d.cal.ends.all (fun e => decide (e.due / 4096 = d.ttime / 4096)) then d else d.burstFlush false

/-- The commit (R248): BANK switches for every channel, the instant and temperature are recorded, CAL_DONE is written and
COMMITTED raised; the twin journal is told, Keystone stores the tables, and held launches are released. -/
def Device.calCommit (d : Device) : Device :=
  let d := (d.burstFlush true).setBit Reg.CAL_STATUS 8 (!d.calBank)
  let d := d.setReg64 Reg.CAL_TIME_LO Reg.CAL_TIME_HI d.ttime
  let d := if d.calKind = 3 then d else d.setFld Reg.CAL_TJ 0 16 (d.fld Reg.CAL_TJ 16 16)
  let d := d.setRegN Reg.CAL_COMMITS (d.regN Reg.CAL_COMMITS + 1)
  let d := d.record 0x0D 0x00120000 (d.calKind * 2 ^ 12) (d.regN Reg.CAL_COUNT) (d.regN Reg.CAL_TJ) (d.regN Reg.CAL_COMMITS)
  let d := (d.event Page.CAL 1).hook 96 (d.regN Reg.CAL_COMMITS)
  let d := d.checkpointCal.calStore
  let d := d.modCal (fun c => { c with required := false, atOnce := false, perDone := false, tempOver := false, reload := false })
  let d := (d.cal.held.map (·.1)).foldl (fun d s => d.calRelease s) d
  d.calIdle

end Sys2Proof.Machine
end

