-- ==== Sys2Proof/Machine/Results.lean ====
section
/-! DEFINITION. The results of a tester cycle (R77, R78, R164–R191): how samples are judged, what they count for, and the
compare pipeline in which they wait, with what safe entry discards there (R58). -/

namespace Sys2Proof.Machine

/-! ## Judging (R42, R46, R77, R78) -/

/-- A compare action that judges (R113): capture and none never fail. -/
def Cmp.judges : Cmp → Bool
  | .none | .capture => false
  | _ => true

/-- Whether a comparator state matches the expected value (R42); `bit` is the chosen APG bit. -/
def Cmp.passes (a : Cmp) (bit chi clo : Bool) : Bool :=
  match a with
  | .low => clo
  | .high => chi
  | .between => !chi && !clo
  | .outside => chi || clo
  | .apg => if bit then chi else clo
  | .none | .capture => true

/-- Judging of compare edges in time order (R77, R78): the open window (its WOPEN edge, whether the sample there matches, and whether all
that the comparators show in the window does), and the fail bits so far. -/
structure Judge where
  win : Option (Nat × Bool × Bool)
  fails : Nat
deriving DecidableEq, Repr

/-- The comparator states seen in the window of Ci all match. -/
def winPasses (a : Cmp) (bit : Bool) (win i : Nat) : Bool :=
  (List.range 4).all (fun k => !natBit win (4 * i + k) || a.passes bit (natBit k 0) (natBit k 1))

/-- Closes an open window: a failing one sets the bit of its WOPEN edge. -/
def Judge.close (j : Judge) (ok : Bool) : Judge :=
  match j.win with
  | some (k, first, whole) => ⟨none, if first && whole && ok then j.fails else natSetBit j.fails k⟩
  | none => j

/-- The cycle ends with a window that may be open. Where the deassertion of CH_DEN cut it, `cut` says whether a state that does not match
had been seen by then (R58). -/
def Judge.finish (j : Judge) (cut : Option Bool) : Nat :=
  match j.win, cut with
  | some (k, first, whole), some seen => if first && (whole || !seen) then j.fails else natSetBit j.fails k
  | _, _ => (j.close true).fails

/-- One compare edge. -/
def Judge.edge (j : Judge) (a : Cmp) (bit : Bool) (x : Sample) (e : Strobe) : Judge :=
  let i := e.idx
  let ok := a.passes bit (x.chi.getLsbD i) (x.clo.getLsbD i)
  match e.attr with
  | 1 => ⟨j.win, if ok then j.fails else natSetBit j.fails i⟩
  | 2 => ⟨some (i, ok, winPasses a bit x.win.toNat i), (j.close ok).fails⟩
  | 3 => if j.win.isSome then j.close ok else ⟨none, if ok then j.fails else natSetBit j.fails i⟩
  | _ => j

/-- What a channel yields in a cycle (R164): its sample and fail bytes, the slots sampled with CHI and CLO there, its drive level per
slot, whether it contributes and judges and passes, its failing APG data bits, and its slots in time order. -/
structure ChanRes where
  sample : Nat
  fail : Nat
  en : Nat
  chi : Nat
  clo : Nat
  drv : Nat
  contributes : Bool
  judges : Bool
  passed : Bool
  apgFails : List Nat
  times : List (Nat × Bool)
deriving DecidableEq, Repr

/-- A byte with CHI in the odd and CLO in the even bits (R164). -/
def pairByte (chi clo : Nat) : Nat := bitsOf 8 (fun i => if i % 2 = 1 then natBit chi (i / 2) else natBit clo (i / 2))

/-- The results of what a channel did in a cycle (R77, R78, R45, R46, R164). -/
def ChanPlay.results (c : ChanPlay) : ChanRes :=
  let taken := bitsOf 8 (fun i => c.strobes.any (fun e => e.idx = i))
  let chi := bitsOf 8 (fun i => natBit taken i && c.on && c.x.chi.getLsbD i)
  let clo := bitsOf 8 (fun i => natBit taken i && c.on && c.x.clo.getLsbD i)
  let judged := c.on && (if c.uis = 0 then c.cmp.judges && !c.strobes.isEmpty else c.compares)
  let fails :=
    if !judged then 0
    else if c.uis = 0 then (c.strobes.foldl (fun (j : Judge) e => j.edge c.cmp (natBit c.expect 0) c.x e) ⟨none, 0⟩).finish c.cut
    else bitsOf 8 (fun i => natBit taken i && (if natBit c.expect i then !natBit chi i else !natBit clo i))
  { sample := if c.uis = 8 then chi else pairByte chi clo, fail := if c.uis = 8 then fails else fails + chi % 16 * 16,
    en := if c.plays then taken else c.en, chi := chi, clo := if c.uis = 8 then 0 else clo, drv := c.drv,
    contributes := c.plays && c.on, judges := judged, passed := fails = 0,
    apgFails := ((List.range 8).filter (fun i => if c.uis = 0 then i = 0 && fails ≠ 0 else natBit fails i)).filterMap
      (fun i => c.io.getD i none),
    times := c.strobes.map (fun e => (e.t, natBit chi e.idx)) }

/-- A channel of another stream, or one outside the list: nothing. -/
def ChanPlay.nothing : ChanPlay := ⟨0, false, false, .none, false, 0, 0, 0, [], ⟨0, 0, 0⟩, [], none⟩

/-- The results of channel `n` among those of the stream. -/
def laneRes (outs : List (Nat × ChanRes)) (n : Nat) : ChanRes := (outs.lookup n).getD ChanPlay.nothing.results

/-! ## The cycle on a pier -/

/-- The 128-bit block of one byte per lane. -/
def block (p lanes : Nat) (f : Nat → Nat) : Nat :=
  (List.range 16).foldl (fun m j => if natBit lanes j then m + f (16 * p + j) % 256 * 256 ^ j else m) 0

/-- What the cycle yields on pier `p` (R164, R165). -/
def Device.capIn (d : Device) (p : Nat) (v : CycView) (outs : List (Nat × ChanRes)) : CapIn :=
  let contrib := bitsOf 16 (fun j => (laneRes outs (16 * p + j)).contributes)
  let failed := if v.isMatch then 0 else bitsOf 16 (fun j => natBit contrib j && !(laneRes outs (16 * p + j)).passed)
  let ml := 16 * p + d.fld (Reg.CAP_CTRL p) 16 4
  { t := v.t, tEnd := v.tEnd, prevEnd := v.prevEnd, cycle := v.cycle,
    sample := block p contrib (fun n => (laneRes outs n).sample), fail := block p contrib (fun n => (laneRes outs n).fail),
    contrib := contrib, failed := failed, isMatch := v.isMatch, capBit := natBit v.word 1, first := v.first,
    start := v.start || v.segt, marginal := v.marginal,
    meas := if d.bit (Reg.CAP_CTRL p) 20 then (laneRes outs ml).times else [] }

/-- What the cycle shows the trigger engine of pier `p` (R185). -/
def trgIn (p : Nat) (v : CycView) (outs : List (Nat × ChanRes)) : TrgIn :=
  { mode := v.mode, mark := v.word / 2 ^ 16 % 256, lines := v.lines, segStart := v.segt, edges := v.edges,
    lanes := (List.range 16).map (fun j =>
      let o := laneRes outs (16 * p + j)
      ⟨o.en, o.chi, o.clo, o.drv, !v.isMatch && o.contributes && !o.passed⟩) }

/-- Bits of bitmap units merged by unit. -/
def mergeUnits (us : List (Nat × Nat)) : List (Nat × Nat) :=
  us.foldl (fun acc u =>
    if acc.any (fun e => e.1 = u.1) then acc.map (fun e => if e.1 = u.1 then (e.1, e.2 ||| u.2) else e) else acc ++ [u]) []

/-- The fail bitmap updates of pier `p` for the cycle (R162, R182): the fails of one site are one update. -/
def Device.bmCycle (d : Device) (s p : Nat) (v : CycView) (e : ApgOut) (outs : List (Nat × ChanRes)) : Device :=
  if v.isMatch || !d.bit (Reg.CAP_STATUS p) 2 || !(d.fld (Reg.CAP_CTRL p) 0 2 = 3) then d
  else
    (List.range 64).foldl (fun d k =>
      let bits := (pierChans p).flatMap (fun n =>
        if d.chanSite n = some k && (laneRes outs n).contributes then (laneRes outs n).apgFails else [])
      let units := mergeUnits (bits.map (fun io =>
        let off := d.bmOffset s io e
        (d.bmBase p k + off / 256 * 32, 2 ^ (off % 256))))
      units.foldl (fun d u => d.bmQueue p u.1 u.2) d) d

/-- Capture and triggers of one cycle over the piers of the stream (R166–R177, R185–R191): segments and counts first, then the
conditions of every engine, then the CAPACT the stream takes, then records. -/
def Device.pierCycle (d : Device) (s : Nat) (v : CycView) (e : ApgOut) (outs : List (Nat × ChanRes)) : Device :=
  let ps := d.piers s
  let v := { v with start := v.start || (d.strOf s).segNext }
  let d := d.modStr s (fun c => { c with segNext := false })
  let d := ps.foldl (fun d p => d.capBegin p (d.capIn p v outs)) d
  let r := ps.foldl (fun (a : Device × List (Nat × Nat)) p =>
    let failing := (a.1.capIn p v outs).failed ≠ 0
    let t := a.1.trgEval p (trgIn p v outs) v.t v.cycle failing
    (t.1, a.2 ++ [(p, t.2)])) (d, [])
  let d := r.1
  let act := ((r.2.filter (fun f => f.2 ≠ 0)).map (fun f => d.trgCapact f.1 f.2)).find? (· ≠ 0) |>.getD 0
  let d := r.2.foldl (fun d f =>
    if f.2 = 0 then d
    else d.setTrg f.1 { d.trgOf f.1 with acts := (d.trgOf f.1).acts ++ [d.trgAct f.1 s v.t v.tEnd v.cycle f.2 act] }) d
  let d := if act = 1 then ps.foldl (fun d p => d.capTrigger p (d.capIn p v outs)) d else d
  let d := ps.foldl (fun d p => (d.capRecord p (d.capIn p v outs)).bmCycle s p v e outs) d
  let d := if act = 3 then ps.foldl (fun d p => d.capOff p v.tEnd) d else d
  if act = 2 then d.modStr s (fun c => { c with segNext := true }) else d

/-! ## Site fails and MATCH (R51, R112, R113) -/

/-- The sites whose channels satisfy `f` in this cycle. -/
def Device.sitesWith (d : Device) (outs : List (Nat × ChanRes)) (f : ChanRes → Bool) : Nat :=
  outs.foldl (fun m o => if f o.2 then (match d.chanSite o.1 with | some k => m ||| 2 ^ k | none => m) else m) 0

/-- Failing compares of active channels set the sites' fail flags; those of a MATCH do not (R51, R112). -/
def Device.siteFails (d : Device) (s : Nat) (v : CycView) (outs : List (Nat × ChanRes)) : Device :=
  if v.isMatch then d
  else
    d.setReg64 (Reg.STR_SITEFAIL_LO s) (Reg.STR_SITEFAIL_HI s)
      (d.reg64 (Reg.STR_SITEFAIL_LO s) (Reg.STR_SITEFAIL_HI s) ||| d.sitesWith outs (fun o => !o.passed))

/-- Whether the compares given as "some pass, some fail" satisfy the condition (R113). -/
def senseOk (sense judged failed : Bool) : Bool := judged && (if sense then failed else !failed)

/-- The result of a cycle of a MATCH, with the active participating sites in that cycle: satisfactions up to the decision cycle are
noted, and the decision fixes the first cycle of the match path (R113). -/
def Device.matchCycle (d : Device) (s : Nat) (v : CycView) (parts : Nat) (outs : List (Nat × ChanRes)) : Device :=
  match (d.strOf s).mtch with
  | none => d
  | some m =>
    if m.leave.isSome || !v.isMatch || decide (v.cycle < m.since) then d
    else
      let judged := d.sitesWith outs (fun o => o.judges)
      let failed := d.sitesWith outs (fun o => o.judges && !o.passed)
      let ok := bitsOf 64 (fun k => natBit parts k && senseOk m.req.sense (natBit judged k) (natBit failed k))
      let un := outs.filter (fun o => (d.chanSite o.1).isNone && o.2.judges)
      let okU := m.partU && senseOk m.req.sense (!un.isEmpty) (un.any (fun o => !o.2.passed))
      let sat := m.sat ||| ok
      let satU := m.satU || okU
      let decided := if m.req.scope then ok ≠ 0 || okU
        else (parts ≠ 0 || m.partU) && decide (parts &&& sat = parts) && (!m.partU || satU)
      let m' := { m with sat := sat, satU := satU, recent := if ok = 0 then m.recent else m.recent ++ [(v.cycle, ok)],
                         leave := if decided then some (v.cycle + d.fld (Reg.STR_MATCHLAT s) 0 11) else none }
      d.modStr s (fun c => { c with mtch := some m' })

/-! ## The compare pipeline (R40, R108, R190) -/

/-- The results of one cycle are known: site fails, MATCH, capture and triggers take them. -/
def Device.settleCycle (d : Device) (s : Nat) (f : Flight) : Device :=
  let outs := f.outs.map (fun o => (o.1, o.2.results))
  (((d.siteFails s f.view outs).matchCycle s f.view f.parts outs).pierCycle s f.view f.expect outs)

/-- What reaches the end of the pipeline acts; capture turned off acts at the end of the cycle before it, `t`. -/
def Device.settlePipe (d : Device) (s t : Nat) : Pipe → Device
  | .cycle f => d.settleCycle s f
  | .capOn => (d.piers s).foldl (fun d p => d.capOn p) d
  | .capOff => (d.piers s).foldl (fun d p => d.capOff p t) d
  | .rearmed p => d.capRearmDone p

/-- The items of `l` leave the pipeline of stream `s` in order, up to the first cycle whose results are not known at `now`; `t` is the end
of the cycle before them. -/
def Device.settleItems (d : Device) (s : Nat) (now : Option Nat) : Nat → List Pipe → Device
  | _, [] => d.modStr s (fun c => { c with flights := [] })
  | t, i :: is =>
    match i with
    | .cycle f =>
      if now.all (fun n => decide (f.due ≤ n)) then (d.settlePipe s t i).settleItems s now f.view.tEnd is
      else d.modStr s (fun c => { c with flights := i :: is })
    | _ => (d.settlePipe s t i).settleItems s now t is

/-- The cycles of stream `s` whose results are known at `now` leave its pipeline. -/
def Device.settleDue (d : Device) (s now : Nat) : Device :=
  if (d.strOf s).flights = [] then d else d.settleItems s (some now) (d.strOf s).lastEnd (d.strOf s).flights

/-- Every cycle of stream `s` leaves its pipeline: nothing follows it. -/
def Device.settleAll (d : Device) (s : Nat) : Device :=
  if (d.strOf s).flights = [] then d else d.settleItems s none (d.strOf s).lastEnd (d.strOf s).flights

/-- Whatever the results known by now bring about has come about on every stream. -/
def Device.settlePlay (d : Device) : Device :=
  if d.str.all (fun e => e.2.flights = []) then d else d.forN 16 (fun d s => d.settleDue s d.ttime)

/-- An action takes its place behind the cycles before it. -/
def Device.pipe (d : Device) (s : Nat) (i : Pipe) : Device :=
  if (d.strOf s).flights = [] then d.settlePipe s (d.strOf s).lastEnd i else d.modStr s (fun c => { c with flights := c.flights ++ [i] })

/-- The re-arm of pier `p` ends, behind the cycles that started before (R173). -/
def Device.rearmEnd (d : Device) (p : Nat) : Device :=
  match d.streamOf p with
  | some s => d.pipe s (.rearmed p)
  | none => d.capRearmDone p

/-! ## What safe entry does to placed events and samples (R58) -/

/-- The time from the cause to the deassertion of CH_DEN, and on to CH_DHI low (R58; log entry 93). -/
def offTicks : Nat := 24 * nsTicks
/-- From the deassertion of CH_DEN to CH_DHI low: 1.25 ns. -/
def lowTicks : Nat := 5120

/-- The ball time at which a signal of channel `n` takes its safe level when that was due at `t`: 312.5 ps after an edge less than 312.5 ps
before. -/
def ChanCtx.safeAt (c : ChanCtx) (t : Nat) (isSig : Sig → Bool) : Nat :=
  match ((c.placed.filter (fun e => isSig e.sig && decide (e.ball ≤ t) && decide (t < e.ball + 1280))).map (·.ball)).max? with
  | some b => b + 1280
  | none => t

/-- An event of CH_DEN. -/
def Sig.isDen : Sig → Bool
  | .den _ => true
  | _ => false
/-- An event of CH_DHI. -/
def Sig.isDhi : Sig → Bool
  | .dhi _ => true
  | _ => false

/-- What is left of a channel's cycle when samples after ball time `cut` are discarded; `tEnd` is the ball time of the cycle's end, `seen` what a
window cut open has shown. -/
def ChanPlay.cutAt (c : ChanPlay) (cut tEnd : Nat) (seen : Bool) : ChanPlay :=
  if tEnd ≤ cut then c
  else { c with strobes := c.strobes.filter (fun e => decide (e.ball ≤ cut)), cut := some (c.cut.getD seen) }

/-- Samples of a cycle after `cut` of their channel are discarded. `w` gives each channel a free bit (log entry 2). -/
def Device.cutFlight (d : Device) (cut : Nat → Nat) (w : Nat) (f : Flight) : Flight :=
  { f with outs := f.outs.map (fun o => (o.1, o.2.cutAt (cut o.1) (d.ballTime o.1 false true f.view.tEnd) (natBit w o.1))) }

/-- Samples taken after the deassertion of CH_DEN, due at ball time `t`, are discarded on every stream. -/
def Device.cutPlay (d : Device) (t : Nat) : Device :=
  if d.str.all (fun e => e.2.flights = []) then d
  else
    let x := d.draw
    let cut (n : Nat) := (d.chanOf n).safeAt t Sig.isDen
    x.2.forN 16 (fun d s => d.modStr s (fun c =>
      { c with flights := c.flights.map (fun i => match i with | .cycle f => .cycle (d.cutFlight cut x.1 f) | i => i) }))

/-- A channel goes to its safe levels, due at ball time `t`: later events are cancelled (R58). -/
def ChanCtx.safe (c : ChanCtx) (t : Nat) : ChanCtx :=
  let a := c.safeAt t Sig.isDen
  let b := c.safeAt (t + lowTicks) Sig.isDhi
  let kept := c.placed.filter (fun e => decide (e.ball ≤ t))
  { c with den := false, dhi := false, dir := 2,
           placed := if kept = [] && !c.den && !c.dhi then [] else kept ++ [placeEvent 8 a 0 (.den false) false, placeEvent 8 b 0 (.dhi false) false] }

end Sys2Proof.Machine
end

