-- ==== Sys2Proof/Machine/StreamEnd.lean ====
section
/-! DEFINITION. The end of a burst (R109, R121, R122), refused and missed launches (R118, R120). -/

namespace Sys2Proof.Machine

/-- The CODE dword of a burst record beside STATUS and CAL_COMMIT (R122). -/
def Device.burstFlags (d : Device) (s fault : Nat) : Nat :=
  let c := d.strOf s
  (if c.jumped then 2 ^ 27 else 0) +
    (if d.reg (Reg.STR_SITEFAIL_LO s) ≠ 0 ∨ d.reg (Reg.STR_SITEFAIL_HI s) ≠ 0 then 2 ^ 25 else 0) +
    (if c.marginal then 2 ^ 24 else 0) + fault * 2 ^ 16

/-- A burst record of stream `s` and its event (R122). It waits for the end of its pier-clock cycle where a commit may still apply in that
cycle, after another stream has ended there too (R248, R255). -/
def Device.burstRecord (d : Device) (e : EndRec) (cal : Bool) : Device :=
  let d := if !cal && d.calState = 5 then d.modCal (fun c => { c with ends := c.ends ++ [e] }) else d.burstRec e cal
  d.event (Page.STR e.stream) (if e.status = 0 then 0 else 1)

/-- A refused launch leaves the stream as it was and writes BURST_ABORT with the refusal status (R118, R122). -/
def Device.refuseLaunch (d : Device) (s status : Nat) : Device :=
  (d.burstRec ⟨d.ttime, s, status, 0, d.ttime, 0xFFFFFFFF, 0⟩ false).event (Page.STR s) 1

/-- A LAUNCH_MISSED record with its reason (R120). -/
def Device.missed (d : Device) (s reason : Nat) : Device :=
  let t := d.reg64 (Reg.STR_LAUNCH_T_LO s) (Reg.STR_LAUNCH_T_HI s)
  (d.record 0x0F (0x00300000 + s) reason t (t / 2 ^ 32) (d.regN (Reg.STR_START s))).event (Page.STR s) 5

/-- The stream leaves play: nothing is queued or in play, its loop cache is empty, and no launch is armed (R98, R99). -/
def Device.strClear (d : Device) (s : Nat) : Device :=
  let d := d.modStr s (fun c =>
    { c with eng := .idle, queue := [], held := none, actSpans := [], pos := none, lastData := [], gap := .none, stop := 0,
             jumpReq := none, lc := none, jumpBuf := none, late := [], fetchBad := [], arm := .none, primed := false, verdict := none, trigLines := 0,
             segStart := false, mark := 0, markWas := 0, mtch := none, trigin := [], apgSeen := [], flights := [], segNext := false })
  let d := d.modCal (fun c => { c with held := c.held.filter (fun h => h.1 ≠ s) })
  let d := d.setBit Reg.CAL_STATUS 4 (!d.cal.held.isEmpty)
  let d := (d.setBit (Reg.STR_STATUS s) 8 false).setFld (Reg.STR_STATUS s) 16 16 0
  d.setBit (Reg.STR_STATUS s) 4 false

/-- Ends the burst of stream `s` with a STATUS: the cycles in its compare pipeline settle, segments close with `close`, STATE becomes FAULTED for a sequencer fault or
underrun of its own and HALTED otherwise, pending commits apply, channels take the levels of R32, the burst record is
written and the completion hook presented (R109, R121, R122). `cal` says that the calibration commit applies in this
cycle.
DESIGN CHOICE: TTIME of the record of a burst that ends before its first cycle is the present TTIME (log entry 131). -/
def Device.endStream (d : Device) (s status close : Nat) (cal : Bool) : Device :=
  let d := (d.settleAll s).apgSettle s
  let c := d.strOf s
  let t := if c.first then d.ttime else c.lastEnd
  let fault := if status = 2 then d.fld (Reg.STR_FAULT s) 24 8 else 0
  let d := (d.piers s).foldl (fun d p => d.segCloseIf p close t) d
  let d := d.setStrState s (if status = 1 ∨ status = 2 then 6 else 0)
  let d := d.burstRecord ⟨d.ttime, s, status, d.burstFlags s fault, t, d.regN (Reg.STR_BURST_ID s), d.reg64 (Reg.STR_CYCLES_LO s) (Reg.STR_CYCLES_HI s)⟩ cal
  let d := if status = 1 ∨ status = 2 then d.event (Page.STR s) 2 else d
  let d := d.hook s (d.regN (Reg.STR_BURST_ID s))
  let d := d.checkpoint s status
  let d := (d.strClear s).burstEndCommits s
  ((d.restStream s).syncRun).vendMove s

/-- A burst of one stream ends by itself: a calibration commit that waited for it applies in the same cycle (R248). -/
def Device.endBurst (d : Device) (s status close : Nat) : Device :=
  let cal := d.commitDue (fun r => r = s) && d.playing s
  let d := d.endStream s status close cal
  if cal then d.calCommit else d

end Sys2Proof.Machine
end

