-- ==== Sys2Proof/Machine/Safe.lean ====
section
/-! DEFINITION. The safe state (R355–R360): conditions that hold causes, entry, clearing, the key, and exit; with the
GUARD_OUT lines it drives (R349, R350). -/

namespace Sys2Proof.Machine

/-! ## Guard outputs (R349, R350) -/

/-- Monitor `i` counts as out (R349). -/
def Device.monOut (d : Device) (i : Nat) : Bool :=
  let st := d.fld (Reg.GRD_STATE i) 30 2
  d.bit (Reg.GRD_CFG i) 31 &&
    (if d.fld (Reg.GRD_CFG i) 27 2 = 0 then st = 1 || st = 3 else d.bit Reg.GRD_LATCH i)

/-- A monitor with FSAFE = 1 counts as out: the condition of cause GUARD (R350). -/
def Device.guardTrip (d : Device) : Bool := (List.range 32).any (fun i => d.bit (Reg.GRD_CFG i) 30 && d.monOut i)

/-- The GUARD_OUT levels (R350): the monitors' OR through polarity; in the safe state as SAFEACT says; low while the page
is not enabled. -/
def Device.guardLevels (d : Device) : Nat :=
  if d.bit (Reg.PG_CTRL Page.GRD) 0 then
    bitsOf 8 (fun k =>
      let pol := d.bit Reg.GRD_GOCFG (4 * k)
      let on := (List.range 32).any (fun i => natBit (d.fld (Reg.GRD_CFG i) 16 8) k && d.monOut i)
      match (if d.normal then 0 else d.fld Reg.GRD_GOCFG (4 * k + 1) 2) with
      | 1 => !pol
      | 2 => natBit d.goHold k
      | _ => xor on pol)
  else 0

/-- GRD_OUT, GRD_GOLVL and the LATCHED copies follow the monitors (R349–R351). -/
def Device.guardRefresh (d : Device) : Device :=
  let d := d.setRegN Reg.GRD_OUT (bitsOf 32 d.monOut)
  let d := d.forN 32 (fun d i => d.setBit (Reg.GRD_STATE i) 29 (d.bit Reg.GRD_LATCH i))
  d.setRegN Reg.GRD_GOLVL d.guardLevels

/-! ## Causes (R355) -/

/-- Causes that drive SAFE_N: all but EXT and TWIN (R355). -/
def drivesSafeN : Nat := 0x3FFF - 2 ^ 6 - 2 ^ 12

/-- A reading of any die sensor lies above 105 °C (R355). -/
def Device.overTemp (d : Device) : Bool := (List.range 20).any (fun j => decide (420 < signed 12 (d.fld (Reg.SNS_T j) 0 12)))

/-- Whether the condition of cause bit `b` holds, so that hardware holds the bit (R355). -/
def Device.causeHolds (d : Device) (b : Nat) : Bool :=
  match b with
  | 0 => d.fld Reg.MGMT_STATUS 24 8 ≠ 7
  | 4 => d.fld Reg.SUP_STATUS 16 8 ≠ 0
  | 5 => d.overTemp
  | 7 => d.fld Reg.CLK_STATUS 0 6 ≠ 0x3F
  | 8 => d.wdExpired
  | 9 => d.bit (Reg.PG_STATUS Page.FUSE) 2
  | 10 => d.cal.reload
  | 11 => d.guardTrip
  | 12 => d.role = 2 || d.role = 3
  | _ => false

/-- SAFE_STREAMS clears when SEQ, UE and UNDERRUN are all clear (R361). -/
def Device.safeStreamsClear (d : Device) : Device :=
  if d.fld Reg.SAFE_CAUSE 1 3 = 0 then d.setRegN Reg.SAFE_STREAMS 0 else d

/-- SAFE_STATUS.STATE (0 NORMAL, 1 SAFE, 2 EXIT_WAIT) with bit SAFE beside it (R361). -/
def Device.setSafeState (d : Device) (v : Nat) : Device := (d.setFld Reg.SAFE_STATUS 29 2 v).setBit Reg.SAFE_STATUS 31 (v ≠ 0)

/-- The key sequence in progress is dropped: KEY1 clears (R358). -/
def Device.keyReset (d : Device) : Device := { d.setBit Reg.SAFE_STATUS 27 false with keyReq := none }

/-- The SAFE_ENTRY record (R359). `low` is the lowest bit set by this arrival. -/
def Device.safeRecord (d : Device) (added : Bool) (low : Nat) : Device :=
  let str := d.fld Reg.SAFE_STREAMS 0 16
  d.record 0x03 0x00090000 (d.fld Reg.SAFE_CAUSE 0 14)
    ((if added then 2 ^ 31 else 0) + (lowestBit str 16).getD 0xFF * 2 ^ 8 + low) str (d.regN Reg.SAFE_ENTRIES)

/-- The instant of entry is recorded: SAFE_T, FIRST and SAFE_ENTRIES (R361). -/
def Device.safeStamp (d : Device) (low : Nat) : Device :=
  ({ d.setReg64 Reg.SAFE_T_LO Reg.SAFE_T_HI d.ttime with safeAt := d.ttime }.setFld Reg.SAFE_STATUS 0 8 low).addSat Reg.SAFE_ENTRIES 0 32 1

/-! ## Entry (R356) -/

/-- The pulse of strobe `k` is over: the line is low, and EN of a single strobe clears (R337). -/
def Device.strobeLow (d : Device) (k : Nat) : Device :=
  let c := Tab.get (fun _ => StrobeCtx.reset) d.strobe k
  let d := if c.fall.isSome && c.next.isNone then d.setBit (Reg.TSTR_CTRL k) 31 false else d
  { d with strobe := Tab.set (fun _ => StrobeCtx.reset) d.strobe k { c with high := false, fall := none } }

/-- Strobe lines with SAFEOFF = 1, or all of them, go low at once (R337). -/
def Device.strobesOff (d : Device) (all : Bool) : Device :=
  d.forN 4 (fun d k => if all || d.bit (Reg.TSTR_CTRL k) 29 then d.strobeLow k else d)

/-- Every channel holds CH_DEN deasserted and CH_DHI low, static and disabled ones included. -/
def Device.channelsOff (d : Device) : Device := d.forN 256 (fun d n => d.leaveBalls n false false)

/-- Every channel goes to its safe levels 24 ns after the cause: later events are cancelled and later samples discarded (R58). -/
def Device.channelsSafe (d : Device) : Device :=
  let t := d.ttime + slotBias + offTicks
  (d.cutPlay t).forN 256 (fun d n => d.setChan n ((d.chanOf n).safe t))

/-- The trigger lines of the whole device go low, MARK terms are 0 (R117, R189, R356). -/
def Device.linesOff (d : Device) : Device :=
  ({ d with trigout := [] }).forN 16 (fun d s => d.modStr s (fun c => { c with mark := 0 }))

/-- A stream that is not halted when the safe state is entered halts: FAULTED when the cause is its own, else HALTED with
INVALID_SAFE. `own` gives the STATUS of a stream's own cause (R121, R124). -/
def Device.safeStreams (d : Device) (own : List (Nat × Nat)) : Device :=
  let cal := d.commitDue (fun _ => true)
  let d := d.forN 16 (fun d s =>
    if d.halted s then d
    else match own.find? (fun e => e.1 = s) with
      | some e => d.endStream s e.2 4 (cal && d.playing s)
      | none => d.endStream s 3 4 (cal && d.playing s))
  if cal && d.calState = 5 then d.calCommit else d

/-- The actions of R356 on entry from NORMAL, apart from the cause bits and the record. -/
def Device.safeActions (d : Device) : Device :=
  let d := { d with goHold := d.fld Reg.GRD_GOLVL 0 8 }
  let d := d.setSafeState 1
  let d := d.forN 16 (fun d p => d.setBit (Reg.PIER_STATUS p) 3 true)
  (d.channelsSafe.linesOff.strobesOff false).guardRefresh

/-- The active device of a twin pair fails over on a cause in TWN_FOMASK: it sends FAIL, raises TWIN_ACT_N, sets its TWIN
cause and becomes STANDBY (R404). -/
def Device.failover (d : Device) (mask : Nat) : Device :=
  if d.role = 5 ∧ mask &&& d.fld Reg.TWN_FOMASK 0 14 ≠ 0 then
    let d := d.twinSend 5 0 (d.fld Reg.SAFE_CAUSE 0 14)
    let d := (d.setBit Reg.SAFE_CAUSE 12 true).event Page.SAFE 0
    let d := ((d.setRole 3).twinRecord 3 1 0).awaitSnapshot
    d.safeRecord true 12
  else d

/-- A boundary instruction of stream `s` after which play goes on at B with no gap. -/
def Device.actPasses (d : Device) (s : Nat) (i : QItem) : Bool :=
  match i with
  | .act b _ =>
    match b with
    | .waitUntil ns => decide ((d.strOf s).t0 + ns * nsTicks ≤ (d.strOf s).sInt)
    | .siteMask _ _ _ | .failClr | .capOn | .capOff | .capSeg | .trig _ | .signal _ | .aset _ _ | .asave _ | .arest _ | .scrld _ => true
    | _ => false
  | _ => false

/-- The record of the cycle that stream `s` plays next is not at hand, seen past the instructions that open no gap (R101). -/
def Device.nextAbsent (d : Device) (s : Nat) : Bool :=
  let c := d.strOf s
  (if c.pos.isSome then d else d.modStr s (fun c => { c with queue := c.queue.dropWhile (d.actPasses s) })).recordAbsent s

/-- Streams in play that underrun at the boundary at which safe entry halts them: the record of their next cycle is not at hand (R124). -/
def Device.underrunning (d : Device) (own : List (Nat × Nat)) : List Nat :=
  (List.range 16).filter (fun s =>
    own.all (fun e => e.1 ≠ s) && d.playing s && decide ((d.strOf s).gap = .none) && decide ((d.strOf s).stop = 0) && d.nextAbsent s)

/-- The underruns of streams that safe entry found short of their next record are a cause that arrives after it, at the boundary `t`. -/
def Device.underrunsToo (d : Device) (ss : List Nat) (t : Nat) : Device :=
  if ss = [] then d
  else
    let d' := (ss.foldl (fun d s => d.setBit Reg.SAFE_STREAMS s true) (d.setBit Reg.SAFE_CAUSE 3 true)).event Page.SAFE 0
    { ({ d' with ttime := max d.ttime t } : Device).safeRecord true 3 with ttime := d.ttime }

/-- Causes arrive together (`mask`, not 0), `own` naming streams whose own fault or underrun is among them with their burst
STATUS (R355, R356, R360). -/
def Device.safeArrive (d : Device) (mask : Nat) (own : List (Nat × Nat)) : Device :=
  let low := (lowestBit mask 14).getD 0
  let was := d.fld Reg.SAFE_STATUS 29 2
  let d := d.setRegN Reg.SAFE_CAUSE (d.regN Reg.SAFE_CAUSE ||| mask)
  let d := own.foldl (fun d e => d.setBit Reg.SAFE_STREAMS e.1 true) d
  let d := d.event Page.SAFE 0
  let d := if natBit mask 6 then d.event Page.SAFE 1 else d
  let d := if mask &&& drivesSafeN ≠ 0 then d.setBit Reg.SAFE_STATUS 28 true else d
  if was = 0 then
    let d := (d.keyReset.safeStamp low).safeActions
    let d := (d.safeRecord false low).failover mask
    let short := d.underrunning own
    let d := (d.safeStreams (own ++ short.map (fun s => (s, 1)))).underrunsToo short ((short.map (fun s => (d.strOf s).sInt)).min?.getD 0)
    d.forN 8 (fun d k => d.pebSafe k)
  else
    let d := if was = 2 then d.setSafeState 1 else d
    (d.safeRecord true low).safeStreams own

/-- A cause of the device arrives. -/
def Device.safeCause (d : Device) (b : Nat) : Device := d.safeArrive (2 ^ b) []

/-- A guard trip that holds and whose cause bit is clear arrives as cause GUARD (R350). -/
def Device.guardCheck (d : Device) : Device :=
  let d := d.guardRefresh
  if d.guardTrip && !d.bit Reg.SAFE_CAUSE 11 then d.safeCause 11 else d

/-! ## Clearing and exit (R355, R358) -/

/-- A W1C write of SAFE_CAUSE: bits whose condition holds stay set (R355, R11). -/
def Device.safeClear (d : Device) (v : Nat) : Device :=
  (d.setRegN Reg.SAFE_CAUSE (bitsOf 14 (fun b => d.bit Reg.SAFE_CAUSE b && (!natBit v b || d.causeHolds b)))).safeStreamsClear

/-- Acceptance of the exit: STATE becomes EXIT_WAIT and SAFE_N is released (R358). -/
def Device.exitWait (d : Device) : Device := (d.keyReset.setSafeState 2).setBit Reg.SAFE_STATUS 28 false

/-- A write of SAFE_KEY by requester `q` (R358). -/
def Device.safeKey (d : Device) (q v : Nat) : Device :=
  if d.fld Reg.SAFE_STATUS 29 2 ≠ 1 then d.fault Page.SAFE 0x02
  else match d.keyReq with
    | none =>
      if v = 0x45584954 then { d.setBit Reg.SAFE_STATUS 27 true with keyReq := some (q, d.ttime) } else d.fault Page.SAFE 0x02
    | some k =>
      let ok := k.1 = q && v = 0xBAA7B6AB && d.ttime ≤ k.2 + 1000 * usTicks
      if !ok then d.keyReset.fault Page.SAFE 0x02
      else if d.fld Reg.SAFE_CAUSE 0 14 ≠ 0 then d.keyReset.fault Page.SAFE 0x03
      else d.exitWait

/-- SAFE_N has read high for 1 µs: the state becomes NORMAL with a SAFE_EXIT record, and channels follow R60 (R358). -/
def Device.safeExit (d : Device) : Device :=
  if d.fld Reg.SAFE_STATUS 29 2 = 2 then
    let d := (d.setSafeState 0).setBit Reg.SAFE_STATUS 28 false
    let d := d.forN 16 (fun d p => (d.setBit (Reg.PIER_STATUS p) 3 false).setBit (Reg.PIER_STATUS p) 2 true)
    let d := d.event Page.SAFE 2
    let since := ((d.ttime : Int) - d.safeAt).toNat / usTicks
    (d.record 0x04 0x00090000 0 (d.regN Reg.SAFE_ENTRIES) (min since (2 ^ 32 - 1)) 0).guardRefresh
  else d

/-- SOFT_RESET of the SAFE page (R450): an arrival of POWERON that keeps the bits whose conditions hold. -/
def Device.safeSoftReset (d : Device) : Device :=
  let was := d.fld Reg.SAFE_STATUS 29 2
  let d := d.setRegN Reg.SAFE_CAUSE (bitsOf 14 (fun b => decide (b = 0) || d.causeHolds b))
  let d := (d.setRegN Reg.SAFE_STREAMS 0).keyReset
  let d := d.setSafeState (if was = 1 then 1 else 0)
  let d := if was = 1 then d.safeStamp 0 else d
  d.safeArrive 1 []

end Sys2Proof.Machine
end

