-- ==== Sys2Proof/Machine/Sequencer.lean ====
section
/-! DEFINITION. The micro-engine on vendor instructions (R103–R108, R159): fetch, conditions, and what each instruction
does when executed or queues for its boundary. -/

namespace Sys2Proof.Machine

/-! ## Faults of a stream (R105, R123, R355) -/

/-- A sequencer fault of stream `s` takes effect: STR_FAULT is recorded and the device enters the safe state with cause UE
for codes 0x09, 0x0D and 0x0E, else SEQ (R123, R355). -/
def Device.strFault (d : Device) (s code addr : Nat) : Device :=
  let d := d.setRegN (Reg.STR_FAULT s) (code * 2 ^ 24 + 2 ^ 23 + addr % 2 ^ 18)
  d.safeArrive (if code = 0x09 ∨ code = 0x0D ∨ code = 0x0E then 2 ^ 2 else 2 ^ 1) [(s, 2)]

/-- An underrun of stream `s` (R101). -/
def Device.underrun (d : Device) (s : Nat) : Device := d.safeArrive (2 ^ 3) [(s, 1)]

/-! ## Instruction words -/

/-- Instructions of the sequence store (R97). -/
def seqSize : Nat := 262144

/-- Window address of the lower word of instruction `a` (R97). -/
def seqAddr (a : Nat) : Nat := 0x400000 + 8 * a

/-- Instruction `a` of the sequence store. -/
def Device.seqWord (d : Device) (a : Nat) : Nat := d.reg64 (seqAddr a) (seqAddr a + 4)

/-- Field `[lo+n-1:lo]` of an instruction. -/
def insField (w lo n : Nat) : Nat := w / 2 ^ lo % 2 ^ n

/-- The opcode (R103). -/
def insOp (w : Nat) : Nat := insField w 56 8

/-- The bits of [51:0] that a vendor instruction uses; the others are reserved (R103, R106, R56, R84, R159). None for an
opcode that is not a vendor opcode. -/
def insUsed (op : Nat) : Option Nat :=
  let rs := 0xF * 2 ^ 48
  let addr := 0x3FFFF
  match op with
  | 0x00 => some 0
  | 0x01 => some 0
  | 0x02 => some (0xFFFF * 2 ^ 32 + 0xFFFF)
  | 0x03 => some (rs + 0xFFFF * 2 ^ 32)
  | 0x04 => some (rs + 0xC000 * 2 ^ 32 + 0xFFFFFFFF)
  | 0x08 => some addr
  | 0x09 => some addr
  | 0x0A => some 0
  | 0x0B => some (0x011F * 2 ^ 32 + addr)
  | 0x0C => some (rs + 0x8000 * 2 ^ 32 + 0xFFFFFFFF)
  | 0x0D => some 0
  | 0x10 => some (0xC01F * 2 ^ 32 + 0xFFFFFFFF)
  | 0x14 => some (rs + 0xFFFFFFFF)
  | 0x15 => some (rs + 0xFFFFFFFF)
  | 0x18 => some (0xC001 * 2 ^ 32 + 0xFFFFFFFF)
  | 0x19 => some 0
  | 0x1A => some 0
  | 0x1C => some (0x0003 * 2 ^ 32)
  | 0x1E => some (0x00FF * 2 ^ 32)
  | 0x1F => some (0xFFFF * 2 ^ 32)
  | 0x20 => some (rs + 0x803F * 2 ^ 32 + 0xFFFFFFFF)
  | 0x21 => some (0x0007 * 2 ^ 32)
  | 0x22 => some (0x0007 * 2 ^ 32)
  | 0x23 => some addr
  | 0x48 => some (rs + 0xFC00 * 2 ^ 32 + 0xFFFFFFFF)
  | 0x4C => some (rs + 0xFFFFFFFF)
  | _ => none

/-- A nonzero reserved field (R103). -/
def insReserved (w used : Nat) : Bool := (w % 2 ^ 52) &&& (2 ^ 52 - 1 - used) ≠ 0

/-- General register Gi of stream `s`. -/
def Device.g (d : Device) (s i : Nat) : Nat := d.regN (Reg.STR_G s i)

/-- STR_SITEFAIL of stream `s` as one mask. -/
def Device.siteFail (d : Device) (s : Nat) : Nat := d.reg64 (Reg.STR_SITEFAIL_LO s) (Reg.STR_SITEFAIL_HI s)

/-- Whether condition code `c` is true (R103, R104). -/
def Device.condHolds (d : Device) (s c : Nat) : Bool :=
  let x := d.strOf s
  match c with
  | 0 => true
  | 1 => false
  | 2 => d.siteFail s &&& x.mask ≠ 0
  | 3 => d.siteFail s &&& x.mask = 0
  | 4 => x.mask ≠ 0
  | 5 => x.mask = 0
  | 6 => x.zf
  | 7 => !x.zf
  | 8 => x.nf
  | 9 => !x.nf
  | _ => false

/-! ## The queue (R98) -/

/-- Requests in the queue: plays and MATCH plays. -/
def requests (q : List QItem) : Nat := q.countP (fun i => match i with | .act _ _ => false | _ => true)

/-- Appends an item in program order. -/
def Device.enqueue (d : Device) (s : Nat) (i : QItem) : Device := d.modStr s (fun c => { c with queue := c.queue ++ [i] })

/-- The micro-engine's activity. -/
def Device.setEng (d : Device) (s : Nat) (e : Eng) : Device := d.modStr s (fun c => { c with eng := e })

/-- A fault the micro-engine finds waits for its B, and nothing beyond is executed (R105). -/
def Device.engFault (d : Device) (s code addr : Nat) : Device := (d.enqueue s (.act (.fault code) addr)).setEng s .done

/-- Where the engine goes on: within a customer routine, or at the next instruction. -/
def StrCtx.goOn (c : StrCtx) : Eng := if c.micro.active then .micro else .running

/-- The engine of stream `s` goes on. -/
def Device.engOn (d : Device) (s : Nat) : Device := d.setEng s (d.strOf s).goOn

/-- The queue holds 64 requests, or the stream buffer is full (R98). -/
def Device.noRoom (d : Device) (s : Nat) : Bool := decide (64 ≤ requests (d.strOf s).queue) || decide (bufSize ≤ d.bufBytes s)

/-- A full queue or stream buffer stops the running engine (R98). -/
def Device.engRoom (d : Device) (s : Nat) : Device :=
  if (d.strOf s).eng = .running ∧ d.noRoom s then d.setEng s .waitRoom else d

/-- Queues as many of `n` plays of a span as there is room for; the rest wait (R98, R107). -/
def Device.enqPlays (d : Device) (s span n addr : Nat) : Device :=
  let k := min n (64 - requests (d.strOf s).queue)
  d.modStr s (fun c =>
    { c with queue := c.queue ++ List.replicate k (.play span addr .waiting),
             held := if k < n then some (span, n - k, addr) else none,
             eng := if k < n then .waitRoom else c.eng })

/-! ## Executing (R98, R103, R128) -/

/-- STR_PC of stream `s`. -/
def Device.strPc (d : Device) (s : Nat) : Nat := d.fld (Reg.STR_PC s) 0 18

/-- STR_PC of stream `s` set. -/
def Device.setPc (d : Device) (s a : Nat) : Device := d.setRegN (Reg.STR_PC s) (a % seqSize)

/-- The mark of an uncorrectable error in word `w` of the control store; the store is protected word by word (R135). -/
def csKey (w : Nat) : Nat := 8 * (2 ^ 29 + w)

/-- Word `w` of the control store holds an uncorrectable error (R137). -/
def Device.csUE (d : Device) (w : Nat) : Bool := d.winUE (csKey w)

/-- The vendor half of stream `s` (R128, R146). -/
def Device.vendHalf (d : Device) (s : Nat) : Nat := d.fld Reg.UCS_VSEL s 1

/-- Whether an opcode is unassigned: neither a vendor opcode nor a customer opcode (R106). -/
def unassigned (op : Nat) : Bool := (insUsed op).isNone && decide (op < 0xC0)

/-- Word `w` of the control store. -/
def Device.csWord (d : Device) (w : Nat) : Nat := d.regN (0x700000 + 4 * w)

/-- A corrected error in a control-store word counts and raises CE (R137). -/
def Device.csCorrected (d : Device) : Device := (d.addSat Reg.UCS_CE_CNT 0 16 1).event Page.UCS 2

/-- The micro-engine of stream `s` changed by `f`. -/
def Device.modMicro (d : Device) (s : Nat) (f : Micro → Micro) : Device := d.modStr s (fun c => { c with micro := f c.micro })

/-- Step 1 of a dispatch (R128): IR takes the instruction, SPC the next address; T0–T7 and ULIM are 0 and the micro-stack is empty. -/
def Device.fetchIR (d : Device) (s w a : Nat) : Device :=
  (d.setPc s (a + 1)).modMicro s (fun m =>
    { m with active := false, ir := w, addr := a, stack := [], t := List.replicate 8 0, lim := 0 })

/-- The dispatch entry of an opcode (R128, R135). -/
def Device.entryOf (d : Device) (s op : Nat) : Nat := if op < 0xC0 then 6144 * d.vendHalf s + op else 12288 + (op - 0xC0)

/-- The fetches of a vendor routine in the half of stream `s`, its first word among them: what each read finds (R129, R137, R146). -/
def Device.routineWords (d : Device) (s upc : Nat) (l : List (BitVec 14 × Ecc)) : List (Nat × Ecc) :=
  let lo := 6144 * d.vendHalf s
  ((upc, Ecc.good) :: l.map (fun e => (e.1.toNat, e.2))).filter (fun e => decide (lo + 256 ≤ e.1 ∧ e.1 < lo + 6144))

/-- The micro-engine of stream `s` fetches the words of a routine: a corrected error counts, an uncorrectable one is a fault 0x0D (R137).
DESIGN CHOICE: a vendor opcode whose routine meets one has no other effect (log entry 125). -/
def Device.fetchWords (d : Device) (s a : Nat) (l : List (Nat × Ecc)) (f : Device → Device) : Device :=
  match l.find? (fun e => e.2 = .bad || d.csUE e.1) with
  | some e => (d.noteUE (csKey e.1) true).engFault s 0x0D a
  | none => f (l.foldl (fun d e => if e.2 = .corrected then d.csCorrected else d) d)

/-- Steps 3 and 4 of a dispatch (R128, R137): the read of the dispatch entry, and uPC; then a vendor routine's words are fetched. What the
micro-flags hold after a vendor routine is not given (log entry 97). -/
def Device.dispatch (d : Device) (s : Nat) (ft : Fetched) (w a : Nat) (f : Device → Device) : Device :=
  let e := d.entryOf s (insOp w)
  if ft.word = .bad || d.csUE e then (d.noteUE (csKey e) true).engFault s 0x0D a
  else
    let d := if ft.word = .corrected then d.csCorrected else d
    let upc := d.csWord e % 2 ^ 14
    if !natBit (d.csWord e) 31 then d.engFault s 0x01 a
    else d.fetchWords s a (if insOp w < 0xC0 then d.routineWords s upc ft.routine else []) fun d =>
      f (d.modMicro s (fun m => { m with upc := upc, flagsOk := m.flagsOk && decide (0xC0 ≤ insOp w) }))

/-- The micro-engine of stream `s` executes its next instruction, when that instruction is one of those `mine` selects. `ft`
says what the fetches find. A false condition skips; an unassigned opcode, a reserved condition, a nonzero reserved field, an invalid
dispatch entry and a customer opcode that the stream is not enabled for are faults at B (R97, R103, R105, R128, R145). A vendor routine does
what this manual specifies for its opcode, whatever its words (R146). -/
def Device.engStep (d : Device) (s : Nat) (ft : Fetched) (mine : Nat → Bool) (f : Device → Nat → Nat → Device) : Device :=
  if (d.strOf s).eng ≠ .running then d
  else
    let a := d.strPc s
    let w := d.seqWord a
    if ft.ue || d.winUE (seqAddr a) then ((d.noteUE (seqAddr a) true).setPc s (a + 1)).engFault s 0x09 a
    else if 10 ≤ insField w 52 4 then (d.fetchIR s w a).engFault s 0x01 a
    else if !d.condHolds s (insField w 52 4) then (if mine w || unassigned (insOp w) then d.fetchIR s w a else d)
    else if unassigned (insOp w) then (d.fetchIR s w a).engFault s 0x01 a
    else if !mine w then d
    else
      let d := d.fetchIR s w a
      match insUsed (insOp w) with
      | none => if d.bit Reg.UCS_CUST_EN s then d.dispatch s ft w a (fun d => f d w a) else d.engFault s 0x01 a
      | some used =>
        if insReserved w used then d.engFault s 0x01 a
        else d.dispatch s ft w a (fun d => (f d w a).engRoom s)

/-- The instruction has the opcode `op`. -/
def isOp (op : Nat) (w : Nat) : Bool := insOp w = op

/-- Queues a boundary action (R105). -/
def Device.bnd (d : Device) (s : Nat) (b : Bnd) (a : Nat) : Device := d.enqueue s (.act b a)

/-- The micro-engine state a MATCH timeout restores (R113). -/
def Device.engSave (d : Device) (s : Nat) : EngSave :=
  let c := d.strOf s
  ⟨(List.range 16).map (fun i => d.reg (Reg.STR_G s i)), c.calls, c.loops, c.zf, c.nf, c.mask⟩

/-- G[rs] = v, with the Z and N state (R107). -/
def Device.setGZN (d : Device) (s r v : Nat) : Device :=
  (d.setRegN (Reg.STR_G s r) v).modStr s (fun c => { c with zf := v % 2 ^ 32 = 0, nf := natBit v 31 })

/-- CALL (R107). -/
def Device.engCall (d : Device) (s target a : Nat) : Device :=
  if 16 ≤ (d.strOf s).calls.length then d.engFault s 0x07 a
  else (d.modStr s (fun c => { c with calls := (a + 1) % seqSize :: c.calls })).setPc s target

/-- RET (R107). -/
def Device.engRet (d : Device) (s a : Nat) : Device :=
  match (d.strOf s).calls with
  | [] => d.engFault s 0x07 a
  | t :: ts => (d.modStr s (fun c => { c with calls := ts })).setPc s t

/-- What the search of a LOOP with count 0 finds: the ENDL's address, or a fault code (R107). `ueAt` is an address whose
fetch finds an uncorrectable error. -/
def Device.findEndl (d : Device) (ueAt : Option Nat) : Nat → Nat → Nat → Nat × Nat
  | 0, _, _ => (0x07, 0)
  | fuel + 1, b, depth =>
    if seqSize ≤ b then (0x07, 0)
    else if d.winUE (seqAddr b) || decide (ueAt = some b) then (0x09, b)
    else
      let op := insOp (d.seqWord b)
      if op = 0x0C then d.findEndl ueAt fuel (b + 1) (depth + 1)
      else if op = 0x0D then (if depth = 0 then (0, b) else d.findEndl ueAt fuel (b + 1) (depth - 1))
      else d.findEndl ueAt fuel (b + 1) depth

/-- LOOP with a count (R107). -/
def Device.engLoop (d : Device) (s count a : Nat) (ueAt : Option Nat) : Device :=
  if count = 0 then
    match d.findEndl ueAt (seqSize - a) (a + 1) 0 with
    | (0, b) => d.setPc s (b + 1)
    | (0x09, b) => (d.noteUE (seqAddr b) true).engFault s 0x09 a
    | (c, _) => d.engFault s c a
  else if 16 ≤ (d.strOf s).loops.length then d.engFault s 0x07 a
  else d.modStr s (fun c => { c with loops := (count, (a + 1) % seqSize) :: c.loops })

/-- ENDL (R107). -/
def Device.engEndl (d : Device) (s a : Nat) : Device :=
  match (d.strOf s).loops with
  | [] => d.engFault s 0x07 a
  | (n, t) :: ls =>
    let n := (n + 2 ^ 32 - 1) % 2 ^ 32
    if n ≠ 0 then (d.modStr s (fun c => { c with loops := (n, t) :: ls })).setPc s t
    else d.modStr s (fun c => { c with loops := ls })

/-- The micro-engine sees the flag a WAIT FLAG waits for: the bit clears, the waiting action takes the instant, and the engine goes
on; the next cycle starts 100 ns later at the earliest (R110). -/
def Device.flagSeen (d : Device) (s f : Nat) : Device :=
  let d := (d.setBit (Reg.STR_FLAGS s) f false).engOn s
  d.modStr s (fun c =>
    { c with queue := c.queue.map (fun i => match i with | .act (.waitFlag g none) a => .act (.waitFlag g (some d.ttime)) a | i => i),
             gap := match c.gap with
               | .flag _ p => .primed (max (d.ttime + 100 * nsTicks) p) []
               | g => g })

/-- A stream whose engine waits for a flag that is now 1 goes on (R110). -/
def Device.flagCheck (d : Device) (s : Nat) : Device :=
  match (d.strOf s).eng with
  | .waitFlag f => if d.bit (Reg.STR_FLAGS s) f then d.flagSeen s f else d
  | _ => d

/-- STR_FLAGS bits of stream `s` set, by a host, a trigger action or the program. -/
def Device.flagsSet (d : Device) (s m : Nat) : Device :=
  (d.setReg (Reg.STR_FLAGS s) (d.reg (Reg.STR_FLAGS s) ||| BitVec.ofNat 32 m)).flagCheck s

/-- WAIT in a mode (R110). The engine stops at FLAG until the bit is 1, and at DRAIN until the gap has ended. -/
def Device.engWait (d : Device) (s mode flag ns a : Nat) : Device :=
  match mode with
  | 0 => d.bnd s (.waitDelay ns) a
  | 1 => d.bnd s (.waitUntil ns) a
  | 2 => ((d.bnd s (.waitFlag flag none) a).setEng s (.waitFlag flag)).flagCheck s
  | _ => (d.bnd s .waitDrain a).setEng s .waitGap

/-- The mask after a SITEMSK on one half (R108). -/
def siteOp (op : Nat) (half : Bool) (v m : Nat) : Nat :=
  let lo := m % 2 ^ 32
  let hi := m / 2 ^ 32 % 2 ^ 32
  let o := if half then hi else lo
  let n := match op with
    | 0 => v
    | 1 => o ||| v
    | 2 => o &&& (2 ^ 32 - 1 - v)
    | _ => o &&& v
  if half then lo + n * 2 ^ 32 else n + hi * 2 ^ 32

/-- SITEMSK: the mask in program order changes now, the mask in play at B (R104, R108). -/
def Device.engSite (d : Device) (s op : Nat) (half : Bool) (v a : Nat) : Device :=
  (d.bnd s (.siteMask op half v) a).modStr s (fun c => { c with mask := siteOp op half v c.mask })

/-- ASET: a bad target or a reserved value is a fault at B (R159). -/
def Device.engAset (d : Device) (s tgt v a : Nat) : Device :=
  if asetBadTarget tgt || apgReserved (0x200 + 4 * tgt) v then d.engFault s 0x01 a else d.bnd s (.aset tgt v) a

/-- SCRLD: the 14 words are read now and act at B (R159). `ue` says that the read finds an uncorrectable error. -/
def Device.engScr (d : Device) (s a0 a : Nat) (ue : Bool) : Device :=
  if 262137 < a0 then d.engFault s 0x01 a
  else if ue || (List.range 7).any (fun i => d.winUE (seqAddr (a0 + i))) then d.engFault s 0x09 a
  else d.bnd s (.scrld ((List.range 7).flatMap (fun i => [d.seqWord (a0 + i) % 2 ^ 32, d.seqWord (a0 + i) / 2 ^ 32]))) a

/-- The queue or buffer has room again and the micro-engine goes on: the plays it still owes are queued first (R98). -/
def Device.engResume (d : Device) (s : Nat) : Device :=
  if (d.strOf s).eng = .waitRoom ∧ !d.noRoom s then
    match (d.strOf s).held with
    | some (span, n, addr) => ((d.engOn s).enqPlays s span n addr).engRoom s
    | none => d.engOn s
  else d

end Sys2Proof.Machine
end

