-- ==== Sys2Proof/Machine/Player.lean ====
section
/-! DEFINITION. The span player apart from the cycle: fetching (R98, R99), launches (R118–R120), boundaries and gaps
(R105–R111, R85), stops (R121) and asynchronous jumps (R114, R115). -/

namespace Sys2Proof.Machine

/-- TTIME counts: bring-up has ended (R310). -/
def Device.timeRuns (d : Device) : Bool := d.fld Reg.MGMT_STATUS 24 8 = 7 && !d.regionReset

/-- TTIME moves on to an instant that an event implies, and never back. Until bring-up ends it stays at 0 (R310). -/
def Device.reach (d : Device) (t : Nat) : Device := if d.timeRuns then { d with ttime := max d.ttime t } else d

/-! ## Fetching -/

/-- The player's copy of span `i` from the memory as it stands. -/
def Device.spanBuf (d : Device) (i : Nat) : SpanBuf :=
  let a := d.spanAddr i
  let n := d.spanSize64 i * 64
  { span := i, start := a, len := d.spanLen i, segt := d.spanSegt i, size := d.spanSize64 i,
    cells := d.mem.filter (fun c => decide (a ≤ c.1) && decide (c.1 < a + n)),
    bad := (d.mpoison.filter (fun e => e.2 && decide (a / 8 ≤ e.1) && decide (e.1 * 8 < a + n))).map (·.1) }

/-- The span of a request. -/
def QItem.span? : QItem → Option Nat
  | .play n _ _ => some n
  | .matchPlay n _ _ _ => some n
  | .act _ _ => none

/-- The fetch of a request. -/
def QItem.fetch? : QItem → Option Fetch
  | .play _ _ f => some f
  | .matchPlay _ _ f _ => some f
  | .act _ _ => none

/-- A request's fetch replaced. -/
def QItem.setFetch : QItem → Fetch → QItem
  | .play n a _, f => .play n a f
  | .matchPlay n a _ r, f => .matchPlay n a f r
  | i, _ => i

/-- A request is for MATCH. -/
def QItem.isMatch : QItem → Bool
  | .matchPlay _ _ _ _ => true
  | _ => false

/-- The first item that satisfies `p` changed by `f`. -/
def updFirst (p : QItem → Bool) (f : QItem → QItem) : List QItem → List QItem
  | [] => []
  | i :: is => if p i then f i :: is else i :: updFirst p f is

/-- The request waits for its fetch to begin. -/
def QItem.waits (i : QItem) : Bool := decide (i.fetch? = some .waiting)
/-- The request is being fetched. -/
def QItem.fetches (i : QItem) : Bool := match i.fetch? with | some (.fetching _ _ _) => true | _ => false

/-- The first waiting request of stream `s` gets the fetch `f`. -/
def Device.setWaiting (d : Device) (s : Nat) (f : Fetch) : Device :=
  d.modStr s (fun c => { c with queue := updFirst QItem.waits (fun i => i.setFetch f) c.queue })

/-- The first request of stream `s` that is being fetched gets the fetch `f`. -/
def Device.setFetching (d : Device) (s : Nat) (f : Fetch) : Device :=
  d.modStr s (fun c => { c with queue := updFirst QItem.fetches (fun i => i.setFetch f) c.queue })

/-- ACTIVE of span `n` returns to 0 when no queued play of it is still to be fetched (R98). -/
def Device.fetchRelease (d : Device) (s n : Nat) : Device :=
  d.modStr s (fun c =>
    { c with actSpans := if c.queue.any (fun i => decide (i.span? = some n) && (i.waits || i.fetches)) then c.actSpans
                         else if c.late.any (fun e => e.1 = n) then c.actSpans
                         else c.actSpans.filter (· ≠ n) })

/-- Bytes `lo` to `hi` of span `n` have been read: rows are left open, and each uncorrectable word is recorded with origin 0
(R218, R224). -/
def Device.fetchNotes (d : Device) (s n lo hi : Nat) : Device :=
  let a := d.spanAddr n + lo
  (d.badWords a (hi - lo)).foldl (fun d w => d.memUEfree w 0 s) (d.touchRows a (hi - lo))

/-- The player's copy of span `n` fetched by stream `s`, with the words that replays could not read (R222). -/
def Device.fetchedBuf (d : Device) (s n : Nat) : SpanBuf :=
  let b := d.spanBuf n
  { b with bad := b.bad ++ (d.strOf s).fetchBad }

/-! ### Read credit (R230) -/

/-- One byte in the unit in which credit is kept: what 1 Mb/s earns in a tick is 1 / 32,768,000 byte. -/
def creditByte : Nat := 32768000

/-- The credit of stream `s` now: earned at R_read, at most 32 KiB. -/
def Device.creditNow (d : Device) (s : Nat) : Nat :=
  let c := d.strOf s
  min (32768 * creditByte) (c.credit + (d.resOf s).read * (d.ttime - c.creditT))

/-- Fetched bytes spend credit. -/
def Device.spend (d : Device) (s n : Nat) : Device :=
  let k := d.creditNow s
  d.modStr s (fun c => { c with credit := k - n * creditByte, creditT := d.ttime })

/-- Of the bytes up to `target` of a fetch of `size` bytes that has brought `got`, those that have come: 64 at a time, as far as the stream
buffer has room, unless the loop cache takes them, and as far as the credit reaches (R89, R230). -/
def Device.fetchGot (d : Device) (s size got : Nat) (cache : Bool) (target : Nat) : Nat :=
  let want := min target size - got
  let room := if cache then want else bufSize - d.bufBytes s
  got + min want (min room (d.creditNow s / creditByte)) / 64 * 64

/-- What one fetch still has to bring: for the stream buffer, and in all. -/
def outstanding : List (Nat × Nat × Bool) → Nat × Nat
  | [] => (0, 0)
  | (size, got, cache) :: l =>
    let r := outstanding l
    (r.1 + (if cache then 0 else size - got), r.2 + (size - got))

/-- The fetches of stream `s` under way: of spans taken into play, and of requests. -/
def Device.fetches (d : Device) (s : Nat) : List (Nat × Nat × Bool) :=
  (d.strOf s).late.map (fun e => (d.spanSize64 e.1 * 64, e.2.1, e.2.2)) ++
    (d.strOf s).queue.filterMap (fun i => match i.fetch? with | some (.fetching size got cache) => some (size, got, cache) | _ => none)

/-- The last read of the preceding requests has been issued: what they still have to bring has room in the stream buffer and credit (R98, R230).
DEDUCED: a read is issued as soon as both hold (log entry 123). -/
def Device.readsIssued (d : Device) (s : Nat) : Bool :=
  let o := outstanding (d.fetches s)
  decide (o.1 ≤ bufSize - d.bufBytes s) && decide (o.2 * creditByte ≤ d.creditNow s)

/-! ### A fetch from begin to end (R98, R99) -/

/-- The fetch of the request being fetched has ended: it lies in the stream buffer or in the loop cache. -/
def Device.fetchReady (d : Device) (s n : Nat) (cache : Bool) : Device :=
  let b := d.fetchedBuf s n
  ((d.setFetching s (if cache then .cached b else .ready b)).modStr s (fun c =>
    { c with fetchBad := [], lc := if cache && d.lcHolds s n then some b else c.lc })).fetchRelease s n

/-- The player begins its next span request once the last read of the one before has been issued (R98, R99): a resident span needs no fetch;
READY must be 1; then the descriptor is checked.
Bytes that a jump's prefetch has brought are at hand (R114). `ue` says that the descriptor read finds an uncorrectable error.
DESIGN CHOICE: LCVALID and LCSPAN turn to the new span where its load begins (log entry 103). -/
def Device.fetchBegin (d : Device) (s : Nat) (ue : Bool) : Device :=
  let c := d.strOf s
  match c.queue.find? QItem.waits with
  | none => d
  | some i =>
    match i.span? with
    | none => d
    | some n =>
      let lcOn := d.bit (Reg.STR_CTRL s) 4 || i.isMatch
      if lcOn && d.lcHolds s n then
        match c.lc with
        | some b => (d.setWaiting s (.cached b)).fetchRelease s n
        | none => d
      else if !d.readsIssued s then d
      else
        let pre := if c.jumpBuf = some n then d.jumpBytes n else 0
        let d := d.modStr s (fun c => { c with jumpBuf := none })
        if ue || d.winUE (spanWord n 0) || d.winUE (spanWord n 2) then
          (d.noteUE (spanWord n 0) ue).setWaiting s (.bad 0x09)
        else if !d.spanReady n && pre = 0 then d
        else if !d.spanOk s n then d.setWaiting s (.bad 0x05)
        else if i.isMatch && decide (512 < d.spanSize64 n) then d.setWaiting s (.bad 0x08)
        else
          let size := d.spanSize64 n * 64
          let cache := (lcOn && d.spanLoopc n || i.isMatch) && decide (d.spanSize64 n ≤ 512)
          let d := (d.setWaiting s (.fetching size pre cache)).modStr s (fun c =>
            { c with actSpans := if c.actSpans.contains n then c.actSpans else c.actSpans ++ [n] })
          let d := if cache then
              ((d.setBit (Reg.STR_STATUS s) 8 true).setFld (Reg.STR_STATUS s) 16 16 n).modStr s (fun c => { c with lc := none })
            else d
          if pre = size then d.fetchReady s n cache else d

/-- `target` bytes of the span being fetched, or as many as have room and credit, have arrived: of the oldest span already in play, else of the
first request that is being fetched. The last of them ends the fetch (R98). -/
def Device.fetchArrive (d : Device) (s target : Nat) : Device :=
  match (d.strOf s).late with
  | (n, got, cache) :: is =>
    let size := d.spanSize64 n * 64
    let k := d.fetchGot s size got cache target
    let d := (d.fetchNotes s n got k).spend s (k - got)
    if k = size then
      let b := d.fetchedBuf s n
      (d.modStr s (fun c =>
        { c with late := is, fetchBad := [], lc := if cache && d.lcHolds s n then some b else c.lc })).fetchRelease s n
    else d.modStr s (fun c => { c with late := (n, k, cache) :: is })
  | [] =>
    match (d.strOf s).queue.find? QItem.fetches with
    | none => d
    | some i =>
      match i.span?, i.fetch? with
      | some n, some (.fetching size got cache) =>
        let k := d.fetchGot s size got cache target
        let d := (d.fetchNotes s n got k).spend s (k - got)
        (if k = size then d.fetchReady s n cache else d.setFetching s (.fetching size k cache)).engRoom s
      | _, _ => d

/-- The last byte of the request being fetched arrives (R98). -/
def Device.fetchDone (d : Device) (s : Nat) : Device := d.fetchArrive s (2 ^ 36)

/-! ## Priming (R119) -/

/-- Whether the buffer holds 16 KiB or all requests up to the first HALT, WAIT or MATCH; a play from the loop cache needs no byte of it.
`bytes` counts what is held.
DESIGN CHOICE: a full queue of 64 requests counts as primed, and SITEDROP, a queued fault and a span that failed its check are stop points like
HALT (log entry 129). -/
def primedQ (eng : Eng) : List QItem → Nat → Bool
  | [], _ => decide (eng = .waitRoom)
  | .act b _ :: is, bytes =>
    match b with
    | .halt | .waitDelay _ | .waitUntil _ | .waitFlag _ _ | .waitDrain | .siteDrop | .fault _ => true
    | _ => primedQ eng is bytes
  | .matchPlay _ _ f _ :: _, _ => match f with | .ready _ | .cached _ | .bad _ => true | .fetching _ _ _ | .waiting => false
  | .play _ _ f :: is, bytes =>
    match f with
    | .ready b => if 16384 ≤ bytes + b.size * 64 then true else primedQ eng is (bytes + b.size * 64)
    | .cached _ => primedQ eng is bytes
    | .bad _ => true
    | .fetching _ got cache => !cache && decide (16384 ≤ bytes + got)
    | .waiting => false

/-- The stream is primed (R119). -/
def Device.isPrimed (d : Device) (s : Nat) : Bool := primedQ (d.strOf s).eng (d.strOf s).queue 0

/-- Every pier of the stream is awake (R353). -/
def Device.piersAwake (d : Device) (s : Nat) : Bool := (d.piers s).all (fun p => d.bit Reg.PWR_AWAKE_P p)

/-- How far the span being fetched has come when it makes the stream primed: to 16 KiB in all, or to its end. `bytes` counts what is held. -/
def primeNeed : List QItem → Nat → Nat
  | [], _ => 0
  | .act _ _ :: is, bytes => primeNeed is bytes
  | .matchPlay _ _ f _ :: _, _ => match f with | .fetching size _ _ => size | _ => 0
  | .play _ _ f :: is, bytes =>
    match f with
    | .ready b => primeNeed is (bytes + b.size * 64)
    | .cached _ => primeNeed is bytes
    | .fetching size _ cache => if cache then size else min size (16384 - bytes)
    | _ => 0

/-- The bytes arrive that prime the stream, where they are all that it lacks. -/
def Device.fetchPrime (d : Device) (s : Nat) : Device :=
  let e := d.fetchArrive s (primeNeed (d.strOf s).queue 0)
  if !d.isPrimed s && e.isPrimed s then e else d

/-- STREAM_PRIMED (R119, R120, R249, R353): an immediate launch gets its 5 ns slot or is held for a commit; a scheduled or quorum launch
becomes ARMED. -/
def Device.strPrimed (d : Device) (s : Nat) : Device :=
  let d := if d.strState s = 1 && !(d.strOf s).primed then d.fetchPrime s else d
  let c := d.strOf s
  if d.strState s = 1 && !c.primed && d.isPrimed s then
    match c.arm with
    | .immediate =>
      if !d.piersAwake s then d
      else
        let d := d.modStr s (fun c => { c with primed := true })
        if (d.strOf s).mayHold && d.calState = 5 then
          (d.modCal (fun k => { k with held := k.held ++ [(s, d.ttime + (max 1 (d.fld Reg.CAL_HOLDMAX 0 16)) * usTicks)] })).setBit
            Reg.CAL_STATUS 4 true
        else d.modStr s (fun c => { c with launchT := d.launchSlot })
    | .none => d
    | _ => (d.modStr s (fun c => { c with primed := true })).setStrState s 2
  else d

/-! ## Launch (R118–R120) -/

/-- R49: an enabled channel with SRC = VECTOR takes the lane of a channel outside the stream's piers. -/
def Device.pinMapBad (d : Device) (s : Nat) : Bool :=
  (d.chans s).any (fun n => d.chanOn n && !d.chanStatic n &&
    !((d.piers s).contains (d.fld (Reg.CHN_PINMAP n) 16 8 / 16)))

/-- The status with which a launch is refused: in DOZE, RETAIN or waking the power state (R21, R23), then in the order of R118;
none when it is accepted.
DESIGN CHOICE: while STATE is ENTERING the state being entered is the reason (log entry 88). -/
def Device.refusal (d : Device) (s : Nat) : Option Nat :=
  match d.pwrState with
  | 2 => some 0x12
  | 3 => some 0x13
  | 5 => some 0x14
  | st =>
    if !d.halted s then some 0x10
    else if !d.normal then some 0x11
    else if d.piers s = [] then some 0x16
    else if !d.bit Reg.LDG_ADMITTED s then some 0x17
    else if d.pinMapBad s then some 0x15
    else if st = 4 then some (if d.pwr.target = 2 then 0x13 else 0x12)
    else none

/-- What a launch does to the capture engine of a pier (R166, R168, R181). -/
def Device.capLaunch (d : Device) (s p : Nat) : Device :=
  let d := d.forN 16 (fun d j => d.setRegN (Reg.CAP_LANEFAIL p j) 0)
  let d := d.forN 64 (fun d j => d.setRegN (Reg.CAP_SITEFAIL p j) 0)
  let d := ((d.setRegN (Reg.CAP_FAILCYC p) 0).setReg64 (Reg.CAP_FIRST_LO p) (Reg.CAP_FIRST_HI p) 0).setReg64 (Reg.CAP_LAST_LO p) (Reg.CAP_LAST_HI p) 0
  let d := d.setRegN (Reg.CAP_FIRSTLANE p) 0
  let on := d.bit (Reg.PG_CTRL (Page.CAP p)) 0
  let bad := d.fld (Reg.CAP_CTRL p) 0 2 = 3 && !d.bmOk s p
  let d := if bad then (d.fault (Page.CAP p) 0x04).event (Page.CAP p) 5 else d
  let d := d.modCap p (fun c => { c with prev := none, pendOpen := false, dead := 0, bmOff := bad })
  d.setBit (Reg.CAP_STATUS p) 2 (on && d.bit (Reg.CAP_STATUS p) 0 && !bad)

/-- An accepted launch (R119): the registers it clears, the masks it loads, engines reset, STATE PRIMING, and the
micro-engine at STR_START with empty stacks. -/
def Device.accept (d : Device) (s : Nat) (arm : Arm) : Device :=
  let d := (d.setRegN (Reg.STR_FAULT s) 0).setReg64 (Reg.STR_SITEFAIL_LO s) (Reg.STR_SITEFAIL_HI s) 0
  let d := (d.setReg64 (Reg.STR_MATCHSITE_LO s) (Reg.STR_MATCHSITE_HI s) 0).setReg64 (Reg.STR_CYCLES_LO s) (Reg.STR_CYCLES_HI s) 0
  let d := (d.piers s).foldl (fun d p => d.setBit (Reg.PIER_BADCODE p) 8 false) d
  let m := d.reg64 (Reg.STR_SITE_INIT_LO s) (Reg.STR_SITE_INIT_HI s)
  let d := d.setReg64 (Reg.STR_SITE_LO s) (Reg.STR_SITE_HI s) m
  let d := (d.piers s).foldl (fun d p => (d.capLaunch s p).trgLaunch p) d
  let d := (d.apgLaunch s).calGiveBack s
  let d := (d.strClear s).modStr s (fun c =>
    { c with calls := [], loops := [], zf := false, nf := false, mask := m, eng := .running, first := true, jumped := false,
             marginal := false, arm := arm, primed := false, period := none, launchT := 0, credit := 32768 * creditByte, creditT := d.ttime,
             mayHold := d.bit Reg.CAL_CTRL 4 && decide (d.calState = 5),
             micro := { c.micro with active := false } })
  let d := (d.setPc s (d.fld (Reg.STR_START s) 0 18)).setStrState s 1
  (d.setBit (Reg.STR_STATUS s) 4 (arm ≠ .immediate)).protectLaunch s

/-- STR_LAUNCH_T of stream `s`. -/
def Device.launchTime (d : Device) (s : Nat) : Nat := d.reg64 (Reg.STR_LAUNCH_T_LO s) (Reg.STR_LAUNCH_T_HI s)

/-- How far `t` lies in the future, where it does (R312). -/
def Device.ahead (d : Device) (t : Nat) : Option Nat :=
  let n := (t + 2 ^ 64 - d.ttime % 2 ^ 64) % 2 ^ 64
  if n < 2 ^ 63 then some n else none

/-- A launch write of one kind: refused, late, for another quorum time than the one announced, or accepted (R118, R120,
R332). -/
def Device.launch (d : Device) (s : Nat) (arm : Arm) : Device :=
  match d.refusal s with
  | some st => d.refuseLaunch s st
  | none =>
    match arm with
    | .none => d
    | .immediate => d.accept s .immediate
    | _ =>
      match d.ahead (d.launchTime s) with
      | none => d.missed s 4
      | some n =>
        if n < 4 * usTicks then d.missed s 4
        else if arm = .quorum ∧ d.via.qt ≠ some (d.launchTime s) then d.missed s 6
        else d.accept s arm

/-- The stream returns to HALTED without a burst record: a cancelled or missed launch (R120).
DESIGN CHOICE: commits that wait for a burst of the stream go on waiting, for no burst has ended (log entry 94). -/
def Device.drop (d : Device) (s : Nat) : Device := (((d.strClear s).setStrState s 0).setEng s .idle).vendMove s

/-- CANCEL before T − 2 µs (R120). -/
def Device.strCancel (d : Device) (s : Nat) : Device :=
  let c := d.strOf s
  let inTime := match d.ahead (d.launchTime s) with
    | some n => decide (2 * usTicks < n)
    | none => false
  if (d.strState s = 1 || d.strState s = 2) && (c.arm = .sched || c.arm = .quorum) && inTime then d.drop s
  else d

/-- The first reason for which a stream is not ready for its scheduled start; 0 when it is (R120). -/
def Device.notReady (d : Device) (s : Nat) : Nat :=
  if !(d.strOf s).primed then 1
  else if !d.piersAwake s || (List.range 2).any (fun k => decide (d.fld Reg.PWR_AWAKE_M (16 * k) 16 ≠ 0xFFFF)) then 2
  else if d.cal.required then 3
  else if !d.bit Reg.LDG_ADMITTED s then 5
  else 0

/-- Readiness at T − 2 µs (R120): a local scheduled launch with NOGO misses; GO and a quorum launch's result are kept.
DESIGN CHOICE: NOGO of a local scheduled launch takes effect at T − 2 µs, its record included (log entry 130). -/
def Device.schedReady (d : Device) (s : Nat) : Device :=
  let c := d.strOf s
  if (d.strState s = 1 || d.strState s = 2) && (c.arm = .sched || c.arm = .quorum) && c.verdict.isNone then
    let d := d.reach (d.launchTime s - 2 * usTicks)
    let r := d.notReady s
    if c.arm = .sched && r ≠ 0 then (d.drop s).missed s r
    else d.modStr s (fun c => { c with verdict := some r })
  else d

/-! ## Gaps (R110, R111) -/

/-- The first instant not before `t` on a grid (R85). -/
def onGrid (spacing ofs t : Nat) : Nat := t + (ofs + spacing - t % spacing) % spacing

/-- What an instruction after WAIT FLAG at the same B makes of a start. -/
def GapAdj.apply (t : Nat) : GapAdj → Nat
  | .delay n => t + n
  | .notBefore u => max t u
  | .grid g o => onGrid g o t

/-- B on the first whole tick not before it. -/
def StrCtx.bCeil (c : StrCtx) : Nat := if c.sFrac = 0 then c.sInt else c.sInt + 1

/-- The start of the next cycle as planned so far at the present boundary. -/
def Device.planned (d : Device) (s : Nat) : Nat :=
  match (d.strOf s).gap with
  | .till t => t
  | .primed t post => post.foldl GapAdj.apply (roundUp t gridTicks)
  | .flag _ p => p
  | _ => (d.strOf s).sInt

/-- The next cycle has another period than the last, as far as its record can be seen (R83). -/
def Device.periodTurns (d : Device) (s : Nat) : Bool :=
  match (d.strOf s).period, ((d.strOf s).queue.findSome? QItem.span?) with
  | some k, some n =>
    let per := d.perFix s (d.memRead (d.spanAddr n) 4 / 2 ^ 24)
    k ≠ (per / 65536, per % 65536)
  | _, _ => false

/-- STATE GAP unless a stop is pending; MARKOUT terms are 0 in a gap (R90, R111, R117). -/
def Device.enterGap (d : Device) (s : Nat) (g : Gap) : Device :=
  let d := d.modStr s (fun c => { c with gap := g, sFrac := 0, mark := 0 })
  if d.strState s = 3 then d.setStrState s 4 else d

/-- An instruction at B moves the start of the next cycle, to a whole tick (R85, R110, R111). A grid counts from B itself, which a period
change moves to floor(B) first (R83, R88). -/
def Device.gapAdj (d : Device) (s : Nat) (a : GapAdj) : Device :=
  let c := d.strOf s
  match c.gap with
  | .primed t post => d.enterGap s (.primed t (post ++ [a]))
  | .till t => d.enterGap s (.till (a.apply t))
  | _ =>
    let from_ := match a with
      | .grid _ _ => if d.periodTurns s then c.sInt else c.bCeil
      | _ => c.sInt
    let t := a.apply from_
    if t = c.sInt then d.modStr s (fun c => { c with sFrac := 0 }) else d.enterGap s (.till t)

/-- The length of a drain gap (R110). -/
def Device.drainTicks (d : Device) (s : Nat) : Nat := ceilDiv (d.matchMin s * d.perFix s (d.refTs s)) 65536

/-! ## Boundary actions (R105, R108–R110, R85, R57, R159) -/

/-- SITEMSK at B (R108). -/
def Device.siteMaskAct (d : Device) (s op : Nat) (half : Bool) (v : Nat) : Device :=
  d.setReg64 (Reg.STR_SITE_LO s) (Reg.STR_SITE_HI s) (siteOp op half v (d.reg64 (Reg.STR_SITE_LO s) (Reg.STR_SITE_HI s)))

/-- One boundary action acts at B. -/
def Device.bndAct (d : Device) (s : Nat) (b : Bnd) (addr : Nat) : Device :=
  let p := d.planned s
  match b with
  | .halt => d.endBurst s 0 3
  | .waitDelay ns => d.gapAdj s (.delay (ns * nsTicks))
  | .waitUntil ns => if (d.strOf s).t0 + ns * nsTicks ≤ p then d else d.gapAdj s (.notBefore ((d.strOf s).t0 + ns * nsTicks))
  | .waitFlag f seen =>
    let at_ := max p (d.strOf s).bCeil
    match seen with
    | some t => d.enterGap s (.primed (max (t + 100 * nsTicks) at_) [])
    | none => d.enterGap s (.flag f at_)
  | .waitDrain => d.enterGap s (.drain (p + d.drainTicks s))
  | .siteMask op half v => d.siteMaskAct s op half v
  | .siteDrop => d.enterGap s (.drop (p + d.drainTicks s))
  | .failClr => d.setReg64 (Reg.STR_SITEFAIL_LO s) (Reg.STR_SITEFAIL_HI s) 0
  | .capOn => d.pipe s .capOn
  | .capOff => d.pipe s .capOff
  | .capSeg => d.modStr s (fun c => { c with segStart := true })
  | .trig l => d.modStr s (fun c => { c with trigLines := c.trigLines ||| l })
  | .signal code => (((d.setRegN (Reg.STR_SIGNAL s) code).event (Page.STR s) 3)).hook (16 + s) code
  | .setpe port cs data =>
    match d.pebPush port ⟨cs, data⟩ with
    | some d => d
    | none => d.strFault s 0x0A addr
  | .phase grid ofs =>
    if grid < 4096 ∨ grid ≤ ofs then d.strFault s 0x0B addr
    else d.gapAdj s (.grid grid ofs)
  | .aset tgt v => d.apgWrite s (0x200 + 4 * tgt) v
  | .asave m => d.apgSave s m
  | .arest m => d.apgRest s m
  | .scrld ws => d.apgScr s ws
  | .fault code => d.strFault s code addr

/-- The actions that lead the queue act at B in program order, until a request leads it or the burst has ended. -/
def Device.runActs (d : Device) (s : Nat) : Nat → Device
  | 0 => d
  | fuel + 1 =>
    if d.halted s then d
    else match (d.strOf s).queue with
      | .act b a :: is => ((d.modStr s (fun c => { c with queue := is })).bndAct s b a).runActs s fuel
      | _ => d

/-- All actions at the present boundary. -/
def Device.boundaryActs (d : Device) (s : Nat) : Device := (d.apgSettle s).runActs s (d.strOf s).queue.length

/-- The APG registers that a boundary changed go on reading as in the cycle last played, until the next one starts (R157). -/
def Device.apgKeep (d old : Device) (s : Nat) : Device :=
  if (old.strOf s).first || d.halted s then d
  else
    let ns := (List.range 62).map (fun k => Reg.APG_CTRL s + 4 * k)
    let seen := (old.strOf s).apgSeen
    let new := ns.filter (fun a => decide (d.reg a ≠ old.reg a) && !seen.any (fun e => e.1 = a))
    d.modStr s (fun c => { c with apgSeen := seen ++ new.map (fun a => (a, old.reg a)) })

/-- The actions before the next request include HALT: a stop there is a normal end (R124). -/
def haltsHere : List QItem → Bool
  | .act .halt _ :: _ => true
  | .act _ _ :: is => haltsHere is
  | _ => false

/-! ## Asynchronous jumps (R114, R115) -/

/-- The armed jump is taken: the old path is discarded, the call and loop stacks are emptied, ARM and JREADY clear, the loop
cache is empty, and the micro-engine continues at the target (R99, R115).
DESIGN CHOICE: the active-site mask in play goes on in program order (log entry 103). -/
def Device.takeJump (d : Device) (s : Nat) : Device :=
  let target := d.fld (Reg.STR_JUMP s) 0 18
  let d := ((d.setBit (Reg.STR_JUMP s) 31 false).setBit (Reg.STR_STATUS s) 5 false).setBit (Reg.STR_STATUS s) 8 false
  let m := d.reg64 (Reg.STR_SITE_LO s) (Reg.STR_SITE_HI s)
  let inJump (w : Nat) : Bool := match (d.strOf s).jump with
    | some n => decide (d.spanAddr n ≤ 8 * w ∧ 8 * w < d.spanAddr n + d.spanSize64 n * 64)
    | none => false
  (d.modStr s (fun c =>
    { c with fetchBad := c.fetchBad.filter inJump, queue := [], held := none, calls := [], loops := [], actSpans := [], lc := none, pos := none, mtch := none,
             late := [], jumpBuf := c.jump, jump := none, jumpReq := none, jumped := true, eng := .running,
             mask := m, micro := { c.micro with active := false } })).setPc s target

/-- The instant `r` lies in the gap that stream `s` is in. -/
def Device.inGap (d : Device) (s r : Nat) : Bool :=
  match (d.strOf s).gap with
  | .none => false
  | .till t | .drain t | .drop t => decide (r < t)
  | .primed _ _ => decide (r < d.planned s)
  | .flag _ _ => true

/-- A jump request whose issued instant lies in the present gap is taken there: the target's first cycle starts at the first multiple of 5 ns at
least 100 ns after the request (R115). -/
def Device.gapJump (d : Device) (s : Nat) : Device :=
  match (d.strOf s).jumpReq with
  | some r =>
    if d.playing s && d.inGap s r then (d.takeJump s).enterGap s (.till (roundUp (r + 80 * nsTicks) gridTicks)) else d
  | none => d

/-- A jump request that reaches the player at `t` (R115): refused while JREADY = 0; in a gap it is taken at once; else it belongs to the
cycle being issued, 20 ns ahead (R190), where none is pending yet.
DESIGN CHOICE: a request with JREADY = 1 while the stream plays nothing is ignored with no event (log entry 124). -/
def Device.jumpRequest (d : Device) (s t : Nat) : Device :=
  if !d.bit (Reg.STR_STATUS s) 5 then d.event (Page.STR s) 7
  else if !d.playing s then d
  else
    let r := t + 20 * nsTicks
    (d.modStr s (fun c => { c with jumpReq := some (min r (c.jumpReq.getD r)) })).gapJump s

/-- A jump request of stream `s` takes effect at the present boundary: its cycle ends here or earlier (R115). -/
def StrCtx.jumpsHere (c : StrCtx) : Bool := c.jumpReq.any (fun t => decide (t * 65536 < c.sInt * 65536 + c.sFrac))

/-- The span that the instruction at `a` plays, when it is a PLAY or PLAYR whose condition holds (R114). -/
def Device.jumpSpan (d : Device) (s a : Nat) : Option Nat :=
  let w := d.seqWord a
  if d.winUE (seqAddr a) then none
  else if !d.condHolds s (insField w 52 4) then none
  else match insOp w with
    | 0x02 => if insReserved w ((insUsed 0x02).getD 0) then none else some (w % 2 ^ 16)
    | 0x03 => if insReserved w ((insUsed 0x03).getD 0) then none else some (d.g s (insField w 48 4) % 2 ^ 16)
    | _ => none

/-- A write of STR_JUMP with ARM = 1 (R114). -/
def Device.jumpArm (d : Device) (s a : Nat) : Device :=
  let d := (d.setRegN (Reg.STR_JUMP s) (a % 2 ^ 18)).setBit (Reg.STR_STATUS s) 5 false
  match d.jumpSpan s a with
  | some n => (d.setBit (Reg.STR_JUMP s) 31 true).modStr s (fun c => { c with jump := some n })
  | none => (d.event (Page.STR s) 7).modStr s (fun c => { c with jump := none })

/-- A write of STR_JUMP with ARM = 0: nothing is armed. -/
def Device.jumpDisarm (d : Device) (s a : Nat) : Device :=
  ((d.setRegN (Reg.STR_JUMP s) (a % 2 ^ 18)).setBit (Reg.STR_STATUS s) 5 false).modStr s (fun c => { c with jump := none })

/-- The prefetch of the armed target's first 8 KiB completes, once buffer and credit allow (R114, R230). -/
def Device.jumpReady (d : Device) (s : Nat) : Device :=
  match (d.strOf s).jump with
  | some n =>
    let k := d.jumpBytes n
    if d.spanReady n && d.spanOk s n && !d.bit (Reg.STR_STATUS s) 5 && decide (d.bufBytes s + k ≤ bufSize) &&
        decide (k * creditByte ≤ d.creditNow s) then
      (((d.fetchNotes s n 0 k).spend s k).setBit (Reg.STR_STATUS s) 5 true).engRoom s
    else d
  | none => d

/-! ## First cycle, boundaries, stops -/

/-- The first cycle of a burst that a launch would start at `t`: PHASE ahead of the first PLAY delays it (R85). -/
def leadStart (t : Nat) : List QItem → Nat
  | .act (.phase g o) _ :: is => if g < 4096 ∨ g ≤ o then t else leadStart (onGrid g o t) is
  | .act b _ :: is =>
    match b with
    | .halt | .waitDelay _ | .waitUntil _ | .waitFlag _ _ | .waitDrain | .siteDrop | .fault _ => t
    | _ => leadStart t is
  | _ => t

/-- The actions ahead of the first PLAY without the PHASEs that `leadStart` has applied. -/
def leadRest : List QItem → List QItem
  | .act (.phase g o) a :: is => if g < 4096 ∨ g ≤ o then .act (.phase g o) a :: is else leadRest is
  | .act b a :: is =>
    match b with
    | .halt | .waitDelay _ | .waitUntil _ | .waitFlag _ _ | .waitDrain | .siteDrop | .fault _ => .act b a :: is
    | _ => .act b a :: leadRest is
  | q => q

/-- A burst that its launch would start at `t` reaches its first cycle: STATE RUNNING, the burst is counted, and the actions ahead of the
first PLAY act (R85, R90, R105, R125). -/
def Device.beginBurst (d : Device) (s t : Nat) : Device :=
  let t := leadStart t (d.strOf s).queue
  let d := d.reach t
  let id := d.regN (Reg.STR_BURST_ID s)
  let d := d.setRegN (Reg.STR_BURST_ID s) (if 0xFFFFFFFE ≤ id then 0 else id + 1)
  let d := (d.setStrState s 3).setBit (Reg.STR_STATUS s) 4 false
  let seg := (d.piers s).any (fun p => d.bit (Reg.CAP_CTRL p) 5)
  let d := d.modStr s (fun c =>
    { c with sInt := t, sFrac := 0, t0 := t, lastEnd := t, first := true, fresh := true, gap := .none, segStart := seg, arm := .none,
             queue := leadRest c.queue, marginal := d.marginalNow })
  ((d.syncRun).boundaryActs s).gapJump s

/-- Play reaches a boundary B (R105, R115, R121, R124): a jump requested is taken; else a stop ends the burst unless HALT
does; else the actions act, on what the cycles before have yielded by then. A jump requested in a gap that begins here is taken in it. -/
def Device.spanBoundary (d : Device) (s : Nat) : Device :=
  let c := d.strOf s
  if d.playing s && decide (c.gap = .none) && c.pos.isNone then
    let d := (d.reach c.sInt).settleDue s c.sInt
    if c.jumpsHere then ((d.apgSettle s).takeJump s).apgKeep d s
    else if c.stop ≠ 0 && !haltsHere c.queue then d.endBurst s 4 3
    else ((d.boundaryActs s).apgKeep d s).gapJump s
  else d

/-- STOP (R121): at once in a gap or before the first cycle, else STATE STOPPING until the stop applies. -/
def Device.strStop (d : Device) (s mode : Nat) : Device :=
  match d.strState s with
  | 1 => d.endBurst s 4 3
  | 2 => d.endBurst s 4 3
  | 4 => d.endBurst s 4 3
  | 3 => (d.modStr s (fun c => { c with stop := mode })).setStrState s 5
  | 5 => if (d.strOf s).gap = .none then d.modStr s (fun c => { c with stop := max c.stop mode }) else d.endBurst s 4 3
  | _ => d

/-- STATE returns to RUNNING at the end of a gap. -/
def Device.leaveGap (d : Device) (s t : Nat) : Device :=
  let d := (d.reach t).modStr s (fun c => { c with gap := .none, sInt := t, sFrac := 0 })
  let d := if d.strState s = 4 then d.setStrState s 3 else d
  if (d.strOf s).first then d.modStr s (fun c => { c with t0 := t, lastEnd := t }) else d

/-- The actions that lead the queue after a gap act at the same B (R105). -/
def Device.leadActs (d : Device) (s : Nat) : Device :=
  match (d.strOf s).queue with
  | .act _ _ :: _ =>
    let d := d.settleDue s (d.strOf s).sInt
    ((d.boundaryActs s).apgKeep d s).gapJump s
  | _ => d

/-- A gap ends (R85, R110, R111, R113): at its instant; after a flag, once the stream is primed, on the first multiple of 5 ns. A drain
has its results, and lets the micro-engine go on; SITEDROP then clears failed sites from both masks. -/
def Device.gapEnd (d : Device) (s : Nat) : Device :=
  let c := d.strOf s
  match c.gap with
  | .till t => (d.leaveGap s t).leadActs s
  | .primed t post =>
    if d.isPrimed s then
      let p := d.planned s
      (d.leaveGap s (if d.ttime ≤ p then p else post.foldl GapAdj.apply (roundUp (max t d.ttime) gridTicks))).leadActs s
    else d
  | .drain t => (((d.reach t).settleDue s t).leaveGap s t).engOn s
  | .drop t =>
    let d := (d.reach t).settleDue s t
    let m := d.reg64 (Reg.STR_SITE_LO s) (Reg.STR_SITE_HI s)
    let f := d.siteFail s
    let d := d.setReg64 (Reg.STR_SITE_LO s) (Reg.STR_SITE_HI s) (m - (m &&& f))
    ((d.leaveGap s t).engOn s).modStr s (fun c => { c with mask := c.mask - (c.mask &&& f) })
  | _ => d

end Sys2Proof.Machine
end

