-- ==== Sys2Proof/Machine/Ivm.lean ====
section
/-! DEFINITION. The interval meters (R196–R213): events and stamps, calibration, the four modes, results and the FIFO. -/

namespace Sys2Proof.Machine

/-- Meter `i`. -/
def Device.ivmOf (d : Device) (i : Nat) : IvmCtx := Tab.get (fun _ => IvmCtx.reset) d.ivm i
/-- Meter `i` changed by `f`. -/
def Device.modIvm (d : Device) (i : Nat) (f : IvmCtx → IvmCtx) : Device :=
  { d with ivm := Tab.set (fun _ => IvmCtx.reset) d.ivm i (f (d.ivmOf i)) }

/-- IVM_STATUS.STATE: 0 IDLE, 1 CAL, 2 ARMED, 3 MEAS, 4 LENT. -/
def Device.ivmState (d : Device) (i : Nat) : Nat := d.fld (Reg.IVM_STATUS i) 0 3
/-- IVM_STATUS.STATE set. -/
def Device.setIvmState (d : Device) (i v : Nat) : Device := d.setFld (Reg.IVM_STATUS i) 0 3 v

/-- IVM_CTRL.MODE: 0 INTERVAL, 1 STAMP, 2 TOTALIZE, 3 FREQ. -/
def Device.ivmMode (d : Device) (i : Nat) : Nat := d.fld (Reg.IVM_CTRL i) 0 2

/-- TTIME on the scale of the run of meter `i`, which counts on over a wrap (R310). -/
def Device.ivmNow (d : Device) (i : Nat) : Nat := (d.ivmOf i).base + d.ttime

/-- TTIME wraps: the runs of the meters go on. -/
def Device.ivmWrap (d : Device) : Device := { d with ivm := d.ivm.map (fun (e : Nat × IvmCtx) => (e.1, { e.2 with base := e.2.base + 2 ^ 64 })) }

/-- A meter that measures or is about to (R211). -/
def Device.ivmBusy (d : Device) (i : Nat) : Bool := d.ivmState i = 1 || d.ivmState i = 2 || d.ivmState i = 3

/-- A SRC value that names no source (R196). -/
def ivmSrcReserved (n : Nat) : Bool :=
  !(n < 0x204 || (0x210 ≤ n && n ≤ 0x2F3) || n = 0x2F8 || n = 0x2FC || n = 0x3FF)

/-- A source whose events are interpolated (R196). -/
def ivmInterpolated (n : Nat) : Bool := n < 0x204 || n = 0x2F8

/-! ## The FIFO (R208) -/

/-- The FIFO of meter `i` replaced, with IVM_STATUS.LEVEL. -/
def Device.setIvmFifo (d : Device) (i : Nat) (q : List (Nat × Nat)) : Device :=
  (d.modIvm i (fun c => { c with fifo := q })).setFld (Reg.IVM_STATUS i) 16 9 q.length

/-- A value enters the FIFO, or is discarded and counted. -/
def Device.ivmPush (d : Device) (i v flags : Nat) : Device :=
  let q := (d.ivmOf i).fifo
  if q.length < 256 then d.setIvmFifo i (q ++ [(v % 2 ^ 64, flags)])
  else (d.addSat (Reg.IVM_MISSED i) 16 16 1).event (Page.IVM i) 2

/-- The latest value and its flags. -/
def Device.setIvmRes (d : Device) (i v flags : Nat) : Device :=
  (d.setReg64 (Reg.IVM_RES_LO i) (Reg.IVM_RES_HI i) (v % 2 ^ 64)).setRegN (Reg.IVM_RES_FLAGS i) flags

/-! ## Arm and calibration (R201, R206, R210) -/

/-- A measurement begins with calibration. -/
def Device.ivmBegin (d : Device) (i seq : Nat) : Device :=
  (d.modIvm i (fun c => { IvmCtx.reset with fifo := c.fifo, seq := seq, a1 := c.a1, a2 := c.a2, b1 := c.b1, b2 := c.b2 })).setIvmState i 1

/-- IVM_CMD.ARM (R201, R210, R211, R212). -/
def Device.ivmArm (d : Device) (i : Nat) : Device :=
  match d.ivmState i with
  | 0 => if !d.bit Reg.CLK_STATUS 0 then d.fault (Page.IVM i) 0x03 else d.ivmBegin i 0
  | 4 => d.modIvm i (fun c => { c with armHeld := true })
  | _ => d.fault (Page.IVM i) 0x01

/-- The loan to the calibration engine ends, and a held ARM takes effect (R211). -/
def Device.ivmLoanEnd (d : Device) (i : Nat) : Device :=
  if d.ivmState i = 4 then
    let held := (d.ivmOf i).armHeld
    let d := (d.setIvmState i 0).modIvm i (fun c => { c with armHeld := false })
    if held then d.ivmArm i else d
  else d

/-- A measurement has ended: INTERVAL re-arms for its repeats, every other mode is done (R206). `stop` ends the repeats too. -/
def Device.ivmAgain (d : Device) (i : Nat) (stop : Bool) : Device :=
  let n := d.fld (Reg.IVM_REPEAT i) 0 16
  let seq := (d.ivmOf i).seq
  if d.ivmMode i = 0 ∧ !stop ∧ (n = 0xFFFF ∨ seq < n) then d.ivmBegin i (seq + 1) else d.setIvmState i 0

/-- DONE, and the INTERVAL_DONE record with EVT = 1 (R209). -/
def Device.ivmDone (d : Device) (i t flags res nst : Nat) : Device :=
  let d := (d.event (Page.IVM i) 0).hook (64 + i) flags
  if d.bit (Reg.IVM_CTRL i) 5 then
    d.recordAt (t % 2 ^ 64) 0x12 (severity 0x12) (0x00700000 + i) flags res (res / 2 ^ 32)
      (if d.ivmMode i = 1 ∨ d.ivmMode i = 3 then nst else 0)
  else d

/-- A measurement ends without a value: CALBAD or CLKLOST. The spec gives no value for IVM_RES then; it is free (log entry 2).
IVM_NSTAMP shows the `nst` stamps that the run had taken. -/
def Device.ivmInvalid (d : Device) (i flag nst : Nat) (stop : Bool) : Device :=
  let flags := 2 ^ flag + (if (d.ivmOf i).missed = 0 then 0 else 2 ^ 23) + (d.ivmOf i).seq % 2 ^ 16
  let x := d.draw
  let d := (x.2.setIvmRes i x.1 flags).setRegN (Reg.IVM_NSTAMP i) nst
  let d := if d.ivmMode i = 0 then d.ivmPush i x.1 flags else d
  (d.ivmDone i d.ttime flags (x.1 % 2 ^ 64) nst).ivmAgain i stop

/-- Calibration ends with the sums of 16 codes of both interpolators at both delays (R201). -/
def Device.ivmCalDone (d : Device) (i a1 a2 b1 b2 : Nat) : Device :=
  if d.ivmState i ≠ 1 then d
  else
    let ok (x y : Nat) : Bool := decide (x + 16 * 3277 ≤ y) && decide (y ≤ x + 16 * 4915)
    let code (x y : Nat) : Nat := (x + 8) / 16 + (y + 8) / 16 * 2 ^ 16
    let d := (d.setRegN (Reg.IVM_CALCODE_A i) (code a1 a2)).setRegN (Reg.IVM_CALCODE_B i) (code b1 b2)
    let d := d.modIvm i (fun c => { c with a1 := a1, a2 := a2, b1 := b1, b2 := b2 })
    if ok a1 a2 && ok b1 b2 then
      let d := (d.setBit (Reg.IVM_STATUS i) 3 true).setIvmState i (if d.ivmMode i = 3 then 2 else 3)
      d.modIvm i (fun c => { c with calEnd := d.ivmNow i, opened := if d.ivmMode i = 3 then none else some (d.ivmNow i) })
    else ((d.setBit (Reg.IVM_STATUS i) 3 false).event (Page.IVM i) 3).ivmInvalid i 27 0 false

/-! ## Events (R197–R200, R202, R203, R205) -/

/-- The first TCLK rising edge that follows the event by at least 1,280 ticks (R200); `past` says that it lies after its whole tick. -/
def IvmRaw.edge (r : IvmRaw) : Nat := roundUp (r.ball + 1280 + if r.past then 1 else 0) 1280

/-- The time of an event as its stamp orders it, before an interpolator rounds it (R197, R199). -/
def IvmRaw.near (r : IvmRaw) : Nat := r.ball + r.drv - r.rtd

/-- The interpolated stamp (R200): the TCLK edge's TTIME less Δ, from the code and the calibration sums, rounded to the
nearest tick, a half up. -/
def ivmStamp (edge code s1 s2 : Nat) : Nat :=
  let z : Int := (edge : Int) - 1280
  let n : Int := ((16 * code : Nat) : Int) - (s1 : Int)
  let m : Int := (s2 : Int) - (s1 : Int)
  ((2 * (z * m - n * 1280) + m) / (2 * m)).toNat

/-- Events in the order of their times at the ball. -/
def ivmInsert (e : IvmRaw) : List IvmRaw → List IvmRaw
  | [] => [e]
  | x :: xs => if e.ball < x.ball then e :: x :: xs else x :: ivmInsert e xs

/-- Accepted events in the order of their stamps (R199). -/
def ivmOrder (e : IvmEv) : List IvmEv → List IvmEv
  | [] => [e]
  | x :: xs => if e.t < x.t then e :: x :: xs else x :: ivmOrder e xs

/-- When the gate of meter `i` closes, once the run opened at `o` (R202). -/
def Device.ivmGateFrom (d : Device) (i : Nat) (o : Option Nat) : Option Nat :=
  if d.regN (Reg.IVM_GATE i) = 0 ∨ d.ivmMode i = 0 then none
  else o.map (fun t => t + d.regN (Reg.IVM_GATE i) * nsTicks)

/-- When the gate of meter `i` closes, once the run is open. -/
def Device.ivmGateEnd (d : Device) (i : Nat) : Option Nat := d.ivmGateFrom i (d.ivmOf i).opened

/-- DIVM1 + 1. -/
def Device.ivmDiv (d : Device) (i : Nat) : Nat := d.fld (Reg.IVM_DIV i) 0 16 + 1

/-- The start and the stop of an interval among accepted events (R203). -/
def ivmPair (after : Bool) (n : Nat) (es : List IvmEv) : Option (IvmEv × IvmEv) :=
  match es.find? (fun e => e.start && e.stamped) with
  | none => none
  | some a =>
    let stops := es.filter (fun e => e.stop && e.stamped)
    if after then
      ((stops.filter (fun e => decide (e ≠ a) && decide (a.t ≤ e.t + 24)))[n]?).map (fun e => (a, e))
    else stops.head?.map (fun e => (a, e))

/-- Events of FREQ with their regression index: every D-th start event from the first (R205). -/
def ivmIndexed (div : Nat) (es : List IvmEv) : List (Nat × IvmEv) :=
  let s := es.filter (fun e => e.start)
  ((List.range s.length).zip s).filterMap (fun x => if x.1 % div = 0 then some (x.1 / div, x.2) else none)

/-- Whether the event due at place `k` of its series is one to stamp: every D-th in STAMP and FREQ, every one in INTERVAL,
none in TOTALIZE. -/
def ivmWanted (mode div k : Nat) : Bool :=
  match mode with
  | 0 => true
  | 2 => false
  | _ => k % div = 0

/-- The value of IVM_COUNT in a mode: STAMP 0 is no limit, FREQ 0 is 65,536 (R205). -/
def Device.ivmLimit (d : Device) (i : Nat) : Option Nat :=
  let n := d.fld (Reg.IVM_COUNT i) 0 17
  match d.ivmMode i with
  | 1 => if n = 0 then none else some n
  | 3 => some (if n = 0 then 65536 else n)
  | _ => none

/-- The stamps of a run: in FREQ those of start events. -/
def ivmStamps (mode : Nat) (es : List IvmEv) : List IvmEv := es.filter (fun e => e.stamped && (mode ≠ 3 || e.start))

/-- The earlier of two ends; the first of two at one instant. -/
def ivmSooner (a b : Option (IvmEnd × Nat)) : Option (IvmEnd × Nat) :=
  match a, b with
  | some x, some y => some (if y.2 < x.2 then y else x)
  | none, y => y
  | x, none => x

/-- The stop event that ends a run of TOTALIZE or FREQ: the event that opened a FREQ run is none (R202, R205). -/
def ivmStopper (mode : Nat) (es : List IvmEv) : Option IvmEv :=
  match mode with
  | 2 => es.find? (fun e => e.stop)
  | 3 => match es.find? (fun e => e.start) with
         | some a => es.find? (fun e => e.stop && decide (e.n ≠ a.n) && decide (a.t ≤ e.t))
         | none => none
  | _ => none

/-- How and when the run of meter `i` ends, as far as the accepted events `es` and what has happened to it decide (R202, R203,
R205): the earliest of the ends. -/
def Device.ivmEndOf (d : Device) (i : Nat) (es : List IvmEv) : Option (IvmEnd × Nat) :=
  let mode := d.ivmMode i
  let stop : Option (IvmEnd × Nat) := match mode with
    | 0 => (ivmPair (d.bit (Reg.IVM_CTRL i) 3) (d.fld (Reg.IVM_CTRL i) 24 8) es).map (fun p => (.stop, max p.1.t p.2.t))
    | _ => (ivmStopper mode es).map (fun e => (.stop, e.t))
  let count : Option (IvmEnd × Nat) := match d.ivmLimit i with
    | some n => if n = 0 then none else ((ivmStamps mode es)[n - 1]?).map (fun e => (.count, e.t))
    | none => none
  ivmSooner (d.ivmOf i).ended (ivmSooner stop count)

/-- A run of meter `i` has opened by the time of the event `r`: every mode but FREQ opens at the end of calibration, FREQ at its first start
event, whichever of the two reaches its ball first (R199, R202). -/
def Device.ivmOpens (d : Device) (i : Nat) (v : IvmView) (r : IvmRaw) (t : Nat) : Bool :=
  match v.opened with
  | some o => decide (o ≤ t)
  | none => r.start || (match (d.ivmOf i).events.find? (fun e => e.start) with | some a => decide (a.near ≤ r.near) | none => false)

/-- The meter takes the next event of its run in the order at the ball (R198–R202): one within the hold-off of its series, before
the opening, at or past the gate's close, or after the run's end is ignored. An exact source is stamped at its own time; another
by the interpolator next in turn, when it is free, and counts as missed when it is not. -/
def Device.ivmTake (d : Device) (i : Nat) (v : IvmView) (r : IvmRaw) : IvmView :=
  let c := d.ivmOf i
  let mode := d.ivmMode i
  let asStart := r.start || decide (d.fld (Reg.IVM_START i) 0 10 = d.fld (Reg.IVM_STOP i) 0 10)
  let want := ivmWanted mode (d.ivmDiv i) (if asStart then v.starts else v.stops) || (mode = 3 && !r.start)
  let free := decide ((if v.useB then v.busyB else v.busyA) ≤ r.ball)
  let conv := want && !r.exact && free
  let z := if conv then (if v.useB then ivmStamp r.edge r.code c.b1 c.b2 else ivmStamp r.edge r.code c.a1 c.a2) else r.ball
  let t := z + r.drv - r.rtd
  let far := match (if asStart then v.lastStart else v.lastStop) with
    | some a => decide (a + d.fld (Reg.IVM_HOLDOFF i) 0 16 * 1280 ≤ t)
    | none => true
  let opens := d.ivmOpens i v r t
  let opened := match v.opened with | some o => some o | none => if r.start then some t else none
  let shut := match d.ivmGateFrom i opened with | some g => decide (g ≤ t) | none => false
  let past := match d.ivmEndOf i v.acc with
    | some (.stop, e) => if mode = 0 then decide (e < t) else decide (e ≤ t)
    | some (.count, e) => decide (e ≤ t)
    | some (.gate, e) => decide (e ≤ t)
    | some (_, e) => decide (e < t)
    | none => false
  if !far || !opens || shut || past then v
  else
    let stamped := want && (r.exact || free)
    { v with acc := if r.counts then ivmOrder ⟨r.n, t, r.start, r.stop, r.fall, stamped⟩ v.acc else v.acc
             useB := if conv then !v.useB else v.useB
             busyA := if conv && !v.useB then r.ball + 4 * nsTicks else v.busyA
             busyB := if conv && v.useB then r.ball + 4 * nsTicks else v.busyB
             lastStart := if asStart then some t else v.lastStart
             lastStop := if asStart then v.lastStop else some t
             starts := if asStart then v.starts + 1 else v.starts
             stops := if asStart then v.stops else v.stops + 1
             opened := opened
             missed := if want && !stamped then v.missed + 1 else v.missed }

/-- What meter `i` has made of the events of its run. -/
def Device.ivmView (d : Device) (i : Nat) : IvmView :=
  let c := d.ivmOf i
  c.events.foldl (fun v r => d.ivmTake i v r)
    ⟨[], false, 0, 0, none, none, 0, 0, if d.ivmMode i = 3 then none else some c.calEnd, 0⟩

/-- The accepted events of meter `i` within its run, in stamp order. -/
def Device.ivmAccepted (d : Device) (i : Nat) : List IvmEv :=
  let acc := (d.ivmView i).acc
  match d.ivmEndOf i acc with
  | some (why, t) => acc.filter (fun e => decide (e.t < t) || (decide (e.t = t) && (match why with
      | .gate => false
      | .stop => d.ivmMode i = 0
      | _ => true)))
  | none => acc

/-- The interval of meter `i`, when both its events are there. -/
def Device.ivmInterval (d : Device) (i : Nat) : Option (IvmEv × IvmEv) :=
  ivmPair (d.bit (Reg.IVM_CTRL i) 3) (d.fld (Reg.IVM_CTRL i) 24 8) (d.ivmView i).acc

/-- The number of stamps taken in the run of meter `i`. -/
def Device.ivmTaken (d : Device) (i : Nat) : Nat := (ivmStamps (d.ivmMode i) (d.ivmAccepted i)).length

/-- The meter shows what it has made of its events: MEAS once the run is open, and the events that were not stamped (R202). -/
def Device.ivmSync (d : Device) (i : Nat) : Device :=
  let v := d.ivmView i
  let more := v.missed - (d.ivmOf i).missed
  let d := if v.opened.isSome ∧ d.ivmState i = 2 then d.setIvmState i 3 else d
  let d := if more = 0 then d else d.addSat (Reg.IVM_MISSED i) 0 16 more
  d.modIvm i (fun c => { c with opened := v.opened, missed := max c.missed v.missed })

/-- The stamps of a STAMP run enter the FIFO in the order of their stamps, up to those at `t` (R199, R208). -/
def Device.ivmSend (d : Device) (i t : Nat) : Device :=
  if d.ivmMode i ≠ 1 then d
  else
    let sent := (d.ivmOf i).sent
    ((d.ivmAccepted i).filter (fun e => e.stamped && decide (e.t ≤ t) && !sent.contains e.n)).foldl (fun d e =>
      let c := d.ivmOf i
      let flags := 2 ^ 31 + (if c.missed = 0 then 0 else 2 ^ 23) + (if e.stop && !e.start then 2 ^ 22 else 0) +
        (if e.fall then 2 ^ 21 else 0) + c.sent.length % 2 ^ 16
      ((d.ivmPush i e.t flags).setIvmRes i e.t flags).modIvm i (fun c => { c with sent := c.sent ++ [e.n] })) d

/-- The longest a stamp of meter `i` waits for an earlier one: 200 ns and the largest CHN_RTD it selects (R199). -/
def Device.ivmWindow (d : Device) (i : Nat) : Nat :=
  let rtd (a : Nat) : Nat := let n := d.fld a 0 10; if n < 0x200 then d.rtd (n % 256) else 0
  200 * nsTicks + max (rtd (Reg.IVM_START i)) (rtd (Reg.IVM_STOP i))

/-- The stamps that nothing earlier can precede any more enter the FIFO. -/
def Device.ivmSendDue (d : Device) (i : Nat) : Device :=
  if d.ivmMode i = 1 ∧ d.ivmState i = 3 ∧ d.ivmWindow i ≤ d.ivmNow i then d.ivmSend i (d.ivmNow i - d.ivmWindow i) else d

/-- An event reaches meter `i` (R196–R203): at the ball at `ball`, or after that tick with `past`; `code` is what an interpolator yields for it. Events
of other sources and edges, before the end of calibration, or outside a run are ignored. In TOTALIZE an edge that lies within
400 ps of the previous edge of its input counts or does not: the spec does not say (log entry 2). -/
def Device.ivmEvent (d : Device) (i src : Nat) (rise : Bool) (ball : Nat) (past : Bool) (code : Nat) : Device :=
  let st := d.ivmState i
  let ball := (d.ivmOf i).base + ball
  let selects (a : Nat) : Bool := decide (d.fld a 0 10 = src)
  if !(st = 2 || st = 3) || !(selects (Reg.IVM_START i) || selects (Reg.IVM_STOP i)) || decide (ball < (d.ivmOf i).calEnd) then d
  else
    let c := d.ivmOf i
    let near := ivmInterpolated src && (match c.lastEdge with | some p => decide (ball < p + 1639) | none => false)
    let d := d.modIvm i (fun c => { c with lastEdge := if selects (Reg.IVM_START i) then some ball else c.lastEdge })
    let sel (a : Nat) : Bool := selects a &&
      (decide (0x290 ≤ src) || (match d.fld a 14 2 with | 0 => rise | 1 => !rise | _ => true))
    let start := sel (Reg.IVM_START i)
    let stop := sel (Reg.IVM_STOP i)
    if !(start || stop) then d
    else
      let x : Bool × Device := if d.ivmMode i = 2 && start && near then (let y := d.draw; (decide (y.1 % 2 = 0), y.2)) else (true, d)
      let d := x.2
      let corr := d.bit (Reg.IVM_CTRL i) 4 && decide (src < 0x200)
      let r : IvmRaw := ⟨c.events.length, ball, past, code, !ivmInterpolated src, if corr then d.drvDly (src % 256) else 0,
        if corr then d.rtd (src % 256) else 0, start, stop, !rise, x.1⟩
      (d.modIvm i (fun c => { c with events := ivmInsert r c.events })).ivmSync i

/-- A comparator, TRIGIN or SYNC edge arrives at the balls (R196, R197); the events of the engines, the strobes and software come
from where they happen. -/
def Device.ivmEdge (d : Device) (i src : Nat) (rise : Bool) (ball : Nat) (past : Bool) (code : Nat) : Device :=
  if ivmInterpolated src then (d.reach ball).ivmEvent i src rise ball past code else d

/-- An event of an exact source at `t` reaches every meter that selects it. -/
def Device.ivmExact (d : Device) (src t : Nat) (fall : Bool) : Device := d.forN 32 (fun d i => d.ivmEvent i src (!fall) t false 0)

/-- The events of the engines reach the meters. -/
def Device.ivmDeliver (d : Device) : Device := d.ivmq.foldl (fun d e => d.ivmExact e.1 e.2.1 e.2.2) { d with ivmq := [] }

/-- The stamps that are final enter the FIFOs. -/
def Device.ivmSendAll (d : Device) : Device := if d.ivm = [] then d else d.forN 32 (fun d i => d.ivmSendDue i)

/-- IVM_CMD.SWEVT: an event of source 0x2FC at the first TCLK edge after the write (R196). -/
def Device.ivmSwEvt (d : Device) (i : Nat) : Device := d.ivmEvent i 0x2FC true ((d.ttime / 1280 + 1) * 1280) false 0

/-- A run ends for a reason that its events do not decide (R202), once. -/
def Device.ivmEnd (d : Device) (i : Nat) (why : IvmEnd) (t : Nat) : Device :=
  d.modIvm i (fun c => { c with ended := some (c.ended.getD (why, t)) })

/-- TCLK has lost lock: a measurement in progress ends, and its run with it (R210). -/
def Device.ivmClockLost (d : Device) : Device :=
  d.forN 32 (fun d i => if d.ivmBusy i then
      (d.ivmSend i (d.ivmNow i)).ivmInvalid i 26 (if d.ivmMode i = 1 ∨ d.ivmMode i = 3 then d.ivmTaken i else 0) true
    else d)

/-- The gate of meter `i` closes (R202). -/
def Device.ivmGateClose (d : Device) (i : Nat) : Device :=
  match d.ivmGateEnd i with
  | some g => if d.ivmState i = 3 && (d.ivmOf i).ended.isNone then (d.reach (g - (d.ivmOf i).base)).ivmEnd i .gate g else d
  | none => d

/-- The limit of meter `i` expires (R206). -/
def Device.ivmTimeout (d : Device) (i : Nat) : Device :=
  let us := d.fld (Reg.IVM_TIMEOUT i) 0 24
  let st := d.ivmState i
  if us ≠ 0 && (st = 2 || st = 3) && (d.ivmEndOf i (d.ivmView i).acc).isNone then
    let t := (d.ivmOf i).calEnd + us * usTicks
    ((d.reach (t - (d.ivmOf i).base)).event (Page.IVM i) 1).ivmEnd i .timeout t
  else d

/-- IVM_CMD.DISARM (R212): an interval is abandoned; a run ends with the events so far. -/
def Device.ivmDisarm (d : Device) (i : Nat) : Device :=
  match d.ivmState i with
  | 0 => d
  | 4 => d.modIvm i (fun c => { c with armHeld := false })
  | 1 => d.setIvmState i 0
  | _ => if d.ivmMode i = 0 then d.setIvmState i 0 else d.ivmEnd i .disarm (((d.ivmAccepted i).getLast?.map (fun e => max e.t (d.ivmNow i))).getD (d.ivmNow i))

/-! ## Results (R203–R209) -/

/-- The reported value and flags of an interval of `z` ticks (R204). -/
def ivmReport (z : Int) (sgn : Bool) : Nat × Nat :=
  let near := if -24 ≤ z ∧ z ≤ 24 then 2 ^ 30 else 0
  let order := if z < -24 then 2 ^ 29 else 0
  (if 0 ≤ z ∨ sgn then unsigned 64 z else 0, near + order)

/-- The least-squares slope of stamps `t` over indices `m` as a fraction (R205). -/
def ivmSlope (ps : List (Nat × Nat)) : Int × Int :=
  let n : Int := (ps.length : Nat)
  let sm : Int := ((ps.map (fun p => p.1)).foldl (· + ·) 0 : Nat)
  let st : Int := ((ps.map (fun p => p.2)).foldl (· + ·) 0 : Nat)
  let smt : Int := ((ps.map (fun p => p.1 * p.2)).foldl (· + ·) 0 : Nat)
  let smm : Int := ((ps.map (fun p => p.1 * p.1)).foldl (· + ·) 0 : Nat)
  (n * smt - sm * st, n * smm - sm * sm)

/-- A fraction of positive numbers rounded to the nearest whole number. -/
def roundDiv (a b : Nat) : Nat := (2 * a + b) / (2 * b)

/-- PERIOD in 2^-16 tick and FREQ in mHz of a slope per D events (R205); nothing when the slope is not positive. -/
def ivmFreq (num den : Int) (div : Nat) : Option (Nat × Nat) :=
  if 0 < num ∧ 0 < den then
    some (roundDiv (num.toNat * 65536) (den.toNat * div), roundDiv (4096 * 10 ^ 12 * div * den.toNat) num.toNat)
  else none

/-- A result of meter `i` is reported: IVM_RES, the FIFO in INTERVAL mode, DONE, and what follows. -/
def Device.ivmReportResult (d : Device) (i t v flags nst : Nat) : Device :=
  let flags := flags + (if (d.ivmOf i).missed = 0 then 0 else 2 ^ 23)
  let d := (d.setIvmRes i v flags).setRegN (Reg.IVM_NSTAMP i) nst
  let d := if d.ivmMode i = 0 then d.ivmPush i v flags else d
  (d.ivmDone i t flags (v % 2 ^ 64) nst).ivmAgain i false

/-- The FREQ result over the stamped events of a run (R205). -/
def Device.ivmFreqResult (d : Device) (i : Nat) (ps : List (Nat × IvmEv)) (t flags : Nat) : Device :=
  let n := ps.length
  if n < 3 then
    (d.setReg64 (Reg.IVM_FREQ_LO i) (Reg.IVM_FREQ_HI i) 0).ivmReportResult i t 0 (flags + 2 ^ 24) n
  else
    let s := ivmSlope (ps.map (fun p => (p.1, p.2.t)))
    match ivmFreq s.1 s.2 (d.ivmDiv i) with
    | some (p, f) => (d.setReg64 (Reg.IVM_FREQ_LO i) (Reg.IVM_FREQ_HI i) f).ivmReportResult i t p flags n
    | none =>
      let x := d.draw
      let y := x.2.draw
      (y.2.setReg64 (Reg.IVM_FREQ_LO i) (Reg.IVM_FREQ_HI i) y.1).ivmReportResult i t x.1 flags n

/-- The result of an INTERVAL (R203, R204, R206): the stop is taken, or the limit has expired. -/
def Device.ivmFinalInterval (d : Device) (i t : Nat) (why : IvmEnd) : Device :=
  let seq := (d.ivmOf i).seq % 2 ^ 16
  match (if why = .timeout then none else d.ivmInterval i) with
  | some (a, b) =>
    let r := ivmReport ((b.t : Int) - (a.t : Int)) (d.bit (Reg.IVM_CTRL i) 2)
    d.ivmReportResult i t r.1 (2 ^ 31 + r.2 + seq) (d.ivmTaken i)
  | none => d.ivmReportResult i t 0 (2 ^ 28 + seq) (d.ivmTaken i)

/-- The result of a STAMP run: every stamp is in the FIFO, and the last is the value (R202). A run without a stamp leaves
IVM_RES as it was. -/
def Device.ivmFinalStamp (d : Device) (i t base : Nat) : Device :=
  let n := d.ivmTaken i
  let d := d.ivmSend i t
  d.ivmReportResult i t (((ivmStamps 1 (d.ivmAccepted i)).getLast?.map (fun e => e.t)).getD
    (d.reg64 (Reg.IVM_RES_LO i) (Reg.IVM_RES_HI i))) (base + (n - 1) % 2 ^ 16) n

/-- The result of a run that has ended becomes final (R199, R206, R209). In a STAMP run that goes on, its stamps so far do. -/
def Device.ivmFinal (d : Device) (i : Nat) : Device :=
  let seq := (d.ivmOf i).seq % 2 ^ 16
  if !(d.ivmState i = 2 || d.ivmState i = 3) then d
  else match d.ivmEndOf i (d.ivmView i).acc with
    | none => d.ivmSend i (d.ivmNow i)
    | some (why, t) =>
      let base := 2 ^ 31 + (if why = .timeout then 2 ^ 28 else 0)
      match d.ivmMode i with
      | 0 => d.ivmFinalInterval i t why
      | 1 => d.ivmFinalStamp i t base
      | 2 => d.ivmReportResult i t ((d.ivmAccepted i).filter (fun e => e.start)).length (base + seq) 0
      | _ => d.ivmFreqResult i ((ivmIndexed (d.ivmDiv i) (d.ivmAccepted i)).filter (fun p => p.2.stamped)) t
          (base + (if why = .count then 2 ^ 25 else 0) + seq)

/-- A read of IVM_FIFO_LO by requester `q`: the head leaves, and its other parts are latched for the requester (R208). -/
def Device.ivmFifoRead (d : Device) (q i : Nat) : Device × Word :=
  let e := ((d.ivmOf i).fifo.head?).getD (0, 0)
  let d := d.setIvmFifo i (d.ivmOf i).fifo.tail
  ({ d with rlatch := Tab.put d.rlatch q (some (Reg.IVM_FIFO_HI i, BitVec.ofNat 32 (e.1 / 2 ^ 32))),
            taglatch := Tab.set (fun _ => 0) d.taglatch q (BitVec.ofNat 32 e.2) }, BitVec.ofNat 32 e.1)

end Sys2Proof.Machine
end

