-- ==== Sys2Proof/Machine/Cal.lean ====
section
/-! DEFINITION. Calibration runs (R240–R253): their commands, gathering, computation with its plausibility checks, aborts and
discards, the table scrubber and the MRAM records. -/

namespace Sys2Proof.Machine

/-! ## Ends of a run -/

/-- The meters lent to the engine come back (R211). -/
def Device.calReturn (d : Device) : Device :=
  d.forN 32 (fun d i => if d.fld (Reg.IVM_STATUS i) 0 3 = 4 then d.ivmLoanEnd i else d)

/-- Every channel has valid values in the active set. -/
def Device.calAllValid (d : Device) : Bool := (List.range 256).all (fun n => (chanTab d.calTabs n).isSome)

/-- A FULL run of bring-up or wake that was rejected, or that leaves a channel without valid values, is a calibration table
fault (R252). -/
def Device.calRequiredEnd (d : Device) (rejected : Bool) : Device :=
  let bad := d.cal.required && d.calKind = 1 && (rejected || !d.calAllValid)
  let d := d.modCal (fun c => { c with required := false, atOnce := false })
  if bad then d.safeCause 10 else d

/-- A run or staged set ends with an outcome that leaves the active values (R245, R250). -/
def Device.calEnd (d : Device) (outcome : Nat) : Device :=
  let d := (d.calReturn.calFail outcome 0).calRequiredEnd (outcome = 1)
  d.calIdle

/-! ## Commands (R244, R248, R250) -/

/-- The channels of CAL_CHSELi. -/
def Device.calSel (d : Device) : Nat :=
  (List.range 8).foldl (fun a i => a + d.regN (Reg.CAL_CHSEL i) * 2 ^ (32 * i)) 0

/-- A write of CAL_CMD: one command bit, accepted in the states its rule names. -/
def Device.calCmd (d : Device) (v : Nat) : Device :=
  let c := v % 128
  if c = 0 then d
  else if popCount c 7 > 1 ∨ c = 2 then d.fault Page.CAL 0x02
  else
    let st := d.calState
    let no := d.fault Page.CAL 0x01
    match c with
    | 1 => if st = 0 then d.calBegin 1 d.calSel false false else no
    | 4 => if st = 0 then d.calBegin 2 d.calSel false false else no
    | 8 => if st = 0 then d.calBegin 3 d.calSel false false else no
    | 16 => if st = 4 then d.setCalState 5 else no
    | 32 => if st = 1 ∨ st = 2 ∨ st = 3 ∨ st = 6 then d.calEnd 0x05 else no
    | _ => if st = 4 ∨ st = 5 then d.calEnd 0x05 else no

/-- CAL_PERIOD.SEC seconds have passed since the last commit (R244). -/
def Device.calPeriod (d : Device) : Device :=
  if d.bit Reg.CAL_CTRL 1 && !d.cal.perDone && d.regN Reg.CAL_COMMITS ≠ 0 then
    let sec := max 10 (d.fld Reg.CAL_PERIOD 0 16)
    let d := d.reach (d.reg64 Reg.CAL_TIME_LO Reg.CAL_TIME_HI + sec * 1000000 * usTicks)
    (d.modCal (fun c => { c with perDone := true })).calTrigger false
  else d

/-- A run of bring-up or of a wake that ended for want of a meter starts again: the device is not READY before it has been made (R25, R252).
DESIGN CHOICE: the spec does not say what follows the run's end (log entry 114). -/
def Device.calAgain (d : Device) : Device :=
  let k := d.calKind
  (d.calReturn.calFail 0x02 0).calBegin k d.cal.sel d.cal.atOnce true

/-- No meter could be borrowed for 10 ms (R245). -/
def Device.calNoMeter (d : Device) : Device :=
  let lent := (List.range 32).any (fun i => decide (d.fld (Reg.IVM_STATUS i) 0 3 = 4))
  if d.calState = 1 ∨ (d.calState = 2 && !lent) then (if d.cal.required then d.calAgain else d.calEnd 0x02) else d

/-! ## Results -/

/-- The channels of a run with the check each failed, 0 for none: counts, kept channels and the lowest failing one (R243,
R256). `done` tells the channels that count as gathered or verified. -/
def Device.calCount (d : Device) (res : List (Nat × Nat)) (done : Nat → Bool) : Device :=
  let fails := res.filter (fun r => r.2 ≠ 0)
  let kept := bitsOf 256 (fun n => fails.any (fun r => r.1 = n))
  let d := d.forN 8 (fun d i => d.setRegN (Reg.CAL_KEPT i) (kept / 2 ^ (32 * i)))
  let d := d.setRegN Reg.CAL_COUNT (popCount d.cal.tracked 256 * 2 ^ 18 + fails.length * 2 ^ 9 +
    res.countP (fun r => decide (r.2 = 0) && done r.1))
  match fails.head? with
  | some f => d.setRegN Reg.CAL_FAILCH (2 ^ 31 + f.2 * 2 ^ 8 + f.1)
  | none => d.setRegN Reg.CAL_FAILCH 0

/-- Whether two offsets differ by more than a limit. -/
def offBy (x y : Int) (lim : Nat) : Bool := decide ((lim : Int) < (x - y).natAbs)

/-- Tj at gathering, in 0.25 °C. -/
def Device.tjGather (d : Device) : Int := signed 16 (d.fld Reg.CAL_TJ 16 16)

/-- Check 0x04 (R242). -/
def Device.spreadBad (d : Device) (spread : Nat) : Bool := decide (d.cal.plaus.get 16 8 < spread)

/-- Tracking is refused: the channel has no full calibration, or its last one was gathered more than 40 °C away (R241). -/
def Device.trackRefused (d : Device) (old : Option ChanTab) : Bool :=
  match old with
  | some t => offBy d.tjGather t.tj 160
  | none => true

/-- What a VERIFY finds of a channel: the path offsets and the spread (R238, R241). Of a gathered channel they are the measured delays with
the offsets of its drivers and receivers, of a tracked one the offsets of its last full calibration with the change of its pier's slice since. -/
def Device.verifyOf (d : Device) (v : VerifyMeas) (n : Nat) (old : Option ChanTab) : Option (Int × Int × Nat) :=
  if natBit d.cal.gathered n then
    (v.chans.find? (fun o => o.chan.toNat = n)).map (fun o => (o.a + Config.fixedOfs n false, o.b + Config.fixedOfs n true, o.spread))
  else match old with
    | none => some (0, 0, 0)
    | some t =>
      (v.slices.find? (fun o => o.pier.toNat = n / 16)).map (fun o =>
        (t.baseA.offset + (o.a - t.refA.offset), t.baseB.offset + (o.b - t.refB.offset), o.spread))

/-- The check that a channel of a VERIFY fails, 0 for none (R241, R242). -/
def Device.checkVerify (d : Device) (n : Nat) (old : Option ChanTab) (x : Int × Int × Nat) : Nat :=
  let vtol := d.cal.plaus.get 24 8
  if !natBit d.cal.gathered n && d.trackRefused old then 0x06
  else match old with
    | some t =>
      if d.spreadBad x.2.2 then 0x04 else if offBy x.1 t.a.offset vtol || offBy x.2.1 t.b.offset vtol then 0x07 else 0
    | none => 0x07

/-- Gathering of a run completes (R245): a VERIFY compares the offsets of every channel; the other kinds compute. -/
def Device.calGatherDone (d : Device) (offs : VerifyMeas) : Device :=
  let mine := (List.range 256).filter (fun n => natBit d.cal.sel n)
  if d.calState ≠ 2 then d
  else if d.calKind ≠ 2 then d.calReturn.setCalState 3
  else
    let res := mine.filterMap (fun n =>
      let old := chanTab d.calTabs n
      (d.verifyOf offs n old).map (fun x => (n, d.checkVerify n old x)))
    let g := d.cal.gathered
    if res.length ≠ mine.length then d
    else
      let d := d.calReturn.calCount res (fun n => natBit g n)
      let mismatch := res.any (fun r => decide (r.2 = 0x07))
      let d := if mismatch then d.calFail 0x07 0
        else if res.any (fun r => decide (r.2 ≠ 0)) then d.calFail 0x08 0
        else (d.setRegN Reg.CAL_RESULT 0).event Page.CAL 0
      if mismatch && d.cal.required then d.calBegin 1 allChans true true
      else (d.modCal (fun c => { c with required := false })).calIdle

/-- Elements of a fine path that measure from 20 to 44 ticks (R242). -/
def goodElems (m : PathMeas) : Nat := m.elems.countP (fun e => decide (20 ≤ e ∧ e ≤ 44))

/-- How far the delay of element `i` lies from 32 ticks. -/
def elemAway (m : PathMeas) (i : Nat) : Nat := ((m.elems.getD i 0 : Int) - 32).natAbs

/-- The 40 elements selected, one bit each: those whose delays lie closest to 32 ticks (R240).
DESIGN CHOICE: of equally close ones those of the lower numbers (log entry 115). -/
def elemSelect (m : PathMeas) : Nat :=
  bitsOf 48 (fun i => decide
    ((List.range 48).countP (fun j => decide (elemAway m j < elemAway m i) || (decide (elemAway m j = elemAway m i) && decide (j < i))) < 40))

/-- The span of the selected elements in ticks (R240, R242). -/
def spanTicks (m : PathMeas) : Nat :=
  let sel := elemSelect m
  (List.range 48).foldl (fun a i => if natBit sel i then a + m.elems.getD i 0 else a) 0

/-- The table of a measured fine path, with the fixed offset of its drivers and receivers (R238, R240). -/
def measTab (m : PathMeas) (fixed : Int) : PathTab := ⟨m.loop + fixed, elemSelect m, m.interp⟩

/-- The table of a tracked path: that of its last full calibration with the change of the slice's path since (R241). -/
def trackTab (base ref now : PathTab) : PathTab :=
  { base with
    offset := base.offset + (now.offset - ref.offset)
    interp := base.interp.zipIdx.map (fun (e : Int × Nat) => e.1 + (now.interp.getD e.2 0 - ref.interp.getD e.2 0)) }

/-- The first check of R242 that one fine path with its new table fails, 0 for none. -/
def Device.checkPath (d : Device) (m : PathMeas) (new : PathTab) (old : Option PathTab) : Nat :=
  if goodElems m < 40 then 0x01
  else if spanTicks m < 1264 ∨ 1296 < spanTicks m then 0x02
  else if (match old with | some o => offBy new.offset o.offset (d.cal.plaus.get 0 16) | none => false) then 0x03
  else if d.spreadBad m.spread then 0x04
  else 0

/-- The earlier of two check codes, 0 standing for none. -/
def firstCheck (x y : Nat) : Nat := if x = 0 then y else if y = 0 then x else min x y

/-- Whether a window address lies among the edge words of channel `n` (R68). -/
def inEdges (n a : Nat) : Bool := decide (0x200000 + 0x2000 * n ≤ a ∧ a < 0x200000 + 0x2000 * (n + 1))

/-- What the TRIMs of channel `n` are computed from, with the tables given (R240). -/
def Device.trimFrom (d : Device) (n : Nat) (t : ChanTab) : ChanTrim :=
  { interpA := t.a.interp, interpB := t.b.interp, dly := d.drvDly n, rtd := d.rtd n, den := d.denOfs n,
    words := Tab.drop (fun a => !inEdges n a) d.regs }

/-- A TRIM lies outside −8 to +7 half-ticks. -/
def trimOut (h : Int) : Bool := decide (h < -8 ∨ 7 < h)

/-- Check 0x05 of a channel: the TRIM of one of its edge words is out of range (R242). Words not listed hold 0. -/
def ChanTrim.bad (c : ChanTrim) : Bool :=
  let zero (cmp : Bool) : Bool := decide (c.words.countP (fun e => decide (4 ≤ e.1 % 32 / 4) == cmp) < 1024)
  c.words.any (fun e => trimOut (c.half (e.1 % 32 / 4) e.2)) || (zero false && trimOut (c.half 0 0)) || (zero true && trimOut (c.half 4 0))

/-- An uncorrectable error in a pair of words in which the engine would write TRIMs of channel `n` (R71, R253). -/
def Device.edgesUE (d : Device) (n : Nat) : Bool := d.poison.any (fun e => e.2 && inEdges n (8 * e.1))

/-- What a run gives one of its channels: a failed check (0 for none) and the tables that it would hold (R240–R243). -/
def Device.calResult (d : Device) (meas : List ChanMeas) (slices : List SliceMeas) (n : Nat) : Option (Nat × Option ChanTab) :=
  let old := chanTab d.calTabs n
  let slice := slices.find? (fun o => o.pier.toNat = n / 16)
  let trim (t : ChanTab) : Nat := if (d.trimFrom n t).bad then 0x05 else 0
  if d.calKind = 3 then some ((old.map trim).getD 0, old)
  else if natBit d.cal.gathered n then
    (meas.find? (fun m => m.chan.toNat = n)).bind (fun m => slice.map (fun o =>
      let a := measTab m.a (Config.fixedOfs n false)
      let b := measTab m.b (Config.fixedOfs n true)
      let t : ChanTab := ⟨a, b, a, b, measTab o.a 0, measTab o.b 0, d.tjGather⟩
      (firstCheck (firstCheck (d.checkPath m.a a (old.map (·.a))) (d.checkPath m.b b (old.map (·.b)))) (trim t), some t)))
  else
    slice.map (fun o =>
      match old with
      | some t =>
        let a := trackTab t.baseA t.refA (measTab o.a 0)
        let b := trackTab t.baseB t.refB (measTab o.b 0)
        let lim := d.cal.plaus.get 0 16
        let far := if offBy a.offset t.a.offset lim || offBy b.offset t.b.offset lim then 0x03
          else if d.spreadBad (max o.a.spread o.b.spread) then 0x04 else 0
        let t' : ChanTab := { t with a := a, b := b }
        (if d.trackRefused old then 0x06 else firstCheck far (trim t'), some t')
      | none => (0x06, none))

/-- The tables of the channels given put into a set, and their TRIMs into a bank. -/
def Device.bankWith (d : Device) (t : TrimBank) (res : List (Nat × Option ChanTab)) : TrimBank :=
  res.foldl (fun t r => Tab.set (fun _ => none) t r.1 (r.2.map (d.trimFrom r.1))) t

/-- The staged set (R243, R247): a copy of the active tables and TRIMs in which the channels that passed have new values. -/
def Device.calStage (d : Device) (good : List (Nat × Option ChanTab)) : Device :=
  let t := good.foldl (fun t r => Tab.set (fun _ => none) t r.1 r.2) d.calTabs
  (d.setStaged t).setStagedTrims (d.bankWith d.trims good)

/-- At bring-up the TRIMs computed from the loaded record go into the active bank, unless a pair of edge words cannot be written (R71), and a
VERIFY of all channels follows (R252). -/
def Device.calBootTrims (d : Device) : Device :=
  let l := (List.range 256).map (fun n => (n, chanTab d.calTabs n))
  let l := l.filter (fun r => (r.2.map (fun t => !(d.trimFrom r.1 t).bad)).getD false)
  let t := d.bankWith d.trims l
  let d := if l.any (fun r => d.edgesUE r.1) then d.calFail 0x03 0 else if d.calBank then { d with trimB := t } else { d with trimA := t }
  d.calBegin 2 allChans false true

/-- Computation ends (R242–R245, R248): checks, counts, and the results are staged or the run is rejected. A pair of edge words that cannot
be written ends the run (R71, R253); `eccTs` lists the pairs, by channel and place, in which the reads find an error. -/
def Device.calComputeDone (d : Device) (meas : List ChanMeas) (slices : List SliceMeas) (eccTs : List (Nat × Nat × Ecc)) : Device :=
  let mine := (List.range 256).filter (fun n => natBit d.cal.sel n)
  let res := mine.filterMap (fun n => (d.calResult meas slices n).map (fun r => (n, r)))
  let good := (res.filter (fun r => decide (r.2.1 = 0))).map (fun r => (r.1, r.2.2))
  if d.calState ≠ 3 ∨ res.length ≠ mine.length then d
  else
    let d := eccTs.foldl (fun d e => if natBit d.cal.sel e.1 then d.tsEcc (0x200000 + 0x2000 * e.1 + 8 * e.2.1) e.2.2 else d) d
    if d.cal.required ∧ d.calKind = 3 then d.calBootTrims else
    let g := d.cal.gathered
    let d := d.calCount (res.map (fun r => (r.1, r.2.1))) (fun n => natBit g n || decide (d.calKind = 3))
    let fails := res.countP (fun r => decide (r.2.1 ≠ 0))
    if d.cal.ctrl.get 16 8 < fails then d.calEnd 0x01
    else if good.any (fun r => d.edgesUE r.1) then d.calEnd 0x03
    else
      let d := (d.calStage good).event Page.CAL 0
      let d := if fails = 0 then d.setRegN Reg.CAL_RESULT 0 else d.calFail 0x08 0
      if d.cal.atOnce then
        let req := d.cal.required
        let d := d.calCommit
        if req && !d.calAllValid then d.safeCause 10 else d
      else d.setCalState (if d.cal.ctrl.bit 3 then 5 else 4)

/-! ## Frequency changes, discards (R246, R250) -/

/-- A frequency change that concerns the channels of `mask`; `p2` names it (R246, R254). -/
def Device.calFreq (d : Device) (p2 mask : Nat) : Device :=
  if 0x100 ≤ p2 ∧ (d.cal.gathered ||| d.cal.tracked) &&& mask = 0 then d
  else if d.calState = 2 then
    let d := (d.calReturn.calFail 0x20 p2).event Page.CAL 3
    (d.modCal (fun c => { c with settle := d.ttime })).setCalState 6
  else if d.calState = 6 then d.modCal (fun c => { c with settle := d.ttime })
  else d

/-- A period pair or STR_CTRL.MODE of stream `s` is stored (R246). -/
def Device.calFreqStr (d : Device) (s : Nat) : Device :=
  d.calFreq (0x100 + s) ((d.chans s).foldl (fun a n => a ||| 2 ^ n) 0)

/-- 100 µs after the change has settled the same run restarts (R246). -/
def Device.calRestart (d : Device) : Device :=
  if d.calState = 6 ∧ d.fld Reg.CLK_STATUS 0 3 = 7 then (d.reach (d.cal.settle + 100 * usTicks)).calGather else d

/-- Entry to DOZE or RETAIN discards staged values and aborts a run (R250). -/
def Device.calDoze (d : Device) : Device := if d.calState = 0 then d else d.calEnd 0x06

/-- CAL_TEMP.DELTA in 0.25 °C; values below 4 act as 4 (R256). -/
def Device.calDelta (d : Device) : Nat := max 4 (d.fld Reg.CAL_TEMP 0 8)

/-- The Tj at which the values staged or waiting were gathered: a TRIMS run takes those of the active tables (R250, R256). -/
def Device.tjStaged (d : Device) : Int := if d.calKind = 3 then signed 16 (d.fld Reg.CAL_TJ 0 16) else d.tjGather

/-- A die temperature has been read (R244, R250): staged values grow stale, and the temperature trigger fires. -/
def Device.calTemp (d : Device) : Device :=
  let t := signed 16 d.tj
  let stale := (d.calState = 4 || d.calState = 5) && decide ((d.calDelta : Int) ≤ (t - d.tjStaged).natAbs)
  let d :=
    if stale then
      (d.modCal (fun c => { c with trigTemp := true, tempOver := true })).calEnd 0x04
    else d
  let isOver := decide ((d.calDelta : Int) ≤ (t - signed 16 (d.fld Reg.CAL_TJ 0 16)).natAbs)
  let on := d.bit Reg.CAL_CTRL 2
  let fire := on && isOver && !d.cal.tempOver
  let d := d.modCal (fun c => { c with tempOver := on && isOver })
  if fire then d.calTrigger true else d

/-! ## Commit and holds (R248, R249) -/

/-- The first cycle in which a waiting commit can apply (R248). -/
def Device.calApply (d : Device) : Device := if d.commitDue (fun _ => false) then d.calCommit else d

/-- CAL_HOLDMAX of a held launch expires (R249). -/
def Device.calHoldExpiry (d : Device) (s : Nat) : Device :=
  match d.cal.held.find? (fun h => h.1 = s) with
  | some h => (d.reach h.2).calRelease s
  | none => d

/-! ## Tables and records (R247, R251–R253, R384) -/

/-- The newest record with a valid commit word and CRC. -/
def Device.calNewest (d : Device) : Option CalRec :=
  match d.cal.rec0, d.cal.rec1 with
  | some a, some b => if a.gen < b.gen then some b else some a
  | some a, none => some a
  | none, b => b

/-- Keystone loads the newest valid record into the active tables, where there is one (R252, R253). -/
def Device.calReload (d : Device) : Device :=
  match d.calNewest with
  | some r =>
    (d.modCal (fun c => if d.calBank then { c with tabB := r.tabs, reload := false } else { c with tabA := r.tabs, reload := false })).setFld
      Reg.CAL_TJ 0 16 r.tj
  | none => d

/-- The table scrubber reads a word of a set (R247, R253). -/
def Device.calScrub (d : Device) (bank : Bool) (e : Ecc) : Device :=
  if e ≠ .bad then d
  else if bank = d.calBank then
    let d := (d.event Page.CAL 4).calFail 0x09 0
    let d := d.modCal (fun c => { c with reload := true })
    (d.safeCause 10).calReload
  else if d.calKind ≠ 2 ∧ 2 ≤ d.calState ∧ d.calState ≤ 5 then d.calEnd 0x03
  else d

/-- A record is complete with its commit word: it takes the place of the older one (R251). While Keystone restarts none is written (R255). -/
def Device.calRecordDone (d : Device) : Device :=
  match d.cal.writing, d.bit Reg.MGMT_STATUS 0 with
  | none, _ => d
  | _, false => d
  | some x, true =>
    let g (r : Option CalRec) : Nat := (r.map (·.gen)).getD 0
    let new : CalRec := ⟨max (g d.cal.rec0) (g d.cal.rec1) + 1, x.1, x.2⟩
    d.modCal (fun c =>
      if g c.rec0 ≤ g c.rec1 then { c with rec0 := some new, writing := none } else { c with rec1 := some new, writing := none })

/-- SOFT_RESET of the CAL page: the engine is idle without results, and the lent meters are back; the tables and the MRAM records are no
registers and stay (R12, R416). -/
def Device.calSoftReset (d : Device) : Device :=
  let c := d.cal
  let d := d.calReturn
  (d.modCal (fun _ => { CalCtx.reset with
    tabA := c.tabA, tabB := c.tabB, rec0 := c.rec0, rec1 := c.rec1, writing := c.writing, lastRec := c.lastRec, deferred := c.deferred,
    reload := c.reload, ends := c.ends })).setCalState 0

/-- A remembered trigger starts its run when the device has woken (R244). -/
def Device.calAwake (d : Device) : Device := if d.calState = 0 then d.calIdle else d

/-- The 10 s mark after the last record: the deferred record is written with the tables then active (R384). -/
def Device.calDeferred (d : Device) : Device :=
  match d.cal.deferred, d.cal.lastRec with
  | true, some t =>
    (d.reach (t + 10 * 1000000 * usTicks)).calWrite
  | _, _ => d

end Sys2Proof.Machine
end

