-- ==== Sys2Proof/Machine/Micro.lean ====
section
/-! DEFINITION. The micro-engine on customer routines (R126–R134, R144, R160): dispatch, operands, and each class of
micro-operation. -/

namespace Sys2Proof.Machine

/-! ## Faults, dispatch, fetch (R128, R129, R131, R137, R144) -/

/-- A fault inside a customer routine: it takes effect after the last span the routine emitted, else at B (R144). -/
def Device.microFault (d : Device) (s code : Nat) : Device := d.engFault s code (d.strOf s).micro.addr

/-- A customer routine begins (R128). The micro-flags are those of the last customer routine; after a vendor routine they are free values (log
entry 97). -/
def Device.custStart (d : Device) (s : Nat) : Device :=
  let x := d.draw
  let d := if (d.strOf s).micro.flagsOk then d
    else x.2.modMicro s (fun m => { m with uz := natBit x.1 0, un := natBit x.1 1, uc := natBit x.1 2, flagsOk := true })
  (d.setEng s .micro).modMicro s (fun m => { m with active := true })

/-- Classes 0x0F and 0x12–0x1F are reserved (R131). -/
def classReserved (c : Nat) : Bool := c = 0x0F || 0x12 ≤ c

/-- The micro-engine of stream `s` executes the micro-operation at uPC when its class is `cls`: a fetch outside the customer
routines or with an uncorrectable error, a 65th micro-operation and a reserved class fault whichever class was expected. `f`
acts with uPC already at the next word. -/
def Device.microStep (d : Device) (s : Nat) (ecc : Ecc) (cls : Nat) (f : Device → Nat → Device) : Device :=
  let m := (d.strOf s).micro
  if (d.strOf s).eng ≠ .micro then d
  else if m.upc < 12352 ∨ 16384 ≤ m.upc then d.microFault s 0x0D
  else if ecc = .bad || d.csUE m.upc then (d.noteUE (csKey m.upc) true).microFault s 0x0D
  else
    let d := if ecc = .corrected then d.csCorrected else d
    if 64 ≤ m.lim then d.microFault s 0x0C
    else
    let w := d.csWord m.upc
    if classReserved (w / 2 ^ 27) then d.microFault s 0x01
    else if w / 2 ^ 27 ≠ cls then d
    else f (d.modMicro s (fun m => { m with upc := (m.upc + 1) % 2 ^ 14, lim := m.lim + 1 })) w

/-! ## Operands (R127) -/

/-- What an operand code gives: a value, or a fault code. -/
inductive Opd where
  | val (v : Nat)
  | bad (code : Nat)
deriving DecidableEq, Repr

/-- The value of operand code `c`. -/
def Device.opd (d : Device) (s c : Nat) : Opd :=
  let m := (d.strOf s).micro
  if c < 0x10 then .val (d.g s c)
  else if c < 0x18 then .val (m.t.getD (c - 0x10) 0).toNat
  else match c with
    | 0x18 => .val (m.ir % 2 ^ 32)
    | 0x19 => .val (insField m.ir 32 16)
    | 0x1A => .val (d.g s (insField m.ir 48 4))
    | 0x1B => .val (d.strPc s)
    | 0x1C => .val 0
    | 0x1D => .val (m.ir / 2 ^ 32)
    | 0x1E => match (d.strOf s).loops with
      | (n, _) :: _ => .val n
      | [] => .bad 0x07
    | _ => .bad 0x01

/-- Operand code `c` takes `v`; a write of a read-only operand is discarded (R127). -/
def Device.setOpd (d : Device) (s c v : Nat) : Device :=
  let v := v % 2 ^ 32
  if c < 0x10 then d.setRegN (Reg.STR_G s c) v
  else if c < 0x18 then d.modMicro s (fun m => { m with t := m.t.set (c - 0x10) (BitVec.ofNat 32 v) })
  else match c with
    | 0x1A => d.setRegN (Reg.STR_G s (insField (d.strOf s).micro.ir 48 4)) v
    | 0x1B => d.setPc s (v % 2 ^ 18)
    | 0x1E => match (d.strOf s).loops with
      | (_, t) :: ls => d.modStr s (fun c => { c with loops := (v, t) :: ls })
      | [] => d.microFault s 0x07
    | 0x1F => d.microFault s 0x01
    | _ => d

/-- Goes on with the value of operand code `c`, or faults. -/
def Device.withOpd (d : Device) (s c : Nat) (f : Device → Nat → Device) : Device :=
  match d.opd s c with
  | .val v => f d v
  | .bad code => d.microFault s code

/-! ## ALU, LDI, LDIH (R131) -/

/-- An ALU operation's result and carry: no carry where the spec gives none (MOV); no result for a reserved code. -/
def aluOp (op a b : Nat) : Option (Nat × Option Bool) :=
  let m := 2 ^ 32
  match op with
  | 0x0 => some ((a + b) % m, some (decide (m ≤ a + b)))
  | 0x1 => some ((a + m - b) % m, some (decide (a < b)))
  | 0x2 => some (a &&& b, some false)
  | 0x3 => some (a ||| b, some false)
  | 0x4 => some (a ^^^ b, some false)
  | 0x5 => some (a * 2 ^ (b % 32) % m, some false)
  | 0x6 => some (a / 2 ^ (b % 32), some false)
  | 0x7 => some ((BitVec.ofNat 32 a).sshiftRight (b % 32) |>.toNat, some false)
  | 0x8 => some (b, none)
  | 0x9 => some ((a + m - b) % m, some (decide (a < b)))
  | 0xA => some (min a b, some false)
  | 0xB => some (max a b, some false)
  | _ => none

/-- The micro-flags after a result. A carry the spec does not give is a free value (log entry 2). -/
def Device.setUFlags (d : Device) (s v : Nat) (c : Option Bool) : Device :=
  let r := match c with
    | some c => (c, d)
    | none => let x := d.draw; (decide (x.1 % 2 = 1), x.2)
  r.2.modMicro s (fun m => { m with uz := decide (v % 2 ^ 32 = 0), un := natBit v 31, uc := r.1 })

/-- The ALU class: DST = SRCA op SRCB; CMP writes no DST, MOV reads no SRCA. -/
def Device.uAlu (d : Device) (s w : Nat) : Device :=
  let op := insField w 23 4
  let go (d : Device) (a b : Nat) : Device :=
    match aluOp op a b with
    | none => d.microFault s 0x01
    | some (v, c) => if op = 0x9 then d.setUFlags s v c else (d.setUFlags s v c).setOpd s (insField w 18 5) v
  let withB (d : Device) (a : Nat) : Device :=
    if natBit w 12 then go d a (unsigned 32 (signed 12 (w % 2 ^ 12)))
    else d.withOpd s (w % 32) (fun d b => go d a b)
  if op = 0x8 then withB d 0 else d.withOpd s (insField w 13 5) withB

/-- LDI: DST = IMM22. -/
def Device.uLdi (d : Device) (s w : Nat) : Device := d.setOpd s (insField w 22 5) (w % 2 ^ 22)

/-- LDIH: DST[31:16] = IMM16. -/
def Device.uLdih (d : Device) (s w : Nat) : Device :=
  d.withOpd s (insField w 22 5) (fun d v => d.setOpd s (insField w 22 5) (v % 2 ^ 16 + w % 2 ^ 16 * 2 ^ 16))

/-! ## Flow (R129) -/

/-- Whether UCOND holds; none for a reserved code. -/
def Micro.cond (m : Micro) (c : Nat) : Option Bool :=
  match c with
  | 0 => some true
  | 1 => some m.uz
  | 2 => some (!m.uz)
  | 3 => some m.un
  | 4 => some (!m.un)
  | 5 => some m.uc
  | 6 => some (!m.uc)
  | _ => none

/-- BR. -/
def Device.uBr (d : Device) (s w : Nat) : Device :=
  match (d.strOf s).micro.cond (insField w 23 4) with
  | none => d.microFault s 0x01
  | some b => if b then d.modMicro s (fun m => { m with upc := w % 2 ^ 14 }) else d

/-- CALLU. -/
def Device.uCall (d : Device) (s w : Nat) : Device :=
  if 8 ≤ (d.strOf s).micro.stack.length then d.microFault s 0x07
  else d.modMicro s (fun m => { m with stack := m.upc :: m.stack, upc := w % 2 ^ 14 })

/-- RETU. -/
def Device.uRet (d : Device) (s : Nat) : Device :=
  match (d.strOf s).micro.stack with
  | [] => d.microFault s 0x07
  | t :: ts => d.modMicro s (fun m => { m with stack := ts, upc := t })

/-- NEXT: the routine ends, and the engine goes on at SPC. -/
def Device.uNext (d : Device) (s : Nat) : Device :=
  ((d.modMicro s (fun m => { m with active := false, stack := [] })).setEng s .running).engRoom s

/-! ## Sequence level, plays, boundary actions (R131–R133, R160) -/

/-- EMIT: COUNT plays of the span in SPANREG; the count of micro-operations starts again (R132, R144). -/
def Device.uEmit (d : Device) (s w : Nat) : Device :=
  d.withOpd s (insField w 22 5) (fun d span =>
    let go (d : Device) (n : Nat) : Device :=
      (d.modMicro s (fun m => { m with lim := 0 })).enqPlays s (span % 2 ^ 16) (n + 1) (d.strOf s).micro.addr
    if natBit w 21 then go d (insField w 5 16) else d.withOpd s (insField w 5 5) (fun d n => go d (n % 2 ^ 16)))

/-- SEQ: SETPC, PUSHC, POPC, PUSHL, DECL, POPL, LOOPPC, SETZN. -/
def Device.uSeq (d : Device) (s w : Nat) : Device :=
  let reg := insField w 18 5
  let c := d.strOf s
  match insField w 23 4 with
  | 0x0 => d.withOpd s reg (fun d v => d.setPc s (v % 2 ^ 18))
  | 0x1 => if 16 ≤ c.calls.length then d.microFault s 0x07 else d.modStr s (fun c => { c with calls := d.strPc s :: c.calls })
  | 0x2 => match c.calls with
    | [] => d.microFault s 0x07
    | t :: ts => (d.modStr s (fun c => { c with calls := ts })).setPc s t
  | 0x3 => d.withOpd s reg (fun d v =>
      if 16 ≤ c.loops.length then d.microFault s 0x07 else d.modStr s (fun c => { c with loops := (v, d.strPc s) :: c.loops }))
  | 0x4 => match c.loops with
    | [] => d.microFault s 0x07
    | (n, t) :: ls =>
      let n := (n + 2 ^ 32 - 1) % 2 ^ 32
      (d.modStr s (fun c => { c with loops := (n, t) :: ls })).modMicro s (fun m => { m with uz := decide (n = 0) })
  | 0x5 => match c.loops with
    | [] => d.microFault s 0x07
    | _ :: ls => d.modStr s (fun c => { c with loops := ls })
  | 0x6 => match c.loops with
    | [] => d.microFault s 0x07
    | (_, t) :: _ => d.setPc s t
  | 0x7 => d.withOpd s reg (fun d v => d.modStr s (fun c => { c with zf := decide (v = 0), nf := natBit v 31 }))
  | _ => d.microFault s 0x01

/-- The boundary action of a BND word with its operand values; the engine stops at the kinds that stop it (R129, R133). -/
def Device.bndKind (d : Device) (s w a b : Nat) : Device :=
  let imm := w % 2 ^ 12
  let pc := (d.strOf s).micro.addr
  match insField w 22 5 with
  | 0x00 => (d.bnd s .halt pc).setEng s .done
  | 0x01 => d.bnd s (.waitDelay a) pc
  | 0x02 => d.bnd s (.waitUntil a) pc
  | 0x03 => d.engWait s 2 (imm % 32) 0 pc
  | 0x04 => d.engWait s 3 0 0 pc
  | 0x05 => d.engSite s (imm % 4) (natBit imm 2) a pc
  | 0x06 => (d.bnd s .siteDrop pc).setEng s .waitGap
  | 0x07 => d.bnd s .failClr pc
  | 0x08 => match imm % 4 with
    | 0 => d.bnd s .capOn pc
    | 1 => d.bnd s .capOff pc
    | 2 => d.bnd s .capSeg pc
    | _ => d.microFault s 0x01
  | 0x09 => d.bnd s (.trig (imm % 256)) pc
  | 0x0A => d.bnd s (.signal (a % 2 ^ 16)) pc
  | 0x0B => d.bnd s (.setpe (imm % 8) (insField imm 3 2) a) pc
  | 0x0C => d.bnd s (.phase b a) pc
  | _ => d.microFault s 0x01

/-- BND: REGA is read where the kind uses it, REGB for PHASE. -/
def Device.uBnd (d : Device) (s w : Nat) : Device :=
  let k := insField w 22 5
  let usesA := k = 0x01 || k = 0x02 || k = 0x05 || k = 0x0A || k = 0x0B || k = 0x0C
  if usesA then d.withOpd s (insField w 17 5) (fun d a =>
    if k = 0x0C then d.withOpd s (insField w 12 5) (fun d b => d.bndKind s w a b) else d.bndKind s w a 0)
  else d.bndKind s w 0 0

/-- The APG class. `ue` says that SCRLD's read of the sequence store finds an uncorrectable error. -/
def Device.uApg (d : Device) (s w : Nat) (ue : Bool) : Device :=
  let pc := (d.strOf s).micro.addr
  match insField w 22 5 with
  | 0x00 => d.withOpd s (insField w 17 5) (fun d v => d.engAset s (insField w 11 6) v pc)
  | 0x01 => d.bnd s (.asave (w % 8)) pc
  | 0x02 => d.bnd s (.arest (w % 8)) pc
  | 0x03 => d.withOpd s (insField w 17 5) (fun d v => d.engScr s (v % 2 ^ 18) pc ue)
  | _ => d.microFault s 0x01

/-! ## State access (R131, R134) -/

/-- RDX. -/
def Device.uRdx (d : Device) (s w : Nat) : Device :=
  let dst := insField w 22 5
  let put (v : Nat) : Device := d.setOpd s dst v
  match insField w 16 6 with
  | 0x00 => put (d.regN (Reg.STR_FLAGS s))
  | 0x01 => put ((d.strOf s).mask % 2 ^ 32)
  | 0x02 => put ((d.strOf s).mask / 2 ^ 32)
  | 0x03 => put (d.regN (Reg.STR_SITEFAIL_LO s))
  | 0x04 => put (d.regN (Reg.STR_SITEFAIL_HI s))
  | 0x05 => put (d.regN (Reg.STR_MATCHSITE_LO s))
  | 0x06 => put (d.regN (Reg.STR_MATCHSITE_HI s))
  | 0x07 => put (64 - requests (d.strOf s).queue)
  | _ => d.microFault s 0x01

/-- WRX: FLAGCLR and FLAGSET. -/
def Device.uWrx (d : Device) (s w : Nat) : Device :=
  match insField w 21 6 with
  | 0x00 => d.withOpd s (insField w 16 5) (fun d v => d.setReg (Reg.STR_FLAGS s) (d.reg (Reg.STR_FLAGS s) &&& ~~~(BitVec.ofNat 32 v)))
  | 0x01 => d.withOpd s (insField w 16 5) (fun d v => d.flagsSet s v)
  | _ => d.microFault s 0x01

/-- LDS. `ue` says that the read finds an uncorrectable error. -/
def Device.uLds (d : Device) (s w : Nat) (ue : Bool) : Device :=
  d.withOpd s (insField w 17 5) (fun d a =>
    if seqSize ≤ a then d.microFault s 0x01
    else if ue || d.winUE (seqAddr a) then (d.noteUE (seqAddr a) true).microFault s 0x09
    else d.setOpd s (insField w 22 5) (if natBit w 16 then d.seqWord a / 2 ^ 32 else d.seqWord a % 2 ^ 32))

/-- MATCH with SENSE, SCOPE and MAXPASS of an instruction word (R112). -/
def Device.engMatch (d : Device) (s ir span target a : Nat) : Device :=
  d.enqueue s (.matchPlay span a .waiting
    { sense := natBit ir 47, scope := natBit ir 46, maxpass := insField ir 16 16, target := target % 2 ^ 18, save := d.engSave s })

/-- MATCHU. -/
def Device.uMatch (d : Device) (s w : Nat) : Device :=
  d.withOpd s (insField w 22 5) (fun d span => d.withOpd s (insField w 17 5) (fun d t =>
    let m := (d.strOf s).micro
    d.engMatch s m.ir (span % 2 ^ 16) t m.addr))

/-- FAULT. -/
def Device.uFault (d : Device) (s w : Nat) : Device := d.microFault s (w % 256)

end Sys2Proof.Machine
end

