-- ==== Sys2Proof/Machine/Ucs.lean ====
section
/-! DEFINITION. Loading the control store (R138–R146) and its scrubber (R137). -/

namespace Sys2Proof.Machine

/-! ## Images (R138) -/

/-- Bytes as one big-endian number. -/
def beNum (bs : List Byte) : Nat := bs.foldl (fun a b => a * 256 + b.toNat) 0

/-- Eight fuse words as one number, the first word most significant (log entry 3). -/
def Device.fuseHash (d : Device) (w : Nat) : Nat :=
  (List.range 8).foldl (fun a i => a * 2 ^ 32 + d.regN (Reg.FUSE_WORD (w + i))) 0

/-- WORDS of an image given as dwords. -/
def imgWords (ws : List Nat) : Nat := ws.getD 3 0
/-- SVN of an image. -/
def imgSvn (ws : List Nat) : Nat := ws.getD 2 0
/-- DISP_MASK of an image. -/
def imgMask (ws : List Nat) : Nat := ws.getD 4 0 + 2 ^ 32 * ws.getD 5 0
/-- Payload word `i` of an image. -/
def imgPay (ws : List Nat) (i : Nat) : Nat := ws.getD (32 + i) 0
/-- The signed bytes of an image: header and payload. -/
def imgSigned (ws : List Nat) : List Byte := dwBytes (ws.take (32 + imgWords ws))
/-- The signing key's octets, X then Y. -/
def imgKey (ws : List Nat) : List Byte := dwBytes ((ws.drop 16).take 16)
/-- The signature. -/
def imgSig (ws : List Nat) : Nat := beNum (dwBytes ((ws.drop (32 + imgWords ws)).take 16))
/-- SIGNED of an image. -/
def imgIsSigned (ws : List Nat) : Bool := natBit (ws.getD 6 0) 0

/-- The signature of an image verifies. -/
def imgSigOk (ws : List Nat) : Bool := Config.sigOk (beNum (imgKey ws)) (Config.sha256 (imgSigned ws)) (imgSig ws)

/-- MAGIC, FORMAT, KIND, WORDS and DISP_MASK (R138, R142).
DEDUCED: FLAGS[31:1] and the reserved dword at 0x1C are not checked (log entry 132). -/
def imgHeaderOk (ws : List Nat) (vend : Bool) : Bool :=
  ws.getD 0 0 = 0x43554D46 && decide (ws.getD 1 0 = 1 + (if vend then 1 else 2) * 65536) &&
    (if vend then decide (imgWords ws = 6144) && decide (imgMask ws = 0)
     else decide (65 ≤ imgWords ws) && decide (imgWords ws ≤ 4096))

/-! ## The static verifier (R143) -/

/-- A class, operation code, UCOND, SEL or KIND outside the customer set. -/
def uwBadOp (w : Nat) : Bool :=
  let op := insField w 23 4
  let k := insField w 22 5
  match w / 2 ^ 27 with
  | 0x01 => decide (0xC ≤ op)
  | 0x04 => decide (7 ≤ op)
  | 0x09 => decide (7 ≤ op)
  | 0x0A => k = 3 || k = 4 || k = 6 || decide (0x0D ≤ k)
  | 0x0B => decide (4 ≤ k)
  | 0x0C => decide (8 ≤ insField w 16 6)
  | 0x0D => decide (2 ≤ insField w 21 6)
  | c => decide (0x0F ≤ c)

/-- The reserved bits of a word, by class. -/
def uwReserved (w : Nat) : Nat :=
  match w / 2 ^ 27 with
  | 0x00 => w % 2 ^ 27
  | 0x01 => if natBit w 12 then 0 else insField w 5 7
  | 0x03 => insField w 16 6
  | 0x04 => insField w 14 9
  | 0x05 => insField w 14 13
  | 0x06 => w % 2 ^ 27
  | 0x07 => w % 32 + (if natBit w 21 then 0 else insField w 10 11)
  | 0x08 => w % 2 ^ 27
  | 0x09 => w % 2 ^ 18
  | 0x0B => match insField w 22 5 with
    | 0 => w % 2 ^ 11
    | 3 => w % 2 ^ 17
    | _ => insField w 3 19
  | 0x0C => w % 2 ^ 16
  | 0x0D => w % 2 ^ 16
  | 0x0E => w % 2 ^ 16
  | _ => 0

/-- The register codes of a word, by class. -/
def uwRegs (w : Nat) : List Nat :=
  match w / 2 ^ 27 with
  | 0x01 => [insField w 18 5, insField w 13 5] ++ (if natBit w 12 then [] else [w % 32])
  | 0x02 => [insField w 22 5]
  | 0x03 => [insField w 22 5]
  | 0x07 => [insField w 22 5] ++ (if natBit w 21 then [] else [insField w 5 5])
  | 0x09 => [insField w 18 5]
  | 0x0A => [insField w 17 5, insField w 12 5]
  | 0x0B => if insField w 22 5 = 0 ∨ insField w 22 5 = 3 then [insField w 17 5] else []
  | 0x0C => [insField w 22 5]
  | 0x0D => [insField w 16 5]
  | 0x0E => [insField w 22 5, insField w 17 5]
  | _ => []

/-- The operand a word writes, by class. -/
def uwDst (w : Nat) : Option Nat :=
  match w / 2 ^ 27 with
  | 0x01 => if insField w 23 4 = 9 then none else some (insField w 18 5)
  | 0x02 => some (insField w 22 5)
  | 0x03 => some (insField w 22 5)
  | 0x0C => some (insField w 22 5)
  | 0x0E => some (insField w 22 5)
  | _ => none

/-- OPD, IMM, ZERO and IRH are read-only. -/
def readOnlyOpd (c : Nat) : Bool := c = 0x18 || c = 0x19 || c = 0x1C || c = 0x1D

/-- The refusal code of one code word, 0 when it passes. -/
def uwCheck (w : Nat) (last : Bool) : Nat :=
  let c := w / 2 ^ 27
  if uwBadOp w then 0x0A
  else if uwReserved w ≠ 0 ∨ (uwRegs w).contains 0x1F then 0x0B
  else if (c = 0x04 ∨ c = 0x05) ∧ (w % 2 ^ 14 < 12352) then 0x0C
  else if (uwDst w).any readOnlyOpd then 0x0D
  else if last ∧ !(c = 0x08 || c = 0x06 || (c = 0x04 && insField w 23 4 = 0)) then 0x0F
  else 0

/-- The refusal code of a dispatch entry against its DISP_MASK bit, 0 when it passes. -/
def entryCheck (w : Nat) (implemented : Bool) : Nat :=
  if !implemented then (if w = 0 then 0 else 0x0E)
  else if !natBit w 31 ∨ w % 2 ^ 14 < 12352 then 0x0E
  else if insField w 14 17 ≠ 0 then 0x0B
  else 0

/-- The first offending payload word and its code. -/
def verifyImage (ws : List Nat) : Option (Nat × Nat) :=
  let n := imgWords ws
  (List.range n).findSome? (fun i =>
    let w := imgPay ws i
    let c := if i < 64 then entryCheck w (natBit (imgMask ws) i) else uwCheck w (i + 1 = n)
    if c = 0 then none else some (i, c))

/-! ## Loading (R141, R142, R145, R146) -/

/-- UCS_STATUS.LSTATE. -/
def Device.lstate (d : Device) : Nat := d.fld Reg.UCS_STATUS 0 3

/-- A load is refused: its code and offending word, LOAD_FAIL, LSTATE IDLE; codes 0x06, 0x07 and 0x08 of a customer image also
raise UCREF and are logged (R140). -/
def Device.loadRefuse (d : Device) (code word : Nat) : Device :=
  let d := (d.setRegN Reg.UCS_LOAD_STATUS (word * 2 ^ 16 + code)).event Page.UCS 1
  let d := d.setFld Reg.UCS_STATUS 0 3 0
  let d := if (code = 6 ∨ code = 7 ∨ code = 8) ∧ !d.ucs.vend then (d.event Page.FUSE 2).logWith 0x00140000 0x0041 0 0 else d
  { d with ucs := { d.ucs with stage := [] } }

/-- A stream whose UCS_CUST_EN bit is 1 is not halted (R141, R145). -/
def Device.custBusy (d : Device) : Bool := (List.range 16).any (fun s => d.bit Reg.UCS_CUST_EN s && !d.halted s)

/-- UCS_CMD.LOAD_CUST (R141). -/
def Device.loadCust (d : Device) : Device :=
  let d := { d with ucs := { d.ucs with vend := false } }
  let a := d.reg64 Reg.UCS_IMG_ADDR_LO Reg.UCS_IMG_ADDR_HI
  let len := d.regN Reg.UCS_IMG_LEN
  if d.custBusy then d.loadRefuse 0x01 0xFFFF
  else if !d.bit Reg.FUSE_CFG0 0 then d.loadRefuse 0x02 0xFFFF
  else if a % 64 ≠ 0 ∨ len = 0 ∨ memEnd < a + len ∨ stackOf a ≠ stackOf (a + len - 1) then d.loadRefuse 0x03 0xFFFF
  else if !d.memThere (a + 12) 4 then d.loadRefuse 0x04 0xFFFF
  else
  let d := d.touchRow (a + 12)
  let bad := d.badWords (a + 12) 4
  if bad ≠ [] then (bad.foldl (fun d w => d.memUEfree w 7 noStream) d).loadRefuse 0x04 0xFFFF
  else if len ≠ 0xC0 + 4 * d.memRead (a + 12) 4 then d.loadRefuse 0x03 0xFFFF
  else { d with ucs := { d.ucs with addr := a, len := len } }.setFld Reg.UCS_STATUS 0 3 1

/-- Every customer dispatch entry becomes invalid and CUST_VALID clears (R142, R145). -/
def Device.custInvalid (d : Device) : Device :=
  ((d.forN 64 (fun d i => d.setBit (0x700000 + 4 * (12288 + i)) 31 false)).setBit Reg.UCS_STATUS 8 false).hashStale

/-- UCS_CMD.CLEAR_CUST (R145). -/
def Device.clearCust (d : Device) : Device := if d.custBusy then d.loadRefuse 0x01 0xFFFF else d.custInvalid

/-- UCS_CMD.LOAD_VEND from Keystone with the image it has staged (R146): the half that is not VTARGET, unless a stream uses
it. -/
def Device.loadVend (d : Device) (img : List Nat) : Device :=
  let h := 1 - d.fld Reg.UCS_STATUS 12 1
  let d := { d with ucs := { d.ucs with vend := true, half := h, stage := img } }
  if (List.range 16).any (fun s => d.vendHalf s = h) then d.loadRefuse 0x11 0xFFFF
  else d.setFld Reg.UCS_STATUS 0 3 1

/-- UCS_CMD.VSWITCH from Keystone (R146): VTARGET moves to the other half when that half holds a verified image.
DESIGN CHOICE: VSWITCH is ignored with no fault code while the half other than VTARGET holds no verified image (log entry 133). -/
def Device.vswitch (d : Device) : Device :=
  let h := 1 - d.fld Reg.UCS_STATUS 12 1
  if !d.bit Reg.UCS_STATUS (16 + h) then d
  else
    let d := (d.setBit Reg.UCS_STATUS 12 (h = 1)).setBit Reg.UCS_STATUS 11 true
    (d.forN 16 (fun d s => d.vendMove s)).vendDone

/-- A read of the image fails (R142, R222). -/
def Device.loadReadFail (d : Device) : Device := if d.lstate = 1 then d.loadRefuse 0x04 0xFFFF else d

/-- The image that was accepted has been read into staging (R142). `ue` says that the read of the dword at that offset found an
uncorrectable error: it is recorded with origin 7 (R224). A read that a gated stack or one out of service refuses fails the load
too (R221). -/
def Device.loadReadDone (d : Device) (ue : Option Nat) : Device :=
  if d.lstate ≠ 1 then d
  else
    let a := d.ucs.addr
    let len := d.ucs.len
    if d.ucs.vend then (if ue.isSome then d.loadRefuse 0x04 0xFFFF else d.setFld Reg.UCS_STATUS 0 3 2)
    else if !d.memThere a len then d.loadRefuse 0x04 0xFFFF
    else
    let d := d.touchRows a len
    let d := match ue with
      | some o => if o < len then d.poisonMem ((a + o) / 8 * 8) else d
      | none => d
    let bad := d.badWords a len
    if bad ≠ [] then (bad.foldl (fun d w => d.memUEfree w 7 noStream) d).loadRefuse 0x04 0xFFFF
    else
      let st := (List.range (len / 4)).map (fun i => d.memRead (a + 4 * i) 4)
      ({ d with ucs := { d.ucs with stage := st } }).setFld Reg.UCS_STATUS 0 3 2

/-- A key hash equals the hash of one of the unrevoked vendor key slots (R374, R146). -/
def Device.vendKeyOk (d : Device) (h : Nat) : Bool :=
  h ≠ 0 && (List.range 4).any (fun k => !d.bit Reg.FUSE_CFG0 (8 + k) && decide (d.fuseHash (8 * k) = h))

/-- The check of the signature rules: the refusal code, 0 when they pass (R140, R146). -/
def Device.imgSignCheck (d : Device) (ws : List Nat) : Nat :=
  let h := Config.sha256 (imgKey ws)
  if d.ucs.vend then
    if !imgIsSigned ws then 0x08
    else if !d.vendKeyOk h then 0x06
    else if !imgSigOk ws then 0x07
    else if imgSvn ws < d.fld Reg.FUSE_ARB 0 9 then 0x09
    else 0
  else if !d.bit Reg.FUSE_CFG0 1 then 0
  else if !imgIsSigned ws then 0x08
  else if d.key.custHash = 0 ∨ d.key.custHash ≠ h then 0x06
  else if !imgSigOk ws then 0x07
  else 0

/-- The checks of a load end: WRITE begins with the old image invalid, or the load is refused (R142). -/
def Device.loadCheckDone (d : Device) : Device :=
  if d.lstate ≠ 2 then d
  else
    let ws := d.ucs.stage
    if !imgHeaderOk ws d.ucs.vend then d.loadRefuse 0x05 0xFFFF
    else
      let c := d.imgSignCheck ws
      if c ≠ 0 then d.loadRefuse c 0xFFFF
      else match if d.ucs.vend then none else verifyImage ws with
        | some (i, c) => d.loadRefuse c i
        | none =>
          let d := if d.ucs.vend then d.setBit Reg.UCS_STATUS (16 + d.ucs.half) false else d.custInvalid
          d.setFld Reg.UCS_STATUS 0 3 3

/-- Control-store word `w` written with fresh check bits. -/
def Device.csPut (d : Device) (w v : Nat) : Device := (d.setRegN (0x700000 + 4 * w) v).setWinUE (csKey w) false

/-- A warm restart of Keystone refuses a load in CHECK (R147, R364). -/
def Device.loadKrestart (d : Device) : Device := if d.lstate = 2 then d.loadRefuse 0x12 0xFFFF else d

/-- The payload is written and read back (R142). `bad` is a word written in this step that reads back as another value; the customer
dispatch entries are written after the read-back. -/
def Device.loadWriteDone (d : Device) (bad : Option (Nat × Nat)) : Device :=
  if d.lstate ≠ 3 then d
  else
    let ws := d.ucs.stage
    let n := imgWords ws
    let h := Config.sha256 (imgSigned ws)
    let base := if d.ucs.vend then 6144 * d.ucs.half else 12288
    let d := d.forN (if d.ucs.vend then 6144 else 4096) (fun d i =>
      if !d.ucs.vend && i < 64 then d else d.csPut (base + i) (if i < n then imgPay ws i else 0))
    match bad.filter (fun b => decide (b.1 < (if d.ucs.vend then 6144 else 4096))) with
    | some (i, v) =>
      let d := d.setRegN (0x700000 + 4 * (base + i)) v
      (if d.ucs.vend then d else d.custInvalid).loadRefuse 0x10 i
    | none =>
      let d := if d.ucs.vend then
          let d := (d.setBit Reg.UCS_STATUS (16 + d.ucs.half) true).setRegN (if d.ucs.half = 0 then Reg.UCS_VEND_SVN0 else Reg.UCS_VEND_SVN1) (imgSvn ws)
          { d with ucs := if d.ucs.half = 0 then { d.ucs with hash0 := h } else { d.ucs with hash1 := h } }
        else
          let d := d.forN 64 (fun d i => d.csPut (base + i) (imgPay ws i))
          let d := (d.setBit Reg.UCS_STATUS 8 true).setRegN Reg.UCS_CUST_SVN (imgSvn ws)
          { d with ucs := { d.ucs with hashC := h } }.hashStale
      let d := ((d.setFld Reg.UCS_STATUS 0 3 0).setRegN Reg.UCS_LOAD_STATUS 0xFFFF0000).event Page.UCS 0
      { d with ucs := { d.ucs with stage := [] } }

/-- One read of the control-store scrubber (R137). -/
def Device.csScrub (d : Device) (w : Nat) (ecc : Ecc) : Device :=
  if !d.bit Reg.UCS_CTRL 0 then d
  else match (if d.csUE w then .bad else ecc) with
    | .good => d
    | .corrected => d.csCorrected
    | .bad => ((d.setWinUE (csKey w) true).setRegN Reg.UCS_UE_ADDR (2 ^ 31 + w)).event Page.UCS 3

/-- A write of UCS_CUST_EN: a bit changes only while its stream is halted (R145). -/
def Device.custEnWrite (d : Device) (v : Nat) : Device :=
  if (List.range 16).any (fun s => natBit v s ≠ d.bit Reg.UCS_CUST_EN s && !d.halted s) then d.fault Page.UCS 0x03
  else d.setRegN Reg.UCS_CUST_EN (v % 2 ^ 16)

end Sys2Proof.Machine
end

