-- ==== Sys2Proof/Machine/Disp.lean ====
section
/-! DEFINITION. The dispatcher (R260–R276): task states, decrements, ordered release, placement, cores, delay lists, hooks,
cancels. -/

namespace Sys2Proof.Machine

/-! ## Descriptors (R264, R265) -/

/-- Word `w` of task descriptor `i` (byte offset `w`). -/
def tdAddr (i w : Nat) : Nat := 0x740000 + 64 * i + w

/-- TD_STATE.STATE of task `i`. -/
def Device.taskState (d : Device) (i : Nat) : Nat := d.fld (tdAddr i 4) 28 4
/-- TD_STATE.STATE of task `i` set. -/
def Device.setTaskState (d : Device) (i v : Nat) : Device := d.setFld (tdAddr i 4) 28 4 v
/-- TD_CTRL.PRIO. -/
def Device.taskPrio (d : Device) (i : Nat) : Nat := d.fld (tdAddr i 0) 26 3
/-- TD_CTRL.FLOW. -/
def Device.taskFlow (d : Device) (i : Nat) : Nat := d.fld (tdAddr i 0) 20 6
/-- TD_CTRL.ORD. -/
def Device.taskOrd (d : Device) (i : Nat) : Bool := d.bit (tdAddr i 0) 29
/-- TD_SEQ. -/
def Device.taskSeq (d : Device) (i : Nat) : Nat := d.fld (tdAddr i 0x34) 0 16
/-- A descriptor word holds an uncorrectable error. -/
def Device.taskUE (d : Device) (i : Nat) : Bool := (List.range 8).any (fun w => d.winUE (tdAddr i (8 * w)))

/-- A fault of the DISP page about a task, with FAULT raised (R284). -/
def Device.dispFault (d : Device) (code task : Nat) : Device :=
  ((d.fault Page.DISP code).setRegN Reg.DISP_LASTERR (code * 2 ^ 24 + task)).event Page.DISP 3

/-- The dispatcher's context changed. -/
def Device.modDisp (d : Device) (f : DispCtx → DispCtx) : Device := { d with disp := f d.disp }
/-- Core `k`. -/
def Device.coreOf (d : Device) (k : Nat) : CoreCtx := Tab.get (fun _ => CoreCtx.reset) d.disp.cores k
/-- Core `k` changed. -/
def Device.modCore (d : Device) (k : Nat) (f : CoreCtx → CoreCtx) : Device :=
  d.modDisp (fun c => { c with cores := Tab.set (fun _ => CoreCtx.reset) c.cores k (f (d.coreOf k)) })
/-- Flow `f`. -/
def Device.flowOf (d : Device) (f : Nat) : FlowCtx := Tab.get (fun _ => FlowCtx.reset) d.disp.flows f
/-- Flow `f` changed. -/
def Device.modFlow (d : Device) (f : Nat) (g : FlowCtx → FlowCtx) : Device :=
  d.modDisp (fun c => { c with flows := Tab.set (fun _ => FlowCtx.reset) c.flows f (g (d.flowOf f)) })

/-- Core `k` executes: RUN is 1 and hardware does not hold it in reset (R261). -/
def Device.coreUp (d : Device) (k : Nat) : Bool := d.bit (Reg.DISP_CORE k) 0 && !(d.coreOf k).hold
/-- Core `k` is awake (R262). -/
def Device.coreAwake (d : Device) (k : Nat) : Bool := d.coreUp k && !(d.coreOf k).asleep

/-- The task in the slot of core `k`, and the one it runs, as a list. -/
def CoreCtx.tasks (c : CoreCtx) : List Nat := c.slot.toList ++ c.running.toList

/-- Tasks of flow `f` in flight: SLOTTED, RUNNING or HELD (R272). -/
def Device.inFlight (d : Device) (f : Nat) : Nat :=
  (((List.range 16).flatMap (fun k => (d.coreOf k).tasks)) ++ d.disp.held.map (·.task)).countP (fun i => d.taskFlow i = f)

/-! ## READY, WAITING, DELAYED (R267, R271, R273) -/

/-- A task becomes READY: an ordered one takes the next sequence number of its flow (R271). -/
def Device.makeReady (d : Device) (i : Nat) : Device :=
  let d :=
    if d.taskOrd i then
      let f := d.taskFlow i
      let n := (d.flowOf f).next
      (d.setFld (tdAddr i 0x34) 0 16 n).modFlow f (fun c => { c with next := (n + 1) % 2 ^ 16 })
    else d
  (d.setTaskState i 3).modDisp (fun c => { c with ready := c.ready ++ [i] })

/-- A delayed task inserted by due count, counted from the list's present count, after those of equal due (R273). -/
def insertDelayed (now : Nat) (x : Delayed) : List Delayed → List Delayed
  | [] => [x]
  | y :: ys =>
    if y.list = x.list ∧ (x.due + 2 ^ 32 - now) % 2 ^ 32 < (y.due + 2 ^ 32 - now) % 2 ^ 32 then x :: y :: ys
    else y :: insertDelayed now x ys

/-- DEP of a WAITING task is 0: it goes to DELAYED when TICKS is not 0, else to READY (R267). -/
def Device.depZero (d : Device) (i : Nat) : Device :=
  let ticks := d.fld (tdAddr i 0x30) 0 24
  if ticks = 0 then d.makeReady i
  else
    let l := d.fld (tdAddr i 0x30) 30 2
    let now := d.regN (Reg.DISP_TCNT l)
    (d.setTaskState i 2).modDisp (fun c => { c with delayed := insertDelayed now ⟨l, (now + ticks) % 2 ^ 32, i⟩ c.delayed })

/-- A task enters WAITING: owed decrements are taken from DEP_INIT first (R267). -/
def Device.enterWaiting (d : Device) (i : Nat) : Device :=
  let dep := d.fld (tdAddr i 0) 0 16
  let owed := d.fld (tdAddr i 4) 16 7
  let d := ((d.setTaskState i 1).setFld (tdAddr i 4) 0 16 (dep - owed)).setFld (tdAddr i 4) 16 7 (owed - dep)
  if dep ≤ owed then d.depZero i else d

/-- One decrement of a task (R267). -/
def Device.taskDec (d : Device) (i : Nat) : Device :=
  let dep := d.fld (tdAddr i 4) 0 16
  let owed := d.fld (tdAddr i 4) 16 7
  if d.taskState i = 1 ∧ 0 < dep then
    let d := d.setFld (tdAddr i 4) 0 16 (dep - 1)
    if dep = 1 then d.depZero i else d
  else if owed < 127 then d.setFld (tdAddr i 4) 16 7 (owed + 1)
  else (d.addSat Reg.DISP_HOOKLOST 0 16 1).event Page.DISP 1

/-! ## Release (R270, R271, R275) -/

/-- The dword of FLOW and SEQ in a task's records and in NCP_SEQ. -/
def Device.flowSeq (d : Device) (i : Nat) : Nat := d.taskFlow i * 2 ^ 16 + d.taskSeq i

/-- An uncorrectable error met in descriptor `i` within an operation: its task is cancelled when the operation is over (R276). -/
def Device.markBad (d : Device) (i : Nat) : Device :=
  d.modDisp (fun c => if c.bad.contains i then c else { c with bad := c.bad ++ [i] })

/-- Release of one completed task: successors, the record, reload or idle (R270). -/
def Device.releaseOne (d : Device) (h : HeldTask) : Device :=
  let i := h.task
  let d := (List.range 4).foldl (fun d j =>
    let n := d.fld (tdAddr i (0x20 + 4 * j)) 0 12
    if !d.bit (tdAddr i (0x20 + 4 * j)) 31 then d else if d.taskUE n then d.markBad n else d.taskDec n) d
  let d := if d.bit (tdAddr i 0) 30 then d.record 0x07 (0x000B0000 + h.core) i (d.regN (tdAddr i 0x3C)) h.hook (d.flowSeq i) else d
  if d.bit (tdAddr i 0) 31 then d.enterWaiting i else d.setTaskState i 0

/-- The flow's release goes on: HELD tasks and cancelled numbers that follow without a gap (R271). -/
def Device.releaseFlow (f : Nat) : Nat → Device → Device
  | 0, d => d
  | n + 1, d =>
    let c := d.flowOf f
    if c.gone.contains c.rel then
      Device.releaseFlow f n (d.modFlow f (fun c => { c with gone := c.gone.filter (fun x => x ≠ c.rel), rel := (c.rel + 1) % 2 ^ 16 }))
    else match d.disp.held.find? (fun h => d.taskFlow h.task = f && d.taskSeq h.task = c.rel) with
      | some h =>
        if d.taskUE h.task then d.markBad h.task
        else
        let d := d.modDisp (fun c => { c with held := c.held.filter (fun x => x.task ≠ h.task) })
        let d := d.modFlow f (fun c => { c with rel := (c.rel + 1) % 2 ^ 16 })
        Device.releaseFlow f n (d.releaseOne h)
      | none => d

/-- Enough rounds for every task and number of a flow. -/
def releaseFuel : Nat := 2 ^ 17

/-- A task completes: an ordered one is released in the order of its flow (R270, R271). -/
def Device.taskComplete (d : Device) (h : HeldTask) : Device :=
  if d.taskOrd h.task then
    let d := (d.setTaskState h.task 6).modDisp (fun c => { c with held := c.held ++ [h] })
    Device.releaseFlow (d.taskFlow h.task) releaseFuel d
  else d.releaseOne h

/-! ## Cancel (R274, R276) -/

/-- The core that ran the present instance of a task, 0xFFFF when none did (R275). -/
def Device.ranOn (d : Device) (i : Nat) : Nat :=
  if d.taskState i = 5 ∨ d.taskState i = 6 then d.fld (tdAddr i 4) 24 4 else 0xFFFF

/-- A task leaves for IDLE by a cancel with a status (R274): the record, the event, its place in the order. -/
def Device.cancelAs (d : Device) (i status : Nat) : Device :=
  let st := d.taskState i
  let f := d.taskFlow i
  let numbered := d.taskOrd i && (3 ≤ st && st ≤ 6)
  let d := d.record 0x16 (0x000B0000 + d.ranOn i) (status * 2 ^ 16 + st * 2 ^ 12 + i) (d.regN (tdAddr i 0x10))
    (d.regN (tdAddr i 0x38)) (d.flowSeq i)
  let d := d.event Page.DISP 0
  let d := (d.setTaskState i 0).setFld (tdAddr i 4) 16 7 0
  let d := d.modDisp (fun c =>
    { c with ready := c.ready.filter (· ≠ i), delayed := c.delayed.filter (fun x => x.task ≠ i),
             held := c.held.filter (fun x => x.task ≠ i) })
  let d := d.forN 16 (fun d k =>
    d.modCore k (fun c =>
      { c with slot := c.slot.filter (· ≠ i), running := c.running.filter (· ≠ i),
               cancelled := c.cancelled && (c.running ≠ some i) }))
  if numbered then
    let n := d.taskSeq i
    Device.releaseFlow f releaseFuel (d.modFlow f (fun c => { c with gone := c.gone ++ [n] }))
  else d

/-- The CANCEL command by state (R274). -/
def Device.taskCancel (d : Device) (i : Nat) : Device :=
  match d.taskState i with
  | 0 => d
  | 5 => d.forN 16 (fun d k => if (d.coreOf k).running = some i then d.modCore k (fun c => { c with cancelled := true }) else d)
  | _ => d.cancelAs i 1

/-- An uncorrectable error in a descriptor that the dispatcher reads (R260, R276): an SRAM log entry, the cancel, DESC_UE. -/
def Device.descUE (d : Device) (i : Nat) : Device := ((d.logWith 0x000B0000 0x0061 0 0).cancelAs i 3).event Page.DISP 2

/-- The tasks whose descriptors were found unreadable within an operation are cancelled (R276). -/
def Device.descSettle : Nat → Device → Device
  | 0, d => d
  | n + 1, d =>
    match d.disp.bad with
    | [] => d
    | i :: l => Device.descSettle n ((d.modDisp (fun c => { c with bad := l })).descUE i)

/-- A corrected error of core SRAM or task RAM is counted for the report of its second (R260, R383). -/
def Device.sramFixed (d : Device) : Device := d.modDisp (fun c => { c with sramCe := c.sramCe + 1 })

/-- What SECDED finds in descriptor `i`: a corrected error is repaired and counted, an uncorrectable one stays (R260). -/
def Device.taskEcc (d : Device) (i : Nat) : Ecc → Device
  | .good => d
  | .corrected => d.sramFixed
  | .bad => d.setWinUE (tdAddr i 0) true

/-- The dispatcher reads descriptor `i` and acts on it, unless it finds an uncorrectable error. -/
def Device.onTask (d : Device) (i : Nat) (ecc : Ecc) (f : Device → Device) : Device :=
  let d := d.taskEcc i ecc
  if d.taskUE i then d.descUE i else f d

/-! ## DISP_CMD (R266) -/

/-- A write of DISP_CMD. -/
def Device.dispCmd (d : Device) (v : Nat) (ecc : Ecc) : Device :=
  let i := v % 2 ^ 12
  match v / 2 ^ 28 % 16 with
  | 1 => d.onTask i ecc (fun d =>
      if d.taskState i ≠ 0 then d.dispFault 0x03 i
      else if d.fld (tdAddr i 0x0C) 0 16 = 0 then d.dispFault 0x02 i
      else d.enterWaiting i)
  | 2 => d.onTask i ecc (fun d => d.taskDec i)
  | 3 => d.onTask i ecc (fun d => d.taskCancel i)
  | _ => d.dispFault 0x02 i

/-! ## Hooks (R268) -/

/-- The oldest hook presented fires. -/
def Device.hookFire (d : Device) (ecc : Ecc) : Device :=
  match d.hooks with
  | [] => d
  | (h, v) :: rest =>
    let d := { d with hooks := rest }
    if d.bit (Reg.DISP_HOOK h) 31 then
      let pos := d.fld (Reg.DISP_HOOK h) 16 4
      let i := (d.fld (Reg.DISP_HOOK h) 0 12 + pos) % 4096
      let d := d.setFld (Reg.DISP_HOOK h) 16 4 ((pos + 1) % (d.fld (Reg.DISP_HOOK h) 24 4 + 1))
      d.onTask i ecc (fun d => (d.setRegN (tdAddr i 0x38) v).taskDec i)
    else d

/-! ## Placement, take, done (R269, R270, R272) -/

/-- DISP_FLOWf.WIN; 0 acts as 64. -/
def Device.flowWin (d : Device) (f : Nat) : Nat := let w := d.fld (Reg.DISP_FLOW f) 16 8; if w = 0 then 64 else w

/-- A numbered task lies within its flow's window (R272). -/
def Device.inWindow (d : Device) (i : Nat) : Bool :=
  !d.taskOrd i || decide ((d.taskSeq i + 2 ^ 16 - (d.flowOf (d.taskFlow i)).rel) % 2 ^ 16 < d.flowWin (d.taskFlow i))

/-- The flow of a task is under its budget (R272). -/
def Device.underBudget (d : Device) (i : Nat) : Bool :=
  let b := d.fld (Reg.DISP_FLOW (d.taskFlow i)) 24 8
  b = 0 || decide (d.inFlight (d.taskFlow i) < b)

/-- Core `k` may take task `i` in its slot (R269). -/
def Device.eligible (d : Device) (i k : Nat) : Bool :=
  d.bit (tdAddr i 0x0C) k && d.bit (Reg.DISP_CORE k) 1 && d.bit (Reg.DISP_CORE k) 0 && !(d.coreOf k).hold && (d.coreOf k).slot.isNone

/-- The core for task `i`: the last one that ran it, else the next eligible one after the previous placement (R269). -/
def Device.chooseCore (d : Device) (i : Nat) : Option Nat :=
  if !d.underBudget i || !d.inWindow i then none
  else
    let last := d.fld (tdAddr i 4) 24 4
    if d.bit (tdAddr i 4) 23 && d.eligible i last then some last
    else ((List.range 16).map (fun j => (d.disp.lastCore + 1 + j) % 16)).find? (fun k => d.eligible i k)

/-- The first placeable task, from priority 7 down (R269). -/
def Device.nextPlacement (d : Device) : Option (Nat × Nat) :=
  ((List.range 8).map (fun p => 7 - p)).findSome? (fun p =>
    (d.disp.ready.filter (fun i => d.taskPrio i = p)).findSome? (fun i => (d.chooseCore i).map (fun k => (i, k))))

/-- The dispatcher places at most one task (R269). `found` names a READY task in whose descriptor it finds an error: an uncorrectable one
ends the placement with that task's cancel. -/
def Device.taskPlace (d : Device) (found : Option (Nat × Ecc)) : Device :=
  let seen := (found.filter (fun x => d.disp.ready.contains x.1)).getD (0, .good)
  let d := d.taskEcc seen.1 seen.2
  if seen.2 = .bad then d.descUE seen.1
  else match d.nextPlacement with
    | none => d
    | some (i, k) =>
      if d.taskUE i then d.descUE i
      else
        let d := (d.setTaskState i 4).modDisp (fun c => { c with ready := c.ready.filter (· ≠ i), lastCore := k })
        d.modCore k (fun c => { c with slot := some i })

/-- Tasks return to the head of their ready lists, in the order given. -/
def Device.toHead (d : Device) (ts : List Nat) : Device :=
  (ts.foldl (fun d i => d.setTaskState i 3) d).modDisp (fun c => { c with ready := ts ++ c.ready })

/-- Inserts a task by its distance from the oldest unreleased number. -/
def Device.insertSeq (d : Device) (i : Nat) : List Nat → List Nat
  | [] => [i]
  | j :: js =>
    let key (x : Nat) : Nat := (d.taskSeq x + 2 ^ 16 - (d.flowOf (d.taskFlow x)).rel) % 2 ^ 16
    if key i < key j then i :: j :: js else j :: d.insertSeq i js

/-- A write of DISP_FLOWf has taken effect: slotted tasks beyond the budget or outside the window go back (R272). -/
def Device.flowChanged (d : Device) (f : Nat) : Device :=
  let b := d.fld (Reg.DISP_FLOW f) 24 8
  let cut := b ≠ 0 && decide (b < d.inFlight f)
  let mine := (List.range 16).filterMap (fun k => (d.coreOf k).slot)
  let back := mine.filter (fun i => d.taskFlow i = f && (cut || !d.inWindow i))
  let order := back.foldl (fun l i => d.insertSeq i l) []
  let d := d.forN 16 (fun d k => d.modCore k (fun c => { c with slot := c.slot.filter (fun i => !back.contains i) }))
  d.toHead order

/-- A read of NCP_TAKE by core `k` (R270). -/
def Device.ncpTake (d : Device) (k : Nat) : Device × Word :=
  let c := d.coreOf k
  match c.running, c.slot with
  | some _, _ => (d, (0x40000000 : Word))
  | none, none => (d, 0)
  | none, some i =>
    if d.taskUE i then (d.descUE i, 0)
    else
      let d := d.modCore k (fun c => { c with slot := none, running := some i, cancelled := false })
      let d := ((d.setTaskState i 5).setFld (tdAddr i 4) 24 4 k).setBit (tdAddr i 4) 23 true
      let d := d.setReg (Reg.NCP_ENTRY k) (d.reg (tdAddr i 8))
      let d := d.forN 4 (fun d j => d.setReg (Reg.NCP_ARG k j) (d.reg (tdAddr i (0x10 + 4 * j))))
      let d := (d.setReg (Reg.NCP_HOOKDATA k) (d.reg (tdAddr i 0x38))).setRegN (Reg.NCP_SEQ k) (d.flowSeq i)
      (d, BitVec.ofNat 32 (2 ^ 31 + i))

/-- A write of NCP_DONE by core `k` (R270, R274). -/
def Device.ncpDone (d : Device) (k : Nat) (result : Word) : Device :=
  let c := d.coreOf k
  match c.running with
  | none => d.dispFault 0x04 0
  | some i =>
    let d := d.setReg (tdAddr i 0x3C) result
    if d.taskUE i then d.descUE i
    else if c.cancelled then d.cancelAs i 1
    else
      let d := d.modCore k (fun c => { c with running := none, cancelled := false })
      d.taskComplete ⟨i, k, d.regN (Reg.NCP_HOOKDATA k)⟩

/-! ## Cores (R261–R263) -/

/-- Core `k` enters reset (R261). -/
def Device.coreReset (d : Device) (k : Nat) : Device :=
  let c := d.coreOf k
  let d := match c.running with | some i => d.cancelAs i 2 | none => d
  let d := match c.slot with
    | some i => (d.modCore k (fun c => { c with slot := none })).toHead [i]
    | none => d
  let d := { d with regs := Tab.drop (fun a => decide (0x1000000 + 0x1000 * k ≤ a ∧ a < 0x1000000 + 0x1000 * (k + 1))) d.regs }
  d.modCore k (fun c => { c with asleep := false, cancelled := false, cpu := Newt.reset 0 })

/-- Core `k` is released at DISP_RVEC in machine mode (R261). -/
def Device.coreRelease (d : Device) (k : Nat) : Device :=
  d.modCore k (fun c => { c with hold := false, asleep := false, cpu := Newt.reset (d.reg Reg.DISP_RVEC) })

/-- Every core enters reset and is held by hardware, its RUN bit kept (R18, R261). -/
def Device.coresHold (d : Device) : Device :=
  d.forN 16 (fun d k => (if d.coreUp k then d.coreReset k else d).modCore k (fun c => { c with hold := true }))

/-- Nothing holds the cores: the core PLL is locked, and the device is neither asleep nor waking (R18, R19). -/
def Device.coresMay (d : Device) : Bool := d.bit Reg.CLK_STATUS 2 && !d.asleep

/-- Held cores are released once nothing holds them (R18, R261). -/
def Device.coresFree (d : Device) : Device :=
  if d.coresMay then
    d.forN 16 (fun d k =>
      if (d.coreOf k).hold then (if d.bit (Reg.DISP_CORE k) 0 then d.coreRelease k else d.modCore k (fun c => { c with hold := false })) else d)
  else d

/-- A write of DISP_COREk (R261, R269): a core that hardware holds is released when that ends. -/
def Device.coreWrite (d : Device) (k v : Nat) : Device :=
  let was := d.bit (Reg.DISP_CORE k) 0
  let d := d.setFld (Reg.DISP_CORE k) 0 2 v
  if was && !natBit v 0 then d.coreReset k
  else if !was && natBit v 0 then (if d.coresMay then d.coreRelease k else d.modCore k (fun c => { c with hold := true }))
  else d

/-- A core's time CSR: TTIME as its counter holds it, in ns (R257, R310). -/
def Device.timeNs (d : Device) : Nat := d.ttimeNow / 2 ^ 12

/-- NCP_TCMP of core `k` in ns (R263). -/
def Device.tcmp (d : Device) (k : Nat) : Nat := d.reg64 (Reg.NCP_TCMP_LO k) (Reg.NCP_TCMP_HI k)

/-- The machine timer interrupt of core `k` is pending while its time is at or past NCP_TCMP (R263). -/
def Device.timerPend (d : Device) (k : Nat) : Bool := decide (d.tcmp k ≤ d.timeNs)

/-- The time reaches NCP_TCMP of core `k`: the TTIME counter takes its first value that does (R263, R310). -/
def Device.timerReach (d : Device) (k : Nat) : Device := d.reach (roundUp (d.tcmp k * 2 ^ 12) d.timeStride)

/-! ## Delay lists (R273) -/

/-- The tick period in force of list `l`, in ticks of tester time. -/
def Device.tickPeriod (d : Device) (l : Nat) : Nat := max 100 (Tab.get (fun _ => 1000) d.disp.ticks l) * nsTicks

/-- List `l` takes one tick unless the device is in DOZE or RETAIN: its due tasks become READY in order, and its hook is presented (R268, R273). -/
def Device.tickNow (d : Device) (l : Nat) : Device :=
  if d.dozing then d
  else
  let n := (d.regN (Reg.DISP_TCNT l) + 1) % 2 ^ 32
  let d := d.setRegN (Reg.DISP_TCNT l) n
  let due := d.disp.delayed.filter (fun x => x.list = l && x.due = n)
  let d := d.modDisp (fun c =>
    { c with delayed := c.delayed.filter (fun x => !(x.list = l && x.due = n)),
             ticks := Tab.set (fun _ => 1000) c.ticks l (d.regN (Reg.DISP_TICK l)) })
  let d := due.foldl (fun d x => d.onTask x.task .good (fun d => d.makeReady x.task)) d
  if l = 0 then d else d.hook (96 + l) n

/-- Tester time passes the next multiple of list `l`'s period (R273). -/
def Device.listTick (d : Device) (l : Nat) : Device :=
  let p := d.tickPeriod l
  if d.dozing then d else (d.reach ((d.ttime / p + 1) * p)).tickNow l

end Sys2Proof.Machine
end

