-- ==== Sys2Proof/Machine/Intc.lean ====
section
/-! DEFINITION. The interrupt controller (R277–R282): pending, offers, claims, completions, withdrawals, wake lines. -/

namespace Sys2Proof.Machine

/-! ## Sources (R277) -/

/-- The event bits of page `p` that are both set and enabled (PG_EVT_PEND, R414). -/
def Device.evtPend (d : Device) (p : Nat) : Nat := d.regN (Reg.PG_EVT_RAW p) &&& d.regN (Reg.PG_EVT_EN p)

/-- The request of block source `n` is asserted: a PG_EVT_PEND bit routed to it is 1. -/
def Device.srcReq (d : Device) (n : Nat) : Bool :=
  pageTable.any (fun p => (List.range p.count).any (fun i =>
    let e := d.evtPend (p.base + 0x1000 * i)
    e ≠ 0 && (List.range 32).any (fun b => natBit e b && evtSource p.block i b = some n)))

/-- Source IDs that no block or software trigger can make pending: their entries read 0 (R277). -/
def noSource (n : Nat) : Bool :=
  n = 0 || (8 ≤ n && n ≤ 15) || n = 60 || n = 61 || (177 ≤ n && n ≤ 183) || (202 ≤ n && n ≤ 207) || n = 222 || n = 223 ||
    (229 ≤ n && n ≤ 231) || (236 ≤ n && n ≤ 239) || (248 ≤ n && n ≤ 255) || 512 ≤ n

/-- PRIO of source `n`. -/
def Device.srcPrio (d : Device) (n : Nat) : Nat := d.fld (Reg.INTC_SRC (n / 2)) (16 * (n % 2)) 4
/-- GROUP of source `n`. -/
def Device.srcGroup (d : Device) (n : Nat) : Nat := d.fld (Reg.INTC_SRC (n / 2)) (16 * (n % 2) + 8) 4

/-- The controller's context changed. -/
def Device.modIntc (d : Device) (f : IntcCtx → IntcCtx) : Device := { d with intc := f d.intc }

/-- Source `n` becomes pending; never with PRIO 0 (R277). -/
def Device.srcPend (d : Device) (n : Nat) : Device :=
  if d.srcPrio n = 0 || noSource n then d else d.modIntc (fun c => { c with pend := natSetBit c.pend n })

/-- Source `n` is active on some target. -/
def Device.srcActive (d : Device) (n : Nat) : Bool := d.intc.active.any (fun e => e.1 = n)
/-- The target to which source `n` is offered. -/
def Device.srcOffer (d : Device) (n : Nat) : Option Nat := (d.intc.offers.find? (fun e => e.1 = n)).map (·.2)

/-! ## Targets (R278, R282) -/

/-- Target `t` is awake: a core that runs and does not sleep, or Keystone with its firmware running (R262, R363). -/
def Device.tgtAwake (d : Device) (t : Nat) : Bool := if t < 16 then d.coreAwake t else d.bit Reg.MGMT_STATUS 0

/-- Target `t` is in the group, enabled, and passes the threshold for source `n`. -/
def Device.tgtAdmits (d : Device) (n t : Nat) : Bool :=
  d.bit (Reg.INTC_GRP (d.srcGroup n)) t && d.bit (Reg.INTC_TCTRL t) 0 && decide (d.fld (Reg.INTC_THR t) 0 4 < d.srcPrio n)

/-- Target `t` is eligible for source `n` (R278). -/
def Device.tgtEligible (d : Device) (n t : Nat) : Bool := d.tgtAdmits n t && d.tgtAwake t

/-- A source that is pending and neither active nor offered. -/
def Device.wantsOffer (d : Device) (n : Nat) : Bool := natBit d.intc.pend n && !d.srcActive n && (d.srcOffer n).isNone

/-- The offer of a pending source to the next eligible target after that of the group's previous offer; a target it was
withdrawn from comes only where no other is eligible (R278, R281). -/
def Device.intcOffer (d : Device) (n : Nat) : Device :=
  if d.wantsOffer n then
    let g := d.srcGroup n
    let last := Tab.get (fun _ => 16) d.intc.last g
    let order := (List.range 17).map (fun j => (last + 1 + j) % 17)
    let kept := order.filter (fun t => d.tgtEligible n t)
    let best := kept.filter (fun t => !d.intc.excl.contains (n, t))
    match (best ++ kept).head? with
    | some t => d.modIntc (fun c =>
        { c with offers := c.offers ++ [(n, t)], excl := c.excl.filter (fun e => e.1 ≠ n), last := Tab.set (fun _ => 16) c.last g t })
    | none => d
  else d

/-- An offer is withdrawn from its target before a claim (R281). -/
def Device.withdraw (d : Device) (n : Nat) : Device :=
  match d.srcOffer n with
  | some t => d.modIntc (fun c =>
      { c with offers := c.offers.filter (fun e => e.1 ≠ n), withdrawn := natSetBit c.withdrawn t, excl := (n, t) :: c.excl })
  | none => d

/-- Requests that have fallen are forgotten, sources with PRIO 0 stop being pending, and offers to targets that are no
longer eligible are withdrawn (R277, R281). -/
def Device.intcSync (d : Device) : Device :=
  let d := d.modIntc (fun c => { c with seen := c.seen.filter (fun n => d.srcReq n) })
  let off := (List.range 512).filter (fun n => natBit d.intc.pend n && d.srcPrio n = 0)
  let d := off.foldl (fun d n => d.modIntc (fun c => { c with pend := natClearBit c.pend n, offers := c.offers.filter (fun e => e.1 ≠ n) })) d
  (d.intc.offers.map (·.1)).foldl (fun d n =>
    match d.srcOffer n with
    | some t => if d.tgtEligible n t || (decide (t < 16) && d.asleep && d.tgtAdmits n t) then d else d.withdraw n
    | none => d) d

/-- A block source's request rises (R277). -/
def Device.reqEdge (d : Device) (n : Nat) : Device :=
  if d.srcReq n && !d.intc.seen.contains n then (d.modIntc (fun c => { c with seen := c.seen ++ [n] })).srcPend n else d

/-- A write of INTC_SWTRIG (R277, R285). -/
def Device.swTrig (d : Device) (v : Nat) : Device :=
  let n := v % 1024
  if 256 ≤ n ∧ n ≤ 511 then d.srcPend n else d.fault Page.INTC_CTL 0x02

/-! ## Claim and completion (R279, R280) -/

/-- The source a claim of target `t` would return: highest PRIO, lowest ID (R279). -/
def Device.bestOffer (d : Device) (t : Nat) : Option Nat :=
  (d.intc.offers.filter (fun e => e.2 = t)).foldl (fun b e =>
    match b with
    | none => some e.1
    | some m => if d.srcPrio m < d.srcPrio e.1 ∨ (d.srcPrio m = d.srcPrio e.1 ∧ e.1 < m) then some e.1 else some m) none

/-- A read of INTC_CLAIMt (R279). -/
def Device.claim (d : Device) (t : Nat) : Device × Word :=
  match d.bestOffer t with
  | some n =>
    (d.modIntc (fun c =>
      { c with offers := c.offers.filter (fun e => e.1 ≠ n), active := c.active ++ [(n, t)], pend := natClearBit c.pend n,
               withdrawn := natClearBit c.withdrawn t }), BitVec.ofNat 32 n)
  | none => (d.modIntc (fun c => { c with withdrawn := natClearBit c.withdrawn t }), if natBit d.intc.withdrawn t then 1023 else 0)

/-- A write of a source's ID to INTC_CLAIMt (R279, R280). -/
def Device.complete (d : Device) (t v : Nat) : Device :=
  let n := v % 1024
  if d.intc.active.contains (n, t) then
    let d := d.modIntc (fun c => { c with active := c.active.filter (fun e => e.1 ≠ n) })
    let d := if d.srcReq n then d.srcPend n else d
    d.intcOffer n
  else d.fault Page.INTC_CTL 0x01

/-- The targets that source `n` waits for: none of those that its group enables and that pass the threshold is awake. -/
def Device.wakeTarget (d : Device) (n : Nat) : Option Nat :=
  let ts := (List.range 17).filter (fun t => d.tgtAdmits n t)
  if d.wantsOffer n && !ts.any (fun t => d.tgtAwake t) then ts.head? else none

/-- The wake line of target `t` is asserted (R281). -/
def Device.wakeLine (d : Device) (t : Nat) : Bool := (List.range 512).any (fun n => d.wakeTarget n = some t)

/-- INTC_TSTATt (R285). -/
def Device.tgtStat (d : Device) (t : Nat) : Word :=
  BitVec.ofNat 32 ((if d.tgtAwake t then 2 ^ 31 else 0) + (if (d.bestOffer t).isSome then 2 ^ 30 else 0) +
    (if d.wakeLine t then 2 ^ 29 else 0) + (d.intc.active.countP (fun e => e.2 = t)) * 2 ^ 16 + (d.bestOffer t).getD 0)

/-- A write of INTC_SRCm: a source whose group changes has its offer withdrawn (R281); entries without a source read 0. -/
def Device.srcWrite (d : Device) (m v : Nat) : Device :=
  [0, 1].foldl (fun d k =>
    let n := 2 * m + k
    if noSource n then d
    else
      let g := d.srcGroup n
      let d := (d.setFld (Reg.INTC_SRC m) (16 * k) 4 (v / 2 ^ (16 * k))).setFld (Reg.INTC_SRC m) (16 * k + 8) 4 (v / 2 ^ (16 * k + 8))
      if d.srcGroup n = g then d else d.withdraw n) d

/-- A write of INTC_GRPg: offers of the group's sources are made again under the new mask (R283). -/
def Device.grpWrite (d : Device) (g v : Nat) : Device :=
  let d := d.setRegN (Reg.INTC_GRP g) (v % 2 ^ 17)
  ((d.intc.offers.map (·.1)).filter (fun n => d.srcGroup n = g)).foldl (fun d n => d.withdraw n) d

/-- Core `k` executes WFI (R262): with DEEP = 1 it sleeps, and offers to it are withdrawn. -/
def Device.coreWfi (d : Device) (k : Nat) : Device :=
  if d.coreAwake k && d.bit (Reg.NCP_CTL k) 0 then d.modCore k (fun c => { c with asleep := true }) else d

/-- The mip CSR of core `k` (R263, R279): bit 7 while its time is at or past NCP_TCMP, bit 11 its interrupt line, bit 16 a task slotted. -/
def Device.mip (d : Device) (k : Nat) : Nat :=
  (if d.timerPend k then 2 ^ 7 else 0) + (if (d.bestOffer k).isSome then 2 ^ 11 else 0) + (if (d.coreOf k).slot.isSome then 2 ^ 16 else 0)

/-- The interrupts pending on core `k` that its mie enables. -/
def Device.irqs (d : Device) (k : Nat) : Nat := d.mip k &&& (Tab.get (fun _ => (0 : Word)) (d.coreOf k).cpu.csr 0x304).toNat

/-- A sleeping core wakes (R262). -/
def Device.coreWake (d : Device) (k : Nat) : Device :=
  let c := d.coreOf k
  if d.coreUp k && c.asleep && (c.slot.isSome || d.timerPend k || d.wakeLine k || decide (d.irqs k ≠ 0)) then
    d.modCore k (fun c => { c with asleep := false, cpu := { c.cpu with wait := false } })
  else d

/-- What time has brought, when a command that began in `d₀` ends later: results leave the compare pipelines, and final stamps enter
the meters' FIFOs. The events of the engines reach the meters. -/
def Device.caughtUp (d₀ d : Device) : Device :=
  let moved := d.ttime ≠ d₀.ttime
  let d := if moved then d.settlePlay else d
  let d := if moved then d.burstSync else d
  let d := if d.ivmq = d₀.ivmq then d else d.ivmDeliver
  let d := if moved then d.ivmSendAll else d
  if d.disp.bad = d₀.disp.bad then d else Device.descSettle 65536 d

/-- What holds at the end of every command: the interrupt controller has followed the requests and the targets. -/
def Device.settle (d : Device) : Device :=
  if d.intc.pend = 0 ∧ d.intc.seen = [] ∧ d.intc.offers = [] then d else d.intcSync

/-- Runs a device operation as the effect of a command: what it sends is what this command sends. -/
def State.run (s : State) (f : Device → Device) : Host.Outcome State Fault Refusal :=
  .next { s with dev := (s.dev.caughtUp (f { s.dev with out := [] })).settle }

end Sys2Proof.Machine
end

