-- ==== Sys2Proof/Machine/Trestle.lean ====
section
/-! DEFINITION. Trestle below the register packets (R286–R309): link state, packets and credits, the DMA queues, the event
record ring with its notifications, and the host watchdog. -/

namespace Sys2Proof.Machine

/-! ## Links (R291) -/

/-- Link `k`: 0 Trestle, 1 Viaduct up, 2 Viaduct down, 3 twin. -/
def Device.linkOf (d : Device) (k : Nat) : LinkCtx := Tab.get (fun _ => LinkCtx.reset) d.links k
/-- Link `k` changed. -/
def Device.modLink (d : Device) (k : Nat) (f : LinkCtx → LinkCtx) : Device :=
  { d with links := Tab.set (fun _ => LinkCtx.reset) d.links k (f (d.linkOf k)) }
/-- LSTATE of link `k`: 0 DETECT, 1 TRAIN, 2 CONFIG, 3 ACTIVE, 4 RETRAIN, 5 DOZE, 6 TEST. -/
def Device.lst (d : Device) (k : Nat) : Nat := (d.linkOf k).lst

/-- Link `k` enters a state; on Trestle TRS_STATUS follows and LSTATE_CHG is raised (R291). -/
def Device.setLst (d : Device) (k v : Nat) : Device :=
  if d.lst k = v then d
  else
    let d := d.modLink k (fun c => { c with lst := v, agree := 0 })
    if k = 0 then (d.setFld Reg.TRS_STATUS 0 3 v).event Page.TRS 0 else d

/-- A LINK record of Trestle (R302). -/
def Device.linkRec (d : Device) (code lane : Nat) : Device :=
  d.record 0x0C 0x000E0000 (code * 256 + d.fld Reg.TRS_STATUS 8 5) (d.fld Reg.TRS_STATUS 16 16) lane (d.fld Reg.TRS_REPLAY 0 16)

/-- The lanes of link `k` work: their PLL is locked (R18), the regions are out of reset (R432), VIO is in range, bring-up has come to their
training (R366, R368, R369), and DOZE and RETAIN have not shut them off (R19). -/
def Device.laneUp (d : Device) (k : Nat) : Bool :=
  let st := d.fld Reg.MGMT_STATUS 24 8
  d.bit Reg.CLK_STATUS 4 && !d.regionReset && d.vioIn &&
    (k = 0 || !(d.pwrState = 2 || d.pwrState = 3 || (d.pwrState = 5 && d.pwr.phase = 1))) &&
    (st = 7 || ((st = 5 || st = 6 || st = 0x0D) && (natBit d.key.steps 0 || (k = 0 && d.fld Reg.MGMT_STATUS 16 2 = 2))))

/-- Held equalisation applies on the lanes of `lanes`, which train (R290). -/
def Device.eqApply (d : Device) (lanes : Nat) : Device :=
  d.forN 16 (fun d i => if natBit lanes i then (d.setApp (Reg.TRS_LEQ i) (d.reg (Reg.TRS_LEQ i))).setBit (Reg.TRS_LST i) 5 false else d)

/-- The Trestle context changed. -/
def Device.modTrs (d : Device) (f : TrsCtx → TrsCtx) : Device := { d with trs := f d.trs }

/-- Training sets leave on the lanes `lanes` of link `k`, proposing `mask`; TS2 carries logical lane numbers in ascending physical order
(R288, R291). -/
def Device.sendTs (d : Device) (k lanes mask : Nat) (ts2 wake fast : Bool) : Device :=
  d.forN 16 (fun d i =>
    if natBit lanes i then
      d.emit (.train ⟨k, i, ts2, d.fld Reg.CHIP_STRAP 0 6, mask, wake, fast, if ts2 then popCount mask i else 0xFF⟩)
    else d)

/-- The lanes on which a link retrains: those still locked, and those that are added (R291, R292). -/
def LinkCtx.locked (c : LinkCtx) : Nat := let m := c.active ||| c.join; m - (m &&& (c.lost - (c.lost &&& c.join)))

/-- The lanes of a link that may train. -/
def Device.laneEn (d : Device) (k : Nat) : Nat :=
  match k with
  | 0 => d.fld Reg.TRS_CTRL 0 16
  | 1 => if d.bit Reg.VIA_CTRL 0 then 3 else 0
  | 2 => if d.bit Reg.VIA_CTRL 1 then 3 else 0
  | _ => if d.bit Reg.TWN_CTRL 0 && d.bit Reg.CHIP_STRAP 7 then 15 else 0

/-- In DETECT the F256 sends TS1 on every enabled lane, where the lanes work (R291). -/
def Device.detectTs (d : Device) (k : Nat) : Device := if d.laneUp k then d.sendTs k (d.laneEn k) 0xFFFF false false false else d

/-- A fast retrain begins on link `k`: training sets with bit 1 of byte 5 set, and the wake bit after the DOZE link state (R288, R291). -/
def Device.retrainTs (d : Device) (k : Nat) (wake : Bool) : Device :=
  let m := (d.linkOf k).locked
  d.sendTs k m m false wake true

/-- The link enters RETRAIN; held equalisation applies on the lanes that train (R290, R292). -/
def Device.trsRetrain (d : Device) (wake : Bool) : Device :=
  ((d.eqApply (d.linkOf 0).locked).setLst 0 4).retrainTs 0 wake

/-! ## Packets to the host (R295–R298) -/

/-- The credit class of a packet type: 0 posted, 1 non-posted, 2 completion (R295). -/
def pktClass (type : Nat) : Nat := if type = 5 ∨ type = 1 then 1 else if type = 3 ∨ type = 4 then 2 else 0

/-- The host's credits for a class. -/
def Device.creditOf (d : Device) (c : Nat) : Credit := Tab.get (fun _ => Credit.reset) d.trs.credit c

/-- Data units of 64 bytes of a packet. -/
def pktUnits (p : DataPkt) : Nat := ceilDiv p.payload.length 16

/-- Bytes of a packet in the replay buffer: header and payload. -/
def pktBytes (p : DataPkt) : Nat := 16 + 4 * p.payload.length

/-- A packet may be sent now: the link is ACTIVE, its class has credit and the replay buffer has room (R297, R298). Completions are bounded only by a
credit that the host has given for them. -/
def Device.canSend (d : Device) (p : DataPkt) : Bool :=
  let c := d.creditOf (pktClass p.type)
  d.lst 0 = 3 && ((!c.known && pktClass p.type = 2) || (c.known && decide (1 ≤ (c.hdr + 256 - c.usedHdr) % 256) &&
    decide (pktUnits p ≤ (c.units + 65536 - c.usedUnits) % 65536))) &&
    decide ((d.trs.unacked.map pktBytes).foldl (· + ·) 0 + pktBytes p ≤ 32768)

/-- A packet leaves with the next SEQ and is kept until it is acknowledged (R297). A posted one brings the status of a finished descriptor
that stands behind it nearer (R301). -/
def Device.sendPkt (d : Device) (p : DataPkt) : Device :=
  let p := { p with seq := d.trs.txSeq }
  let k := pktClass p.type
  let c := d.creditOf k
  let c := { c with usedHdr := (c.usedHdr + 1) % 256, usedUnits := (c.usedUnits + pktUnits p) % 65536 }
  let nearer (q : DmaCtx) : DmaCtx := if k = 0 then { q with closing := q.closing.map (· - 1) } else q
  (d.modTrs (fun t =>
    { t with txSeq := (t.txSeq + 1) % 4096, unacked := t.unacked ++ [p], dq := t.dq.map (fun e => (e.1, nearer e.2)), credit := Tab.set (fun _ => Credit.reset) t.credit k c })).emit
    (.pkt p)

/-- A packet joins those that wait to be sent. -/
def Device.queuePkt (d : Device) (type tag status vec addr : Nat) (payload : List Word) : Device :=
  d.modTrs (fun t => { t with txq := t.txq ++ [⟨0, type, tag, status, vec, payload.length, addr, payload⟩] })

/-- A read of `n` dwords of host memory joins those packets: LEN is what it asks for, and it has no payload (R295, R299). -/
def Device.queueMrd (d : Device) (tag addr n : Nat) : Device :=
  d.modTrs (fun t => { t with txq := t.txq ++ [⟨0, 5, tag, 0, 0, n, addr, []⟩] })

/-- The first waiting packet that may go: packets of one class keep their order. -/
def Device.nextPkt (d : Device) (blocked : List Nat) : List DataPkt → List DataPkt → Option (DataPkt × List DataPkt)
  | _, [] => none
  | pre, p :: rest =>
    let k := pktClass p.type
    if !blocked.contains k && d.canSend p then some (p, pre ++ rest) else d.nextPkt (k :: blocked) (pre ++ [p]) rest

/-! ## DMA (R299–R301) -/

/-- DMA queue `q`. -/
def Device.dmaOf (d : Device) (q : Nat) : DmaCtx := Tab.get (fun _ => DmaCtx.reset) d.trs.dq q
/-- DMA queue `q` changed. -/
def Device.modDma (d : Device) (q : Nat) (f : DmaCtx → DmaCtx) : Device :=
  d.modTrs (fun t => { t with dq := Tab.set (fun _ => DmaCtx.reset) t.dq q (f (d.dmaOf q)) })

/-- TRS_DQn_STAT.BUSY: a descriptor is in progress. -/
def Device.dmaBusy (d : Device) (q : Nat) : Bool := d.bit (Reg.TRS_DQ_STAT q) 16

/-- Dword `i` of the descriptor in progress. -/
def DmaCtx.word (c : DmaCtx) (i : Nat) : Word := c.desc.getD i 0
/-- HOST. -/
def DmaCtx.host (c : DmaCtx) : Nat := Word.join (c.word 0) (c.word 1)
/-- VEC. -/
def DmaCtx.vec (c : DmaCtx) : Nat := Word.join (c.word 2) (c.word 3)
/-- LEN. -/
def DmaCtx.len (c : DmaCtx) : Nat := (c.word 4).toNat
/-- DIR: vector memory to host. -/
def DmaCtx.toHost (c : DmaCtx) : Bool := (c.word 5).bit 31

/-- The host address of the descriptor at HEAD. -/
def Device.dmaSlot (d : Device) (q : Nat) : Nat := d.reg64 (Reg.TRS_DQ_BASE_LO q) (Reg.TRS_DQ_BASE_HI q) + 32 * d.regN (Reg.TRS_DQ_HEAD q)

/-- A descriptor waits and may be fetched (R300). -/
def Device.dmaWaits (d : Device) (q : Nat) : Bool :=
  d.bit (Reg.TRS_DQ_CTRL q) 31 && !d.bit (Reg.TRS_DQ_STAT q) 8 && !d.dmaBusy q && !(d.dmaOf q).disable && !d.trs.dozeWait &&
    d.regN (Reg.TRS_DQ_HEAD q) ≠ d.regN (Reg.TRS_DQ_TAIL q) && decide (d.pwrState ≤ 1)

/-- The lowest MRD tag that is free; at most 64 are outstanding (R298). -/
def Device.freeTag (d : Device) : Option Nat := (List.range 64).find? (fun t => !d.trs.mrds.any (fun m => m.tag = t))

/-- The descriptor of queue `q` ends with a code; its reads are given up. -/
def Device.dmaEnd (d : Device) (q code : Nat) : Device :=
  let d := d.modTrs (fun t => { t with mrds := t.mrds.filter (fun m => m.queue ≠ q) })
  d.modDma q (fun c => { c with code := some (if c.code.getD 0 = 0 then code else c.code.getD 0), got := [], have_ := [] })

/-- `n` dwords of vector memory from `a`; those of a word with an uncorrectable error are free (R224, log entry 2). -/
def Device.dmaWords (d : Device) (a n : Nat) : Device × List Word :=
  (List.range n).foldl (fun (x : Device × List Word) i =>
    let d := x.1
    if d.memUE (a + 4 * i) 4 then
      let y := d.draw
      (y.2, x.2 ++ [BitVec.ofNat 32 y.1])
    else (d, x.2 ++ [BitVec.ofNat 32 (d.memRead (a + 4 * i) 4)])) (d, [])

/-- The next packet of queue `q` and the bytes of data it moves, at most `room`: the read of a waiting descriptor, a read of host data, or a
write of vector data. -/
def Device.dmaNext (d : Device) (q room : Nat) : Option (Device × Nat) :=
  let c := d.dmaOf q
  if d.dmaWaits q then
    d.freeTag.map (fun t =>
      (((d.setBit (Reg.TRS_DQ_STAT q) 16 true).modTrs (fun x => { x with mrds := x.mrds ++ [⟨t, q, true, 0, 8⟩] })).queueMrd t (d.dmaSlot q) 8, 0))
  else if d.dmaBusy q && c.run && c.code.isNone && decide (c.sent < c.len) then
    let n := min (min 256 room) (c.len - c.sent)
    if c.toHost then
      let bad := d.badWords (c.vec + c.sent) n
      let d := bad.foldl (fun d a => d.memUEfree a 1 noStream) d
      let w := d.dmaWords (c.vec + c.sent) (n / 4)
      let d := w.1.touchRows (c.vec + c.sent) n
      let d := d.queuePkt 6 0 0 0 (c.host + c.sent) w.2
      let d := d.modDma q (fun c => { c with sent := c.sent + n, done := c.done + n, lostB := c.lostB + 8 * bad.length })
      let c := d.dmaOf q
      some (if c.done = c.len then (if c.lostB = 0 then d.dmaEnd q 0 else d.dmaEnd q 3) else d, n)
    else
      d.freeTag.map (fun t =>
        (((d.modTrs (fun x => { x with mrds := x.mrds ++ [⟨t, q, false, c.sent, n / 4⟩] })).queueMrd t (c.host + c.sent) (n / 4)).modDma
          q (fun c => { c with sent := c.sent + n }), n))
  else none

/-- The two queues are served in alternate 4 KiB pieces (R299). -/
def Device.dmaServe (d : Device) : Option Device :=
  let t := d.trs.turn
  let o := 1 - t
  let first := if d.trs.left = 0 then o else t
  let use (d : Device) (q : Nat) : Option Device :=
    let room := if q = t ∧ d.trs.left ≠ 0 then d.trs.left else 4096
    (d.dmaNext q room).map (fun r => r.1.modTrs (fun x => { x with turn := q, left := room - r.2 }))
  match use d first with
  | some d => some d
  | none => use d (1 - first)

/-- A disable of a queue sets HEAD and TAIL to 0 (R308). -/
def Device.dmaZero (d : Device) (q : Nat) : Device :=
  ((d.setRegN (Reg.TRS_DQ_HEAD q) 0).setRegN (Reg.TRS_DQ_TAIL q) 0).modDma q (fun c => { c with disable := false })

/-- The status dword of the descriptor of queue `q` has been written: HEAD advances, DMA_DONE is raised, the INTR follows, and an error stops
the queue (R300, R301). -/
def Device.dmaClose (d : Device) (q : Nat) : Device :=
  let c := d.dmaOf q
  if c.closing ≠ some 0 then d
  else
    let code := c.code.getD 0
    let size := d.regN (Reg.TRS_DQ_SIZE q)
    let head := d.regN (Reg.TRS_DQ_HEAD q) + 1
    let d := (d.setRegN (Reg.TRS_DQ_HEAD q) (if head = size then 0 else head)).setBit (Reg.TRS_DQ_STAT q) 16 false
    let d := d.event Page.TRS 3
    let d := if (c.word 5).bit 30 then d.queuePkt 7 0 0 (d.fld (Reg.TRS_DQ_CTRL q) 0 16 % 256) 0 [] else d
    let d := if code = 0 then d
      else ((d.setBit (Reg.TRS_DQ_STAT q) 8 true).setFld (Reg.TRS_DQ_STAT q) 0 8 code).event Page.TRS 4
    let d := d.modDma q (fun _ => { DmaCtx.reset with disable := c.disable })
    if c.disable then d.dmaZero q else d

/-- Sends what may be sent: waiting packets first, then DMA packets for as long as none waits that cannot go. -/
def Device.pumpN : Nat → Device → Device
  | 0, d => d
  | n + 1, d =>
    match d.nextPkt [] [] d.trs.txq with
    | some (p, rest) => Device.pumpN n ((((d.modTrs (fun t => { t with txq := rest })).sendPkt p).dmaClose 0).dmaClose 1)
    | none =>
      if d.trs.txq.isEmpty && d.lst 0 = 3 then
        match d.dmaServe with
        | some d => Device.pumpN n d
        | none => d
      else d

/-- Sends what may be sent. Credits of at most 255 headers a class bound the work. -/
def Device.pump (d : Device) : Device := Device.pumpN 4096 d

/-- A fetched descriptor is checked, and its transfer begins or it ends (R299, R300). -/
def Device.dmaFetched (d : Device) (q : Nat) : Device :=
  let c := d.dmaOf q
  if !d.dmaBusy q || c.desc.isEmpty || c.run || c.code.isSome then d
  else
    let d := d.modDma q (fun c => { c with run := true })
    let a := c.vec
    let n := c.len
    if (c.word 5).get 16 14 ≠ 0 then d.dmaEnd q 0x06
    else if n % 4 ≠ 0 ∨ n < 4 ∨ a % 4 ≠ 0 ∨ c.host % 4 ≠ 0 ∨ memEnd < a + n ∨ stackOf a ≠ stackOf (a + n - 1) ∨ !d.memThere a n then
      d.dmaEnd q 0x01
    else d.pump

/-- Pieces of a transfer to vector memory are written as far as their data is there (R300). -/
def Device.dmaPieces (q : Nat) : Nat → Device → Device
  | 0, d => d
  | fuel + 1, d =>
    let c := d.dmaOf q
    let a := c.vec + c.done
    let n := min ((a / 64 + 1) * 64) (c.vec + c.len) - a
    if c.code.isSome ∨ n = 0 ∨ c.have_.length * 4 < n then d
    else
      match d.overActive a n with
      | some s => (d.event (Page.STR s) 6).dmaEnd q 0x02
      | none =>
        let bad := (d.badWords a n).filter (fun w => !(decide (a ≤ w) && decide (w + 8 ≤ a + n)))
        if !bad.isEmpty then (bad.foldl (fun d w => d.memUEfree w 3 noStream) d).dmaEnd q 0x03
        else
          let v := (List.range (n / 4)).foldl (fun x i => x + (c.have_.getD i 0).toNat * 2 ^ (32 * i)) 0
          let d := ((d.memStore a n v).touchRow a).hashStale
          let d := d.modDma q (fun c => { c with done := c.done + n, have_ := c.have_.drop (n / 4) })
          if c.done + n = c.len then d.dmaEnd q 0x00 else Device.dmaPieces q fuel d

/-- Data that has arrived joins what is there in order. -/
def Device.dmaJoin (q : Nat) : Nat → Device → Device
  | 0, d => d
  | fuel + 1, d =>
    let c := d.dmaOf q
    match c.got.find? (fun g => g.1 = c.done + 4 * c.have_.length) with
    | some g => Device.dmaJoin q fuel (d.modDma q (fun c => { c with have_ := c.have_ ++ g.2, got := c.got.filter (fun x => x.1 ≠ g.1) }))
    | none => d

/-- A completion with data for an outstanding MRD (R299). A completion that answers none, or of another length, is counted
as a bad packet. -/
def Device.dmaData (d : Device) (tag : Nat) (data : List Word) : Device :=
  match d.trs.mrds.find? (fun m => m.tag = tag && m.len = data.length) with
  | none => d.addSat Reg.TRS_CRCERR 16 16 1
  | some m =>
    let d := d.modTrs (fun t => { t with mrds := t.mrds.filter (fun x => x.tag ≠ tag) })
    if m.fetch then d.modDma m.queue (fun c => { c with desc := data })
    else
      let d := d.modDma m.queue (fun c => { c with got := c.got ++ [(m.ofs, data)] })
      let d := Device.dmaJoin m.queue 65 d
      (Device.dmaPieces m.queue ((d.dmaOf m.queue).have_.length + 1) d).pump

/-- A read of host memory ends without data (R298, R300). -/
def Device.dmaReadFail (d : Device) (tag code : Nat) : Device :=
  match d.trs.mrds.find? (fun m => m.tag = tag) with
  | none => d
  | some m => (d.dmaEnd m.queue code).pump

/-- A descriptor is finished: its DONEB and status dwords join the packets to be sent, and the rest follows when the status has been written
(R300, R301). -/
def Device.dmaDone (d : Device) (q : Nat) : Device :=
  let c := d.dmaOf q
  match c.code with
  | none => d
  | some code =>
    if c.closing.isSome then d else
    let a := d.dmaSlot q
    let d := d.queuePkt 6 0 0 0 (a + 0x18) [BitVec.ofNat 32 (c.done - c.lostB)]
    let d := d.queuePkt 6 0 0 0 (a + 0x1C) [BitVec.ofNat 32 (2 ^ 31 + code % 256)]
    (d.modDma q (fun c => { c with closing := some (d.trs.txq.countP (fun p => decide (pktClass p.type = 0))) })).pump

/-- EN of a queue is cleared (R308). -/
def Device.dmaDisable (d : Device) (q : Nat) : Device :=
  if d.dmaBusy q then d.modDma q (fun c => { c with disable := true }) else d.dmaZero q

/-- TRS_CMD.DQn_RESTART (R300). -/
def Device.dmaRestart (d : Device) (q : Nat) : Device := (d.setBit (Reg.TRS_DQ_STAT q) 8 false).pump

/-- A DMA transfer is in progress for R22: a queue with posted descriptors (R300). -/
def Device.dmaPosted (d : Device) : Bool :=
  (List.range 2).any (fun q => d.dmaBusy q || (d.bit (Reg.TRS_DQ_CTRL q) 31 && d.regN (Reg.TRS_DQ_HEAD q) ≠ d.regN (Reg.TRS_DQ_TAIL q)))

/-! ## Packets from the host (R297) -/

/-- A link packet to the host. -/
def Device.sendLnk (d : Device) (ltype seq cls hdr units : Nat) : Device := d.emit (.lnk ⟨ltype, seq, cls, hdr, units⟩)

/-- SEQ of the last packet accepted. -/
def Device.lastSeq (d : Device) : Nat := (d.trs.rxSeq + 4095) % 4096

/-- The cumulative ACK. -/
def Device.sendAck (d : Device) : Device := (d.sendLnk 1 d.lastSeq 0 0 0).modTrs (fun t => { t with ackDue := 0 })

/-- A packet that is not accepted: a duplicate is acknowledged, any other is counted and answered with NAK (R297). -/
def Device.rejectPkt (d : Device) (seq : Nat) (good : Bool) : Device :=
  if good ∧ 1 ≤ (d.trs.rxSeq + 4096 - seq) % 4096 ∧ (d.trs.rxSeq + 4096 - seq) % 4096 ≤ 2048 then d.sendAck
  else (d.addSat Reg.TRS_CRCERR 0 16 1).sendLnk 2 d.lastSeq 0 0 0

/-- A good data packet arrives: `f` acts on it when its SEQ is the next one, and its credits become due (R297, R298). -/
def Device.onPkt (d : Device) (seq cls units : Nat) (f : Device → Device) : Device :=
  if d.lst 0 ≠ 3 then d
  else if seq ≠ d.trs.rxSeq then d.rejectPkt seq true
  else
    let d := d.modTrs (fun t =>
      { t with rxSeq := (t.rxSeq + 1) % 4096, ackDue := t.ackDue + 1,
               grantH := if cls = 0 then (t.grantH + 1) % 256 else t.grantH,
               grantU := if cls = 0 then (t.grantU + units) % 65536 else t.grantU,
               grantN := if cls = 1 then (t.grantN + 1) % 256 else t.grantN, grantDue := t.grantDue || cls ≠ 2 })
    let d := f d
    if 16 ≤ d.trs.ackDue then d.sendAck else d

/-- A packet that R295 does not admit: a non-posted request is answered with CPLE STATUS 0x2, a posted one is discarded. -/
def Device.badPkt (d : Device) (tag : Nat) (nonPosted : Bool) : Device :=
  let d := d.addSat Reg.TRS_CRCERR 16 16 1
  if nonPosted then (d.queuePkt 4 tag 2 0 0 []).pump else d

/-! ## Acknowledgement and replay (R297) -/

/-- Every unacknowledged packet is sent again, in order; the fourth futile replay in a row starts a retrain. -/
def Device.trsReplay (d : Device) : Device :=
  if d.trs.unacked.isEmpty then d
  else
    let d := (d.addSat Reg.TRS_REPLAY 0 16 1).event Page.TRS 2
    let d := d.trs.unacked.foldl (fun d p => d.emit (.pkt p)) d
    let d := d.modTrs (fun t => { t with futile := t.futile + 1 })
    if d.trs.futile = 4 then
      ((((d.modTrs (fun t => { t with futile := 0 })).addSat Reg.TRS_REPLAY 16 16 1).trsRetrain false).linkRec 0x06 0xFF)
    else d

/-- Packets up to SEQ `seq` are acknowledged. -/
def Device.acked (d : Device) (seq : Nat) : Device :=
  if d.trs.unacked.any (fun p => p.seq = seq) then
    (d.modTrs (fun t => { t with unacked := (t.unacked.dropWhile (fun p => p.seq ≠ seq)).drop 1, futile := 0 })).pump
  else d

/-- The twin journal is full: posted credits are withheld until it has room (R399). -/
def Device.journalFull (d : Device) : Bool := decide (journalSize ≤ d.twin.journal.length)

/-- Entry to ACTIVE (R298): credits start anew, posted ones where the twin journal has room, and what was not acknowledged is replayed (R292). -/
def Device.trsActive (d : Device) : Device :=
  let d := d.modTrs (fun t => { t with credit := Tab.drop (fun _ => false) (t.credit.map (fun e => (e.1, { e.2 with known := false }))), grantDue := d.journalFull })
  let d := (if d.journalFull then d else d.sendLnk 3 0 0 d.trs.grantH d.trs.grantU).sendLnk 3 0 1 d.trs.grantN 0
  d.trsReplay

/-- The host's credits of a class (R298). -/
def Device.gotCredit (d : Device) (cls hdr units : Nat) : Device :=
  let c := d.creditOf cls
  (d.modTrs (fun t => { t with credit := Tab.set (fun _ => Credit.reset) t.credit cls { c with hdr := hdr, units := units, known := true } })).pump

/-- Unreturned credits go to the host (R298); posted ones are withheld while the twin journal is full (R399). -/
def Device.creditReturn (d : Device) : Device :=
  if d.lst 0 = 3 && d.trs.grantDue then
    let full := d.journalFull
    let d := if full then d else d.sendLnk 3 0 0 d.trs.grantH d.trs.grantU
    (d.sendLnk 3 0 1 d.trs.grantN 0).modTrs (fun t => { t with grantDue := full })
  else d

/-! ## The event ring (R303, R304) -/

/-- Records of the ring. -/
def Device.evqSize (d : Device) : Nat := 2 ^ d.fld Reg.EVQ_SIZE 0 5

/-- EVQ_STATUS.FULL follows the counts; FULL is raised when it changes to 1 (R303). -/
def Device.evqFull (d : Device) : Device :=
  let full := decide (d.evqSize ≤ (d.regN Reg.EVQ_PROD + 2 ^ 32 - d.regN Reg.EVQ_CONS) % 2 ^ 32)
  let d' := d.setBit Reg.EVQ_STATUS 2 full
  if full && !d.bit Reg.EVQ_STATUS 2 then d'.event Page.EVQ 1 else d'

/-- A notification, where one of the conditions of R304 holds or `force`. -/
def Device.evqNotify (d : Device) (force : Bool) : Device :=
  let c := d.evq
  let usec := d.fld Reg.EVQ_MOD 0 16
  let due := force || decide (max 1 (d.fld Reg.EVQ_MOD 16 8) ≤ c.owed) || decide (d.fld Reg.EVQ_MOD 24 8 ≤ c.worst) ||
    (usec ≠ 0 && decide (c.oldest + usec * usTicks ≤ d.ttime))
  if d.bit Reg.EVQ_CTRL 16 && d.lst 0 = 3 && c.owed ≠ 0 && due then
    let d := { d.setBit Reg.EVQ_STATUS 1 false with evq := EvqCtx.reset }
    (d.queuePkt 7 0 0 (d.fld Reg.EVQ_CTRL 0 16 % 256) 0 []).pump
  else d

/-- The dwords of a record (R302). -/
def recWords (r : EvRec) (phase : Bool) : List Word :=
  let w (n : Nat) : Word := BitVec.ofNat 32 n
  [w r.ttime, w (r.ttime / 2 ^ 32), w r.source, w r.code, w r.p0, w r.p1, w r.p2,
   w ((if phase then 2 ^ 31 else 0) + r.seq * 2 ^ 16 + r.type * 2 ^ 8 + r.sev)]

/-- One record goes to the next slot of the ring in two MWR packets (R303). -/
def Device.evqPut (d : Device) (r : EvRec) : Device :=
  let n := d.regN Reg.EVQ_PROD
  let size := d.evqSize
  let ws := recWords r (d.bit Reg.EVQ_STATUS 0)
  let a := d.reg64 Reg.EVQ_BASE_LO Reg.EVQ_BASE_HI + 32 * (n % size)
  let d := (d.queuePkt 6 0 0 0 a (ws.take 7)).queuePkt 6 0 0 0 (a + 0x1C) (ws.drop 7)
  let d := d.setRegN Reg.EVQ_PROD (n + 1)
  let d := if (n + 1) % size = 0 then d.setBit Reg.EVQ_STATUS 0 (!d.bit Reg.EVQ_STATUS 0) else d
  let c := d.evq
  let d := { d.setBit Reg.EVQ_STATUS 1 true with
    evq := ⟨c.owed + 1, if c.owed = 0 then d.ttime else c.oldest, max c.worst r.sev⟩ }
  (d.evqFull.pump).evqNotify false

/-- The ring takes a record now (R303). -/
def Device.evqRoom (d : Device) : Bool := d.bit Reg.EVQ_CTRL 31 && !d.bit Reg.EVQ_STATUS 2

/-- Both packets of a record can go now: the link is ACTIVE, no posted packet waits, and credit and replay buffer have room for two headers
and two data units (R297, R298, R303). -/
def Device.evqGo (d : Device) : Bool :=
  let c := d.creditOf 0
  d.lst 0 = 3 && !d.trs.txq.any (fun p => decide (pktClass p.type = 0)) && c.known &&
    decide (2 ≤ (c.hdr + 256 - c.usedHdr) % 256) && decide (2 ≤ (c.units + 65536 - c.usedUnits) % 65536) &&
    decide ((d.trs.unacked.map pktBytes).foldl (· + ·) 0 + 64 ≤ 32768)

/-- The next record is written: the LOG record of discarded ones first (R303). -/
def Device.evqWrite (d : Device) : Device :=
  match d.evbuf with
  | [] => d
  | r :: rest =>
    if d.evlost ≠ 0 then
      let seq := d.fld Reg.EVQ_SEQ 0 15
      let d := d.setFld Reg.EVQ_SEQ 0 15 (seq + 1)
      let n := d.evlost
      { d with evlost := 0 }.evqPut ⟨d.ttime % 2 ^ 64, 0x000F0000, 1, n % 2 ^ 32, 0, 0, 0x14, 2, seq⟩
    else { d with evbuf := rest }.evqPut r

/-- A record is due: in ACTIVE it is written, or stays in the buffer while its packets cannot go; in the DOZE link state the link wakes first
(R303, R305). -/
def Device.evqStep (d : Device) : Device :=
  if d.evbuf.isEmpty || !d.evqRoom then d
  else if d.lst 0 = 3 then (if d.evqGo then d.evqWrite else d)
  else if d.lst 0 = 5 then
    (d.trsRetrain true).linkRec 0x08 0xFF
  else d

/-- Every record for which the ring has room is written, as far as its packets can go. -/
def Device.evqDrain : Nat → Device → Device
  | 0, d => d
  | n + 1, d => if d.evbuf.isEmpty || !d.evqRoom || !d.evqGo then d else Device.evqDrain n d.evqWrite

/-- EVQ_CTRL.EN changes from 0 to 1 (R303). -/
def Device.evqEnable (d : Device) : Device :=
  let d := (d.setRegN Reg.EVQ_PROD 0).setRegN Reg.EVQ_CONS 0
  let d := ((d.setBit Reg.EVQ_STATUS 0 true).setBit Reg.EVQ_STATUS 1 false).setBit Reg.EVQ_STATUS 2 false
  { d with evq := EvqCtx.reset }

/-- A write of EVQ_CTRL. -/
def Device.evqCtrl (d : Device) (v : Nat) : Device :=
  let was := d.bit Reg.EVQ_CTRL 31
  let d := d.setRegN Reg.EVQ_CTRL (v &&& 0x8001FFFF)
  let d := if !was && natBit v 31 then d.evqEnable else d
  d.evqNotify false

/-- A write of EVQ_CONS (R304). -/
def Device.evqCons (d : Device) (v : Nat) : Device :=
  let prod := d.regN Reg.EVQ_PROD
  let old := d.regN Reg.EVQ_CONS
  if (prod + 2 ^ 32 - old) % 2 ^ 32 < (v % 2 ^ 32 + 2 ^ 32 - old) % 2 ^ 32 then d.fault Page.EVQ 0x02
  else (d.setRegN Reg.EVQ_CONS v).evqFull

/-- The oldest unnotified record reaches the age limit (R304). -/
def Device.evqAge (d : Device) : Device :=
  let usec := d.fld Reg.EVQ_MOD 0 16
  if usec ≠ 0 ∧ d.evq.owed ≠ 0 then (d.reach (d.evq.oldest + usec * usTicks)).evqNotify false else d

/-- Signal detect and lock of every lane fall; they rise again with training sets (R308).
DEDUCED: the spec gives the bits their meaning and no instant (log entry 117). -/
def Device.lanesDark (d : Device) : Device := d.forN 16 (fun d i => (d.setBit (Reg.TRS_LST i) 0 false).setBit (Reg.TRS_LST i) 1 false)

/-- A DOZE_REQ that was not refused is answered once every record for which the ring has room has left, and the notification after them (R305). -/
def Device.dozeStep (d : Device) : Device :=
  if !d.trs.dozeWait || d.lst 0 ≠ 3 then d
  else
    let d := (Device.evqDrain 512 d).evqNotify true
    if (!d.evbuf.isEmpty && d.evqRoom) || d.trs.txq.any (fun p => decide (pktClass p.type = 0)) then d
    else
      let d := (d.modTrs (fun t => { t with dozeWait := false })).sendLnk 5 0 0 0 0
      ((d.emit (.idleSet 0 (d.linkOf 0).active)).lanesDark).setLst 0 5

/-- DOZE_REQ (R305). -/
def Device.dozeReq (d : Device) : Device :=
  if d.lst 0 ≠ 3 then d
  else if d.dmaBusy 0 || d.dmaBusy 1 || !d.trs.mrds.isEmpty then d.sendLnk 6 0 0 0 0
  else ((d.linkRec 0x07 0xFF).modTrs (fun t => { t with dozeWait := true })).dozeStep

/-! ## The host watchdog (R306) -/

/-- Ticks in one millisecond. -/
def msTicks : Nat := 1000 * usTicks

/-- A write of TRS_WDOG: the period, counted from now; an expired watchdog is restarted. -/
def Device.wdogSet (d : Device) (v : Nat) : Device :=
  { (d.setRegN Reg.TRS_WDOG (v % 2 ^ 24)).modTrs (fun t => { t with kick := d.ttime }) with wdExpired := false }

/-- A write of TRS_WDKICK. -/
def Device.wdogKick (d : Device) (v : Nat) : Device :=
  if v % 256 = 0xA5 then d.modTrs (fun t => { t with kick := d.ttime }) else d.fault Page.TRS 0x02

/-- The watchdog expires: cause WDOG, the event and the log entry. -/
def Device.wdogExpire (d : Device) : Device :=
  if d.regN Reg.TRS_WDOG = 0 ∨ d.wdExpired then d
  else
    let d := { d.reach (d.trs.kick + d.regN Reg.TRS_WDOG * msTicks) with wdExpired := true }
    ((d.event Page.TRS 8).logWith 0x000E0000 0x0052 0 0).safeCause 8

/-- TRS_WDLEFT: whole ms to expiry. -/
def Device.wdogLeft (d : Device) : Nat :=
  if d.wdExpired then 0 else (d.trs.kick + d.regN Reg.TRS_WDOG * msTicks - d.ttime) / msTicks

/-! ## Tests and equalisation (R290, R294) -/

/-- The link leaves use: no lane is active; a link that was up writes its LINK record. -/
def Device.trsDown (d : Device) : Device :=
  let up := d.lst 0 = 3 || d.lst 0 = 4 || d.lst 0 = 5
  let d := ((d.modLink 0 (fun c => { c with active := 0, mine := 0 })).modTrs (fun t => { t with dozeWait := false })).lanesDark
  let d := (d.setFld Reg.TRS_STATUS 8 5 0).setFld Reg.TRS_STATUS 16 16 0
  let d := d.forN 16 (fun d i => (d.setBit (Reg.TRS_LST i) 2 false).setFld (Reg.TRS_LST i) 8 8 0xFF)
  if up then d.linkRec 0x02 0xFF else d

/-- A write of TRS_TEST (R294). -/
def Device.trsTest (d : Device) (v : Nat) : Device :=
  let loop := v % 4
  let pat := v / 16 % 8
  if loop = 3 ∨ 4 < pat ∨ (loop = 2 ∧ pat ≠ 0) then d.fault Page.TRS 0x02
  else
    let d := d.setRegN Reg.TRS_TEST (v &&& 0xFFFF0073)
    if v &&& 0xFFFF0073 = 0 then
      if d.lst 0 = 6 then ((d.setLst 0 0).modLink 0 (fun c => { LinkCtx.reset with lost := c.lost })).detectTs 0 else d
    else
      let d := if pat = 0 then d else d.forN 16 (fun d i => if natBit v (16 + i) then d.setFld (Reg.TRS_LST i) 16 16 0 else d)
      let d := if loop = 1 then d.emit (.idleSet 0 (v / 2 ^ 16 % 2 ^ 16)) else d
      d.trsDown.setLst 0 6

/-- The pattern checkers count the bit errors that they find in one clock (R294): how many, the spec cannot say; 4 bits pass. -/
def Device.prbsClock (d : Device) : Device :=
  if d.lst 0 = 6 ∧ d.fld Reg.TRS_TEST 4 3 ≠ 0 then
    d.forN 16 (fun d i =>
      if d.bit Reg.TRS_TEST (16 + i) then (let x := d.draw; x.2.addSat (Reg.TRS_LST i) 16 16 (x.1 % 5)) else d)
  else d

/-- A write of TRS_LEQi waits for the next training (R290). -/
def Device.trsLeq (d : Device) (i v : Nat) : Device :=
  if 24 < v / 2 ^ 24 % 64 ∨ 12 < v / 2 ^ 16 % 64 ∨ 31 < v / 2 ^ 8 % 64 then d.fault Page.TRS 0x02
  else (d.setRegN (Reg.TRS_LEQ i) (v &&& 0x3F3F3F00)).setBit (Reg.TRS_LST i) 5 true

/-- A write of TRS_CMD (R308). -/
def Device.trsCmd (d : Device) (v : Nat) : Device :=
  let d := if natBit v 0 then (if d.lst 0 = 3 then d.trsRetrain false else d.fault Page.TRS 0x01) else d
  let d := if natBit v 1 then d.dmaRestart 0 else d
  if natBit v 2 then d.dmaRestart 1 else d

end Sys2Proof.Machine
end

