-- ==== Sys2Proof/Machine/Time.lean ====
section
/-! DEFINITION. Tester time and the strobes (R310–R317, R337): steps, wraps, TSTROBE. -/

namespace Sys2Proof.Machine

/-! ## Strobes (R337) -/

/-- Strobe `k`. -/
def Device.strobeOf (d : Device) (k : Nat) : StrobeCtx := Tab.get (fun _ => StrobeCtx.reset) d.strobe k
/-- Strobe `k` changed. -/
def Device.modStrobe (d : Device) (k : Nat) (f : StrobeCtx → StrobeCtx) : Device :=
  { d with strobe := Tab.set (fun _ => StrobeCtx.reset) d.strobe k (f (d.strobeOf k)) }

/-- WIDTH + 1 in units of 4 ns; WIDTH 0 acts as 1. -/
def Device.strobeW (d : Device) (k : Nat) : Nat := max 1 (d.fld (Reg.TSTR_CTRL k) 0 8) + 1

/-- T': TSTR_T rounded up to a TCLK edge. -/
def Device.strobeT (d : Device) (k : Nat) : Nat := roundUp (d.reg64 (Reg.TSTR_T_LO k) (Reg.TSTR_T_HI k)) 1280

/-- The period in ticks. -/
def Device.strobePer (d : Device) (k : Nat) : Nat := d.regN (Reg.TSTR_PER k) * 1280

/-- The first pulse time of a periodic strobe at or after `soon`, which is not before TTIME: counted from T' where that lies ahead, else from
the first pulse time not before TTIME (R312, R337). -/
def Device.strobeNext (d : Device) (k soon : Nat) : Nat :=
  let per := max 1 (d.strobePer k)
  let first := d.ttime + (match d.ahead (d.strobeT k) with
    | some n => n
    | none => roundUp ((d.ttime + 2 ^ 64 - d.strobeT k % 2 ^ 64) % 2 ^ 64) per - (d.ttime + 2 ^ 64 - d.strobeT k % 2 ^ 64) % 2 ^ 64)
  if soon ≤ first then first else first + roundUp (soon - first) per

/-- A single pulse is lost: EN clears and STROBE_LATE is raised. -/
def Device.strobeLost (d : Device) (k : Nat) : Device :=
  ((d.setBit (Reg.TSTR_CTRL k) 31 false).event Page.TIME 1).modStrobe k (fun c => { c with next := none })

/-- Strobe `k` is armed from its registers (R337, R312). -/
def Device.strobeArm (d : Device) (k : Nat) : Device :=
  if d.bit (Reg.TSTR_CTRL k) 30 then d.modStrobe k (fun c => { c with next := some (d.strobeNext k (d.ttime + usTicks)) })
  else match d.ahead (d.strobeT k) with
    | some n => if n < usTicks then d.strobeLost k else d.modStrobe k (fun c => { c with next := some (d.ttime + n) })
    | none => d.strobeLost k

/-- A write of TSTR_CTRLk: EN from 0 to 1 arms or is refused; EN = 0 stops after a pulse in progress. -/
def Device.strobeCtrl (d : Device) (k v : Nat) : Device :=
  let was := d.bit (Reg.TSTR_CTRL k) 31
  let w := max 1 (v % 256) + 1
  if !was && natBit v 31 && decide (d.strobePer k < (4 * w + 4) * nsTicks) then d.fault Page.TIME 0x02
  else
    let d := d.setRegN (Reg.TSTR_CTRL k) (v &&& 0xE00000FF)
    if !was && natBit v 31 then d.strobeArm k
    else if was && !natBit v 31 then d.modStrobe k (fun c => { c with next := none })
    else d

/-- The line cannot rise: DOZE or RETAIN, or the safe state with SAFEOFF = 1. -/
def Device.strobeMuted (d : Device) (k : Nat) : Bool := d.dozing || (!d.normal && d.bit (Reg.TSTR_CTRL k) 29)

/-- A pulse time arrives. -/
def Device.strobePulse (d : Device) (k : Nat) : Device :=
  match (d.strobeOf k).next with
  | none => d
  | some t =>
    let d := d.reach t
    let per := d.bit (Reg.TSTR_CTRL k) 30
    let nxt := if per then some (t + max 1 (d.strobePer k)) else none
    if d.strobeMuted k then
      if per then d.modStrobe k (fun c => { c with next := nxt }) else d.strobeLost k
    else
      { d with ivmq := d.ivmq ++ [(0x2F0 + k, t, false)] }.modStrobe k (fun c => { c with high := true, next := nxt, fall := some (t + d.strobeW k * 4 * nsTicks) })

/-- A pulse reaches its width. -/
def Device.strobeFall (d : Device) (k : Nat) : Device :=
  match (d.strobeOf k).fall with
  | some t => (d.reach t).strobeLow k
  | none => d

/-- Loss of TCLK lock: every line low, every EN clear. -/
def Device.strobesStop (d : Device) : Device :=
  d.forN 4 (fun d k => (d.setBit (Reg.TSTR_CTRL k) 31 false).modStrobe k (fun _ => StrobeCtx.reset))

/-- After a step, pulses resume at the first pulse time at or after the new TTIME (R313). -/
def Device.strobesStep (d : Device) : Device :=
  d.forN 4 (fun d k =>
    if (d.strobeOf k).next.isNone then d
    else if d.bit (Reg.TSTR_CTRL k) 30 then d.modStrobe k (fun c => { c with next := some (d.strobeNext k d.ttime) })
    else match d.ahead (d.strobeT k) with
      | some n => d.modStrobe k (fun c => { c with next := some (d.ttime + n) })
      | none => d.strobeLost k)

/-! ## Steps and wraps (R310, R313) -/

/-- An instant kept for an elapsed time follows a change of the count. -/
def shiftT (by_ : Int) (t : Nat) : Nat := (by_ + t).toNat

/-- TTIME changes by `x` other than by counting: the instants from which periods run move with it. -/
def Device.jumpTime (d : Device) (x : Int) : Device :=
  let f := shiftT x
  let d := { d with ttime := (x + d.ttime).toNat, safeAt := x + d.safeAt, trs := { d.trs with kick := f d.trs.kick } }
  let d := { d with evq := { d.evq with oldest := f d.evq.oldest }, via := { d.via with armedAt := f d.via.armedAt } }
  let d := { d with twin := { d.twin with settle := d.twin.settle.map f, lastTx := f d.twin.lastTx, lastRx := f d.twin.lastRx } }
  let d := { d with pwr := { d.pwr with lastAdm := f d.pwr.lastAdm }, key := { d.key with confirm := d.key.confirm.map (fun (c : Nat × Nat) => (f c.1, c.2)) } }
  let d := { d with sup := d.sup.map (fun (e : Nat × SupCtx) => (e.1, { e.2 with lastT := f e.2.lastT, logged := e.2.logged.map f })) }
  let d := { d with keyReq := d.keyReq.map (fun (k : Nat × Nat) => (k.1, f k.2)) }
  let d := d.modCal (fun c =>
    { c with settle := f c.settle, lastRec := c.lastRec.map f, held := c.held.map (fun (h : Nat × Nat) => (h.1, f h.2)) })
  let d := { d with
    mch := d.mch.map (fun (e : Nat × MchCtx) => (e.1, { e.2 with ceAt := e.2.ceAt.map f }))
    trg := d.trg.map (fun (e : Nat × TrgCtx) =>
      (e.1, { e.2 with acts := e.2.acts.map (fun (a : TrigAct) => { a with start := f a.start, cycleT := f a.cycleT }) })) }
  { d with strobe := d.strobe.map (fun (e : Nat × StrobeCtx) => (e.1, { e.2 with fall := e.2.fall.map f })),
           trigout := d.trigout.map (fun (e : Nat × Option Nat) => (e.1, e.2.map f)) }

/-- A cycle in the compare pipeline after a wrap. -/
def Flight.shift (f : Nat → Nat) (x : Flight) : Flight :=
  { x with
    view := { x.view with t := f x.view.t, tEnd := f x.view.tEnd, prevEnd := f x.view.prevEnd }
    outs := x.outs.map (fun (o : Nat × ChanPlay) =>
      (o.1, { o.2 with strobes := o.2.strobes.map (fun (k : Strobe) => { k with t := f k.t, ball := f k.ball }) }))
    due := f x.due }

/-- What follows through the compare pipeline after a wrap. -/
def Pipe.shift (f : Nat → Nat) : Pipe → Pipe
  | .cycle x => .cycle (x.shift f)
  | p => p

/-- A gap after a wrap. -/
def Gap.shift (f : Nat → Nat) : Gap → Gap
  | .till t => .till (f t)
  | .primed t post => .primed (f t) (post.map (fun a => match a with
      | .notBefore u => .notBefore (f u)
      | a => a))
  | .flag n p => .flag n (f p)
  | .drain t => .drain (f t)
  | .drop t => .drop (f t)
  | .none => .none

/-- A boundary action after a wrap: the instant at which a flag was seen. -/
def Bnd.shift (f : Nat → Nat) : Bnd → Bnd
  | .waitFlag n t => .waitFlag n (t.map f)
  | b => b

/-- An item of a stream's queue after a wrap. -/
def QItem.shift (f : Nat → Nat) : QItem → QItem
  | .act b a => .act (b.shift f) a
  | i => i

/-- Streams in play and armed strobes carry their instants over a wrap (R310). -/
def Device.jumpStreams (d : Device) (x : Int) : Device :=
  let f := shiftT x
  let d := { d with
      chan := d.chan.map (fun (e : Nat × ChanCtx) =>
        (e.1, { e.2 with placed := e.2.placed.map (fun (p : Placed) => { p with ball := f p.ball, slot := f (p.slot * 1280) / 1280 }) })) }
  { d with strobe := d.strobe.map (fun (e : Nat × StrobeCtx) => (e.1, { e.2 with next := e.2.next.map f })), str := (d.str.map (fun (e : Nat × StrCtx) =>
      let c := e.2
      (e.1, { c with
        sInt := f c.sInt
        t0 := f c.t0
        launchT := f c.launchT
        lastEnd := f c.lastEnd
        jumpReq := c.jumpReq.map f
        creditT := f c.creditT
        trigin := c.trigin.map (fun (e : Nat × Nat × Bool) => (f e.1, e.2))
        flights := c.flights.map (Pipe.shift f)
        queue := c.queue.map (QItem.shift f)
        gap := c.gap.shift f }))).filter (fun (e : Nat × StrCtx) => decide (e.2 ≠ StrCtx.reset)) }

/-- TTIME wraps to 0 (R310). -/
def Device.timeWrap (d : Device) : Device :=
  if !d.timeRuns then d
  else
  let d := d.reach (2 ^ 64)
  let d := ((d.jumpStreams (-(2 ^ 64 : Nat))).jumpTime (-(2 ^ 64 : Nat))).ivmWrap
  let e := (d.regN Reg.TIME_EPOCH + 1) % 2 ^ 32
  let d := (d.setRegN Reg.TIME_EPOCH e).event Page.TIME 0
  d.recordAt 0 0x15 1 0x000C0000 e 0 0 0

/-- What passes while no command waits: one TCLK period of TTIME (R310), or one always-on period of 10 ns in DOZE and RETAIN (R314); TTIME wraps
where the period passes 2^64. -/
def Device.idle (d : Device) : Device :=
  if !d.timeRuns then d
  else
    let d := { d with ttime := d.ttime + d.timeStride }
    if 2 ^ 64 ≤ d.ttime then d.timeWrap else d

/-- The device may take a step now (R313). -/
def Device.stepSafe (d : Device) : Bool :=
  (List.range 16).all (fun s => d.halted s) &&
    (List.range 32).all (fun i => d.fld (Reg.IVM_STATUS i) 0 3 = 0 || d.fld (Reg.IVM_STATUS i) 0 3 = 4)

/-- A step: TTIME takes `t` (R313). -/
def Device.timeStep (d : Device) (t : Nat) : Device :=
  let old : Nat := d.ttime
  let t : Nat := t % 2 ^ 64
  let d := d.jumpTime ((t : Int) - old)
  let d := d.calFreq 1 allChans
  let d := d.forN 4 (fun d l => if old / d.tickPeriod l < t / d.tickPeriod l then d.tickNow l else d)
  d.strobesStep

end Sys2Proof.Machine
end

