-- ==== Sys2Proof/Machine/Viaduct.lean ====
section
/-! DEFINITION. The Viaduct chain (R316–R336): SYNC, SETTIME, addressing, frames, skew calibration, monitoring, and the
quorum. -/

namespace Sys2Proof.Machine

/-- The chain's context changed. -/
def Device.modVia (d : Device) (f : ViaCtx → ViaCtx) : Device := { d with via := f d.via }

/-- VIA_MASTER. -/
def Device.isMaster (d : Device) : Bool := d.bit Reg.VIA_STATUS 8
/-- The up port is ACTIVE. -/
def Device.upAct (d : Device) : Bool := d.bit Reg.VIA_STATUS 9
/-- The down port is ACTIVE. -/
def Device.dnAct (d : Device) : Bool := d.bit Reg.VIA_STATUS 10
/-- The address in the chain. -/
def Device.viaAddr (d : Device) : Nat := d.fld Reg.VIA_STATUS 16 6

/-- A LINK record of the chain. -/
def Device.viaRec (d : Device) (code detail : Nat) : Device :=
  d.record 0x0C 0x000D0000 (code * 256 + detail) (d.regN Reg.VIA_SKEW) (d.regN Reg.VIA_RESID) (d.regN Reg.VIA_STATUS)

/-- VIA_STATUS.TSTATE. -/
def Device.tstate (d : Device) : Nat := d.fld Reg.VIA_STATUS 0 3

/-- TSTATE takes a state, UNSYNC with its reason; a change is raised and recorded (R330). -/
def Device.setTstate (d : Device) (v reason : Nat) : Device :=
  let d' := (d.setFld Reg.VIA_STATUS 0 3 v).setFld Reg.VIA_STATUS 4 3 reason
  if d.tstate = v then d'
  else (d'.event Page.VIA 1).viaRec (if v = 2 then 0x10 else 0x11) (if v = 2 then 0 else reason)

/-- The eight dwords of a frame, the last of them its CRC over bytes 0x00–0x1B (R323). -/
def viaWords (f : ViaFrame) : List Word :=
  let ws := [f.ftype + f.src * 2 ^ 8 + f.dst * 2 ^ 16, f.fseq, f.tstamp, f.tstamp / 2 ^ 32, f.corr, f.corr / 2 ^ 32, f.param]
  (ws ++ [crc32 (dwBytes ws)]).map (fun w => BitVec.ofNat 32 w)

/-- A frame leaves on a port (0 up, 1 down), counted in FSEQ. -/
def Device.viaSend (d : Device) (port : Nat) (ftype src dst tstamp corr param : Nat) : Device :=
  (d.emit (.via port (viaWords ⟨ftype, src, dst, d.via.fseq, tstamp % 2 ^ 64, corr % 2 ^ 64, param % 2 ^ 32⟩))).modVia
    (fun c => { c with fseq := (c.fseq + 1) % 2 ^ 16 })

/-- A frame to all goes down, where there is a device below (R324). -/
def Device.viaDown (d : Device) (ftype src tstamp corr param : Nat) : Device :=
  if d.dnAct then d.viaSend 1 ftype src 0xFF tstamp corr param else d

/-- A frame arrives from above and is heard: the up port is ACTIVE, and the device is not a master (R321). -/
def Device.fromAbove (d : Device) (f : Device → Device) : Device := if d.upAct && !d.isMaster then f d else d

/-! ## Addressing (R320, R321) -/

/-- The master addresses the chain. -/
def Device.viaAddress (d : Device) : Device :=
  if d.dnAct then (d.viaSend 1 1 d.viaAddr 1 0 0 1).modVia (fun c => { c with addressing := true })
  else (d.setFld Reg.VIA_STATUS 24 7 1).modVia (fun c => { c with addressing := false })

/-- END goes up: `flag` marks a completed skew calibration. -/
def Device.viaEnd (d : Device) (flag : Bool) (addr : Nat) : Device :=
  if d.upAct then d.viaSend 0 2 d.viaAddr 0 0 0 ((if flag then 2 ^ 31 else 0) + addr % 64) else d

/-- An ADDR frame (R320); a master whose up port is ACTIVE ends the chain above (R321). -/
def Device.frAddr (d : Device) (param : Nat) : Device :=
  if !d.upAct then d
  else if d.isMaster then d.viaSend 0 2 d.viaAddr 0 0 0 ((param + 2 ^ 32 - 1) % 64)
  else
    let d := d.setFld Reg.VIA_STATUS 16 6 param
    if d.dnAct then d.viaSend 1 1 d.viaAddr (d.viaAddr + 1) 0 0 (param + 1) else d.viaEnd false d.viaAddr

/-- An END frame from below (R320, R327). -/
def Device.frEnd (d : Device) (flag : Bool) (addr : Nat) : Device :=
  if !d.dnAct then d
  else if !d.isMaster then d.viaEnd flag addr
  else if flag then (d.modVia (fun c => { c with calRun := false })).event Page.VIA 2
  else if d.via.addressing then (d.setFld Reg.VIA_STATUS 24 7 (addr + 1)).modVia (fun c => { c with addressing := false })
  else d.viaAddress

/-- A port enters or leaves ACTIVE (R319, R320, R326, R330): 0 up, 1 down. A master whose up port trains raises ROLE (R321). -/
def Device.viaPort (d : Device) (port : Nat) (up : Bool) : Device :=
  if d.bit Reg.VIA_STATUS (9 + port) = up then d
  else
    let d := (d.setBit Reg.VIA_STATUS (9 + port) up).event Page.VIA 0
    let d := d.viaRec (if up then 0x01 else 0x02) port
    if port = 1 then (if d.isMaster then d.viaAddress else d.viaEnd false d.viaAddr)
    else if up then
      let d := d.modVia (fun c => { c with resid := [] })
      if d.isMaster then ((d.event Page.VIA 7).viaRec 0x16 0).setTstate 0 5 else d
    else
      let d := d.modVia (fun c => { c with calRun := false, t1 := none })
      if d.tstate = 2 then d.setTstate 3 0 else d

/-! ## SYNC and SETTIME (R316, R317, R328) -/

/-- The device arms for the next SYNC edge. -/
def Device.viaArm (d : Device) (f : ViaCtx → ViaCtx) : Device :=
  (d.setBit Reg.VIA_STATUS 12 true).modVia (fun c => { f c with armedAt := d.ttime })

/-- Nothing waits for a SYNC edge any more. -/
def Device.viaDisarm (d : Device) : Device :=
  (d.setBit Reg.VIA_STATUS 12 false).modVia (fun c => { c with load := none, apply := false })

/-- A SETTIME frame arrives: forwarded, and the device arms (R317). -/
def Device.frSettime (d : Device) (v epoch : Nat) : Device :=
  d.fromAbove (fun d => (d.viaDown 3 0 v 0 epoch).viaArm (fun c => { c with load := some (v, epoch) }))

/-- The value that TTIME takes at the edge: V + VIA_SKEW (a master's is not used), then C (R317, R328, R338). -/
def Device.stepTarget (d : Device) : Nat :=
  let skew : Int := if d.isMaster then 0 else signed 32 (d.regN Reg.VIA_SKEW)
  let t : Int := match d.via.load with
    | some l => l.1 + skew
    | none => d.ttime
  let c : Int := if d.via.apply then d.via.pendC.getD 0 else 0
  unsigned 64 (t + c)

/-- A step-safe device takes its step at the edge. An APPLY does not lead out of UNSYNC, which only a new SETTIME leaves (R330).
DEDUCED: R328 has APPLY set SYNCED without naming UNSYNC (log entry 111). -/
def Device.viaStep (d : Device) : Device :=
  let load := d.via.load
  let apply := d.via.apply && d.via.pendC.isSome
  let d := d.timeStep d.stepTarget
  let d := match load with
    | some l =>
      let d := d.setRegN Reg.TIME_EPOCH l.2
      if d.isMaster || d.bit Reg.VIA_STATUS 11 then d.setTstate 2 0 else d.setTstate 1 0
    | none => d
  let d :=
    if apply then
      let c := d.via.pendC.getD 0
      let d := d.setRegN Reg.VIA_SKEW (unsigned 32 (signed 32 (d.regN Reg.VIA_SKEW) + c))
      let d := (d.setBit Reg.VIA_STATUS 11 true).modVia (fun c => { c with pendC := none })
      let d := if d.tstate = 0 then d else d.setTstate 2 0
      d.viaRec 0x12 0
    else d
  d.viaDisarm

/-- A SYNC rising edge at `t` (R316, R317): an armed device steps or refuses; a master's SETTIME goes out after it. -/
def Device.syncEdge (d : Device) (t : Nat) : Device :=
  let d := d.reach t
  let d :=
    if d.bit Reg.VIA_STATUS 12 then
      if d.stepSafe then d.viaStep
      else (((d.viaDisarm.event Page.VIA 6).setTstate 0 3).viaRec 0x13 3)
    else d
  if d.via.setReq then
    let v := d.reg64 Reg.VIA_SET_LO Reg.VIA_SET_HI
    let e := d.regN Reg.TIME_EPOCH
    let d := (d.modVia (fun c => { c with setReq := false })).viaDown 3 0 v 0 e
    d.viaArm (fun c => { c with load := some (v, e) })
  else d

/-- An armed device has waited 100 ms (R316). -/
def Device.syncLapse (d : Device) : Device :=
  if d.bit Reg.VIA_STATUS 12 then ((d.reach (d.via.armedAt + 100 * msTicks)).viaDisarm).viaRec 0x17 0 else d

/-! ## Monitoring (R325, R331) -/

/-- The mean of the residuals held. -/
def meanOf (l : List Int) : Int := (l.foldl (· + ·) 0) / (max 1 l.length : Nat)

/-- A frame crosses the ball at `t` or, where TTIME has passed that already, now: its stamp is TTIME then (R322). -/
def Device.stamped (d : Device) (t : Nat) : Device × Nat := let d := d.reach t; (d, d.ttime)

/-- A TIME frame arrives with stamps of arrival and, for its forwarding, of departure (R322, R325, R331). -/
def Device.frTime (d : Device) (tstamp corr arr dep : Nat) (src : Nat) : Device :=
  d.fromAbove (fun d =>
    let (d, arr) := d.stamped arr
    let (d, dep) := if d.dnAct then d.stamped dep else (d, dep)
    let trans := d.bit Reg.VIA_CTRL 2
    let d := if trans then d.viaDown 4 src tstamp (corr + dep + 2 ^ 64 - arr) 0 else d.viaDown 4 d.viaAddr dep 0 0
    if !d.bit Reg.VIA_CTRL 3 then d
    else
      let dly : Nat := d.fld (if trans then Reg.VIA_PATHDLY else Reg.VIA_LINKDLY) 0 24
      let r := signed 64 (unsigned 64 ((arr : Int) - tstamp - signed 64 corr - dly))
      let l := (r :: d.via.resid).take 64
      let m := meanOf l
      let d := (d.modVia (fun c => { c with resid := l })).setRegN Reg.VIA_RESID (unsigned 32 m)
      let bad := decide ((d.fld Reg.VIA_TOL 0 16 : Int) < m.natAbs)
      if (d.tstate = 1 || d.tstate = 2) && bad then (d.event Page.VIA 3).setTstate 0 4
      else if d.tstate = 3 && l.length = 64 then (if bad then d.setTstate 0 4 else d.setTstate 2 0)
      else d)

/-- The master originates a TIME frame (R325). -/
def Device.timeOriginate (d : Device) (dep : Nat) : Device :=
  if d.isMaster && d.fld Reg.VIA_TPER 0 16 ≠ 0 then
    let (d, dep) := d.stamped dep
    d.viaDown 4 d.viaAddr dep 0 0
  else d

/-! ## Skew calibration (R326–R328) -/

/-- SKEWCAL reaches a slave. -/
def Device.frSkewcal (d : Device) : Device :=
  d.fromAbove (fun d => (d.viaDown 8 0 0 0 0).modVia (fun c =>
    { c with calRun := true, t1 := none, exch := 0, sumRT := 0, sumD := 0, o := none, sumIn := none }))

/-- A slave in calibration sends a DREQ, stamped at its departure. -/
def Device.skewTick (d : Device) (t1 : Nat) : Device :=
  if d.via.calRun && !d.isMaster && d.upAct && decide (d.via.exch < 4096) && d.via.o.isNone then
    let (d, t1) := d.stamped t1
    (d.viaSend 0 5 d.viaAddr ((d.viaAddr + 63) % 64) t1 0 d.via.exch).modVia (fun c => { c with t1 := some t1 })
  else d

/-- A DREQ from the down neighbour, stamped on arrival as t2, is answered with DRESP at t3. -/
def Device.frDreq (d : Device) (t2 t3 : Nat) : Device :=
  if d.dnAct then
    let (d, t2) := d.stamped t2
    let (d, t3) := d.stamped t3
    d.viaSend 1 6 d.viaAddr (d.viaAddr + 1) t3 0 (t3 + 2 ^ 64 - t2)
  else d

/-- The device's own C follows from that of the device above, and goes down; the last device sends END (R327). -/
def Device.skewSum (d : Device) : Device :=
  let first := d.viaAddr = 1
  match d.via.o, (if first then some ((0 : Int), (0 : Nat)) else d.via.sumIn) with
  | some o, some (c0, path0) =>
    let c := c0 - o
    let path := path0 + d.fld Reg.VIA_LINKDLY 0 24
    let d := (d.setRegN Reg.VIA_PATHDLY (path % 2 ^ 24)).modVia (fun x => { x with pendC := some c, calRun := false, sumIn := none })
    if d.dnAct then d.viaSend 1 7 d.viaAddr (d.viaAddr + 1) path 0 (unsigned 32 c) else d.viaEnd true d.viaAddr
  | _, _ => d

/-- A DRESP completes an exchange; after 4,096 of them the device knows O and its link delay (R326). -/
def Device.frDresp (d : Device) (t3 diff t4 : Nat) : Device :=
  d.fromAbove (fun d =>
    match d.via.t1 with
    | none => d
    | some t1 =>
      let (d, t4) := d.stamped t4
      let df := signed 32 diff
      let rt : Int := ((t4 : Int) - t1) - df
      let dd : Int := (t1 : Int) - ((t3 : Int) - df)
      let d := d.modVia (fun c => { c with t1 := none, exch := c.exch + 1, sumRT := c.sumRT + rt, sumD := c.sumD + dd })
      if d.via.exch < 4096 then d
      else
        let a := signed 16 (d.regN Reg.VIA_ASYM)
        let o : Int := (2 * d.via.sumD + d.via.sumRT - 4096 * a) / 8192
        let dly : Int := (d.via.sumRT + 4096 * a) / 8192
        ((d.setRegN Reg.VIA_LINKDLY (unsigned 24 dly)).modVia (fun c => { c with o := some o })).skewSum)

/-- A SKEWSUM from above carries its sender's C and PATHDLY (R327). -/
def Device.frSkewsum (d : Device) (c path : Nat) : Device :=
  d.fromAbove (fun d =>
    if d.via.calRun then (d.modVia (fun x => { x with sumIn := some (signed 32 c, path) })).skewSum else d)

/-- APPLY reaches a device: with a pending correction it arms (R328). -/
def Device.frApply (d : Device) : Device :=
  d.fromAbove (fun d =>
    let d := d.viaDown 9 0 0 0 0
    if d.via.pendC.isSome then d.viaArm (fun c => { c with apply := true }) else d)

/-! ## Quorum (R332–R335) -/

/-- The streams armed with QUORUM at the announced time. -/
def Device.quorumStreams (d : Device) : List Nat :=
  match d.via.qt with
  | some t => (List.range 16).filter (fun s =>
      (d.strOf s).arm = .quorum && decide (d.launchTime s = t) && (d.strState s = 1 || d.strState s = 2))
  | none => []

/-- A quorum time is announced: its tag is recorded. -/
def Device.quorumSet (d : Device) (t : Nat) : Device :=
  (d.setRegN Reg.VIA_QSTAT (t / 2 ^ 12 % 2 ^ 16)).modVia (fun c =>
    { c with qt := some t, qDone := false, part := false, report := none, nogo := false, verdict := none })

/-- A QANNOUNCE frame. -/
def Device.frQannounce (d : Device) (t : Nat) : Device := d.fromAbove (fun d => (d.viaDown 10 0 t 0 0).quorumSet t)

/-- A report merged with the device's own readiness: COUNT, NOGO, NOGOADDR (R333). -/
def Device.mergeReady (d : Device) (r : ViaSig) : ViaSig :=
  let part := d.via.part
  { r with count := (r.count + if part then 1 else 0) % 128, flag := r.flag || d.via.nogo,
           addr := if r.flag then r.addr else if d.via.nogo then d.viaAddr else r.addr }

/-- The empty report of the chain's end. -/
def Device.ownReady (d : Device) : ViaSig := ⟨false, d.fld Reg.VIA_QSTAT 0 16, false, 0, 0⟩

/-- A merged report goes up, or is kept by the master. -/
def Device.passReady (d : Device) (r : ViaSig) : Device :=
  let m := d.mergeReady r
  if d.isMaster then d.modVia (fun c => { c with report := some m })
  else if d.upAct then d.emit (.sig 0 m) else d

/-- Readiness at T − 2 µs (R333). -/
def Device.quorumReady (d : Device) : Device :=
  match d.via.qt with
  | none => d
  | some t =>
    if d.via.qDone then d
    else
      let d := d.reach ((t + 2 ^ 64 - 2 * usTicks) % 2 ^ 64)
      let qs := d.quorumStreams
      let d := qs.foldl (fun d s => d.modStr s (fun c => { c with verdict := some (c.verdict.getD (d.notReady s)) })) d
      let bad := qs.any (fun s => (d.strOf s).verdict ≠ some 0) || d.tstate ≠ 2
      let d := d.modVia (fun c => { c with qDone := true, part := !qs.isEmpty, nogo := !qs.isEmpty && bad })
      match d.via.report with
      | some r => d.passReady r
      | none => if d.dnAct || d.isMaster then d else d.passReady d.ownReady

/-- A READY set from below; `same` says that both lanes carried error-free identical copies (R333, R334). -/
def Device.sigReady (d : Device) (tag : Nat) (same nogo : Bool) (count addr : Nat) : Device :=
  if !d.dnAct || !same || tag ≠ d.fld Reg.VIA_QSTAT 0 16 || d.via.qt.isNone then d
  else
    let r : ViaSig := ⟨false, tag, nogo, count, addr⟩
    if d.via.qDone then d.passReady r else d.modVia (fun c => { c with report := some r })

/-- The device's quorum streams do not start: each writes LAUNCH_MISSED (R335). -/
def Device.quorumMiss (d : Device) : Device :=
  d.quorumStreams.foldl (fun d s =>
    let r := (d.strOf s).verdict.getD 0
    (d.drop s).missed s (if d.via.nogo && r ≠ 0 then r else 6)) d

/-- A verdict is known here. -/
def Device.gotVerdict (d : Device) (go : Bool) : Device :=
  let d := ((d.setBit Reg.VIA_QSTAT 31 true).setBit Reg.VIA_QSTAT 30 go).event Page.VIA 4
  let d := d.modVia (fun c => { c with verdict := some go })
  if go then d else d.quorumMiss

/-- T − 100 ns of the announced quorum has passed (R335). -/
def Device.verdictLate (d : Device) : Bool :=
  match d.via.qt with
  | some t =>
    match d.ahead t with
    | some n => decide (n < 100 * nsTicks)
    | none => true
  | none => false

/-- A VERDICT set from above, which counts where both lanes carried error-free identical copies (R334, R335): GO starts the quorum streams only where it comes by T − 100 ns. -/
def Device.sigVerdict (d : Device) (tag : Nat) (same go : Bool) : Device :=
  d.fromAbove (fun d =>
    if !same || tag ≠ d.fld Reg.VIA_QSTAT 0 16 then d
    else
      let d := if d.dnAct then d.emit (.sig 1 ⟨true, tag, go, 0, 0⟩) else d
      let late := d.verdictLate
      let old := d.via.verdict
      let d := d.gotVerdict go
      if late then d.modVia (fun c => { c with verdict := old }) else d)

/-- The master decides at T − 1 µs (R335). -/
def Device.quorumDecide (d : Device) : Device :=
  match d.via.qt with
  | none => d
  | some t =>
    if !d.isMaster || d.via.verdict.isSome || !d.via.qDone then d
    else
      let d := d.reach ((t + 2 ^ 64 - usTicks) % 2 ^ 64)
      let q := d.fld Reg.VIA_QEXP 0 7
      let go := match d.via.report with
        | some r => !r.flag && (q = 0 || r.count = q)
        | none => false
      let d := match d.via.report with
        | some r => ((d.setFld Reg.VIA_QSTAT 23 7 r.count).setBit Reg.VIA_QSTAT 22 r.flag).setFld Reg.VIA_QSTAT 16 6 r.addr
        | none => d
      let d := if d.dnAct then d.emit (.sig 1 ⟨true, d.fld Reg.VIA_QSTAT 0 16, go, 0, 0⟩) else d
      let d := if go then d else d.viaRec 0x15 (match d.via.report with | some r => r.addr | none => 0xFF)
      d.gotVerdict go

/-- At T − 100 ns a device without GO starts none of its quorum streams; one that no verdict has reached records it (R335). -/
def Device.quorumDeadline (d : Device) : Device :=
  match d.via.qt with
  | none => d
  | some t =>
    if d.via.verdict = some true then d
    else
      let cut := !d.isMaster && d.via.verdict.isNone
      let d := d.reach ((t + 2 ^ 64 - 100 * nsTicks) % 2 ^ 64)
      let d := d.quorumMiss
      let d := d.modVia (fun c => { c with verdict := some (c.verdict.getD false) })
      if cut then d.viaRec 0x18 0 else d

/-- The first cycle of a scheduled launch, at T exactly (R120, R335). -/
def Device.schedStart (d : Device) (s : Nat) : Device :=
  let c := d.strOf s
  let go := match c.arm with
    | .sched => c.verdict = some 0
    | .quorum => c.verdict = some 0 && d.via.verdict = some true
    | _ => false
  if d.strState s = 2 && go then (d.reach (d.launchTime s)).beginBurst s (d.launchTime s) else d

/-- The first cycle of an immediate launch that is primed and not held (R119, R249). -/
def Device.launchFirst (d : Device) (s : Nat) : Device :=
  let c := d.strOf s
  if d.strState s = 1 && c.arm = .immediate && c.primed && !d.cal.held.any (fun h => h.1 = s) then
    (d.reach c.launchT).beginBurst s c.launchT
  else d

/-! ## Commands (R317, R326, R328, R332, R340) -/

/-- The announced quorum time has not yet passed. -/
def Device.quorumAhead (d : Device) : Bool :=
  match d.via.qt with
  | some t => (d.ahead t).isSome
  | none => false

/-- Both ports retrain from DETECT (R291, R340). -/
def Device.viaRetrain (d : Device) : Device :=
  [1, 2].foldl (fun d k => ((d.viaPort (k - 1) false).modLink k (fun _ => LinkCtx.reset)).detectTs k) d

/-- A write of VIA_CMD. -/
def Device.viaCmd (d : Device) (v : Nat) : Device :=
  let c := v % 32
  let no := d.fault Page.VIA 0x01
  if c = 0 then d
  else if 1 < popCount c 5 then d.fault Page.VIA 0x02
  else if c = 16 then d.viaRetrain
  else if !d.isMaster || !d.dnAct then no
  else match c with
    | 1 => if d.via.setReq || d.via.load.isSome then no else d.modVia (fun c => { c with setReq := true })
    | 2 => if d.via.calRun then no else (d.viaDown 8 0 0 0 0).modVia (fun c => { c with calRun := true })
    | 4 => if d.via.apply then no else d.viaDown 9 0 0 0 0
    | _ =>
      let t := d.reg64 Reg.VIA_QT_LO Reg.VIA_QT_HI
      match d.ahead t with
      | none => no
      | some n =>
        if n < 10 * usTicks || d.quorumAhead then no
        else (d.viaDown 10 0 t 0 0).quorumSet t

/-- A write of VIA_SKEW restores a saved correction (R328). -/
def Device.viaSkew (d : Device) (v : Nat) : Device := (d.setRegN Reg.VIA_SKEW v).setBit Reg.VIA_STATUS 11 true

/-- A frame that is discarded (R323). -/
def Device.badFrame (d : Device) : Device := (d.addSat Reg.VIA_ERR 16 16 1).event Page.VIA 5

end Sys2Proof.Machine
end

