-- ==== Sys2Proof/Machine/TwinPeer.lean ====
section
/-! DEFINITION. The twin pair (R396–R409): formation, the snapshot and checkpoints as the standby loads them, heartbeat,
takeover, reissue, planned swap, and the span-hash check. -/

namespace Sys2Proof.Machine

/-- The twin context changed by `f`. -/
def Device.modTwin (d : Device) (f : TwinCtx → TwinCtx) : Device := { d with twin := f d.twin }

/-- The twin link is ACTIVE. -/
def Device.twinLive (d : Device) : Bool := d.lst 3 = 3

/-- The twin cause arrives; a device that is already in the safe state records it as added (R355, R396). -/
def Device.twinCause (d : Device) : Device := if d.bit Reg.SAFE_CAUSE 12 then d else d.safeCause 12

/-! ## Formation (R397) -/

/-- A HELLO frame of this device (R394). -/
def Device.twinHello (d : Device) : Device :=
  d.twinSend 4 0 (d.role + d.fld Reg.TWN_STATUS 8 1 * 2 ^ 3 + d.fld Reg.TWN_CTRL 2 1 * 2 ^ 4 + d.fld Reg.TWN_STATUS 11 1 * 2 ^ 5 +
    d.reg64 Reg.FUSE_DEVID_LO Reg.FUSE_DEVID_HI * 2 ^ 32)

/-- The device takes the active role; the pair is formed (R396, R406). -/
def Device.roleActive (d : Device) : Device := if d.role = 5 then d else (d.setRole 5).twinRecord 1 (d.fld Reg.TWN_STATUS 8 1) 0

/-- The device takes the active role and sends the snapshot (R397). -/
def Device.twinActivate (d : Device) : Device := ((d.modTwin (fun t => { t with journal := [] })).snapSend snapshotList).roleActive

/-- On a link that is ACTIVE, a device that runs alone with a stream not halted is the active one; HELLO is sent (R397). -/
def Device.twinGreet (d : Device) : Device :=
  let d := d.modTwin (fun t => { t with lastRx := d.ttime, hello := true })
  let busy := d.role = 1 && (List.range 16).any (fun s => !d.halted s)
  (if busy then d.roleActive else d).twinHello

/-- The twin link becomes ACTIVE. A device in OFF reports nothing (R396, R397). -/
def Device.twinUp (d : Device) : Device :=
  let d := ((d.setBit Reg.TWN_STATUS 12 true).event Page.TWN 1).modTwin (fun t => { t with early := none })
  if d.role = 0 then d else d.twinGreet

/-- Whether this device takes the active role on a HELLO of a partner with `role` and `pref` (R397). -/
def Device.winsRole (d : Device) (role : Nat) (pref : Bool) : Bool :=
  let mine := d.bit Reg.TWN_CTRL 2
  if role = 4 then false
  else if d.role = 5 ∧ role ≠ 5 then true
  else if d.role ≠ 5 ∧ role = 5 then false
  else if mine != pref then mine
  else !d.bit Reg.TWN_STATUS 8

/-- A HELLO frame arrives. The first one since the link became ACTIVE settles the roles; later ones tell the active device
that the standby holds the snapshot (R397).
DESIGN CHOICE: the change to SYNCING writes its TWIN record with event 0x01 (R396, log entry 140). -/
def Device.twinGotHello (d : Device) (role : Nat) (pref synced : Bool) : Device :=
  if !d.twin.hello then (if d.role = 5 ∧ role = 3 then d.setBit Reg.TWN_STATUS 11 synced else d)
  else
    let d := d.modTwin (fun t => { t with hello := false })
    if d.role = 0 ∨ d.role = 4 then d
    else if d.winsRole role pref then d.twinActivate
    else (((d.awaitSnapshot).setRole 2).twinRecord 1 (1 - d.fld Reg.TWN_STATUS 8 1) 0).twinCause

/-- A HELLO that reaches a device whose bring-up has not ended is kept until it takes its role (R397; log entry 140). -/
def Device.helloEarly (d : Device) (role : Nat) (pref synced : Bool) : Device :=
  if d.twinLive && d.bit Reg.TWN_CTRL 0 && d.bit Reg.CHIP_STRAP 7 then d.modTwin (fun t => { t with early := some (role, pref, synced) }) else d

/-! ## Frames the standby loads (R397, R400) -/

/-- Bits of the dword at `a` that a SNAP frame loads: windows and run state whole, ACTIVE of a span apart; of other
registers what software writes. -/
def snapMask (a : Nat) : Nat :=
  if 0x600000 ≤ a ∧ a < 0x700000 then (if a % 16 = 12 then 0xBFFFFFFF else 0xFFFFFFFF)
  else if 0x200000 ≤ a then 0xFFFFFFFF
  else match pageAt a with
    | none => 0
    | some (p, i) =>
      let o := a % 0x1000
      if p.block = .str ∧ (a = Reg.STR_BURST_ID i ∨ a = Reg.STR_FLAGS i) then 0xFFFFFFFF
      else if p.block = .cap ∧ a = Reg.CAP_STATUS i then 0xFFFFF060
      else if p.block = .cap ∧ Reg.CAP_USE i 0 ≤ a ∧ a ≤ Reg.CAP_USE i 63 then 0xFFFFFFFF
      else if a = Reg.LDG_ADMITTED then 0xFFFFFFFF
      else if o = 8 then (if p.enctl then 1 else 0)
      else if a = Reg.PG_LOCK (a - o) then 0xFFFFFFFF
      else if o = 0x14 then p.events
      else match findRow p.block.rows o with
        | some (r, _) => if r.acc = .rw || r.acc = .rws || r.acc = .rwf then r.mask else 0
        | none => 0

/-- One dword of a SNAP frame is loaded (R397, R400). -/
def Device.snapLoad (d : Device) (a v : Nat) : Device :=
  let d := d.setReg a (Word.merge (BitVec.ofNat 32 (snapMask a)) (BitVec.ofNat 32 v) (d.reg a))
  let n := a % 0x100000 / 16
  if 0x600000 ≤ a ∧ a < 0x700000 ∧ d.fld Reg.TWN_HRANGE 0 16 ≤ n ∧ n ≤ d.fld Reg.TWN_HRANGE 16 16 then d.hashStale else d

/-- The snapshot is applied: the standby holds reservations for the admitted streams, becomes STANDBY and reports SYNCED. -/
def Device.snapDone (d : Device) : Device :=
  let d := { d with ldg := { d.ldg with res := ((List.range 16).filter (fun s => d.admitted s)).map (fun s => (s, d.demand s)) } }
  let d := (d.setRole 3).setBit Reg.TWN_STATUS 11 true
  (d.twinRecord 1 (1 - d.fld Reg.TWN_STATUS 8 1) 0).twinHello

/-- A SNAP frame: its dwords are loaded from `a` upward; the last one of a snapshot ends it (R397, R400). -/
def Device.twinSnap (d : Device) (jseq a : Nat) (ws : List Word) : Device :=
  if d.role = 2 ∨ d.role = 3 then
    let d := (ws.zipIdx).foldl (fun d e => d.snapLoad (a + 4 * e.2) e.1.toNat) d
    let left := d.twin.syncLeft
    let d := d.modTwin (fun t => { t with syncLeft := left - ws.length })
    let d := if 0 < left then d.setRegN Reg.TWN_JACK jseq else d
    if 0 < left ∧ left ≤ ws.length then d.snapDone else d
  else d

/-- The burst number after `b` (R125). -/
def nextBurst (b : Nat) : Nat := if 0xFFFFFFFE ≤ b then 0 else b + 1

/-- A burst-end CHECKPOINT: STR_BURST_ID is loaded, and a pending launch of the same burst is cleared, also of one that ended before its first
cycle, which has not been counted; its SNAP frames add to those that are awaited (R400, R401, R125). -/
def Device.twinCheckpoint (d : Device) (kind s id : Nat) : Device :=
  if (d.role = 2 ∨ d.role = 3) ∧ kind = 1 then
    let d := d.setRegN (Reg.STR_BURST_ID s) id
    match Tab.get (fun _ => none) d.twin.pend s with
    | some p => if p.burst = id ∨ p.burst = nextBurst id then d.modTwin (fun t => { t with pend := Tab.set (fun _ => none) t.pend s none }) else d
    | none => d
  else d

/-- A journaled STR_CMD write on a standby is recorded as the pending launch of stream `s`; CANCEL withdraws it (R401). -/
def Device.twinPend (d : Device) (s v : Nat) : Device :=
  let arm : Option Arm :=
    if natBit v 0 then some .immediate else if natBit v 1 then some .sched else if natBit v 2 then some .quorum else none
  let next := nextBurst (d.regN (Reg.STR_BURST_ID s))
  match arm with
  | some k => d.modTwin (fun t => { t with pend := Tab.set (fun _ => none) t.pend s (some ⟨k, d.protects s, next⟩) })
  | none => if natBit v 3 then d.modTwin (fun t => { t with pend := Tab.set (fun _ => none) t.pend s none }) else d

/-- A valid frame arrived with the sender's JSEQ: the heartbeat timeout starts again, and on the active device entries up to
JSEQ are acknowledged (R394, R399, R404). -/
def Device.twinHeard (d : Device) (jseq : Nat) : Device :=
  let d := d.modTwin (fun t => { t with lastRx := d.ttime })
  if d.role = 5 then
    (d.setRegN Reg.TWN_JACK jseq).modTwin (fun t =>
      { t with journal := t.journal.filter (fun f => decide (0 < (f.jseq + 2 ^ 32 - jseq % 2 ^ 32) % 2 ^ 32 ∧ (f.jseq + 2 ^ 32 - jseq % 2 ^ 32) % 2 ^ 32 < 2 ^ 31)) })
  else d

/-! ## Takeover and reissue (R404, R405) -/

/-- A hash check is abandoned: nothing is current or valid (R409). -/
def Device.hashAbandon (d : Device) : Device :=
  if d.bit Reg.TWN_HSTAT 29 then
    ((((d.setBit Reg.TWN_HSTAT 29 false).setBit Reg.TWN_HSTAT 31 false).setBit Reg.TWN_HSTAT 30 false).hashStale).modTwin
      (fun t => { t with own := none, other := none, spans := [], mine := [] })
  else d

/-- The standby takes over: TWIN_ACT_N goes low and SETTLE begins (R404). `ev` and `detail` are those of the TWIN record. -/
def Device.takeover (d : Device) (ev detail : Nat) : Device :=
  let d := (d.setRole 4).hashAbandon
  let d := (d.twinRecord ev detail 0).setActN false
  d.modTwin (fun t => { t with settle := some (d.ttime + max 1 (d.fld Reg.TWN_TIMING 16 16) * 100 * nsTicks) })

/-- A synced standby with AUTO = 1 (R404). -/
def Device.canTakeover (d : Device) : Bool := d.role = 3 && d.bit Reg.TWN_CTRL 1 && d.bit Reg.TWN_STATUS 11

/-- The launches a takeover leaves to reissue are reissued in stream order (R405). -/
def Device.reissue (d : Device) : Device :=
  let ps := (List.range 16).filterMap (fun s => match Tab.get (fun _ => none) d.twin.pend s with
    | some (p : PendLaunch) => if p.prot then some (s, p.arm) else none
    | none => none)
  let near (d : Device) (s : Nat) : Bool := match d.ahead (d.launchTime s) with
    | some n => decide (n < 4 * usTicks)
    | none => true
  let mask := (ps.filter (fun p => decide (p.2 ≠ .quorum))).foldl (fun m p => natSetBit m p.1) 0
  let d := d.modTwin (fun t => { t with pend := [] })
  ps.foldl (fun (d : Device) (p : Nat × Arm) =>
    if p.2 = .quorum then d.twinRecord 7 p.1 mask
    else
      let d := (d.launch p.1 (if p.2 = .sched && !near d p.1 then .sched else .immediate)).event Page.TWN 4
      d.twinRecord 5 p.1 mask) d

/-- The takeover ends, with no partner that holds a snapshot yet: ACTIVE with a snapshot for the partner while the link is ACTIVE, else ALONE; then, in state NORMAL, the
pending launches are reissued (R404, R405, R407). -/
def Device.takeoverEnd (d : Device) : Device :=
  let d := d.setBit Reg.TWN_STATUS 11 false
  let d := if d.twin.swapped then (d.event Page.TWN 5).modTwin (fun t => { t with swapped := false }) else d
  let d := if d.twinLive then d.twinActivate else (d.setRole 1).twinRecord 2 0 0
  if d.normal then d.reissue else d

/-- SETTLE ends: the TWIN cause is cleared; with no cause left the exit begins, else the takeover ends in the safe state
(R404). -/
def Device.settleDone (d : Device) : Device :=
  match d.twin.settle with
  | none => d
  | some t =>
    let d := (d.reach t).modTwin (fun t => { t with settle := none })
    let d := d.setBit Reg.SAFE_CAUSE 12 false
    if d.fld Reg.SAFE_CAUSE 0 14 = 0 then d.exitWait else d.takeoverEnd

/-- What a twin does on reaching NORMAL (R404, R405, R409). -/
def Device.twinNormal (d : Device) : Device :=
  if d.role = 4 ∧ d.twin.settle = none then d.takeoverEnd
  else if d.role = 1 ∨ d.role = 5 then d.reissue
  else d

/-- No valid frame for HBTO µs (R404); values below 5 act as 5. -/
def Device.hbTimeout (d : Device) : Device :=
  if d.canTakeover then
    let d := d.reach (d.twin.lastRx + max 5 (d.fld Reg.TWN_TIMING 0 16) * usTicks)
    (d.event Page.TWN 2).takeover 3 0
  else d

/-- A FAIL frame (R404). -/
def Device.twinFail (d : Device) : Device := if d.canTakeover then d.takeover 3 1 else d

/-- After 1 µs without a sent frame a device of a live link sends HB (R404). -/
def Device.hbSend (d : Device) : Device :=
  if d.twinLive ∧ d.role ≠ 0 then (d.reach (d.twin.lastTx + usTicks)).twinSend 3 0 0 else d

/-- The twin link leaves ACTIVE (R408). The launches that a takeover of this device has left to reissue stay (R409). -/
def Device.twinDown (d : Device) : Device :=
  let d := (d.setBit Reg.TWN_STATUS 12 false).setFld Reg.TWN_STATUS 13 3 0
  if d.role = 0 then d
  else
    let d := ((d.event Page.TWN 1).twinRecord 9 0 0).hashAbandon
    let was := d.role
    let alone := d.role = 5 || d.role = 2 || (d.role = 3 && !d.bit Reg.TWN_CTRL 1)
    if alone then
      let d := (d.setRole 1).setBit Reg.TWN_STATUS 11 false
      let d := d.modTwin (fun t => { t with journal := [], pend := if was = 5 then t.pend else [], syncLeft := 0, swapReq := false })
      (d.event Page.TWN 2).twinRecord 2 0 0
    else d

/-- TWN_CTRL.EN: a strapped device runs ALONE, and greets a partner on a link that is ACTIVE; or it returns to OFF, where it reports nothing
(R392, R396, R397). -/
def Device.twinEnable (d : Device) : Device :=
  let on := d.bit Reg.TWN_CTRL 0 && d.bit Reg.CHIP_STRAP 7
  if on && d.role = 0 then
    let d := (d.setRole 1).twinRecord 2 0 0
    if !d.twinLive then d
    else match d.twin.early with
      | some (role, pref, synced) => (d.twinGreet.modTwin (fun t => { t with early := none })).twinGotHello role pref synced
      | none => d.twinGreet
  else if !on && d.role ≠ 0 then ((d.setRole 0).setBit Reg.TWN_STATUS 11 false).modTwin (fun _ => TwinCtx.reset)
  else d

/-! ## Planned swap (R407) -/

/-- TWN_CMD.SWAP. -/
def Device.swapCmd (d : Device) : Device :=
  if d.role = 5 ∧ d.bit Reg.TWN_STATUS 11 then d.modTwin (fun t => { t with swapReq := true }) else d.fault Page.TWN 0x01

/-- The first cycle with every stream halted: SWAP is sent, and the device gives the active role up. -/
def Device.swapStart (d : Device) : Device :=
  if d.twin.swapReq ∧ d.role = 5 ∧ (List.range 16).all (fun s => d.halted s) then
    let d := (d.twinSend 6 0 0).twinCause
    ((d.setRole 3).twinRecord 4 0 0).awaitSnapshot
  else d

/-- A SWAP frame: the partner takes over with nothing to reissue. -/
def Device.swapFrame (d : Device) : Device :=
  if d.role = 3 then (d.modTwin (fun t => { t with pend := [], swapped := true })).takeover 4 0 else d

/-! ## The span-hash check (R402) -/

/-- The bytes of a 256-bit digest, most significant first. -/
def digestBytes (h : Nat) : List Byte := (List.range 32).map (fun i => BitVec.ofNat 8 (h / 2 ^ (8 * (31 - i))))

/-- The digest of span `i`: descriptor words 0–2, FLAGS[27:16], and the bytes of the span (R402). -/
def Device.spanDigest (d : Device) (i : Nat) : Nat :=
  Config.sha256 (dwBytes [d.regN (spanWord i 0), d.regN (spanWord i 1), d.regN (spanWord i 2)] ++
    [BitVec.ofNat 8 (d.fld (spanWord i 3) 16 8), BitVec.ofNat 8 (d.fld (spanWord i 3) 24 4)] ++
    (List.range (d.spanSize64 i * 64)).map (fun k => memByte d.mem (d.spanAddr i + k)))

/-- Spans of TWN_HRANGE with READY = 1, in index order. -/
def Device.hashSpans (d : Device) : List Nat :=
  (List.range (d.fld Reg.TWN_HRANGE 16 16 + 1)).filter (fun i => decide (d.fld Reg.TWN_HRANGE 0 16 ≤ i) && d.spanReady i)

/-- The digest of the check: every span digest, and the customer image hash of R379. -/
def Device.twinDigest (d : Device) (ds : List (Nat × Nat)) : Nat :=
  Config.sha256 (ds.flatMap (fun e => digestBytes e.2) ++ digestBytes d.ucs.hashC)

/-- The digests of the spans in the range by index, as their memory is read (R402). A read that is refused (R217, R221) or meets an uncorrectable
word brings free bytes; DESIGN CHOICE: such a word is recorded with origin 1, as the check reads through the DMA share (log entry 121). -/
def Device.spanDigests (d : Device) : Device × List (Nat × Nat) :=
  d.hashSpans.foldl (fun (x : Device × List (Nat × Nat)) i =>
    let d := x.1
    let a := d.spanAddr i
    let n := d.spanSize64 i * 64
    let there := n = 0 || d.memThere a n
    let d := if there then d.touchRows a n else d
    let bad := if there then d.badWords a n else []
    if there && bad.isEmpty then (d, x.2 ++ [(i, d.spanDigest i)])
    else
      let y := (bad.foldl (fun d w => d.memUEfree w 1 noStream) d).draw
      (y.2, x.2 ++ [(i, y.1 % 2 ^ 256)])) (d, [])

/-- A digest travels as two HASH frames, PART 0 first (R394). -/
def Device.hashSend (d : Device) (h kind span : Nat) : Device :=
  let part (p : Nat) := beNum (((digestBytes h).drop (16 * p)).take 16).reverse + p * 2 ^ 128 + kind * 2 ^ 129 + span * 2 ^ 144
  (d.twinSend 7 0 (part 0)).twinSend 7 0 (part 1)

/-- A check starts on this device: its digest is formed and sent. -/
def Device.hashStart (d : Device) : Device :=
  let d := ((d.setBit Reg.TWN_HSTAT 29 true).setBit Reg.TWN_HSTAT 31 false).setBit Reg.TWN_HSTAT 30 false
  let r := d.spanDigests
  let d := r.1
  let h := d.twinDigest r.2
  (d.modTwin (fun t => { t with own := some h, other := none, spans := [], mine := r.2 })).hashSend h 0 0

/-- TWN_CMD.HASHCHK: the active device only. -/
def Device.hashCmd (d : Device) : Device := if d.role = 5 then d.hashStart else d.fault Page.TWN 0x01

/-- On a mismatch the span digests follow in ascending index. -/
def Device.hashDiffer (d : Device) : Device :=
  if d.twin.own ≠ none ∧ d.twin.other ≠ none ∧ d.twin.own ≠ d.twin.other then
    d.twin.mine.foldl (fun d e => d.hashSend e.2 1 e.1) d
  else d

/-- A HASH frame: PART 0 is kept; with PART 1 a final digest or a span digest is complete. The first final digest starts the
check on a standby. -/
def Device.hashFrame (d : Device) (bits : Nat) (part kind : Bool) (span : Nat) : Device :=
  if d.role ≠ 5 ∧ d.role ≠ 3 then d
  else if !part then d.modTwin (fun t => { t with half := bits })
  else
    let bytes := ((List.range 16).map (fun i => BitVec.ofNat 8 (d.twin.half / 2 ^ (8 * i)))) ++
      ((List.range 16).map (fun i => BitVec.ofNat 8 (bits / 2 ^ (8 * i))))
    let h := beNum bytes
    if kind then d.modTwin (fun t => { t with spans := t.spans ++ [(span, h)] })
    else
      let d := if d.role = 3 && !d.bit Reg.TWN_HSTAT 29 then d.hashStart else d
      (d.modTwin (fun t => { t with other := some h })).hashDiffer

/-- The check ends: digests are compared, on a mismatch span by span, and HASH_DONE is raised (R402). -/
def Device.hashDone (d : Device) : Device :=
  match d.bit Reg.TWN_HSTAT 29, d.twin.own, d.twin.other with
  | true, some a, some b =>
    let d := (d.setBit Reg.TWN_HSTAT 29 false).setBit Reg.TWN_HSTAT 31 true
    let d' := if a = b then (d.setBit Reg.TWN_HSTAT 30 true).setBit Reg.TWN_HSTAT 28 true
      else
        let theirs (i : Nat) : Option Nat := (d.twin.spans.find? (fun e => e.1 = i)).map (·.2)
        let mine (i : Nat) : Option Nat := (d.twin.mine.find? (fun e => e.1 = i)).map (·.2)
        let first := (List.range 65536).find? (fun i => decide (mine i ≠ theirs i))
        ((d.hashStale).setFld Reg.TWN_HSTAT 0 16 (first.getD 0xFFFF)).twinRecord 8 0 0
    (d'.event Page.TWN 3).modTwin (fun t => { t with own := none, other := none, spans := [], mine := [] })
  | _, _, _ => d

end Sys2Proof.Machine
end

