-- ==== Sys2Proof/Machine/Links.lean ====
section
/-! DEFINITION. Training and lane loss of the serial links (R289, R291, R292, R319, R393). -/

namespace Sys2Proof.Machine

/-- The number of a link in `Device.links`. -/
def linkNo : Link → Nat
  | .trestle => 0
  | .up => 1
  | .down => 2
  | .twin => 3

/-- The link falls to DETECT from any state; one that carried packets is down (R291, R319, R408). -/
def Device.linkLost (d : Device) (k : Nat) : Device :=
  let was := d.lst k
  if was = 0 then d
  else
    let d := match k with
      | 0 => d.trsDown
      | 1 => if was = 3 then d.viaPort 0 false else d
      | 2 => if was = 3 then d.viaPort 1 false else d
      | _ => d
    let d := (d.setLst k 0).modLink k (fun c => { LinkCtx.reset with lost := c.lost })
    if k = 3 ∧ (was = 3 ∨ was = 4) then d.twinDown else d

/-- The link goes back to DETECT, where it trains anew (R291). -/
def Device.linkDrop (d : Device) (k : Nat) : Device := if d.lst k = 0 then d else (d.linkLost k).detectTs k

/-- A retrain begins: held equalisation applies (R290, R291). -/
def Device.linkRetrain (d : Device) (k : Nat) : Device :=
  let d := d.modLink k (fun c => { c with agree := 0 })
  match k with
  | 0 => d.trsRetrain false
  | 3 => ((d.setLst 3 4).setBit Reg.TWN_STATUS 12 false).retrainTs 3 false
  | _ => d

/-- Trestle at a new mask of lanes: TRS_STATUS, the lanes, and the LINK records of R302. -/
def Device.trsUp (d : Device) (mask : Nat) : Device :=
  let old := d.linkOf 0
  let first := old.width = 0
  let n := popCount mask 16
  let added := (List.range 16).filter (fun i => natBit mask i && natBit old.lost i)
  let d := d.modLink 0 (fun c => { c with active := mask, lost := c.lost - (c.lost &&& mask), join := 0, width := n })
  let d := (d.setFld Reg.TRS_STATUS 8 5 n).setFld Reg.TRS_STATUS 16 16 mask
  let d := d.forN 16 (fun d i =>
    let on := natBit mask i
    let d := (d.setBit (Reg.TRS_LST i) 2 on).setFld (Reg.TRS_LST i) 8 8 (if on then popCount mask i else 0xFF)
    if on then ((d.setBit (Reg.TRS_LST i) 3 false).setBit (Reg.TRS_LST i) 1 true).setBit (Reg.TRS_LST i) 0 true else d)
  let d := d.setLst 0 3
  let d := if first then d.linkRec 0x01 0xFF else d
  let d := added.foldl (fun d i => d.linkRec 0x05 i) d
  let d := if !first ∧ old.width ≠ n then (d.linkRec 0x03 0xFF).event Page.TRS 1 else d
  (d.trsActive.pump.evqNotify false).dozeStep

/-- A link reaches ACTIVE on the lanes of `mask`. -/
def Device.linkUp (d : Device) (k mask : Nat) : Device :=
  match k with
  | 0 => d.trsUp mask
  | 1 => ((d.modLink 1 (fun c => { c with active := mask })).setLst 1 3).viaPort 0 true
  | 2 => ((d.modLink 2 (fun c => { c with active := mask })).setLst 2 3).viaPort 1 true
  | _ =>
    let was := d.lst 3
    let d := (d.modLink 3 (fun c => { c with active := mask, lost := c.lost - (c.lost &&& mask), join := 0, width := popCount mask 4 })).setLst 3 3
    let d := d.setFld Reg.TWN_STATUS 13 3 (popCount mask 4)
    if was = 4 then (d.setBit Reg.TWN_STATUS 12 true).event Page.TWN 1 else d.twinUp

/-- LANE_LOSS: a receive lane of a link that trains again or carries packets is lost (R289, R292); a Viaduct port leaves TRAIN and CONFIG
too (R319). The record shows the width and the mask that are left (R302). -/
def Device.laneLoss (d : Device) (k lane : Nat) : Device :=
  let c := d.linkOf k
  if (k = 1 ∨ k = 2) ∧ lane < 2 ∧ 1 ≤ c.lst ∧ c.lst ≤ 3 then (d.addSat Reg.VIA_ERR 0 16 1).linkDrop k
  else if !(c.lst = 3 || c.lst = 4) || !natBit c.active lane || natBit c.lost lane then d
  else
    let d := d.modLink k (fun c => { c with lost := natSetBit c.lost lane })
    let d := if k = 0 then
        let d := ((d.setBit (Reg.TRS_LST lane) 3 true).setBit (Reg.TRS_LST lane) 1 false).event Page.TRS (16 + lane)
        let left := c.active - (c.active &&& (d.linkOf 0).lost)
        ((d.setFld Reg.TRS_STATUS 8 5 (popCount left 16)).setFld Reg.TRS_STATUS 16 16 left).linkRec 0x04 lane
      else d
    if (d.linkOf k).active - ((d.linkOf k).active &&& (d.linkOf k).lost) = 0 then d.linkDrop k
    else d.linkRetrain k

/-- DETECT_RETRY: training sets are sent again (R291). -/
def Device.detectRetry (d : Device) (k : Nat) : Device := if d.lst k = 0 then d.detectTs k else d

/-- What the training sets show of each Trestle lane: signal, lock and corrected polarity (R288). -/
def Device.laneSeen (d : Device) (k lanes inv : Nat) : Device :=
  if k = 0 then
    d.forN 16 (fun d i =>
      if natBit lanes i then (((d.setBit (Reg.TRS_LST i) 0 true).setBit (Reg.TRS_LST i) 1 true).setBit (Reg.TRS_LST i) 4 (natBit inv i)) else d)
  else d

/-- The lanes a link proposes on the lanes it receives training sets on. A Viaduct port needs both (R319). -/
def Device.proposal (d : Device) (k lanes : Nat) : Nat :=
  let m := lanes &&& d.laneEn k
  if (k = 1 ∨ k = 2) ∧ m ≠ 3 then 0 else m

/-- A round of mask agreement; the second in a row answers true (R291). -/
def Device.agreeRound (d : Device) (k mine mask : Nat) : Device × Bool :=
  let ok := mine = mask && mine ≠ 0
  let n := if ok then (d.linkOf k).agree + 1 else 0
  (d.modLink k (fun c => { c with mine := mine, agree := n }), decide (2 ≤ n))

/-- TRAINING_SET_RECEIVED: sets on the lanes `lanes`, which propose `mask`; TS2 or TS1, with the wake bit, inverted lanes, and
logical numbers that match (R291). The F256 answers with the sets that its state sends, and takes none on lanes that do not work. -/
def Device.trainingSet (d : Device) (k lanes mask : Nat) (ts2 wake : Bool) (inv : Nat) (isMatch : Bool) : Device :=
  let mine := d.proposal k lanes
  if !d.laneUp k then d else
  let d := if d.lst k = 3 ∨ d.lst k = 6 then d else d.laneSeen k (lanes &&& d.laneEn k) inv
  match d.lst k with
  | 0 =>
    if lanes &&& d.laneEn k = 0 then d
    else
      let d := if k = 0 then d.eqApply mine else d
      ((d.setLst k 1).modLink k (fun c => { c with mine := mine })).sendTs k (d.laneEn k) mine false false false
  | 1 =>
    let d := if k = 0 then d.eqApply (mine - (mine &&& (d.linkOf k).mine)) else d
    let r := d.agreeRound k mine mask
    if r.2 then (r.1.setLst k 2).sendTs k mine mine true false false else r.1.sendTs k (d.laneEn k) mine false false false
  | 2 => if ts2 && isMatch && lanes &&& (d.linkOf k).mine = (d.linkOf k).mine then d.linkUp k (d.linkOf k).mine else d
  | 4 =>
    let m := mine &&& (d.linkOf k).locked
    let r := d.agreeRound k m mask
    if r.2 then r.1.linkUp k m else r.1.sendTs k m m false false true
  | 5 => if wake then (d.linkRetrain k).linkRec 0x08 0xFF else d
  | _ => d

/-- TRAINING_TIMEOUT: TRAIN, CONFIG or RETRAIN runs out of time (R291). -/
def Device.trainingTimeout (d : Device) (k : Nat) : Device :=
  if d.lst k = 1 ∨ d.lst k = 2 ∨ d.lst k = 4 then d.linkDrop k else d

/-- LANE_READD_RETRY: a lost lane is tried while the others carry packets; eight sets on it start a retrain that adds it, every
64th failure in a row is recorded (R292). -/
def Device.laneReadd (d : Device) (k lane : Nat) (answered : Bool) : Device :=
  let c := d.linkOf k
  let on := if k = 0 then d.bit Reg.TRS_CTRL 16 else decide (k = 3)
  if !on || !d.laneUp k || d.lst k ≠ 3 || !natBit c.lost lane then d
  else if answered then
    (d.modLink k (fun c => { c with join := natSetBit c.join lane, retries := Tab.set (fun _ => 0) c.retries lane 0 })).linkRetrain k
  else
    let n := Tab.get (fun _ => 0) c.retries lane + 1
    let d := (d.modLink k (fun c => { c with retries := Tab.set (fun _ => 0) c.retries lane n })).sendTs k (2 ^ lane) (2 ^ lane ||| c.active) false false false
    if k = 0 ∧ n % 64 = 0 then d.linkRec 0x09 lane else d

end Sys2Proof.Machine
end

