-- ==== Sys2Proof/Machine/Replay.lean ====
section
/-! DEFINITION. The end of a replay of vector memory (R222), and the zero-fill of the stacks (R221). -/

namespace Sys2Proof.Machine

/-- The access of core `k` to the word at `a` that is in flight fails: its load or store takes the access fault when it ends (R222, R224). -/
def Device.coreLoses (d : Device) (k a : Nat) (store : Bool) : Device :=
  d.modCore k (fun c => { c with lost := c.lost ++ [(a / 8, store)] })

/-- A read abandoned by origin: an uncorrectable error of origin 6, with the effect of the read's own origin (R222, R224). The partial write of an
engine is the status fill, whose new bytes are zeros as the others are then (R170, R217). -/
def Device.abandonRead (d : Device) (x : Abandoned) (a : Nat) : Device :=
  match x with
  | .fetch s => (d.memUEfree a 6 noStream).modStr s.val (fun c =>
      { c with fetchBad := c.fetchBad ++ [a / 8]
               pos := if c.lateGot.isSome then c.pos.map (fun p => { p with buf := { p.buf with bad := p.buf.bad ++ [a / 8] } }) else c.pos })
  | .dmaRead q =>
    let d := d.memUEfree a 6 noStream
    if (d.dmaOf q.val).run && (d.dmaOf q.val).toHost then
      d.modDma q.val (fun c => { c with lostB := c.lostB + 8, code := if c.code = some 0 then some 3 else c.code })
    else d
  | .bitmapRead p => ((d.memUEfree a 6 noStream).addSat (Reg.CAP_BMLOST p.val) 16 16 1).memStore (a / 32 * 32) 32 (2 ^ 256 - 1)
  | .imageRead => (d.memUEfree a 6 noStream).loadReadFail
  | .coreRead k => (d.memUEfree a 6 noStream).coreLoses k.val a false
  | .corePartial k => (d.memUEfree a 6 noStream).coreLoses k.val a true
  | .dmaPartial q =>
    let d := d.memUEfree a 6 noStream
    if (d.dmaOf q.val).run && !(d.dmaOf q.val).toHost && (d.dmaOf q.val).code.isNone then d.dmaEnd q.val 3 else d
  | .enginePartial => (d.memUEfree a 6 noStream).memStore (a / 8 * 8) 8 0
  | _ => d.memUEfree a 6 noStream

/-- A write abandoned: reported to its requester as failed. What the bytes hold then is free (log entry 2). -/
def Device.abandonWrite (d : Device) (x : Abandoned) (a : Nat) : Device :=
  match x with
  | .dmaWrite q => let y := d.draw; y.2.dmaEnd q.val (y.1 % 255 + 1)
  | .capWrite p =>
    let y := d.draw
    ((y.2.addSat (Reg.CAP_WREJ p.val) 0 16 1).event (Page.CAP p.val) 3).memStore (a / 64 * 64) 64 y.1
  | .bitmapWrite p =>
    let y := d.draw
    ((y.2.addSat (Reg.CAP_BMLOST p.val) 0 16 1).event (Page.CAP p.val) 4).memStore (a / 32 * 32) 32 y.1
  | .coreWrite k => d.coreLoses k.val a true
  | _ => d

/-- A replay of pseudo-channel `pc` of channel `n` completes, or a command that failed three of them is abandoned (R222). -/
def Device.replayDone (d : Device) (n pc : Nat) (ab : Option Abandoned) (a : Nat) : Device :=
  if d.mchState n ≠ 1 ∨ d.replays n pc = 0 then d
  else match ab with
    | none => d.replayClear n pc
    | some x =>
      if d.replays n pc < 3 ∨ mchOf a ≠ n ∨ pcOf a ≠ pc then d
      else
        let d := (d.replayClear n pc).event (Page.MCH n) 3
        match x with
        | .dmaWrite _ | .capWrite _ | .bitmapWrite _ | .coreWrite _ => d.abandonWrite x a
        | _ => d.abandonRead x a

/-- The bring-up zero-fill ends: a stack that succeeded is in service, another stays off (R221). -/
def Device.zeroFillDone (d : Device) (okA okB : Bool) : Device :=
  if !d.bit Reg.MEM_STATUS 0 then d
  else
    let d := { d.setBit Reg.MEM_STATUS 0 false with mem := [], mpoison := [] }
    let one (d : Device) (k : Nat) (ok : Bool) : Device :=
      let d := (d.setBit Reg.MEM_STATUS (8 + k) ok).setFld Reg.PWR_AWAKE_M (16 * k) 16 (if ok then 0xFFFF else 0)
      d.forN 16 (fun d j =>
        let n := 16 * k + j
        if ok then (d.setFld (Reg.MCH_STATUS n) 4 2 1).applyBin n
        else (d.setFld (Reg.MCH_STATUS n) 4 2 3).event (Page.MCH n) 5)
    one (one d 0 okA) 1 okB

end Sys2Proof.Machine
end

