-- ==== Sys2Proof/Machine/Power.lean ====
section
/-! DEFINITION. Power states (R19–R27), the step governor (R352, R353), clock loss (R18, R448), die sensors (R380) and guard
monitors (R348, R349). -/

namespace Sys2Proof.Machine

/-! ## The step governor (R352, R353) -/

/-- The power context changed. -/
def Device.modPwr (d : Device) (f : PwrCtx → PwrCtx) : Device := { d with pwr := f d.pwr }

/-- PWR_GOVQ follows the queue. -/
def Device.govSync (d : Device) : Device :=
  (d.setFld Reg.PWR_GOVQ 16 6 d.pwr.queue.length).setBit Reg.PWR_GOVQ 15 (!d.pwr.waking.isEmpty)

/-- A unit is awake: 0–31 MCHn, 32–47 pier n − 32. -/
def Device.unitAwake (d : Device) (u : Nat) : Bool := if u < 32 then d.bit Reg.PWR_AWAKE_M u else d.bit Reg.PWR_AWAKE_P (u - 32)

/-- A unit's gate bit is set. -/
def Device.unitGated (d : Device) (u : Nat) : Bool := if u < 32 then d.bit Reg.PWR_SGATE (u / 16) else d.bit Reg.PWR_PGATE (u - 32)

/-- A unit goes to sleep: a channel into self-refresh, a pier's channels off (R352). -/
def Device.unitSleep (d : Device) (u : Nat) : Device :=
  if u < 32 then
    let d := d.setBit Reg.PWR_AWAKE_M u false
    if d.fld (Reg.MCH_STATUS u) 4 2 = 1 then d.setFld (Reg.MCH_STATUS u) 4 2 2 else d
  else
    let d := d.setBit Reg.PWR_AWAKE_P (u - 32) false
    (pierChans (u - 32)).foldl (fun d n => d.setBalls n false false) d

/-- In DOZE and RETAIN, on the way there and until the PLLs have locked again every unit sleeps: the wake itself asks for the units (R19, R25). -/
def Device.govShut (d : Device) : Bool := d.pwrState = 2 || d.pwrState = 3 || d.pwrState = 4 || (d.pwrState = 5 && d.pwr.phase = 1)

/-- Requests for units join the queue in order; one that is awake, queued or waking has no effect (R353). -/
def Device.govRequest (d : Device) (us : List Nat) : Device :=
  if d.govShut then d else
  (us.foldl (fun d u =>
    if d.unitAwake u || d.pwr.queue.contains u || d.pwr.waking.contains u then d
    else d.modPwr (fun p => { p with queue := p.queue ++ [u] })) d).govSync

/-- GATE_DONE when the queue, which held requests before (`had`), has emptied (R353). -/
def Device.govEmpty (d : Device) (had : Bool) : Device := if had && d.pwr.queue.isEmpty then d.event Page.PWR 2 else d

/-- Gate bits of units are set: a queued unit leaves the queue, an awake one sleeps, a waking one completes first (R353). -/
def Device.govGate (d : Device) (us : List Nat) : Device :=
  let had := !d.pwr.queue.isEmpty
  let d := us.foldl (fun d u =>
    let d := d.modPwr (fun p => { p with queue := p.queue.filter (fun v => v ≠ u) })
    if d.pwr.waking.contains u then d else d.unitSleep u) d
  (d.govEmpty had).govSync

/-- PWR_GOV.NS; values outside 100–10,000 are reserved and never held. -/
def Device.govNs (d : Device) : Nat := d.fld Reg.PWR_GOV 0 14

/-- GOVERNOR_ADMIT: the interval that began with the last admission has passed and the next queued unit begins its wake; a value written to
PWR_GOV meanwhile counts from this admission on (R353). -/
def Device.govAdmit (d : Device) : Device :=
  match d.pwr.queue with
  | [] => d
  | u :: rest =>
    let d := d.reach (d.pwr.lastAdm + d.pwr.interval * nsTicks)
    let d := d.modPwr (fun p => { p with queue := rest, waking := p.waking ++ [u], lastAdm := d.ttime, interval := d.govNs })
    ((d.setFld Reg.PWR_GOVQ 0 6 u).govEmpty true).govSync

/-- A write of PWR_PGATE (R352): the bit of an assigned pier does not change. -/
def Device.pgateWrite (d : Device) (v : Nat) : Device :=
  d.forN 16 (fun d p =>
    let want := natBit v p
    if want = d.bit Reg.PWR_PGATE p then d
    else if want then
      if (d.streamOf p).isSome then d.fault Page.PWR 0x01 else (d.setBit Reg.PWR_PGATE p true).govGate [32 + p]
    else (d.setBit Reg.PWR_PGATE p false).govRequest [32 + p])

/-- An installed capture region of an engine lies, in part or whole, in stack `k`. -/
def Device.regionIn (d : Device) (k p : Nat) : Bool :=
  match (d.capOf p).region with
  | none => false
  | some r => decide (stackOf r.base = k) || decide (stackOf (r.base + r.seg64 * 64 * r.cnt - 1) = k)

/-- A write of PWR_SGATE (R352). -/
def Device.sgateWrite (d : Device) (v : Nat) : Device :=
  d.forN 2 (fun d k =>
    let want := natBit v k
    let units := (List.range 16).map (fun j => 16 * k + j)
    if want = d.bit Reg.PWR_SGATE k then d
    else if want then
      if (List.range 16).any (fun s => d.admitted s && decide (0 < (d.resOf s).charge k)) || (List.range 16).any (fun p => d.regionIn k p) ||
          d.dmaBusy 0 || d.dmaBusy 1 then d.fault Page.PWR 0x01
      else (d.setBit Reg.PWR_SGATE k true).govGate units
    else (d.setBit Reg.PWR_SGATE k false).govRequest units)

/-! ## Power states (R19–R27) -/

/-- Why a request for DOZE or RETAIN is refused now (R22, R26). -/
def Device.dozeRefusal (d : Device) : Option Nat :=
  let launch (s : Nat) : Bool := (d.strState s = 1 || d.strState s = 2) && ((d.strOf s).arm = .sched || (d.strOf s).arm = .quorum)
  if (List.range 16).any (fun s => !d.halted s && !launch s) then some 1
  else if (List.range 16).any (fun p => (d.capOf p).seg.isSome) then some 2
  else if (List.range 16).any (fun s => launch s) then some 4
  else if (List.range 32).any (fun i => d.ivmBusy i) then some 5
  else if d.dmaPosted || !d.trs.mrds.isEmpty then some 6
  else none

/-- A request is refused with a code. -/
def Device.pwrRefuse (d : Device) (code : Nat) : Device := (d.setFld Reg.PWR_STATE 8 8 code).event Page.PWR 1

/-- A request is acted on (R22, R25, R27); a wake from RETAIN notes the stack to be filled with zeros (R24). A change from RETAIN to DOZE, which the spec gives no way to make, is refused as an
invalid target. -/
def Device.pwrAct (d : Device) (v : Nat) : Device :=
  let st := d.pwrState
  let enter (t : Nat) : Device :=
    match d.dozeRefusal with
    | some c => d.pwrRefuse c
    | none => ((d.modPwr (fun p => { p with target := t, keep := v / 4 % 2 })).setFld Reg.PWR_STATE 0 3 4).calDoze
  match v % 4 with
  | 0 =>
    if st = 2 ∨ st = 3 then
      (d.setFld Reg.PWR_STATE 0 3 5).modPwr (fun p => { p with phase := 1, zfill := if st = 3 then some (1 - p.keep) else none })
    else d
  | 1 => if st = 2 then d else if st = 3 then d.pwrRefuse 3 else enter 1
  | 2 => if st = 3 then d else enter 2
  | _ => d.pwrRefuse 3

/-- A write of PWR_REQ: held while a transition is in progress (R27). -/
def Device.pwrReq (d : Device) (v : Nat) : Device :=
  let d := d.setRegN Reg.PWR_REQ (v % 8)
  if d.pwrState = 4 ∨ d.pwrState = 5 then d.modPwr (fun p => { p with held := some (v % 8) }) else d.pwrAct v

/-- A transition has completed: STATE_DONE, and the last held value is acted on (R27). -/
def Device.pwrDone (d : Device) : Device :=
  let h := d.pwr.held
  let d := (d.event Page.PWR 0).modPwr (fun p => { p with held := none })
  match h with
  | some v => d.pwrAct v
  | none => d

/-- Stack `k` is lost to RETAIN: READY flags of its spans clear, its regions are disarmed, its contents are gone (R24). -/
def Device.stackLost (d : Device) (k : Nat) : Device :=
  let d := d.forN 65536 (fun d i => if d.spanReady i && decide (stackOf (d.spanAddr i) = k) then d.setBit (spanWord i 3) 31 false else d)
  let d := d.forN 16 (fun d p =>
    if d.regionIn k p then (d.modCap p (fun c => { c with region := none, fill := false })).setBit (Reg.CAP_STATUS p) 0 false else d)
  let d := d.forN 16 (fun d j => d.setFld (Reg.MCH_STATUS (16 * k + j)) 4 2 3)
  { d.setBit Reg.MEM_STATUS (8 + k) false with
    mem := Tab.drop (fun a => decide (stackOf a = k)) d.mem, mpoison := Tab.drop (fun w => decide (stackOf (8 * w) = k)) d.mpoison }

/-- POWER_ENTRY_DONE: DOZE or RETAIN is reached (R19, R20, R24, R27). -/
def Device.pwrEntered (d : Device) : Device :=
  if d.pwrState ≠ 4 then d
  else
    let retain := d.pwr.target = 2
    let keep := d.pwr.keep
    let d := d.calDoze
    let d := ((d.modPwr (fun p => { p with queue := [], waking := [] })).forN 48 (fun d u => d.unitSleep u)).govSync
    let d := if retain then (d.setFld Reg.PWR_STATE 16 1 keep).stackLost (1 - keep) else d
    let d := d.setReg Reg.CLK_STATUS ((((d.reg Reg.CLK_STATUS).putBit 0 false).putBit 1 false).putBit 3 false)
    let d := (d.coresHold.channelsOff).strobesOff true
    let d := ((d.linkLost 1).linkLost 2).linkLost 3
    (d.setFld Reg.PWR_STATE 0 3 (if retain then 3 else 2)).pwrDone

/-- The units a wake brings up, gated ones apart: MCH0–MCH31, then P0–P15 (R25, R352). -/
def Device.wakeUnits (d : Device) : List Nat :=
  (List.range 48).filter (fun u => !d.unitGated u && (32 ≤ u || d.stkOk (u / 16) || decide (d.fld (Reg.MCH_STATUS u) 4 2 = 3 ∧ d.pwr.zfill = some (u / 16))))

/-- A wake moves on: with the PLLs locked the units are requested, with all awake the verification starts, and after it the
device is READY (R25). -/
def Device.wakeStep (d : Device) : Device :=
  if d.pwrState ≠ 5 then d
  else
    let locks := decide (d.fld Reg.CLK_STATUS 0 5 = 31)
    let d := if d.pwr.phase = 1 && locks then (d.modPwr (fun p => { p with phase := 2 })).govRequest d.wakeUnits else d
    let d := if d.pwr.phase = 2 ∧ d.pwr.queue = [] ∧ d.pwr.waking = [] then
        (d.modPwr (fun p => { p with phase := 3 })).calBegin 2 allChans false true
      else d
    if d.pwr.phase = 3 && !d.cal.required && d.pwr.zfill.isNone then
      (((d.modPwr (fun p => { p with phase := 0 })).setFld Reg.PWR_STATE 0 3 0).coresFree).calAwake.pwrDone.pump
    else d

/-- UNIT_WAKE_DONE: a unit is awake, or gated at once where its gate bit was set meanwhile (R353). -/
def Device.unitWakeDone (d : Device) (u : Nat) : Device :=
  if !d.pwr.waking.contains u then d
  else
    let d := d.modPwr (fun p => { p with waking := p.waking.filter (fun v => v ≠ u) })
    let d := if u < 32 then
        let d := d.setBit Reg.PWR_AWAKE_M u true
        (if d.fld (Reg.MCH_STATUS u) 4 2 = 2 ∧ d.bit Reg.CLK_STATUS 3 then d.setFld (Reg.MCH_STATUS u) 4 2 1 else d).applyBin u
      else (d.setBit Reg.PWR_AWAKE_P (u - 32) true).restPier (u - 32)
    let d := if d.unitGated u then d.unitSleep u else d
    d.govSync.wakeStep

/-- RETAIN_ZERO_FILL_DONE (R24).
DESIGN CHOICE: a stack that was out of service since bring-up is in service after the zero-fill (log entry 128). -/
def Device.retainFilled (d : Device) : Device :=
  match d.pwr.zfill with
  | some k =>
    if d.pwr.phase < 2 then d
    else
      let d := (d.modPwr (fun p => { p with zfill := none })).setBit Reg.MEM_STATUS (8 + k) true
      let d := d.forN 16 (fun d j => d.setFld (Reg.MCH_STATUS (16 * k + j)) 4 2 (if d.unitGated (16 * k + j) then 2 else 1))
      d.wakeStep
  | none => d

/-! ## Clocks (R18, R448) -/

/-- What the loss of lock of PLL `k` (0 TCLK, 1 pier, 2 core, 3 memory, 4 lane, 5 always-on) does beside the safe-state cause (R18). -/
def Device.pllDown (d : Device) (k : Nat) : Device :=
  if !d.bit Reg.CLK_STATUS k then d
  else
    let d := ((d.setBit Reg.CLK_STATUS k false).addSat Reg.CLK_LOCKLOSS 0 16 1).event Page.CLK 0
    let d := d.burstFlush false
    let d := if k ≤ 1 then d.channelsOff else d
    let d := if k = 0 then ((d.strobesStop).ivmClockLost).setTstate 0 2 else d
    let d := if k ≤ 2 then d.calFreq (k + 1) allChans else d
    let d := if k = 2 then d.coresHold else d
    let d := if k = 3 then d.forN 32 (fun d n => if d.fld (Reg.MCH_STATUS n) 4 2 = 1 then d.setFld (Reg.MCH_STATUS n) 4 2 2 else d) else d
    if k = 4 then [0, 1, 2, 3].foldl (fun d n => d.linkLost n) d else d

/-- PLL `k` loses lock (R18). -/
def Device.pllLost (d : Device) (k : Nat) : Device :=
  if d.bit Reg.CLK_STATUS k && k ≤ 3 then (d.pllDown k).safeCause 7 else d.pllDown k

/-- PLL `k` reports lock; all but the always-on PLL lock only to REFCLK (R448). -/
def Device.pllLock (d : Device) (k : Nat) : Device :=
  if d.bit Reg.CLK_STATUS k || (k ≠ 5 && !d.bit Reg.CLK_STATUS 7) then d
  else
    let d := d.setBit Reg.CLK_STATUS k true
    let d := if k = 2 then d.coresFree else d
    let d := if k = 3 then
        d.forN 32 (fun d n => if d.fld (Reg.MCH_STATUS n) 4 2 = 2 ∧ d.bit Reg.PWR_AWAKE_M n then (d.setFld (Reg.MCH_STATUS n) 4 2 1).applyBin n else d)
      else d
    let d := if k ≤ 2 then d.calFreq (k + 1) allChans else d
    d.wakeStep

/-- REFCLK_LOSS (R18): the PLLs fed by it lose lock, the always-on PLL moves to the oscillator, and Trestle drops. -/
def Device.refLoss (d : Device) : Device :=
  if !d.bit Reg.CLK_STATUS 7 then d
  else
    let d := (((d.setBit Reg.CLK_STATUS 7 false).setBit Reg.CLK_STATUS 8 true).addSat Reg.CLK_LOCKLOSS 16 16 1).event Page.CLK 1
    let d := d.logWith 0x00020000 0x0051 0 0
    let locked := d.fld Reg.CLK_STATUS 0 4 ≠ 0
    let d := ([0, 1, 2, 3, 4].foldl (fun d k => d.pllDown k) d).setTstate 0 2
    let d := d.linkLost 0
    if locked then d.safeCause 7 else d

/-- REFCLK_RETURN: REFOK, and the always-on PLL switches back (R18, R448). -/
def Device.refReturn (d : Device) : Device := (d.setBit Reg.CLK_STATUS 7 true).setBit Reg.CLK_STATUS 8 false

/-- ALERT_N is driven low (R440). -/
def Device.alertLow (d : Device) : Bool :=
  d.fld Reg.MGMT_STATUS 24 8 ≠ 7 || !d.bit Reg.CLK_STATUS 7 || d.bit Reg.SNS_STATUS 0

/-! ## Die sensors (R380) -/

/-- The hottest sensor and its reading in 0.25 °C; of equal ones the lowest. -/
def Device.hottest (d : Device) : Nat × Int :=
  (List.range 20).foldl (fun (b : Nat × Int) j =>
    let t := signed 12 (d.fld (Reg.SNS_T j) 0 12)
    if b.2 < t then (j, t) else b) (0, signed 12 (d.fld (Reg.SNS_T 0) 0 12))

/-- A TEMP record. -/
def Device.tempRecord (d : Device) (kind sensor : Nat) (t : Int) : Device :=
  d.record 0x13 (0x00060000 + sensor) (kind * 256 + sensor) (unsigned 32 t) (d.regN Reg.SNS_TLIM) 0

/-- SENSOR_READING: the die sensors report; Tj is compared with the warning level and with 110 °C. -/
def Device.sensorReading (d : Device) (ts : List (BitVec 12)) : Device :=
  let d := d.forN 20 (fun d j => d.setFld (Reg.SNS_T j) 0 12 (ts.getD j 0).toNat)
  let h := d.hottest
  let d := d.setRegN Reg.SNS_TJ (h.1 * 65536 + unsigned 12 h.2)
  let d := if signed 12 (d.fld Reg.SNS_TMAX 0 12) < h.2 then d.setFld Reg.SNS_TMAX 0 12 (unsigned 12 h.2) else d
  let warn := signed 12 (d.fld Reg.SNS_TLIM 0 12)
  let hyst : Int := (d.fld Reg.SNS_TLIM 16 8 : Nat)
  let d :=
    if !d.bit Reg.SNS_STATUS 0 && decide (warn < h.2) then ((d.setBit Reg.SNS_STATUS 0 true).event Page.SNS 0).tempRecord 1 h.1 h.2
    else if d.bit Reg.SNS_STATUS 0 && decide (h.2 < warn - hyst) then (d.setBit Reg.SNS_STATUS 0 false).tempRecord 2 h.1 h.2
    else d
  let isOver := decide ((440 : Int) < h.2)
  let d :=
    if isOver && !d.bit Reg.SNS_STATUS 1 then
      let d := ((d.setBit Reg.SNS_STATUS 1 true).event Page.SNS 1).tempRecord 3 h.1 h.2
      (d.logWith 0x00060000 0x0053 0 0).safeCause 5
    else d.setBit Reg.SNS_STATUS 1 isOver
  d.calTemp

/-! ## Guard monitors (R348, R349) -/

/-- Monitor `i`'s context changed. -/
def Device.modGrd (d : Device) (i : Nat) (f : GrdCtx → GrdCtx) : Device :=
  { d with grd := Tab.set (fun _ => GrdCtx.reset) d.grd i (f (Tab.get (fun _ => GrdCtx.reset) d.grd i)) }

/-- Monitor `i` enters a STATE (1 UNRESOLVED, 2 IN, 3 OUT): it latches, raises its event and writes its record (R349, R350). -/
def Device.monChange (d : Device) (i st sample : Nat) : Device :=
  let d := d.setFld (Reg.GRD_STATE i) 30 2 st
  let d := (if st = 2 then d else d.setBit Reg.GRD_LATCH i true).event Page.GRD i
  let d := d.modGrd i (fun c => { c with changes := c.changes + 1 })
  let d := d.guardRefresh
  let d := if d.bit (Reg.GRD_CFG i) 29 then
      d.record 0x09 (0x00080000 + i) ((if st = 2 then 0 else if st = 3 then 1 else 2) * 256 + i) sample (d.fld Reg.GRD_GOLVL 0 8)
        (Tab.get (fun _ => GrdCtx.reset) d.grd i).changes
    else d
  d.guardCheck

/-- The code of a guard monitor: V × 4,096 / 1.2 V to the nearest, a half up, from 0 to 4,095 (R347; log entry 136). -/
def guardCode (v : GuardVolts) : Nat := min 4095 ((2 * (v.p - v.n) * 4096 + 1200000000) / 2400000000).toNat

/-- How monitor `i` judges a sample: out, clear, or neither, in a band (R348). -/
def Device.guardJudge (d : Device) (i code : Nat) : Bool × Bool :=
  let lo := d.fld (Reg.GRD_THR i) 0 12
  let hi := d.fld (Reg.GRD_THR i) 16 12
  let h := d.fld (Reg.GRD_HYST i) 0 8
  (decide (code < lo ∨ hi < code), decide (lo + h ≤ code ∧ code + h ≤ hi))

/-- GUARD_SAMPLE: monitor `i` takes a sample, which it judges by the thresholds of now, and decides (R348). -/
def Device.guardSample (d : Device) (i code : Nat) : Device :=
  if !d.bit (Reg.GRD_CFG i) 31 then d
  else
    let n := d.fld (Reg.GRD_CFG i) 8 6 + 1
    let k := d.fld (Reg.GRD_CFG i) 0 6 + 1
    let d := (d.setFld (Reg.GRD_STATE i) 0 12 code).modGrd i (fun c => { c with samples := (d.guardJudge i code :: c.samples).take 64 })
    let last := (Tab.get (fun _ => GrdCtx.reset) d.grd i).samples.take n
    let outs := last.countP (fun c => c.1)
    let clear := last.countP (fun c => c.2)
    let st := d.fld (Reg.GRD_STATE i) 30 2
    if last.length < n then d
    else if st ≠ 3 ∧ k ≤ outs then d.monChange i 3 code
    else if st ≠ 2 ∧ k ≤ clear then d.monChange i 2 code
    else if st = 0 then d.monChange i 1 code
    else d

/-- The monitors restart their decision: DISABLED, and no samples (R348). -/
def Device.monRestart (d : Device) (i : Nat) : Device :=
  ((d.setFld (Reg.GRD_STATE i) 30 2 0).modGrd i (fun _ => GrdCtx.reset)).guardRefresh

/-- GUARD_LATCH_PERIOD: at a multiple of GRD_LPER.US the latched bits of monitors in IN clear under LATCH 0b10 (R349). -/
def Device.guardLatchPeriod (d : Device) : Device :=
  let us := d.fld Reg.GRD_LPER 0 24
  if us = 0 then d
  else
    let d := d.reach (roundUp (d.ttime + 1) (us * usTicks))
    (d.forN 32 (fun d i =>
      if d.fld (Reg.GRD_CFG i) 27 2 = 2 ∧ d.fld (Reg.GRD_STATE i) 30 2 = 2 then d.setBit Reg.GRD_LATCH i false else d)).guardRefresh

/-- A W1C write of GRD_LATCH; hardware holds the bit of a monitor that is OUT or UNRESOLVED (R349). -/
def Device.grdLatchClear (d : Device) (v : Nat) : Device :=
  (d.setRegN Reg.GRD_LATCH (bitsOf 32 (fun i =>
    d.bit Reg.GRD_LATCH i && (!natBit v i || d.fld (Reg.GRD_STATE i) 30 2 = 1 || d.fld (Reg.GRD_STATE i) 30 2 = 3)))).guardRefresh

end Sys2Proof.Machine
end

