-- ==== Sys2Proof/Machine/Keystone.lean ====
section
/-! DEFINITION. Keystone before it touches the register space (R362–R388): bundles, fuses, security faults, warm restarts, the
mailboxes and their requests, updates, and the JTAG and board ports. -/

namespace Sys2Proof.Machine

/-- Keystone's context changed. -/
def Device.modKey (d : Device) (f : KeyCtx → KeyCtx) : Device := { d with key := f d.key }

/-- MGMT_STATUS.STAGE. -/
def Device.stage (d : Device) : Nat := d.fld Reg.MGMT_STATUS 24 8
/-- MGMT_STATUS.STAGE set. -/
def Device.setStage (d : Device) (v : Nat) : Device := d.setFld Reg.MGMT_STATUS 24 8 v
/-- Keystone is awake (R363). -/
def Device.kawake (d : Device) : Bool := d.bit Reg.MGMT_STATUS 0
/-- CONFPEND (R386). -/
def Device.confPend (d : Device) : Bool := d.bit Reg.MGMT_STATUS 12
/-- The firmware slot running. -/
def Device.kslot (d : Device) : Nat := d.fld Reg.MGMT_STATUS 8 1
/-- The bundle in slot `k`. -/
def Device.slotOf (d : Device) (k : Nat) : Option Bundle := if k = 0 then d.key.slot0 else d.key.slot1
/-- The running bundle. -/
def Device.running (d : Device) : Option Bundle := d.slotOf d.kslot

/-! ## Bundles (R367, R371) -/

/-- The dwords of a bundle as numbers. -/
def Bundle.nats (b : Bundle) : List Nat := b.words.map (·.toNat)

/-- Dword `i` of a bundle. -/
def Bundle.w (b : Bundle) (i : Nat) : Nat := (b.words.getD i 0).toNat

/-- NSECT. -/
def Bundle.nsect (b : Bundle) : Nat := b.w 1 / 65536
/-- SVN. -/
def Bundle.svn (b : Bundle) : Nat := b.w 2
/-- LENGTH. -/
def Bundle.length (b : Bundle) : Nat := b.w 3
/-- KEYIDX. -/
def Bundle.keyidx (b : Bundle) : Nat := b.w 4

/-- The TYPE of section `i`. -/
def Bundle.stype (b : Bundle) (i : Nat) : Nat := b.w (32 + 12 * i)
/-- The OFFSET of section `i`. -/
def Bundle.sofs (b : Bundle) (i : Nat) : Nat := b.w (33 + 12 * i)
/-- The LENGTH of section `i`. -/
def Bundle.slen (b : Bundle) (i : Nat) : Nat := b.w (34 + 12 * i)
/-- The LOADADDR of section `i`. -/
def Bundle.sload (b : Bundle) (i : Nat) : Nat := b.w (35 + 12 * i)

/-- The bytes of section `i`. -/
def Bundle.sbytes (b : Bundle) (i : Nat) : List Byte := ((dwBytes b.nats).drop (b.sofs i)).take (b.slen i)

/-- Section `i` matches its HASH. -/
def Bundle.hashOk (b : Bundle) (i : Nat) : Bool :=
  decide (Config.sha256 (b.sbytes i) = beNum (dwBytes ((b.nats.drop (36 + 12 * i)).take 8)))

/-- Indices of the sections of a type. -/
def Bundle.sects (b : Bundle) (t : Nat) : List Nat := (List.range b.nsect).filter (fun i => decide (b.stype i = t))

/-- MAGIC, FORMAT and the section table are valid (R371). -/
def Bundle.tableOk (b : Bundle) : Bool :=
  decide (b.w 0 = 0x4E444246 ∧ b.w 1 % 65536 = 1 ∧ 2 ≤ b.nsect ∧ b.nsect ≤ 8 ∧ b.length ≤ 3 * 2 ^ 20 ∧ b.keyidx < 4 ∧
    (b.sects 1).length = 1 ∧ (b.sects 2).length = 1) &&
  (List.range b.nsect).all (fun i => decide (b.sofs i % 64 = 0 ∧ b.sofs i + b.slen i ≤ b.length ∧ 1 ≤ b.stype i ∧ b.stype i ≤ 4)) &&
  (b.sects 1).all (fun i => decide (b.slen i ≤ 196608))

/-- The signed bytes of a bundle (R371). -/
def Bundle.signed (b : Bundle) : List Byte := dwBytes (b.nats.take (32 + 12 * b.nsect))

/-- SHA-256 of the signed bytes (R379). -/
def Bundle.digest (b : Bundle) : Nat := Config.sha256 b.signed

/-- PUBKEY_X and PUBKEY_Y. -/
def Bundle.pubkey (b : Bundle) : List Byte := dwBytes ((b.nats.drop 16).take 16)

/-- The vendor microcode section as dwords (R138). -/
def Bundle.vend (b : Bundle) : List Nat :=
  match b.sects 2 with
  | [] => []
  | i :: _ => (b.nats.drop (b.sofs i / 4)).take (b.slen i / 4)

/-- The checks of R367: none when the bundle is accepted, else the STATUS of R385. -/
def Device.bundleCheck (d : Device) (b : Bundle) : Option Nat :=
  if !b.tableOk then some 5
  else if Config.sha256 b.pubkey ≠ d.fuseHash (8 * b.keyidx) || d.bit Reg.FUSE_CFG0 (8 + b.keyidx) then some 5
  else if !Config.sigOk (beNum b.pubkey) b.digest (beNum (dwBytes ((b.nats.drop (32 + 12 * b.nsect)).take 16))) then some 5
  else if b.svn < d.fld Reg.FUSE_ARB 0 9 then some 6
  else if !(b.sects 1).all (fun i => b.hashOk i) then some 5
  else none

/-- The checks of R367 and every section's HASH (R385). -/
def Device.bundleCheckAll (d : Device) (b : Bundle) : Option Nat :=
  match d.bundleCheck b with
  | some s => some s
  | none => if (List.range b.nsect).all (fun i => b.hashOk i) then none else some 5

/-! ## Fuses and security faults (R372–R377) -/

/-- Fuse word `n` of one copy (R372): production contents and blown bits. -/
def Device.fuse (d : Device) (n : Nat) : Word :=
  (if n < 32 ∨ (40 ≤ n ∧ n < 64) then Config.prodFuse n else 0) ||| Tab.get (fun _ => 0) d.key.blown n

/-- FUSE_WORDn follow the array; the device secret reads 0 (R372). -/
def Device.fuseShow (d : Device) : Device :=
  d.forN 256 (fun d n => d.setReg (Reg.FUSE_WORD n) (if 40 ≤ n % 128 ∧ n % 128 < 48 then 0 else d.fuse (n % 128)))

/-- The values latched at bring-up: the counter, CFG0, PLOCK, DEVICE_ID and the customer key's hash (R373, R375, R390). -/
def Device.fuseLatch (d : Device) : Device :=
  let arb := (List.range 8).foldl (fun n k => n + popCount (d.fuse (64 + k)).toNat 32) 0
  let d := ((d.setRegN Reg.FUSE_ARB arb).setReg Reg.FUSE_CFG0 (d.fuse 80)).setReg Reg.FUSE_PLOCK (d.fuse 81)
  let d := ((d.setReg Reg.FUSE_DEVID_LO (d.fuse 48)).setReg Reg.FUSE_DEVID_HI (d.fuse 49)).fuseShow
  d.modKey (fun k => { k with custHash := d.fuseHash 32 })

/-- A security fault that holds until power-on reset is in force: codes 0x01 and 0x04 (R377). -/
def Device.secHeld (d : Device) : Bool :=
  d.fld (Reg.PG_FAULT_CODE Page.FUSE) 0 8 = 1 || d.fld (Reg.PG_FAULT_CODE Page.FUSE) 0 8 = 4

/-- A security fault (R377). Codes 0x01 and 0x04 hold, so that neither 0x02 nor 0x03 takes their place. -/
def Device.secFault (d : Device) (code : Nat) : Device :=
  let d := (if d.secHeld && (code = 2 || code = 3) then d else d.fault Page.FUSE code).event Page.FUSE 0
  let d := d.logWith 0x00040000 0x0040 8 code
  if d.bit Reg.SAFE_CAUSE 9 then d else d.safeCause 9

/-- FUSE_CMD.FCLR: codes 0x02 and 0x03 clear (R377). -/
def Device.fuseFclr (d : Device) : Device :=
  if d.fld (Reg.PG_FAULT_CODE Page.FUSE) 0 8 = 2 ∨ d.fld (Reg.PG_FAULT_CODE Page.FUSE) 0 8 = 3 then d.faultClear Page.FUSE else d

/-- Blows `bits` of word `n` in both copies; bits of `stuck` read back unblown (R373). -/
def Device.fuseBlow (d : Device) (n : Nat) (bits stuck : Word) : Device :=
  let d := (d.modKey (fun k => { k with blown := Tab.set (fun _ => 0) k.blown n (Tab.get (fun _ => 0) k.blown n ||| (bits &&& ~~~stuck)) })).fuseShow
  if bits &&& stuck = 0 then d else d.secFault 3

/-! ## Mailboxes (R387) -/

/-- The mailbox of a port: 1 JTAG, 2 board. -/
def Device.mbox (d : Device) (o : Nat) : Mbox := if o = 1 then d.key.jtag else d.key.bport

/-- What the data register that an instruction selects holds at Capture-DR: the identification code, the boundary register, for MBOX the dword that the
next READ returns with the mailbox state above it, or the 0 of BYPASS, which CLAMP and HIGHZ select too (R387, R442; IEEE 1149.1). -/
def Device.tapDr (d : Device) (ir : Nat) : Nat :=
  if ir = 2 then idcodeValue
  else if ir = 0x10 then (Tab.get (fun _ => (0 : Word)) d.key.jtag.buf d.key.jtag.ptr).toNat + d.key.jtag.st * 2 ^ 32
  else if ir = 0 || ir = 1 || ir = 5 || ir = 6 then d.tap.bsr else 0

/-- A port's mailbox replaced. The data register of MBOX shows the JTAG mailbox as it stands. -/
def Device.setMbox (d : Device) (o : Nat) (m : Mbox) : Device :=
  let d := d.modKey (fun k => if o = 1 then { k with jtag := m } else { k with bport := m })
  if o = 1 ∧ d.tap.ir = 0x10 then { d with tap := { d.tap with dr := d.tapDr 0x10 } } else d

/-- Dword `i` of the request of an owner: 0 host, 1 JTAG, 2 board. -/
def Device.reqWord (d : Device) (o i : Nat) : Nat :=
  if o = 0 then d.regN (Reg.MGMT_REQ i) else (Tab.get (fun _ => (0 : Word)) (d.mbox o).buf i).toNat

/-- The state of an owner's mailbox: 0 IDLE, 1 BUSY, 2 DONE. -/
def Device.mbState (d : Device) (o : Nat) : Nat := if o = 0 then d.fld Reg.MGMT_MBSTAT 0 2 else (d.mbox o).st

/-- The state of an owner's mailbox set. -/
def Device.setMbState (d : Device) (o v : Nat) : Device :=
  if o = 0 then d.setFld Reg.MGMT_MBSTAT 0 2 v else d.setMbox o { d.mbox o with st := v }

/-- Dword `i` of an owner's response buffer set. -/
def Device.setRsp (d : Device) (o i : Nat) (v : Word) : Device :=
  if o = 0 then d.setReg (Reg.MGMT_RSP i) v
  else d.setMbox o { d.mbox o with buf := Tab.set (fun _ => (0 : Word)) (d.mbox o).buf (256 + i) v }

/-- The request at the head is answered: header and payload, state DONE, MB_DONE for the host (R387, R389). -/
def Device.answer (d : Device) (status : Nat) (pay : List Word) : Device :=
  match d.key.posts with
  | [] => d
  | o :: rest =>
    let hdr : List Word := [BitVec.ofNat 32 (d.reqWord o 0 % 65536 + status * 65536), BitVec.ofNat 32 (4 * pay.length), BitVec.ofNat 32 (d.reqWord o 2), 0]
    let d := ((hdr ++ pay).zipIdx).foldl (fun d e => d.setRsp o e.2 e.1) d
    let d := (d.modKey (fun k => { k with posts := rest })).setMbState o 2
    if o = 0 then d.event Page.MGMT 0 else d

/-- The ports that may send an opcode (R387). -/
def mbPorts (op : Nat) : List Nat :=
  match op with
  | 0x01 | 0x02 | 0x03 | 0x04 | 0x05 | 0x21 | 0x30 => [0, 1, 2]
  | 0x10 | 0x11 | 0x12 => [0]
  | 0x13 => [0, 2]
  | 0x20 => [1, 2]
  | _ => []

/-- The payload lengths an opcode admits (R387). -/
def mbLenOk (op len : Nat) : Bool :=
  match op with
  | 0x02 | 0x11 => len = 4
  | 0x04 => len = 32
  | 0x10 => len = 12
  | 0x20 => len = 8
  | 0x30 => decide (4 ≤ len ∧ len ≤ 1008)
  | _ => len = 0

/-- The stage admits an opcode: BOOT_LOAD at stage 0x05 only, at 0x0E only GET_INFO and LOG_READ (R368, R387). -/
def Device.mbStageOk (d : Device) (op : Nat) : Bool :=
  if d.stage = 0x0E then op = 0x01 || op = 0x02 else op ≠ 0x30 || d.stage = 5

/-- The STATUS with which a request is turned away before it is carried out (R387). -/
def Device.mbRefusal (d : Device) (o : Nat) : Option Nat :=
  let op := d.reqWord o 0 % 65536
  if mbPorts op = [] then some 1
  else if !(mbPorts op).contains o then some 2
  else if !d.mbStageOk op || (op = 0x12 && !d.confPend) then some 9
  else if (op = 0x10 || op = 0x11 || op = 0x13) && (d.confPend || d.bit Reg.UCS_STATUS 11) then some 4
  else if !mbLenOk op (d.reqWord o 1) then some 3
  else none

/-- Somebody serves the mailboxes: the firmware, or the ROM at stages 0x05 and 0x0E. -/
def Device.mbServed (d : Device) : Bool := d.kawake || d.stage = 5 || d.stage = 0x0E

/-- Requests at the head that are turned away are answered, up to `n` of them. -/
def Device.serve (d : Device) : Nat → Device
  | 0 => d
  | n + 1 =>
    match d.key.posts with
    | [] => d
    | o :: _ =>
      if !d.mbServed || d.key.updating.isSome then d
      else match d.mbRefusal o with
        | some s => (d.answer s []).serve n
        | none => d

/-- The head request is carried out when its opcode is `op`: `f` gives the device and the answer, none when it comes later. -/
def Device.serveOp (d : Device) (op : Nat) (f : Device → Nat → Device × Option (Nat × List Word)) : Device :=
  match d.key.posts with
  | [] => d
  | o :: _ =>
    if !d.mbServed || d.key.updating.isSome || d.reqWord o 0 % 65536 ≠ op || (d.mbRefusal o).isSome then d
    else
      let r := f d o
      match r.2 with
      | some (s, pay) => (r.1.answer s pay).serve 3
      | none => r.1

/-- POST: the request waits its turn; a POST while BUSY is ignored, on the host with a fault (R387, R388). -/
def Device.mbPost (d : Device) (o : Nat) : Device :=
  if d.mbState o = 1 then (if o = 0 then d.fault Page.MGMT 0x01 else d)
  else ((d.setMbState o 1).modKey (fun k => { k with posts := k.posts ++ [o] })).serve 3

/-- ABORT of the host: the request is abandoned (R389). -/
def Device.mbAbort (d : Device) : Device :=
  ((d.setMbState 0 0).modKey (fun k => { k with posts := k.posts.filter (fun o => o ≠ 0) })).serve 3

/-- SETPTR. -/
def Device.mbSetPtr (d : Device) (o p : Nat) : Device := d.setMbox o { d.mbox o with ptr := p % 512 }

/-- WRITE: stored at the pointer, which advances; ignored at 256 and above. -/
def Device.mbWrite (d : Device) (o : Nat) (v : Word) : Device :=
  let m := d.mbox o
  if 256 ≤ m.ptr then d else d.setMbox o { m with buf := Tab.set (fun _ => (0 : Word)) m.buf m.ptr v, ptr := m.ptr + 1 }

/-- READ of `n` dwords from the pointer, which advances. -/
def Device.mbRead (d : Device) (o n : Nat) : Device × List Word :=
  let m := d.mbox o
  (d.setMbox o { m with ptr := (m.ptr + n) % 512 }, (List.range n).map (fun i => Tab.get (fun _ => (0 : Word)) m.buf ((m.ptr + i) % 512)))

/-! ## Warm restart (R364) -/

/-- Keystone restarts into slot `t` with a reason. Before the firmware has started for the first time there is no slot to restart in, and the ROM goes
on with bring-up (DEDUCED, log entry 137). -/
def Device.warmRestart (d : Device) (reason t : Nat) : Device :=
  if d.stage < 4 then d
  else
    let fw := d.kawake || d.key.target.isSome
    let d := d.setBit Reg.MGMT_STATUS 0 false
    let d := (d.addSat Reg.MGMT_RESTARTS 8 24 1).setFld Reg.MGMT_RESTARTS 0 8 reason
    let d := (d.event Page.MGMT 2).loadKrestart
    let d := d.logWith 0x00050000 0x0020 8 reason
    let lost := d.key.updating.isSome
    let img := match d.running with | some b => b.image | none => 2
    let d := d.modKey (fun k =>
      { k with target := if fw then some t else none, updating := none, staged := k.staged && !lost,
               imgB := if lost ∧ img = 0 then [] else k.imgB, imgA := if lost ∧ img ≠ 0 then [] else k.imgA })
    d.modCal (fun c => { c with writing := none })

/-- The mailbox request in service is interrupted: it completes with STATUS 0x08 (R364). -/
def Device.interrupted (d : Device) : Device := if d.mbServed && !d.key.posts.isEmpty then d.answer 8 [] else d

/-- A warm restart into the running slot. -/
def Device.krestart (d : Device) (reason : Nat) : Device := d.interrupted.warmRestart reason d.kslot

/-- An uncorrectable error in Keystone SRAM: it is logged, and Keystone restarts (R260, R364, R383). -/
def Device.keySramUE (d : Device) : Device := (d.logWith 0x00050000 0x0061 0 0).krestart 5

/-- Fallback from unconfirmed firmware into the slot that ran before the switch (R386). -/
def Device.fallback (d : Device) : Device :=
  let old := (d.key.confirm.map (fun c => c.2)).getD (1 - d.kslot)
  let d := d.interrupted
  let d := ((d.setBit Reg.MGMT_STATUS 12 false).modKey (fun k => { k with confirm := none })).vswitch
  let d := (d.event Page.MGMT 1).logWith 0x00050000 0x0031 0 0
  d.warmRestart 4 old

/-- The Keystone watchdog expires (R365, R388). -/
def Device.keyWdog (d : Device) : Device :=
  if !d.kawake then d else if d.confPend then d.fallback else d.krestart 2

/-- The confirmation time expires (R386). -/
def Device.confirmTimeout (d : Device) : Device :=
  match d.key.confirm with
  | some (t, _) => if d.confPend then (d.reach t).fallback else d
  | none => d

/-! ## Requests (R379, R385–R387) -/

/-- The dwords of a byte list, little-endian. -/
def packWords : List Byte → List Word
  | a :: b :: c :: e :: rest => (e ++ c ++ b ++ a) :: packWords rest
  | _ => []

/-- A 256-bit digest as 8 dwords, bytes most significant first. -/
def digestWords (h : Nat) : List Word := packWords (digestBytes h)

/-- A log entry as its 16 dwords (R383). -/
def LogEntry.words (e : LogEntry) : List Word :=
  let w (n : Nat) : Word := BitVec.ofNat 32 n
  let body := [w e.ttime, w (e.ttime / 2 ^ 32), w e.epoch, w e.lseq, w e.source, w e.code] ++
    (List.range 5).map (fun i => w (e.data / 2 ^ (32 * i))) ++ [w e.dropped]
  body ++ [w (crc32 (dwBytes (body.map (·.toNat)))), 0, w 0x4C4F4731, w e.lseq]

/-- GET_INFO. -/
def Device.getInfo (d : Device) : List Word :=
  [d.reg Reg.FUSE_DEVID_LO, d.reg Reg.FUSE_DEVID_HI, BitVec.ofNat 32 d.stage, BitVec.ofNat 32 (d.fld Reg.MGMT_STATUS 16 2),
   d.reg Reg.MGMT_FWSVN, d.reg Reg.FUSE_ARB]

/-- LOG_READ: up to 15 entries from LSEQ `n` on. -/
def Device.logRead (d : Device) (n : Nat) : List Word := ((d.log.filter (fun e => decide (n ≤ e.lseq))).take 15).flatMap (·.words)

/-- SENSORS: SNS_Tj, then SUP_NOWr. -/
def Device.sensors (d : Device) : List Word :=
  (List.range 20).map (fun j => d.reg (Reg.SNS_T j)) ++ (List.range 8).map (fun r => d.reg (Reg.SUP_NOW r))

/-- The signed part of the attestation report over a nonce (R379). -/
def Device.report (d : Device) (nonce : List Word) : List Word :=
  let b := d.running
  let w (n : Nat) : Word := BitVec.ofNat 32 n
  [w 0x52545441, w 1, d.reg Reg.FUSE_DEVID_LO, d.reg Reg.FUSE_DEVID_HI] ++ nonce ++
    [w d.ttime, w (d.ttime / 2 ^ 32), d.reg Reg.TIME_EPOCH, d.reg Reg.FUSE_ARB, d.reg Reg.FUSE_CFG0, d.reg Reg.FUSE_PLOCK,
     d.reg Reg.MGMT_FWSVN,
     w (d.fld Reg.MGMT_STATUS 16 2 + d.fld Reg.MGMT_STATUS 12 1 * 4 + (match b with | some b => b.keyidx | none => 0) * 256)] ++
    digestWords (match b with | some b => b.digest | none => 0) ++ digestWords d.ucs.hash0 ++ digestWords d.ucs.hash1 ++
    digestWords (if d.bit Reg.UCS_STATUS 8 then d.ucs.hashC else 0) ++
    [d.reg Reg.UCS_VEND_SVN0, d.reg Reg.UCS_VEND_SVN1, d.reg Reg.UCS_CUST_SVN, d.reg Reg.UCS_VSEL]

/-- ATTEST: the report and its signature; none is made with security fault 0x01 or 0x04 (R377, R379). -/
def Device.attest (d : Device) (o : Nat) : Nat × List Word :=
  if d.secHeld then (2, [])
  else
    let r := d.report ((List.range 8).map (fun i => BitVec.ofNat 32 (d.reqWord o (4 + i))))
    let s := Config.sign (Config.sha256 (dwBytes (r.map (·.toNat))))
    (0, r ++ digestWords (s / 2 ^ 256) ++ digestWords (s % 2 ^ 256))

/-- The image that is not running: B while A runs, else A (R385). -/
def Device.idleIsB (d : Device) : Bool := match d.running with | some b => b.image = 0 | none => false

/-- The bundle of the idle image. -/
def Device.idleBundle (d : Device) : Bundle := if d.idleIsB then ⟨1, d.key.imgB⟩ else ⟨0, d.key.imgA⟩

/-- The idle image holds `ws` from now on. -/
def Device.setIdle (d : Device) (ws : List Word) (ok : Bool) : Device :=
  let b := d.idleIsB
  d.modKey (fun k => { k with imgB := if b then ws else k.imgB, imgA := if b then k.imgA else ws, staged := ok, updating := none })

/-- UPDATE_STAGE: the bundle in vector memory is read and checked; programming begins, or the STATUS of the failure (R385).
DEDUCED: an uncorrectable word of the bundle counts with origin 7 (log entry 122). -/
def Device.updateStage (d : Device) (o : Nat) : Device × Option (Nat × List Word) :=
  let a := d.reqWord o 4 + d.reqWord o 5 * 2 ^ 32
  let n := d.reqWord o 6
  if !d.memThere a n || 3 * 2 ^ 20 < n then (d, some (5, []))
  else
    let d := d.touchRows a n
    let bad := d.badWords a n
    if bad ≠ [] then (bad.foldl (fun d w => d.memUEfree w 7 noStream) d, some (5, []))
    else
    let ws : List Word := (List.range ((n + 3) / 4)).map (fun i => BitVec.ofNat 32 (d.memRead (a + 4 * i) 4))
    let b : Bundle := ⟨if d.idleIsB then 1 else 0, ws⟩
    if n < b.length then (d, some (5, []))
    else match d.bundleCheckAll b with
      | some s => (d, some (s, []))
      | none => (d.modKey (fun k => { k with updating := some ws, staged := false }), none)

/-- Programming and read-back of the idle image end, and the request is answered (R385). -/
def Device.updateDone (d : Device) (ok : Bool) : Device :=
  match d.key.updating with
  | none => d
  | some ws =>
    let d := d.setIdle (if ok then ws else []) ok
    match d.key.posts with
    | 0 :: _ => if d.reqWord 0 0 % 65536 = 0x10 then (d.answer (if ok then 0 else 7) []).serve 3 else d.serve 3
    | _ => d.serve 3

/-- A verified vendor image goes into half `h` (R146, R369, R386). -/
def Device.vendInstall (d : Device) (h : Nat) (ws : List Nat) : Device :=
  (({ d with ucs := { d.ucs with stage := ws, vend := true, half := h } }).setFld Reg.UCS_STATUS 0 3 3).loadWriteDone none

/-- The checks of a vendor image (R138, R140, R146). -/
def Device.vendOk (d : Device) (ws : List Nat) : Bool :=
  imgHeaderOk ws true && decide (({ d with ucs := { d.ucs with vend := true } }).imgSignCheck ws = 0)

/-- FW_SWITCH: the staged image goes into the idle slot and the free half, and Keystone restarts into it (R386). -/
def Device.fwSwitch (d : Device) (o : Nat) : Device × Option (Nat × List Word) :=
  let secs := d.reqWord o 4
  let b := d.idleBundle
  if 3600 < secs then (d, some (2, []))
  else if d.lstate ≠ 0 then (d, some (4, []))
  else if !d.key.staged || (d.bundleCheckAll b).isSome || !d.vendOk b.vend then (d, some (5, []))
  else
    let slot := 1 - d.kslot
    let d := (d.modKey (fun k => if slot = 0 then { k with slot0 := some b } else { k with slot1 := some b }))
    let d := (d.vendInstall (1 - d.fld Reg.UCS_STATUS 12 1) b.vend).vswitch
    let t := d.ttime + (if secs = 0 then 60 else secs) * 1000000 * usTicks
    let d := ((d.setBit Reg.MGMT_STATUS 12 true).modKey (fun k => { k with confirm := some (t, d.kslot) })).event Page.MGMT 1
    let d := (d.logWith 0x00050000 0x0030 0 0).answer 0 []
    (d.warmRestart 3 slot, none)

/-- FW_CONFIRM: the boot-select record is written into the slot of the older one, with the next GEN (R381, R382, R386). -/
def Device.fwConfirm (d : Device) : Device :=
  let b := match d.running with | some b => b.image = 1 | none => false
  let g (r : Option BootRec) : Nat := (r.map (·.gen)).getD 0
  (d.setBit Reg.MGMT_STATUS 12 false).modKey (fun k =>
    let new : BootRec := ⟨max (g k.boot0) (g k.boot1) + 1, b⟩
    if g k.boot0 ≤ g k.boot1 then { k with confirm := none, boot0 := some new } else { k with confirm := none, boot1 := some new })

/-- ARB_COMMIT: the thermometer is blown up to the running SVN, or 256 (R375). `stuck` are bits that read back unblown. -/
def Device.arbCommit (d : Device) (stuck : BitVec 256) : Device × Option (Nat × List Word) :=
  let n := min (d.regN Reg.MGMT_FWSVN) 256
  let d := d.forN 8 (fun d k =>
    let bits : Word := BitVec.ofNat 32 (2 ^ min 32 (n - 32 * k) - 1)
    let bad := stuck.extractLsb' (32 * k) 32 &&& (bits &&& ~~~d.fuse (64 + k))
    if bits &&& ~~~d.fuse (64 + k) = 0 then d else d.fuseBlow (64 + k) (bits &&& ~~~d.fuse (64 + k)) bad)
  (d.logWith 0x00050000 0x0032 0 0, some (0, []))

/-- The slots that sign the valid images that the flash holds (R374). -/
def Device.imageKeys (d : Device) : List Nat :=
  ([d.key.imgA, d.key.imgB].filter (fun ws => (d.bundleCheck ⟨0, ws⟩).isNone)).map (fun ws => (⟨0, ws⟩ : Bundle).keyidx)

/-- A FUSE_PROGRAM that R373 or R374 refuses. -/
def Device.fuseRefused (d : Device) (w : Nat) (bits : Word) : Bool :=
  let tj := signed 12 (d.fld Reg.SNS_TJ 0 12)
  let rev := bits.toNat / 256 % 16
  !((32 ≤ w && w < 40) || w = 80 || w = 81) || (w = 80 && bits &&& 0xFFFFF0C0 ≠ 0) ||
    decide (d.fld (Reg.SUP_NOW 7) 0 12 < d.fld (Reg.SUP_THR 7) 0 12) || decide (tj < 0 ∨ 340 < tj) ||
    (w = 80 && ((match d.running with | some b => natBit rev b.keyidx | none => false) ||
      (!d.imageKeys.isEmpty && d.imageKeys.all (fun k => natBit rev k))))

/-- FUSE_PROGRAM (R373). -/
def Device.fuseProgram (d : Device) (o : Nat) (stuck : Word) : Device × Option (Nat × List Word) :=
  let w := d.reqWord o 4
  let bits : Word := BitVec.ofNat 32 (d.reqWord o 5)
  if d.fuseRefused w bits then (d, some (2, []))
  else (d.fuseBlow w bits stuck, some (if bits &&& stuck = 0 then 0 else 5, []))

/-- The bytes of a BOOT_LOAD, in the order of their addresses (R387). -/
def Device.bootBytes (d : Device) (o : Nat) : List Byte :=
  (List.range (d.reqWord o 1 - 4)).map (fun i => BitVec.ofNat 8 (d.reqWord o (5 + i / 4) / 256 ^ (i % 4)))

/-- A bundle of bytes; the last dword is filled with zeros. -/
def byteBundle (image : Nat) (bs : List Byte) : Bundle := ⟨image, packWords (bs ++ List.replicate ((4 - bs.length % 4) % 4) 0)⟩

/-- An address of site SRAM (R258). -/
def inSite (a : Nat) : Bool := decide (0x10000000 ≤ a ∧ a < 0x10800000)

/-- The Newt code sections in site SRAM at their LOADADDR (R371); bytes outside site SRAM go nowhere. -/
def Device.loadNewt (d : Device) (b : Bundle) : Device :=
  (b.sects 3).foldl (fun d i => { d with sram := ((b.sbytes i).foldl (fun (m : Nat × List Host.Cell) v =>
    (m.1 + 1, if inSite m.1 then memSetByte m.2 m.1 v else m.2)) (b.sload i, d.sram)).2 }) d

/-- Everything that the link has loaded is discarded (R368). -/
def Device.bootDrop (d : Device) : Device :=
  { d.modKey (fun k => { k with link := [], slot0 := none }) with sram := d.sram.filter (fun c => !inSite c.1) }

/-- BOOT_LOAD: bytes of a bundle over the link (R368). Newt code is loaded as its bytes arrive; a complete bundle is checked; a failure discards
everything. The Keystone code and the vendor microcode run only once the bundle is complete, so that they are taken from it then (log entry 138). -/
def Device.bootLoad (d : Device) (o : Nat) : Device × Option (Nat × List Word) :=
  if d.reqWord o 4 ≠ d.key.link.length then (d.bootDrop, some (5, []))
  else
    let bs := d.key.link ++ d.bootBytes o
    let b := byteBundle 2 bs
    if 20 ≤ bs.length ∧ (3 * 2 ^ 20 < b.length ∨ b.length < 20) then (d.bootDrop, some (5, []))
    else if bs.length < 20 ∨ bs.length < b.length then ((d.modKey (fun k => { k with link := bs })).loadNewt b, some (0, []))
    else match d.bundleCheck b with
      | some _ => (d.bootDrop, some (5, []))
      | none => ((d.modKey (fun k => { k with link := [], slot0 := some b })).loadNewt b, some (0, []))

/-! ## The test access port (R442, R443) -/

/-- Instructions that drive balls from the boundary register: EXTEST, CLAMP, HIGHZ, EXTEST_PULSE, EXTEST_TRAIN. -/
def isBoundary (ir : Nat) : Bool := ir = 0 || ir = 3 || ir = 4 || ir = 5 || ir = 6

/-- Update-IR: a boundary instruction first enters the safe state with cause SW; another one after it returns every channel to
off; its balls follow the boundary register once the entry is done. A code that is not listed, or that DBG_LOCK takes away, is decoded as BYPASS (R376, R442, R443). -/
def Device.tapIr (d : Device) (code : Nat) : Device :=
  let known := isBoundary code || code = 1 || code = 2 || code = 0x10 || code = 0xFF
  let d := if !known && d.bit Reg.FUSE_CFG0 3 then d.secFault 2 else d
  let was := d.tap.ir
  let d := { d with tap := { d.tap with ir := if known then code else 0xFF, dr := d.tapDr (if known then code else 0xFF), drives := false } }
  if isBoundary code then (let d := d.safeCause 13; { d with tap := { d.tap with drives := true } })
  else if isBoundary was then d.channelsOff
  else d

end Sys2Proof.Machine
end

