-- ==== Sys2Proof/Machine/TrigActs.lean ====
section
/-! DEFINITION. The actions of a fired condition at their fixed times, and the TRIGOUT and TRIGIN lines (R187–R192). -/

namespace Sys2Proof.Machine

/-- A pulse on TRIGOUT line `k` that ends at `t`; a line already high stays high to the later end (R189). -/
def Device.trigRise (d : Device) (k t : Nat) : Device :=
  let old := (Tab.get (fun _ => none) d.trigout k).getD 0
  { d with trigout := Tab.set (fun _ => none) d.trigout k (some (max t old)) }

/-- The compare pipeline of stream `s` has gone on until a firing of pier `p`'s engine waits for its time. -/
def Device.settleFiring (d : Device) (s p : Nat) : Nat → Device
  | 0 => d
  | fuel + 1 =>
    if (d.trgOf p).acts ≠ [] then d
    else match (d.strOf s).flights with
      | [] => d
      | .cycle f :: _ => (d.settleDue s f.due).settleFiring s p fuel
      | _ => (d.settleDue s 0).settleFiring s p fuel

/-- The firings of pier `p`'s engine whose results are known have come about (R190). -/
def Device.firingsKnown (d : Device) (p : Nat) : Device :=
  match d.streamOf p with
  | some s => d.settleFiring s p (d.strOf s).flights.length
  | none => d

/-- TRIGGER_ACTIONS: the oldest firing of pier `p`'s engine that waits takes effect, 8 ns after its decision time D_c; TRIGOUT
rises 4 ns later (R189–R192). -/
def Device.trigActions (d : Device) (p : Nat) : Device :=
  let d := d.firingsKnown p
  match (d.trgOf p).acts with
  | [] => d
  | a :: rest =>
    let d := d.setTrg p { d.trgOf p with acts := rest }
    let due := a.cycleT + d.rtdMax a.stream + 24 * nsTicks
    let d := d.reach (due + 8 * nsTicks)
    let d := if a.flags = 0 then d else d.flagsSet a.stream a.flags
    let d := if a.jump then d.jumpRequest a.stream (due + 8 * nsTicks) else d
    let fall := due + 12 * nsTicks + (d.fld (Reg.TRG_CTRL p) 8 8 + 1) * 4 * nsTicks
    let d := if d.normal then
        d.forN 8 (fun d k => if natBit a.out k then d.trigRise k fall else d)
      else d
    if a.evt then
      d.recordAt a.start 0x06 (severity 0x06) (0x00600000 + p)
        ((if a.jump then 64 else 0) + a.capact * 16 + a.conds) a.cycle (a.cycle / 2 ^ 32)
        (match a.seg with | some k => k | none => 2 ^ 31 + 0xFFFFF)
    else d

/-- TRIGOUT_PULSE_END: line `k` falls (R189). -/
def Device.trigoutEnd (d : Device) (k : Nat) : Device :=
  match Tab.get (fun _ => none) d.trigout k with
  | some t => { d.reach t with trigout := Tab.set (fun _ => none) d.trigout k none }
  | none => d

/-- Channel time `u` belongs to the cycle of a view, or to the gap before it (R187). -/
def CycView.holds (v : CycView) (u : Nat) : Bool := decide (u < v.tEnd) && (decide (v.t ≤ u) || !v.first && decide (v.prevEnd ≤ u))

/-- An edge of TRIGIN[k] attributed to channel time `u` of a stream: to a cycle in the compare pipeline, to one that has not started, or to none. -/
def StrCtx.takeEdge (c : StrCtx) (u k : Nat) (rise : Bool) : StrCtx :=
  { c with
    flights := c.flights.map (fun i => match i with
      | .cycle f => if f.view.holds u then .cycle { f with view := { f.view with edges := f.view.edges ++ [(k, rise)] } } else i
      | i => i),
    trigin := if c.first || decide (c.lastEnd ≤ u) then c.trigin ++ [(u, k, rise)] else c.trigin }

/-- TRIGIN_EDGE: an edge of TRIGIN[k] at the ball at instant `t`; every stream that is not halted attributes it to the cycle that
contains t + 6 ns, or loses it (R187). -/
def Device.triginEdge (d : Device) (k t : Nat) (rise : Bool) : Device :=
  (d.reach t).forN 16 (fun d s => if d.halted s then d else d.modStr s (fun c => c.takeEdge (t + 6 * nsTicks) k rise))

end Sys2Proof.Machine
end

