-- ==== Sys2Proof/Machine/RegRules.lean ====
section
/-! DEFINITION. When a register takes a write: the state in which its chapter accepts one, and the values it reserves (R415, R416). A
refused write is ignored with the code given here; of two codes that hold together the higher one is kept (R415). -/

namespace Sys2Proof.Machine

/-- The stream is in a state in which R232 lets a write raise its charge: HALTED, FAULTED or ARMED. -/
def Device.chargeable (d : Device) (s : Nat) : Bool := d.strState s = 0 || d.strState s = 6 || d.strState s = 2

/-- Code `c` where `b` holds. -/
def codeIf (b : Bool) (c : Nat) : Nat := if b then c else 0

/-- PIER registers (R31, R43, R352).
DESIGN CHOICE: a write that clears ASSIGNED names no new stream, whatever its STREAM field (log entry 89). -/
def Device.pierRule (d : Device) (p o : Nat) (w : Word) : Nat :=
  if o = 0x40 then
    let changes := w.get 8 5 ≠ d.fld (Reg.PIER_CTRL p) 8 5
    codeIf (changes && (!d.pierHalted p || (w.bit 12 && (!d.halted (w.get 8 4) || d.bit Reg.PWR_PGATE p)))) 0x01
  else if o = 0x4C then
    codeIf ([0, 8, 16].any (fun k => decide (6 ≤ w.get (k + 3) 3 ∨ w.get k 3 = 7))) 0x02
  else 0

/-- CHN registers (R49). -/
def Device.chnRule (d : Device) (n o : Nat) (w : Word) : Nat :=
  if o = 0x40 then max (codeIf (!d.pierHalted (n / 16)) 0x03) (codeIf (decide (2 ≤ w.get 28 2 ∨ w.get 4 2 = 3)) 0x02)
  else if o = 0x44 then codeIf (!d.pierHalted (n / 16)) 0x03
  else 0

/-- STR registers: settings take writes while the stream is halted (R115, R124, R151), the period table under R232. `d'` is the device as the
write would leave it. -/
def Device.strRule (d d' : Device) (s o : Nat) (w : Word) : Nat :=
  let settings := o = 0x40 || o = 0x4C || o = 0x54 || o = 0x58 || o = 0x70 || o = 0x74 || (0x100 ≤ o && o < 0x140) || (0x200 ≤ o && o < 0x300)
  let reserved :=
    if o = 0x40 then w.get 0 2 = 3
    else if o = 0x58 then decide (w.get 0 11 < 16 ∨ 1024 < w.get 0 11)
    else if o = 0x48 then decide (1 < popCount (w.get 0 3) 3 ∨ w.get 4 2 = 3)
    else if 0x800 ≤ o then decide (d'.regN (Reg.STR_PER_INT s ((o - 0x800) / 8)) < 4095)
    else decide (0x200 ≤ o ∧ o < 0x300) && apgReserved o w.toNat
  max (codeIf (settings && !d.halted s) 0x01)
    (max (codeIf reserved 0x02) (codeIf (decide (0x800 ≤ o) && d.raises d' s && !d.chargeable s) 0x01))

/-- CAP registers (R170, R192, R232). -/
def Device.capRule (d : Device) (p o : Nat) (w : Word) : Nat :=
  let settings := [0x40, 0x4C, 0x50, 0x54, 0x58, 0x5C, 0x60, 0x68, 0x6C, 0x70].contains o
  max (codeIf (settings && !d.pierHalted p) 0x01) (codeIf (decide (o = 0x48 ∧ w.get 0 2 = 3)) 0x02)

/-- The decoder settings hold a value that R188 reserves. -/
def decReserved (cfg fmt : Word) : Bool :=
  decide (5 < cfg.get 29 3 ∨ fmt.get 22 2 = 3) ||
    (cfg.get 29 3 = 4 && decide (fmt.get 16 6 < 4 ∨ 8 < fmt.get 16 6 ∨ fmt.get 0 16 < 2))

/-- TRG registers (R185, R186, R188, R195). -/
def Device.trgRule (d : Device) (p o : Nat) (w : Word) : Nat :=
  let reserved :=
    if 0x60 ≤ o ∧ o < 0xA0 ∧ o % 16 = 0 then decide (8 ≤ w.get 28 4) || (w.bit 26 && w.get 24 2 = (o - 0x60) / 16)
    else if o = 0xA0 then decReserved w (d.reg (Reg.TRG_DEC_FMT p))
    else if o = 0xA4 then decReserved (d.reg (Reg.TRG_DEC_CFG p)) w
    else false
  max (codeIf (!d.pierHalted p) 0x01) (codeIf reserved 0x02)

/-- IVM registers (R196, R198, R211, R213). -/
def Device.ivmRule (d : Device) (i o : Nat) (w : Word) : Nat :=
  let few (mode n : Nat) : Bool := mode = 3 && (n = 1 || n = 2)
  let reserved :=
    if o = 0x40 then few (w.get 0 2) (d.fld (Reg.IVM_COUNT i) 0 17)
    else if o = 0x4C ∨ o = 0x50 then ivmSrcReserved (w.get 0 10) || w.get 14 2 = 3
    else if o = 0x5C then decide (65536 < w.get 0 17) || few (d.ivmMode i) (w.get 0 17)
    else false
  max (codeIf (o ≠ 0x48 && d.ivmState i ≠ 0) 0x01) (codeIf reserved 0x02)

/-- LDG registers (R228, R231, R232). LDG_CMD with both bits set is answered in LDG_RESULT. -/
def Device.ldgRule (d : Device) (o j : Nat) (w : Word) : Nat :=
  if o = 0x50 then codeIf (decide (1600 < w.get 0 16 ∨ 1600 < w.get 16 16)) 0x02
  else if 0x100 ≤ o then codeIf (d.admitted j && !d.chargeable j) 0x01
  else 0

/-- TRS registers (R290, R294, R308). -/
def Device.trsRule (d : Device) (o j : Nat) (w : Word) : Nat :=
  if 0x80 ≤ o ∧ o < 0xC0 then
    let r := o % 0x20
    let on := d.bit (Reg.TRS_DQ_CTRL j) 31
    if r ≤ 0x8 then max (codeIf on 0x01) (codeIf (decide (r = 0x8 ∧ w.get 0 16 < 2)) 0x02)
    else 0
  else 0

/-- EVQ registers (R309). -/
def Device.evqRule (d : Device) (o : Nat) (w : Word) : Nat :=
  if o = 0x48 ∨ o = 0x4C ∨ o = 0x50 then
    max (codeIf (d.bit Reg.EVQ_CTRL 31) 0x01) (codeIf (decide (o = 0x50 ∧ (w.get 0 5 < 7 ∨ 20 < w.get 0 5))) 0x02)
  else 0

/-- TIME registers (R337, R339). `o` is the offset, `k` the strobe. -/
def Device.timeRule (d : Device) (o k : Nat) (w : Word) : Nat :=
  if 0x80 ≤ o ∧ o % 16 ≠ 0 then
    max (codeIf (d.bit (Reg.TSTR_CTRL k) 31) 0x01) (codeIf (decide (o % 16 = 0xC ∧ w = 0)) 0x02)
  else 0

/-- GRD registers (R348–R351). -/
def Device.grdRule (o : Nat) (w : Word) : Nat :=
  if o = 0x4C then codeIf ((List.range 8).any (fun k => decide (w.get (4 * k + 1) 2 = 3))) 0x02
  else if 0x100 ≤ o ∧ o % 16 = 0 then codeIf (decide (w.get 27 2 = 3 ∨ w.get 8 6 < w.get 0 6)) 0x02
  else 0

/-- The operating minimum of each own rail in mV (R342). -/
def supMin : List Nat := [728, 873, 1140, 825, 1067, 380, 1746, 1710]

/-- The operating maximum of each own rail in mV (R341). -/
def supMax : List Nat := [773, 927, 1260, 876, 1133, 420, 1854, 1890]

/-- The code with which the block of a page refuses a write of `w` to the register at page offset `o`, index `j`, of instance `i`; 0 when it is
accepted. `d'` is the device as a plain store would leave it. -/
def Device.writeRule (d d' : Device) (blk : Block) (i o j : Nat) (w : Word) : Nat :=
  match blk with
  | .pier => d.pierRule i o w
  | .chn => d.chnRule i o w
  | .str => d.strRule d' i o w
  | .cap => d.capRule i o w
  | .trg => d.trgRule i o w
  | .ivm => d.ivmRule i o w
  | .ldg => d.ldgRule o j w
  | .trs => d.trsRule o j w
  | .evq => d.evqRule o w
  | .time => d.timeRule o j w
  | .grd => Device.grdRule o w
  | .cal => codeIf (decide (o = 0x50 ∧ 20 < w.get 0 8)) 0x02
  | .via => codeIf (decide (o = 0x78 ∧ 64 < w.get 0 7)) 0x02
  | .sup => codeIf (decide (0x100 ≤ o ∧ o % 16 = 0 ∧ w.get 0 12 < supMin.getD j 0)) 0x02
  | .pwr => codeIf (decide (o = 0x48 ∧ (w.get 0 14 < 100 ∨ 10000 < w.get 0 14))) 0x02
  | .sns => codeIf (decide (o = 0x44 ∧ 440 < w.get 0 12)) 0x02
  | .twn => codeIf (decide (o = 0x58 ∧ w.get 16 16 < w.get 0 16) ) 0x02
  | .ucs => codeIf (decide (o = 0x5C) &&
      (List.range 16).any (fun s => natBit w.toNat s ≠ d.bit Reg.UCS_CUST_EN s && !d.halted s)) 0x03
  | .disp => codeIf (decide (0x100 ≤ o ∧ o < 0x200 ∧ 64 < w.get 16 8) || (decide (0x400 ≤ o) && decide (4095 < w.get 0 12 + w.get 24 4))) 0x02
  | .chip | .clk | .fuse | .mgmt | .safe | .intcCtl | .intcSrc | .intcTgt | .mem | .peb | .mch => 0

/-- The page on which a block's faults are kept: for INTC, the control page (R282). -/
def faultPage (blk : Block) (page : Nat) : Nat :=
  match blk with
  | .intcSrc | .intcTgt => Page.INTC_CTL
  | _ => page

end Sys2Proof.Machine
end

