-- ==== Sys2Proof/Machine/RegRead.lean ====
section
/-! DEFINITION. Reads of the register space (R9–R11, R17, R21, R411–R414): values that follow the engines, split reads, and reads that clear or
claim. A requester is a number: 0 host, 1–16 cores, 17 Keystone, 18 the journal of a twin's partner. -/

namespace Sys2Proof.Machine

/-- The number of a requester. -/
def reqNo : Requester → Nat
  | .host => 0
  | .core k => 1 + k.val
  | .keystone => 17

/-! ## What can be reached (R21, R344, R366–R369) -/

/-- Pages that stay accessible in DOZE, RETAIN and waking (R21). -/
def dozePage : Block → Bool
  | .chip | .clk | .pwr | .fuse | .mgmt | .sns | .sup | .grd | .safe | .intcCtl | .intcSrc | .intcTgt | .disp | .time | .trs | .evq => true
  | .via | .mem | .ldg | .cal | .twn | .ucs | .peb | .mch | .str | .pier | .cap | .trg | .ivm | .chn => false

/-- The device is past its ROM, or answers as R368 states. Before that no path reaches the register space (log entry 40). -/
def Device.stageOpen (d : Device) (p : Option PageRow) : Bool :=
  d.stage = 6 || d.stage = 7 || d.stage = 0x0D ||
    (d.stage = 5 && (match p with
      | some r => r.block = .chip || r.block = .fuse || r.block = .mgmt || r.block = .sns
      | none => false))

/-- DOZE, RETAIN or waking from either, and not the WAKING of a bring-up (R21, R27). -/
def Device.dozeShut (d : Device) : Bool := d.asleep

/-- An access by requester `q` to a page (or a window, `none`) is performed. Keystone, which carries out the bring-up, is not bound by its stages. -/
def Device.reachable (d : Device) (q : Nat) (p : Option PageRow) : Bool :=
  (q = 17 || d.stageOpen p) && !(d.regionReset && (match p with | some r => !r.aon | none => true)) &&
    !(d.dozeShut && (match p with | some r => !dozePage r.block | none => true))

/-- The windows of R411: timing-set memory, sequence store, span table, control store, task RAM. -/
def isWindow (a : Nat) : Bool :=
  decide (0x200000 ≤ a ∧ a < 0x710000) || decide (0x740000 ≤ a ∧ a < 0x780000)

/-! ## Values that follow the engines -/

/-- PG_STATUS of a page (R413): a unit that is not awake is power-gated (R352).
DEDUCED: what counts as carrying out a command, block by block (log entry 119). -/
def Device.viewStatus (d : Device) (p : PageRow) (i base : Nat) : Word :=
  let gated := match p.block with
    | .pier | .cap | .trg => !d.bit Reg.PWR_AWAKE_P i
    | .chn => !d.bit Reg.PWR_AWAKE_P (i / 16)
    | .mch => !d.bit Reg.PWR_AWAKE_M i
    | _ => false
  let ready := !gated && !(d.regionReset && !p.aon) && !(d.dozeShut && !dozePage p.block)
  let busy := match p.block with
    | .ldg => d.bit Reg.LDG_RESULT 31
    | .ucs => d.lstate ≠ 0
    | .cal => d.calState ≠ 0
    | .mgmt => d.fld Reg.MGMT_MBSTAT 0 2 = 1
    | .twn => d.bit Reg.TWN_HSTAT 29
    | .cap => (d.capOf i).fill
    | .via => d.via.calRun || d.via.setReq || d.via.load.isSome || d.via.apply
    | .peb => (List.range 8).any (fun k => (d.pebOf k).busy.isSome)
    | .ivm => !(d.ivmState i = 0 || d.ivmState i = 4)
    | .trs => d.dmaBusy 0 || d.dmaBusy 1 || d.lst 0 = 4
    | .str => !d.halted i
    | _ => false
  (((d.reg (Reg.PG_STATUS base)).putBit 0 ready).putBit 1 busy).putBit 3 (d.reg (Reg.PG_LOCK base) ≠ 0)

/-- Bits of 32 sources from `32 * j` on. -/
def srcBits (f : Nat → Bool) (j : Nat) : Word := BitVec.ofNat 32 (bitsOf 32 (fun b => f (32 * j + b)))

/-- Tasks whose state is among `sts`. -/
def Device.taskCount (d : Device) (sts : List Nat) : Nat := (List.range 4096).countP (fun i => sts.contains (d.taskState i))

/-- DISP_COREk (R284). -/
def Device.viewCore (d : Device) (k : Nat) : Word :=
  let c := d.coreOf k
  (((((d.reg (Reg.DISP_CORE k)).putBit 8 c.slot.isSome).putBit 9 c.running.isSome).putBit 10 c.asleep)).put 16 12 (c.running.getD 0)

/-- The value that the register at page offset `o` (row offset `ro`, index `j`) of instance `i` of a block reads now, where it is not the stored word. -/
def Device.viewReg (d : Device) (blk : Block) (i ro j a : Nat) : Word :=
  let w := d.reg a
  let n (x : Nat) : Word := BitVec.ofNat 32 x
  match blk with
  | .pier =>
    if ro = 0x44 then
      match d.streamOf i with
      | some s => (w.putBit 1 (d.playing s)).put 4 2 (d.fld (Reg.STR_CTRL s) 0 2)
      | none => w
    else w
  | .peb => if ro = 0x58 then n ((d.pebOf j).queue.length + (if (d.pebOf j).busy.isSome then 256 else 0)) else w
  | .str => if ro = 0x5C then n (min 2047 (d.matchMin i)) else if ro = 0x68 then d.reg (Reg.STR_FLAGS i) else ((d.strOf i).apgSeen.lookup a).getD w
  | .ldg =>
    if ro = 0x54 then n (d.ldgSum 0 (d.dmaShare 0) 0)
    else if ro = 0x58 then n (d.ldgSum 1 (d.dmaShare 1) 0)
    else if ro = 0x104 then n (if d.admitted j then (d.resOf j).read else (d.demand j).read)
    else if ro = 0x108 then n (if d.admitted j then (d.resOf j).capA else (d.demand j).capA)
    else if ro = 0x10C then n (if d.admitted j then (d.resOf j).capB else (d.demand j).capB)
    else w
  | .disp =>
    if ro = 0x44 then n (d.taskCount [3] * 65536 + d.taskCount [4, 5, 6])
    else if ro = 0x80 then d.viewCore j
    else if ro = 0x200 then n (d.inFlight j * 2 ^ 24 + (d.flowOf j).rel % 65536)
    else w
  | .intcCtl => if ro = 0x200 then srcBits (fun s => natBit d.intc.pend s) j else if ro = 0x280 then srcBits d.srcActive j else w
  | .intcTgt => if ro = 0x10C then d.tgtStat j else w
  | .time => if ro = 0x40 then n d.ttimeNow else if ro = 0x44 then n (d.ttimeNow / 2 ^ 32) else w
  | .evq => if ro = 0x44 then w.put 16 9 d.evbuf.length else w
  | .trs => if ro = 0x60 then n d.wdogLeft else w
  | .ivm => if ro = 0x94 then n ((((d.ivmOf i).fifo.head?).getD (0, 0)).1 / 2 ^ 32) else w
  | .chip | .clk | .pwr | .fuse | .mgmt | .sns | .sup | .grd | .safe | .intcSrc | .via | .mem | .cal | .twn | .ucs | .mch | .cap | .trg | .chn => w

/-- The value that the header register at offset `o` of a page reads now (R413, R414, R417). -/
def Device.viewHeader (d : Device) (p : PageRow) (i base o : Nat) : Word :=
  if o = 0x0C then d.viewStatus p i base
  else if o = 0x18 then d.reg (Reg.PG_EVT_RAW base) &&& d.reg (Reg.PG_EVT_EN base)
  else if o = 0x1C then d.reg (Reg.PG_EVT_RAW base)
  else if o = 0x24 then (if d.reg (Reg.PG_LOCK base) = 0 then 0 else 1)
  else if o < 0x28 then d.reg (base + o)
  else 0

/-- A core port as its own core reads it (R263). -/
def Device.viewPort (d : Device) (k o a : Nat) : Word :=
  let c := d.coreOf k
  match o with
  | 0x28 => BitVec.ofNat 32 (bitsOf 3 (fun b => match b with | 0 => c.running.isSome | 1 => c.slot.isSome | _ => c.cancelled))
  | 0x24 => 0
  | _ => d.reg a

/-! ## Split reads (R17) -/

/-- Row offsets of the lower registers of split values. -/
def splitLow : Block → List Nat
  | .pier => [0x50]
  | .peb => [0x44, 0x50]
  | .str => [0x50, 0x70, 0x78, 0x80, 0x88, 0x90, 0x244, 0x24C, 0x254, 0x268]
  | .ucs => [0x4C]
  | .cap => [0x4C, 0x68, 0x78, 0x80]
  | .trg => [0x48, 0xA8]
  | .ivm => [0x74, 0x80]
  | .mem => [0x54]
  | .cal => [0x6C]
  | .trs => [0x80]
  | .evq => [0x48]
  | .time => [0x40, 0x84]
  | .via => [0x4C, 0x70]
  | .safe => [0x54]
  | .fuse => [0x4C]
  | .chip | .clk | .pwr | .mgmt | .sns | .sup | .grd | .intcCtl | .intcSrc | .intcTgt | .disp | .ldg | .twn | .mch | .chn => []

/-- Requester `q` reads the register at `a`, whose live value is `live`: the latched part, consumed, where it holds one for `a`. -/
def Device.takeLatch (d : Device) (q a : Nat) (live : Word) : Device × Word :=
  match Tab.get (fun _ => none) d.rlatch q with
  | some (u, w) => if u = a then ({ d with rlatch := Tab.set (fun _ => none) d.rlatch q none }, w) else (d, live)
  | none => (d, live)

/-- Requester `q` reads a lower register: the upper part `up` is latched for `a + 4`.
A read of TIME_NOW_LO latches TIME_EPOCH too (R311).
DESIGN CHOICE: one latch for all pairs, so that the read of another pair replaces it (log entry 87). -/
def Device.setLatch (d : Device) (q a : Nat) (up : Word) : Device :=
  { d with rlatch := Tab.set (fun _ => none) d.rlatch q (some (a + 4, up)),
           elatch := Tab.set (fun _ => none) d.elatch q (if a = Reg.TIME_NOW_LO then some (d.reg Reg.TIME_EPOCH) else none) }

/-- Requester `q` reads TIME_EPOCH: as its read of TIME_NOW_LO latched it, consumed, or live (R17, R311). -/
def Device.takeEpoch (d : Device) (q : Nat) : Device × Word :=
  match Tab.get (fun _ => none) d.elatch q with
  | some w => ({ d with elatch := Tab.set (fun _ => none) d.elatch q none }, w)
  | none => (d, d.reg Reg.TIME_EPOCH)

/-! ## Reads that act -/

/-- An RC register is cleared by its read; extremes restart at the present value (R10, R346, R391). -/
def Device.clearRc (d : Device) (blk : Block) (ro j a : Nat) : Device :=
  match blk, ro with
  | .sup, 0x108 => d.setRegN a (d.fld (Reg.SUP_NOW j) 0 12 * 65537)
  | .sns, 0x4C => d.setRegN a (d.fld Reg.SNS_TJ 0 12)
  | _, _ => d.setRegN a 0

/-- Requester `q` reads the register of a page at offset `o`. -/
def Device.pageRead (d : Device) (q : Nat) (p : PageRow) (i a : Nat) : Device × Word :=
  let o := a % 0x1000
  let base := a - o
  if o < 0x40 then (d, d.viewHeader p i base o)
  else match findRow p.block.rows o with
    | none => (d, 0)
    | some (r, j) =>
      let w := d.viewReg p.block i r.off j a
      if r.acc = .wo then (d, 0)
      else if p.block = .ivm ∧ r.off = 0x90 then d.ivmFifoRead q i
      else if p.block = .ivm ∧ r.off = 0x98 then (d, Tab.get (fun _ => 0) d.taglatch q)
      else if p.block = .intcTgt ∧ r.off = 0x108 then d.claim j
      else if p.block = .time ∧ r.off = 0x48 then d.takeEpoch q
      else if p.block = .chn ∧ r.off = 0x54 then (let x := d.draw; (x.2, BitVec.ofNat 32 (x.1 % 4)))
      else if p.block = .safe ∧ r.off = 0x44 ∧ !d.normal ∧ !w.bit 28 then (let x := d.draw; (x.2, w.putBit 28 (x.1 % 2 = 1)))
      else if p.block = .str ∧ r.off = 0xA4 then
        (d, BitVec.ofNat 32 (min 64 (requests (d.strOf i).queue) * 2 ^ 24 + min bufSize (d.bufBytes i)))
      else if (splitLow p.block).contains r.off then
        (d.setLatch q a (match findRow p.block.rows (o + 4) with | some (r', j') => d.viewReg p.block i r'.off j' (a + 4) | none => 0), w)
      else if r.acc = .rc then (d.clearRc p.block r.off j a, w)
      else d.takeLatch q a w

/-- A window word (R70, R71, R94, R97, R136, R264): none for a word whose check bits fail.
DESIGN CHOICE: for a control-store word the spec gives no result, and the read ends with an error as one of the other windows does (log entry 120). -/
def Device.windowRead (d : Device) (a : Nat) : Option Word :=
  if a < 0x400000 then
    if d.winUE a then none else some ((d.reg a).put 25 4 (unsigned 4 (d.trimAt a)))
  else if 0x700000 ≤ a ∧ a < 0x710000 then
    if d.bit Reg.FUSE_CFG0 2 ∧ a < 0x70C000 then some 0
    else if d.csUE ((a - 0x700000) / 4) then none
    else some (d.reg a)
  else if 0x600000 ≤ a ∧ a < 0x700000 then
    if d.winUE a then none
    else some (if a % 16 = 12 then (d.reg a).putBit 30 (d.spanActive (a % 0x100000 / 16)) else d.reg a)
  else if d.winUE a then none
  else some (d.reg a)

/-- What the ECC check finds when requester `q` reads the window word at `a`: in the timing-set memory and task RAM a corrected error is
repaired and counted, elsewhere repaired; an uncorrectable one stays with its pair or word (R71, R94, R97, R137, R260). -/
def Device.winEcc (d : Device) (q a : Nat) (e : Ecc) : Device :=
  if a % 4 ≠ 0 || !isWindow a || !d.reachable q none then d
  else if a < 0x400000 then d.tsEcc (a / 8 * 8) e
  else if 0x740000 ≤ a then (if e = .corrected then d.sramFixed else d.noteUE a (e = .bad))
  else if 0x700000 ≤ a then d.noteUE (csKey ((a - 0x700000) / 4)) (e = .bad)
  else d.noteUE a (e = .bad)

/-- A read of register address `a` by requester `q`; none for an error completion. -/
def Device.readAt (d : Device) (q a : Nat) : Device × Option Word :=
  if a % 4 ≠ 0 then (d, none)
  else if 0x1000000 ≤ a then
    let k := (a - 0x1000000) / 0x1000
    if k < 16 ∧ q = 1 + k ∧ (findRow ncpRows (a % 0x1000)).isSome then
      if a % 0x1000 = 4 then (let r := d.ncpTake k; (r.1, some r.2))
      else if a % 0x1000 = 0x38 then (d.setLatch q a (d.reg (a + 4)), some (d.reg a))
      else (let r := d.takeLatch q a (d.viewPort k (a % 0x1000) a); (r.1, some r.2))
    else (d, none)
  else if isWindow a then (d, if d.reachable q none then d.windowRead a else none)
  else match pageAt a with
    | none => (d, none)
    | some (p, i) =>
      if d.reachable q (some p) then (let r := d.pageRead q p i a; (r.1, some r.2)) else (d, none)

/-- A read as a command: `last` holds its answer. `full` says that it is a 32-bit access (R9). -/
def Device.readReg (d : Device) (q a : Nat) (full : Bool) : Device :=
  if !full then { d with last := ⟨0, true⟩ }
  else
    let r := d.readAt q a
    match r.2 with
    | some w => { r.1 with last := ⟨w, false⟩ }
    | none => { r.1 with last := ⟨0, true⟩ }

end Sys2Proof.Machine
end

