-- ==== Sys2Proof/Machine/RegWrite.lean ====
section
/-! DEFINITION. Writes of the register space (R9–R12, R73, R94–R97, R264, R411–R418): what each register does when it is written, commands among
them; page headers, locks and soft reset; windows; and the journal of a twin pair (R398–R401). -/

namespace Sys2Proof.Machine

/-! ## Stores with consequences beyond the register -/

/-- A change of a stream's settings withdraws the admissions whose charge it raises (R232). `d0` is the device before it. -/
def Device.ldgAfter (d d0 : Device) : Device :=
  d.forN 16 (fun d s =>
    if d0.raises d s || (d0.admitted s && !d0.badBase s && d.badBase s) then (d.ldgDrop s) else d)

/-- PIER_CMD.STATIC_RESUME (R50). -/
def Device.staticResume (d : Device) (p : Nat) : Device :=
  if d.normal then (d.setBit (Reg.PIER_STATUS p) 2 false).restPier p else d

/-- A write of STR_CMD (R115, R118–R121). -/
def Device.strCmd (d : Device) (s v : Nat) : Device :=
  let d := if natBit v 0 then d.launch s .immediate else if natBit v 1 then d.launch s .sched
    else if natBit v 2 then d.launch s .quorum else d
  let d := if natBit v 3 then d.strCancel s else d
  let d := if v / 16 % 4 = 0 then d else d.strStop s (v / 16 % 4)
  if natBit v 8 then d.jumpRequest s d.ttime else d

/-- A write of UCS_CMD (R141, R145–R147): host and cores command the customer region, Keystone the vendor halves. -/
def Device.ucsCmd (d : Device) (q v : Nat) : Device :=
  let c := v &&& 0x33
  if d.lstate ≠ 0 then d.fault Page.UCS 0x01
  else if c = 0 then d
  else if 1 < popCount c 6 then d.fault Page.UCS 0x02
  else if c = 1 then d.loadCust
  else if c = 2 then d.clearCust
  else if q ≠ 17 then d.fault Page.UCS 0x01
  else if c = 32 then d.vswitch
  else d

/-- A write of IVM_CMD (R201, R196, R212, R213). -/
def Device.ivmCmd (d : Device) (i v : Nat) : Device :=
  let d := if natBit v 0 then d.ivmArm i else d
  let d := if natBit v 1 then d.ivmDisarm i else d
  let d := if natBit v 2 then d.ivmSwEvt i else d
  if natBit v 3 then d.setIvmFifo i [] else d

/-- A write of a TRS_DQn register that is accepted (R299, R308). -/
def Device.dqWrite (d : Device) (n r : Nat) (a : Nat) (w : Word) : Device :=
  if r = 0x14 then
    let was := d.bit (Reg.TRS_DQ_CTRL n) 31
    let d := d.setReg a w
    if was && !w.bit 31 then d.dmaDisable n else d.pump
  else if r = 0xC then (d.setReg a w).pump
  else d.setReg a w

/-- A write of GRD_CFGi (R348). -/
def Device.grdCfg (d : Device) (i a : Nat) (w : Word) : Device :=
  let was := d.bit (Reg.GRD_CFG i) 31
  let d := d.setReg a w
  (if was = w.bit 31 then d.guardRefresh else d.monRestart i).guardCheck

/-- A write of DISP_HOOKh sets POS to 0 (R284). -/
def Device.hookWrite (d : Device) (a : Nat) (w : Word) : Device := d.setReg a (w.put 16 4 0)

/-- What an accepted write of a PIER register does (R31, R50). -/
def Device.pierRegAct (d : Device) (i ro a v : Nat) (w : Word) : Device :=
  if ro = 0x40 then (if w.get 8 5 = d.fld a 8 5 then d.setReg a w else (d.setReg a w).restPier i).ldgAfter d
  else if ro = 0x48 then (if natBit v 0 then d.staticResume i else d)
  else d.setReg a w

/-- What an accepted write of a STR register does (R102–R125, R151–R158). -/
def Device.strRegAct (d : Device) (i ro o a v : Nat) (w : Word) : Device :=
  if ro = 0x40 then ((d.setReg a w).calFreqStr i).ldgAfter d
  else if ro = 0x48 then d.strCmd i v
  else if ro = 0x60 then (if natBit v 31 then d.jumpArm i (v % 2 ^ 18) else d.jumpDisarm i (v % 2 ^ 18))
  else if ro = 0x64 then d.flagsSet i v
  else if ro = 0x68 then d.setReg (Reg.STR_FLAGS i) (d.reg (Reg.STR_FLAGS i) &&& ~~~(BitVec.ofNat 32 v))
  else if 0x200 ≤ o ∧ o < 0x300 then d.apgWrite i o v
  else d.setReg a w

/-- What an accepted write of a CAP register does (R170, R179, R192). -/
def Device.capRegAct (d : Device) (i ro a v : Nat) (w : Word) : Device :=
  if ro = 0x48 then (if natBit v 0 then d.capArm i else if natBit v 1 then d.capDisarm i else d).ldgAfter d
  else if ro = 0x64 then d.capRelease i v
  else if ro = 0x300 then (d.setReg a w).quotaRefresh i
  else (d.setReg a w).ldgAfter d

/-- What an accepted write of an IVM register does (R196–R213). -/
def Device.ivmRegAct (d : Device) (i ro a v : Nat) (w : Word) : Device :=
  if ro = 0x40 then (d.setReg a w).calPoll
  else if ro = 0x48 then d.ivmCmd i v
  else d.setReg a w

/-- What an accepted write of an LDG register does (R228–R232). -/
def Device.ldgRegAct (d : Device) (ro j a v : Nat) (w : Word) : Device :=
  if ro = 0x40 then d.ldgCmd (natBit v 0) (natBit v 1)
  else if ro = 0x50 then d.ldgDmaWrite v
  else if ro = 0x100 then (if d.admitted j then (d.setReg a w).ldgDrop j else d.setReg a w)
  else d.setReg a w

/-- What an accepted write of a DISP register does (R266–R273). -/
def Device.dispRegAct (d : Device) (ro j a v : Nat) (w : Word) : Device :=
  if ro = 0x40 then d.dispCmd v .good
  else if ro = 0x80 then d.coreWrite j v
  else if ro = 0x100 then (d.setReg a w).flowChanged j
  else if ro = 0x400 then d.hookWrite a w
  else d.setReg a w

/-- What an accepted write of a TRS register does (R290–R308). -/
def Device.trsRegAct (d : Device) (ro o j a v : Nat) (w : Word) : Device :=
  if ro = 0x40 then d.setReg a w
  else if ro = 0x48 then d.trsCmd v
  else if ro = 0x4C then d.trsTest v
  else if ro = 0x58 then d.wdogSet v
  else if ro = 0x5C then d.wdogKick v
  else if ro = 0x100 then d.trsLeq j v
  else d.dqWrite j (o % 0x20) a w

/-- What an accepted write of a GRD register does (R348–R350). -/
def Device.grdRegAct (d : Device) (ro j a v : Nat) (w : Word) : Device :=
  if ro = 0x44 then d.grdLatchClear v
  else if ro = 0x100 then d.grdCfg j a w
  else (d.setReg a w).guardRefresh

/-- What an accepted write of an EVQ register does (R303, R304). -/
def Device.evqRegAct (d : Device) (ro a v : Nat) (w : Word) : Device :=
  if ro = 0x40 then d.evqCtrl v else if ro = 0x58 then d.evqCons v else if ro = 0x5C then (d.setReg a w).evqNotify false else d.setReg a w

/-- What an accepted write of a VIA register does (R317–R332). -/
def Device.viaRegAct (d : Device) (ro a v : Nat) (w : Word) : Device :=
  if ro = 0x48 then d.viaCmd v else if ro = 0x54 then d.viaSkew v else d.setReg a w

/-- What an accepted write of a PWR register does (R26, R352). -/
def Device.pwrRegAct (d : Device) (ro a v : Nat) (w : Word) : Device :=
  if ro = 0x40 then d.pwrReq v else if ro = 0x4C then d.pgateWrite v else if ro = 0x50 then d.sgateWrite v else d.setReg a w

/-- What an accepted write of a SAFE register does (R355–R358). -/
def Device.safeRegAct (d : Device) (q ro a v : Nat) (w : Word) : Device :=
  if ro = 0x40 then d.safeClear v
  else if ro = 0x48 then d.safeKey q v
  else if ro = 0x4C then (if natBit v 0 then d.safeCause 13 else d)
  else d.setReg a w

/-- What an accepted write of an MGMT register does (R364, R387). -/
def Device.mgmtRegAct (d : Device) (ro a v : Nat) (w : Word) : Device :=
  if ro = 0x48 then (if natBit v 0 then d.krestart 1 else d)
  else if ro = 0x4C then (if natBit v 1 then d.mbAbort else if natBit v 0 then d.mbPost 0 else d)
  else d.setReg a w

/-- What an accepted write of a TWN register does (R396, R402, R407). -/
def Device.twnRegAct (d : Device) (ro a v : Nat) (w : Word) : Device :=
  if ro = 0x40 then (d.setReg a w).twinEnable
  else if ro = 0x48 then
    let d := if natBit v 0 then d.swapCmd else d
    if natBit v 1 then d.hashCmd else d
  else d.setReg a w

/-- An accepted write of value `v` (`w` with the bits that software does not write kept) to the register at `a`: row offset `ro`, page offset `o`, index
`j`, instance `i`, by requester `q`. -/
def Device.regAct (d : Device) (q : Nat) (blk : Block) (i ro o j a v : Nat) (w : Word) : Device :=
  match blk with
  | .pier => d.pierRegAct i ro a v w
  | .chn => if ro = 0x40 then (d.setReg a w).restChan i else d.setReg a w
  | .peb => if ro = 0x4C then (if natBit v 8 then d.pebGo j (v % 4) else d) else d.setReg a w
  | .str => d.strRegAct i ro o a v w
  | .ucs => if ro = 0x48 then d.ucsCmd q v else d.setReg a w
  | .cap => d.capRegAct i ro a v w
  | .ivm => d.ivmRegAct i ro a v w
  | .ldg => d.ldgRegAct ro j a v w
  | .cal => if ro = 0x48 then d.calCmd v else d.setReg a w
  | .disp => d.dispRegAct ro j a v w
  | .trs => d.trsRegAct ro o j a v w
  | .evq => d.evqRegAct ro a v w
  | .time => if ro = 0x80 then d.strobeCtrl j v else d.setReg a w
  | .via => d.viaRegAct ro a v w
  | .grd => d.grdRegAct ro j a v w
  | .pwr => d.pwrRegAct ro a v w
  | .safe => d.safeRegAct q ro a v w
  | .mgmt => d.mgmtRegAct ro a v w
  | .fuse => if ro = 0x54 then (if natBit v 0 then d.fuseFclr else d) else d.setReg a w
  | .twn => d.twnRegAct ro a v w
  | .intcCtl => if ro = 0x40 then d.swTrig v else if ro = 0x100 then d.grpWrite j v else d.setReg a w
  | .intcSrc => if ro = 0x400 then d.srcWrite j v else d.setReg a w
  | .intcTgt => if ro = 0x108 then d.complete j v else d.setReg a w
  | .chip | .clk | .sns | .sup | .mem | .mch | .trg => d.setReg a w

/-! ## Held-write pairs (R73) -/

/-- Row offsets of the upper registers of held-write pairs. -/
def heldUpper : Block → List Nat
  | .str => [0x54, 0x804]
  | .time => [0x88]
  | .via => [0x50, 0x74]
  | .chip | .clk | .pwr | .fuse | .mgmt | .sns | .sup | .grd | .safe | .intcCtl | .intcSrc | .intcTgt | .disp | .trs | .evq | .mem | .ldg | .cal
  | .twn | .ucs | .peb | .mch | .pier | .cap | .trg | .ivm | .chn => []

/-- Row offsets of the lower registers of held-write pairs. -/
def heldLower (blk : Block) : List Nat := (heldUpper blk).map (· - 4)

/-- The value held by requester `q` for the upper register at `a`. -/
def Device.heldFor (d : Device) (q a : Nat) : Option Word :=
  match Tab.get (fun _ => none) d.wlatch q with
  | some (u, w) => if u = a then some w else none
  | none => none

/-- The write latch of requester `q` holds `w` for the upper register at `a`. -/
def Device.hold (d : Device) (q a : Nat) (w : Word) : Device := { d with wlatch := Tab.set (fun _ => none) d.wlatch q (some (a, w)) }

/-- The write latch of requester `q` is empty. -/
def Device.unhold (d : Device) (q : Nat) : Device := { d with wlatch := Tab.set (fun _ => none) d.wlatch q none }

/-- The upper register at `a` takes `w`, with the held lower half where one is held for it. -/
def Device.storePair (d : Device) (q a : Nat) (w : Word) : Device :=
  let d1 := match d.heldFor q a with | some lo => d.setReg (a - 4) lo | none => d
  d1.setReg a w

/-! ## Registers of a page -/

/-- What a write answered: the device, whether it completes with an error status, and whether it was accepted. -/
structure Wrote where
  dev : Device
  error : Bool
  accepted : Bool
deriving DecidableEq, Repr

/-- A fault of a page of block `blk`: on the dispatcher's, DISP_LASTERR and FAULT follow it (R284, R415). -/
def Device.pageFault (d : Device) (blk : Block) (base code : Nat) : Device :=
  if blk = .disp then d.dispFault code 0 else d.fault (faultPage blk base) code

/-- A write to a locked page (R10, R417): code 0xFF, LOCKWR and an error completion. -/
def Device.lockedWrite (d : Device) (blk : Block) (base : Nat) : Wrote := ⟨(d.pageFault blk base 0xFF).event Page.FUSE 1, true, false⟩

/-- A write that acts as `act` is refused by the block itself: it leaves a fault code, or the event of a refused jump or admission (R114, R232, R415). -/
def Device.turnedAway (d : Device) (blk : Block) (base : Nat) (act : Device → Device) : Bool :=
  let t := act ((d.faultClear base).setRegN (Reg.PG_EVT_RAW base) 0)
  t.fld (Reg.PG_FAULT_CODE base) 0 8 ≠ 0 || (blk = .str && t.bit (Reg.PG_EVT_RAW base) 7) || (blk = .ldg && t.bit (Reg.PG_EVT_RAW base) 1)

/-- A launch write leaves a trace in the journal only where the launch was accepted (log entry 41). -/
def launchTaken (d d' : Device) (blk : Block) (i ro v : Nat) : Bool :=
  !(decide (blk = .str ∧ ro = 0x48 ∧ v % 8 ≠ 0)) || (d.halted i && !d'.halted i)

/-- A write of `v` to a block register at page offset `o` of a page that is not locked. -/
def Device.blockWrite (d : Device) (q : Nat) (p : PageRow) (i base o v : Nat) : Wrote :=
  match findRow p.block.rows o with
  | none => ⟨d, false, false⟩
  | some (r, j) =>
    let a := base + o
    let w := Word.merge (BitVec.ofNat 32 r.mask) (BitVec.ofNat 32 v) (if r.acc = .rw || r.acc = .rws || r.acc = .rwf then d.reg a else 0)
    if r.acc = .ro || r.acc = .rc then ⟨d, false, false⟩
    else if r.acc = .rwf && d.bit Reg.FUSE_CFG0 5 then d.lockedWrite p.block base
    else if (heldLower p.block).contains r.off then ⟨d.hold q (a + 4) w, false, true⟩
    else
      let pair := (heldUpper p.block).contains r.off
      let d' := if pair then d.storePair q a w else d.setReg a w
      let code := d.writeRule d' p.block i o j w
      if code ≠ 0 then
        let d := if pair then d.unhold q else d
        ⟨d.pageFault p.block base code, false, false⟩
      else if pair then
        let d1 := d'.unhold q
        ⟨(if p.block = .str ∧ r.off = 0x804 then (d1.calFreqStr i).ldgAfter d else d1), false, true⟩
      else
        let act (d : Device) : Device := d.regAct q p.block i r.off o j a (v &&& r.mask) w
        ⟨act d, false, launchTaken d (act d) p.block i r.off v && !d.turnedAway p.block base act⟩

/-! ## Page headers (R413–R417) -/

/-- The bits of a read-only register that show at every instant what lies outside the page's registers (straps, fuses, clocks, sensors, links, gates,
Keystone, the stacks): after a soft reset they show it on (log entry 42). Every other read-only field records, and returns to reset. -/
def liveMask (blk : Block) (off : Nat) : Nat :=
  match blk with
  | .chip | .clk | .fuse | .sns | .sup => 0xFFFFFFFF
  | .pwr => if off = 0x44 then 0x10007 else 0xFFFFFFFF
  | .mgmt => if off = 0x44 then 0xFFFFFFFF else 0
  | .mem => if off = 0x44 || off = 0x48 then 0xFFFFFFFF else 0
  | .mch => if off = 0x44 then 0xFFFFFFFF else 0
  | .trs => if off = 0x140 then 0xFFFF else if off = 0x44 then 0xFFFFFFFF else 0
  | .via => if off = 0x44 then 0x700 else 0
  | .twn => if off = 0x44 then 0xF500 else 0
  | .grd | .time | .cal | .ucs | .safe | .intcCtl | .intcSrc | .intcTgt | .disp | .evq | .ldg | .peb | .str | .pier | .cap | .trg | .ivm | .chn => 0

/-- Every register of the page that takes writes would accept its reset value now (R416); command registers have no value to accept. INTC_CLAIM
takes only the ID of an active source, and 0 is none (R279). -/
def Device.softOk (d : Device) (p : PageRow) (i base : Nat) : Bool :=
  p.block.rows.all (fun r =>
    r.acc = .ro || r.acc = .rc || r.acc = .rws || r.acc = .wo ||
      (List.range (max 1 r.count)).all (fun j =>
        let o := r.off + r.stride * j
        let v := resetWord (base + o)
        d.writeRule (d.setReg (base + o) v) p.block i o j v = 0 && !(r.acc = .rwf && d.bit Reg.FUSE_CFG0 5))) &&
    !(p.block = .ldg && (d.bit Reg.LDG_RESULT 31 || (d.ldgDmaWrite (resetNat Reg.LDG_DMA)).fld (Reg.PG_FAULT_CODE Page.LDG) 0 8 ≠
      d.fld (Reg.PG_FAULT_CODE Page.LDG) 0 8)) &&
    !(p.block = .ucs && d.lstate ≠ 0) && p.block ≠ .intcTgt && !(p.block = .evq && d.reg Reg.EVQ_CONS ≠ 0)

/-- What a page's engines do when its registers return to reset (R416). -/
def Device.softEngines (d : Device) (blk : Block) (i : Nat) : Device :=
  match blk with
  | .str => (d.strClear i).setStr i StrCtx.reset
  | .pier => (d.setBit (Reg.PIER_STATUS i) 3 (!d.normal)).restPier i
  | .chn => d.restChan i
  | .cap => d.setCap i CapCtx.reset
  | .trg => d.setTrg i TrgCtx.reset
  | .ivm => d.modIvm i (fun _ => IvmCtx.reset)
  | .ldg => { d with ldg := LdgCtx.reset }
  | .peb => { d with peb := [] }
  | .grd => ({ d with grd := [] }).guardCheck
  | .evq => { d with evq := EvqCtx.reset }
  | .intcCtl => d.modIntc (fun _ => IntcCtx.reset)
  | .disp => d.forN 64 (fun d f => d.flowChanged f)
  | .twn => ((d.modTwin (fun _ => TwinCtx.reset)).setBit Reg.TWN_CTRL 0 (d.bit Reg.CHIP_STRAP 7)).twinEnable
  | .via => d.modVia (fun _ => ViaCtx.reset)
  | .cal => d.calSoftReset
  | .ucs => d.hashStale
  | .mgmt => d.mbAbort
  | .chip | .clk | .pwr | .fuse | .sns | .sup | .safe | .intcSrc | .intcTgt | .time | .trs | .mem | .mch => d

/-- Commands by which a soft reset leaves states that registers hold on (cores, strobes, gates). -/
def Device.softBefore (d : Device) (blk : Block) : Device :=
  match blk with
  | .disp => d.forN 16 (fun d k => d.coreWrite k 0)
  | .time => d.forN 4 (fun d k => d.strobeCtrl k 1)
  | .pwr => (d.pgateWrite 0).sgateWrite 0
  | _ => d

/-- Registers of a page return to reset, all but RWS (R12, R416). -/
def Device.softRegs (d : Device) (p : PageRow) (base : Nat) : Device :=
  let d := p.block.rows.foldl (fun d r =>
    if r.acc = .rws then d
    else d.forN (max 1 r.count) (fun d j =>
      let a := base + r.off + r.stride * j
      let keep : Word := if r.acc = .ro then BitVec.ofNat 32 (liveMask p.block r.off) else 0
      let d := d.setReg a (Word.merge keep (d.reg a) (resetWord a))
      if p.shadow then d.setApp a (resetWord a) else d)) d
  let d := d.setRegN (Reg.PG_EVT_RAW base) 0
  let d := if p.block = .fuse then d.fuseFclr else d.faultClear base
  (d.setPendingCommit base false).setReg (Reg.PG_CTRL base) (resetWord (Reg.PG_CTRL base))

/-- SOFT_RESET of a page (R416, R450); settings of a stream or engine that return to reset change its charge as writes do (R232). -/
def Device.softReset (d : Device) (p : PageRow) (i base : Nat) : Device :=
  if p.block = .safe then
    ((d.setRegN (Reg.PG_EVT_RAW base) 0).faultClear base).safeSoftReset
  else if d.softOk p i base then
    let d1 := ((d.softBefore p.block).softRegs p base).softEngines p.block i
    if p.block = .str || p.block = .cap then d1.ldgAfter d else d1
  else d.pageFault p.block base 0xFE

/-- A change of ENABLE (R32, R168, R183, R232, R350). -/
def Device.pageEnable (d : Device) (p : PageRow) (i base : Nat) (on : Bool) : Device :=
  if d.bit (Reg.PG_CTRL base) 0 = on then d
  else
    let d1 := d.setBit (Reg.PG_CTRL base) 0 on
    match p.block with
    | .chn => d1.restChan i
    | .cap => if d.pierHalted i then d1.ldgAfter d else d.fault base 0x01
    | .grd => d1.guardRefresh
    | _ => d1

/-- FREEZE and COMMIT of a page with shadowed registers (R40, R53, R416). -/
def Device.pageShadow (d : Device) (p : PageRow) (i base : Nat) (freeze commit : Bool) : Device :=
  let d := d.setBit (Reg.PG_CTRL base) 2 freeze
  let d := if commit then d.setPendingCommit base true else d
  match p.block with
  | .chn => d.releaseChn i
  | .pier => d.releasePier i
  | _ => d

/-- A write of PG_CTRL: FCLR, ENABLE, FREEZE and COMMIT, then SOFT_RESET (R415, R416). -/
def Device.pgCtrl (d : Device) (p : PageRow) (i base v : Nat) : Device :=
  let d := if natBit v 4 then (if p.block = .fuse then d.fuseFclr else d.faultClear base) else d
  let d := if p.enctl then d.pageEnable p i base (natBit v 0) else d
  let d := if p.shadow then d.pageShadow p i base (natBit v 2) (natBit v 3) else d
  if natBit v 1 then d.softReset p i base else d

/-- The page is never lockable (R417). -/
def lockless (blk : Block) : Bool := blk = .chip || blk = .fuse

/-- The page is locked. -/
def Device.locked (d : Device) (base : Nat) : Bool := d.reg (Reg.PG_LOCK base) ≠ 0

/-- The PLOCK group of a page (R376). -/
def plockGroup : Block → Option Nat
  | .clk => some 0 | .sup => some 1 | .grd => some 2 | .cal => some 3 | .ucs => some 4 | .via => some 5 | .twn => some 6 | .trs => some 7
  | .chip | .pwr | .fuse | .mgmt | .sns | .safe | .intcCtl | .intcSrc | .intcTgt | .disp | .time | .evq | .mem | .ldg | .peb | .mch | .str | .pier
  | .cap | .trg | .ivm | .chn => none

/-- Keystone has locked the page under PLOCK: only Keystone writes it, until power-on reset or RESET_N (R376, R417). -/
def Device.plocked (d : Device) (p : PageRow) (base : Nat) : Bool :=
  d.locked base && (match plockGroup p.block with | some g => natBit d.key.plock g | none => false)

/-- A write to PG_LOCK of a locked page by a requester whom the lock lets write there: the key unlocks it, any other value is ignored (R417). -/
def Device.unlock (d : Device) (p : PageRow) (base v : Nat) : Wrote :=
  if BitVec.ofNat 32 v = d.reg (Reg.PG_LOCK base) then
    let d := d.setRegN (Reg.PG_LOCK base) 0
    ⟨match plockGroup p.block with
      | some g => d.modKey (fun k => { k with plock := bitsOf 8 (fun b => b ≠ g && natBit k.plock b) })
      | none => d, false, true⟩
  else d.lockedWrite p.block base

/-- A write of `v` to a header register of a page that is not locked. -/
def Device.headerWrite (d : Device) (p : PageRow) (i base o v : Nat) : Wrote :=
  if o = 0x08 then ⟨d.pgCtrl p i base v, false, !d.turnedAway p.block base (fun d => d.pgCtrl p i base v)⟩
  else if o = 0x14 then ⟨d.setRegN (Reg.PG_EVT_EN base) (v &&& p.events), false, true⟩
  else if o = 0x18 then ⟨d.setRegN (Reg.PG_EVT_RAW base) (bitsOf 32 (fun b => d.bit (Reg.PG_EVT_RAW base) b && !natBit v b)), false, true⟩
  else if o = 0x1C then ⟨d.setReg (Reg.PG_EVT_RAW base) (d.reg (Reg.PG_EVT_RAW base) ||| BitVec.ofNat 32 (v &&& p.events)), false, true⟩
  else if o = 0x24 then (if lockless p.block then ⟨d, false, false⟩ else ⟨d.setRegN (Reg.PG_LOCK base) v, false, true⟩)
  else ⟨d, false, false⟩

/-- A write of `v` by requester `q` to a page (R417). -/
def Device.pageWrite (d : Device) (q : Nat) (p : PageRow) (i a v : Nat) : Wrote :=
  let o := a % 0x1000
  let base := a - o
  if d.locked base && (decide (o = 0x24) || !(q = 17 && d.plocked p base)) then
    if o = 0x24 ∧ (q = 17 ∨ !d.plocked p base) then d.unlock p base v else d.lockedWrite p.block base
  else if p.block = .ivm && decide (o ≠ 0x48) && (decide (o < 0x28) || (findRow p.block.rows o).isSome) && d.ivmState i = 4 then ⟨d.fault base 0x01, false, false⟩
  else if o < 0x40 then d.headerWrite p i base o v
  else d.blockWrite q p i base o v

/-! ## Windows -/

/-- The bits of a task-descriptor word that software writes (R264). -/
def taskMask (o : Nat) : Nat :=
  match o with
  | 0x00 => 0xFFF0FFFF
  | 0x04 | 0x34 => 0
  | 0x0C => 0xFFFF
  | 0x20 | 0x24 | 0x28 | 0x2C => 0x80000FFF
  | 0x30 => 0xC0FFFFFF
  | _ => 0xFFFFFFFF

/-- A write to a span descriptor (R94, R95, R403). -/
def Device.spanWrite (d : Device) (a v : Nat) : Wrote :=
  let n := a % 0x100000 / 16
  let w := a % 16
  if d.winUE a then ⟨d, true, false⟩
  else if d.spanActive n || (w ≠ 12 && d.spanReady n) then
    ⟨d.event (Page.STR ((d.spanHolder n).getD 0)) 6, true, false⟩
  else
    let mask : Nat := match w with | 0 => 0x3FFFFFFF | 8 => 0x0FFFFFFF | 12 => 0xBC1FFFFF | _ => 0xFFFFFFFF
    let d := d.setRegN a (v &&& mask)
    let lo := d.fld Reg.TWN_HRANGE 0 16
    let hi := d.fld Reg.TWN_HRANGE 16 16
    ⟨if lo ≤ n ∧ n ≤ hi then d.hashStale else d, false, true⟩

/-- A write to the sequence store: the lower word is held, the upper word stores (R73, R97). -/
def Device.seqWrite (d : Device) (q a v : Nat) : Wrote :=
  if a % 8 = 0 then ⟨d.hold q (a + 4) (BitVec.ofNat 32 v), false, true⟩
  else match d.heldFor q a with
    | some lo => ⟨(((d.setReg (a - 4) lo).setRegN a v).setWinUE a false).unhold q, false, true⟩
    | none => if d.winUE a then ⟨d.unhold q, true, false⟩ else ⟨(d.setRegN a v).unhold q, false, true⟩

/-- A write of `v` by requester `q` to a window word. -/
def Device.windowWrite (d : Device) (q a v : Nat) : Wrote :=
  if a < 0x400000 then
    if d.winUE a then ⟨d, true, false⟩ else ⟨d.setRegN a (v &&& 0xE1FFFFFF), false, true⟩
  else if a < 0x600000 then d.seqWrite q a v
  else if a < 0x700000 then d.spanWrite a v
  else if a < 0x710000 then ⟨d, true, false⟩
  else
    let t := (a - 0x740000) / 64
    let o := a % 64
    if d.taskState t ≠ 0 then ⟨d.dispFault 0x01 t, true, false⟩
    else if d.winUE a then ⟨d, true, false⟩
    else ⟨d.setRegN a (v &&& taskMask o ||| d.regN a &&& (0xFFFFFFFF - taskMask o)), false, true⟩

/-! ## Every write -/

/-- A write to core `k`'s port by its core (R263). -/
def Device.portWrite (d : Device) (k o v : Nat) : Wrote :=
  let a := 0x1000000 + 0x1000 * k + o
  match findRow ncpRows o with
  | none => ⟨d, true, false⟩
  | some (r, _) =>
    if o = 0x24 then ⟨d.ncpDone k (BitVec.ofNat 32 v), false, true⟩
    else if r.acc = .rw then
      let d := d.setReg a (Word.merge (BitVec.ofNat 32 r.mask) (BitVec.ofNat 32 v) (d.reg a))
      ⟨d, false, true⟩
    else ⟨d, false, false⟩

/-- A write as its target performs it, the twin rules apart. -/
def Device.targetWrite (d : Device) (q a v : Nat) : Wrote :=
  if isWindow a then (if d.reachable q none then d.windowWrite q a v else ⟨d, true, false⟩)
  else match pageAt a with
    | none => ⟨d, true, false⟩
    | some (p, i) =>
      if d.reachable q (some p) || (d.dozeShut && p.block = .str && a % 0x1000 = 0x48 && v % 8 ≠ 0) then d.pageWrite q p i a v
      else ⟨d, true, false⟩

/-- A write of `v` to register address `a` by requester `q` (R9, R411, R412): the host's writes to mirrored targets are turned away on a standby (R401) and
journaled on the active device (R398, R399). -/
def Device.writeAt (d : Device) (q a v : Nat) : Wrote :=
  if a % 4 ≠ 0 then ⟨d, true, false⟩
  else if 0x1000000 ≤ a then
    let k := (a - 0x1000000) / 0x1000
    if k < 16 ∧ q = 1 + k then d.portWrite k (a % 0x1000) v else ⟨d, true, false⟩
  else if q = 0 ∧ (d.role = 2 ∨ d.role = 3) ∧ mirrored a then ⟨d.addSat Reg.TWN_DIRREJ 0 16 1, true, false⟩
  else
    let r := d.targetWrite q a v
    if q = 0 ∧ d.role = 5 ∧ r.accepted then { r with dev := r.dev.journal a v } else r

/-- The host's accesses wait: the journal of the active device is full, or others wait before them (R296, R399). -/
def Device.hostWaits (d : Device) : Bool := !d.twin.waiting.isEmpty || (d.role = 5 && d.journalFull)

/-- The host's access joins those that wait. DEDUCED: a read by its own row is performed at once (log entry 141). -/
def Device.hostWait (d : Device) (x : HostAcc) : Device := d.modTwin (fun t => { t with waiting := t.waiting ++ [x] })

/-- A write as a command: `last` holds its answer. A host's write that waits for room in the journal is answered without error, as it is posted. -/
def Device.writeReg (d : Device) (q a : Nat) (full : Bool) (v : Word) : Device :=
  if !full then { d with last := ⟨0, true⟩ }
  else if q = 0 ∧ d.hostWaits then { d.hostWait (.write a v.toNat) with last := ⟨0, false⟩ }
  else
    let r := d.writeAt q a v.toNat
    { r.dev with last := ⟨0, r.error⟩ }

/-- A journal WRITE frame reaches the standby: the next entry is applied, any other is ignored; a launch is recorded, not executed (R399, R401). -/
def Device.twinWrite (d : Device) (a jseq v : Nat) : Device :=
  if !(d.role = 2 || d.role = 3) || decide (jseq % 2 ^ 32 ≠ (d.regN Reg.TWN_JACK + 1) % 2 ^ 32) then d
  else
    let d := d.setRegN Reg.TWN_JACK jseq
    if 0x40000 ≤ a ∧ a < 0x50000 ∧ a % 0x1000 = 0x48 then d.twinPend ((a - 0x40000) / 0x1000) v
    else (d.targetWrite 18 a v).dev

end Sys2Proof.Machine
end

