-- ==== Sys2Proof/Machine/Boot.lean ====
section
/-! DEFINITION. Reset and bring-up (R366–R369, R418, R433): power-on reset, straps and fuses, the choice of a firmware image, the start of
the firmware, its six steps, and the end of bring-up. -/

namespace Sys2Proof.Machine

/-! ## Reset (R12, R418, R433) -/

/-- What a reset leaves of a rail's context: the voltage that it had last. -/
def supKept (e : Nat × SupCtx) : Nat × SupCtx := (e.1, { SupCtx.reset with prev := e.2.prev })

/-- Power-on reset or RESET_N: everything returns to reset but what does not depend on power, which is MRAM (log and calibration
records), fuses, boot flash and boot-select record. An image that was being programmed is left invalid (R388). -/
def Device.powerOnReset (d : Device) : Device :=
  let lost := d.key.updating.isSome
  let b := d.idleIsB
  { Device.reset with
    out := d.out, free := d.free, log := d.log, tap := d.tap, sup := (d.sup.map supKept).filter (fun e => decide (e.2 ≠ SupCtx.reset)),
    cal := { CalCtx.reset with rec0 := d.cal.rec0, rec1 := d.cal.rec1 },
    key := { KeyCtx.reset with
      blown := d.key.blown, board := d.key.board, boot0 := d.key.boot0, boot1 := d.key.boot1,
      imgA := if lost && !b then [] else d.key.imgA, imgB := if lost && b then [] else d.key.imgB } }

/-- The pages of the PLOCK groups (R376). -/
def plockPages : List Nat := [Page.CLK, Page.SUP, Page.GRD, Page.CAL, Page.UCS, Page.VIA, Page.TWN, Page.TRS]

/-- Registers of always-on pages keep their values when the other regions are reset (R418). -/
def alwaysOn (a : Nat) : Bool :=
  match pageAt a with
  | some (p, _) => p.aon
  | none => false

/-- The register address is PG_LOCK of a page that Keystone has locked under PLOCK; it stays locked until power-on reset or RESET_N (R376). -/
def Device.plockReg (d : Device) (a : Nat) : Bool := (plockPages.zipIdx).any (fun e => decide (a = Reg.PG_LOCK e.1) && natBit d.key.plock e.2)

/-- Every region outside the always-on domain is held in reset: their pages and windows are at reset, and vector memory is lost (R344,
R418). TTIME begins anew, and with it the times of the supply watch. -/
def Device.regionsDown (d : Device) : Device :=
  let keep : Device :=
    { Device.reset with
      regs := Tab.drop (fun a => !alwaysOn a && !d.plockReg a) d.regs,
      out := d.out, free := d.free, last := d.last, log := d.log, logDropped := d.logDropped, tap := d.tap, key := d.key,
      cal := { CalCtx.reset with rec0 := d.cal.rec0, rec1 := d.cal.rec1 },
      grd := d.grd, goHold := d.goHold, sup := d.sup.map (fun e => (e.1, { e.2 with lastT := 0, logged := none })),
      wdExpired := d.wdExpired, safeAt := d.safeAt - d.ttime, keyReq := d.keyReq, regionReset := true }
  let k := keep.setFld Reg.PWR_STATE 0 3 5
  ((k.setRegN Reg.PWR_AWAKE_P 0).setRegN Reg.PWR_AWAKE_M 0).setRegN Reg.PWR_GOVQ 0

/-! ## The ROM (R366–R368) -/

/-- What the straps fix outside CHIP_STRAP: the master of the chain, the side of a pair, and TWN_CTRL.EN (R320, R392, R396, R410). -/
def Device.strapsApply (d : Device) : Device :=
  let d := (d.setBit Reg.VIA_STATUS 8 (d.bit Reg.CHIP_STRAP 6)).setBit Reg.TWN_STATUS 8 (d.bit Reg.CHIP_STRAP 0)
  d.setBit Reg.TWN_CTRL 0 (d.bit Reg.CHIP_STRAP 7)

/-- BRINGUP_START: stages 0x01 to 0x03 (R366). Straps and fuses are latched, the array is checked, the identity key is derived, and the log
head is found. -/
def Device.bringupStart (d : Device) (board : Nat) (master twin fuseOk keyOk : Bool) : Device :=
  if d.stage ≠ 1 then d
  else
    let d := d.setRegN Reg.CHIP_STRAP (board + (if master then 64 else 0) + (if twin then 128 else 0))
    let d := d.strapsApply.fuseLatch
    let d := d.setRegN Reg.MGMT_LOGSEQ ((d.log.getLast?.map (·.lseq)).getD 0)
    let d := if fuseOk then d else d.secFault 1
    let d := if keyOk then d else d.secFault 4
    d.setStage 4

/-- The image that a boot tries in place `b` (R367). -/
def Device.flashImage (d : Device) (b : Bool) : Bundle := if b then ⟨1, d.key.imgB⟩ else ⟨0, d.key.imgA⟩

/-- The image that the boot-select record of the highest GEN names: B or A; A where there is none (R367, R382). -/
def Device.bootSel (d : Device) : Bool :=
  match d.key.boot0, d.key.boot1 with
  | some x, some y => if x.gen < y.gen then y.imageB else x.imageB
  | some x, none => x.imageB
  | none, some y => y.imageB
  | none, none => false

/-- The image accepted by R367: the one the boot-select record names, or A, and then the other. -/
def Device.bootChoice (d : Device) : Option Bundle :=
  let pref := d.bootSel
  if (d.bundleCheck (d.flashImage pref)).isNone then some (d.flashImage pref)
  else if (d.bundleCheck (d.flashImage !pref)).isNone then some (d.flashImage !pref)
  else none

/-- MGMT_STATUS.IMAGE, and MGMT_FWSVN, of the bundle that runs. -/
def Device.showBundle (d : Device) (b : Bundle) : Device := (d.setFld Reg.MGMT_STATUS 16 2 b.image).setRegN Reg.MGMT_FWSVN b.svn

/-- All rails are in their operating ranges, as far as they have been sampled (R341, R366). -/
def Device.railsIn (d : Device) : Bool :=
  decide (d.fld Reg.SUP_STATUS 16 8 = 0) && (List.range 8).all (fun r =>
    match (Tab.get (fun _ => SupCtx.reset) d.sup r).prev with
    | some v => decide (supMin.getD r 0 ≤ v ∧ v ≤ supMax.getD r 0)
    | none => true)

/-- ROM_IMAGE_LOADED: with all rails in range the ROM has read the flash (nothing, where none answers) and accepted an image, or falls back to
the link (R366–R368). -/
def Device.romImage (d : Device) (answers : Bool) (board imgA imgB : List Word) : Device :=
  if d.stage ≠ 4 ∨ d.key.slot0.isSome ∨ !d.railsIn then d
  else
    let d := if answers then d.modKey (fun k => { k with board := board, imgA := imgA, imgB := imgB })
      else d.modKey (fun k => { k with board := [], imgA := [], imgB := [] })
    let choice := d.bootChoice
    let pref := if d.bootSel then 1 else 0
    match choice with
    | some b =>
      let d := if b.image = pref then d else d.logWith 0x00050000 0x0011 0 0
      (d.modKey (fun k => { k with slot0 := some b })).setFld Reg.MGMT_STATUS 16 2 b.image
    | none =>
      let d := if answers then d.logWith 0x00050000 0x0011 0 0 else d
      let d := d.logWith 0x00050000 0x0012 0 0
      if d.bit Reg.FUSE_CFG0 4 then (d.setFld Reg.MGMT_STATUS 16 2 3).setStage 0x0E
      else ((d.setFld Reg.MGMT_STATUS 16 2 2).setStage 5).detectRetry 0

/-! ## The firmware (R363, R364, R369) -/

/-- The first start of the firmware (R369): Keystone is awake in slot 0, and both stacks are being zero-filled (R221). -/
def Device.coldStart (d : Device) (b : Bundle) : Device :=
  let d := ((d.setStage 6).setBit Reg.MGMT_STATUS 0 true).setBit Reg.MGMT_STATUS 8 false
  let d := (d.modKey (fun k => { k with steps := 0 })).showBundle b
  d.setBit Reg.MEM_STATUS 0 true

/-- The firmware starts in slot `t` after a warm restart: the calibration record is written again, and mailboxes are served (R251, R364). -/
def Device.warmStart (d : Device) (t : Nat) : Device :=
  let d := (d.modKey (fun k => { k with target := none })).setFld Reg.MGMT_STATUS 8 1 t
  let d := match d.slotOf t with | some b => d.showBundle b | none => d
  let d := d.setBit Reg.MGMT_STATUS 0 true
  (if d.calTabs = [] then d else d.calStore).serve 3

/-- FIRMWARE_START. `h0` and `h1` say what the SHA-256 of a slot is against the one recorded, and whether reading the slot met a corrected error, which
counts (R260, R364, R383). When both fail, slot 0 is reloaded
from flash; with no image to reload Keystone does not start. -/
def Device.firmwareStart (d : Device) (h0 h1 : SlotHash) : Device :=
  if d.kawake then d
  else match d.key.target with
    | some t =>
      let of (k : Nat) : SlotHash := if k = 0 then h0 else h1
      let good (k : Nat) : Bool := of k ≠ .other && (d.slotOf k).isSome
      let d := if of t = .repaired || (!good t && of (1 - t) = .repaired) then d.sramFixed else d
      if good t then d.warmStart t
      else if good (1 - t) then d.warmStart (1 - t)
      else match d.bootChoice with
        | some b =>
          let d := if b.image = (if d.bootSel then 1 else 0) then d else d.logWith 0x00050000 0x0011 0 0
          (d.modKey (fun k => { k with slot0 := some b })).warmStart 0
        | none => d
    | none =>
      match d.key.slot0 with
      | some b => if d.stage = 4 ∨ d.stage = 5 then d.coldStart b else d
      | none => d

/-! ## Steps of bring-up (R369) -/

/-- The board table is accepted (R370): MAGIC, FORMAT, values in range, and CRC. -/
def boardOk (ws : List Word) : Bool :=
  let w (i : Nat) : Nat := (ws.getD i 0).toNat
  let leq (i : Nat) : Bool := decide (w i / 2 ^ 24 % 64 ≤ 24 ∧ w i / 2 ^ 16 % 64 ≤ 12 ∧ w i / 2 ^ 8 % 64 ≤ 31)
  decide (64 ≤ ws.length ∧ w 0 = 0x51424551 ∧ w 1 = 1 ∧ 25 ≤ w 26 ∧ w 26 ≤ 104) && (List.range 24).all (fun i => leq (2 + i)) &&
    decide (w 63 = crc32 (dwBytes ((ws.take 63).map (·.toNat))))

/-- Step 1: the board table, and training of the links; it ends once the PLLs report lock. -/
def Device.bootBoard (d : Device) : Device :=
  let ws := d.key.board
  let d := if boardOk ws then
      d.forN 16 (fun d i => d.setReg (Reg.TRS_LEQ i) (ws.getD (2 + i) 0 &&& 0x3F3F3F00))
    else d.logWith 0x00050000 0x0013 0 0
  [0, 1, 2, 3].foldl (fun d k => d.detectRetry k) d

/-- A failure of step 3 or 4: bring-up stops at stage 0x0D. -/
def Device.bootStop (d : Device) : Device := (d.logWith 0x00050000 0x0012 0 0).setStage 0x0D

/-- Step 4: the Newt code sections, DISP_RVEC and the RUN bits (R261). -/
def Device.bootNewt (d : Device) (b : Bundle) : Device :=
  let d := d.loadNewt b
  let d := match b.sects 3 with
    | [] => d
    | i :: _ => d.setRegN Reg.DISP_RVEC (b.sload i)
  d.forN 16 (fun d k => d.coreWrite k 1)

/-- Step 5: the newest calibration record and the runs of R252.
DESIGN CHOICE: a run that software began before is aborted with outcome 0x05, for the engine performs one run at a time (R244, log entry 116). -/
def Device.bootCal (d : Device) : Device :=
  let d := if d.calState = 0 then d else d.calEnd 0x05
  match d.calNewest with
  | some _ => d.calReload.calBegin 3 allChans false true
  | none => d.calBegin 1 allChans true true

/-- BRINGUP_STEP_DONE: step `i` (0 for step 1) completes, or fails. Step 2 completes with the zero-fill. -/
def Device.bringupStep (d : Device) (i : Nat) : Device :=
  if d.stage ≠ 6 ∨ !d.kawake ∨ natBit d.key.steps i ∨ d.regionReset then d
  else
    let mark (d : Device) : Device := d.modKey (fun k => { k with steps := natSetBit k.steps i })
    match d.running with
    | none => d
    | some b =>
      match i with
      | 0 => if d.fld Reg.CLK_STATUS 0 5 = 0x1F then (mark d).bootBoard else d
      | 1 => if d.bit Reg.MEM_STATUS 0 then d else mark d
      | 2 => if (b.sects 2).all (fun k => b.hashOk k) && d.vendOk b.vend then mark (d.vendInstall 0 b.vend) else d.bootStop
      | 3 => if (b.sects 3).all (fun k => b.hashOk k) then mark (d.bootNewt b) else d.bootStop
      | _ => mark d.bootCal

/-- The page settings of a bundle: (offset, value) pairs in order (R371). -/
def Bundle.settings (b : Bundle) : List (Nat × Nat) :=
  let pairs (i : Nat) : List (Nat × Nat) :=
    (List.range (b.slen i / 8)).map (fun k => (b.w (b.sofs i / 4 + 2 * k), b.w (b.sofs i / 4 + 2 * k + 1)))
  (b.sects 4).flatMap pairs

/-- Keystone locks the page of each group named in PLOCK with a random key, which is not 0 (R376). -/
def Device.plockAll (d : Device) : Device :=
  (plockPages.zipIdx).foldl (fun d e =>
    if d.bit Reg.FUSE_PLOCK e.2 then
      let x := d.draw
      (x.2.modKey (fun k => { k with plock := natSetBit k.plock e.2 })).setRegN (Reg.PG_LOCK e.1) (x.1 % (2 ^ 32 - 1) + 1)
    else d) d

/-- BRINGUP_COMPLETE: steps 1–5 are complete, and so is what R252 asks for; step 6 follows, the units are awake, TTIME starts, and the device is
READY in the safe state (R27, R310, R369).
DESIGN CHOICE: STATE_DONE is raised here too (log entry 126). -/
def Device.bringupComplete (d : Device) : Device :=
  if d.stage ≠ 6 ∨ !d.kawake ∨ d.key.steps ≠ 31 ∨ d.cal.required ∨ d.regionReset then d
  else
    let set := match d.running with | some b => b.settings | none => []
    let d := set.foldl (fun d e => (d.writeAt 17 e.1 e.2).dev) d
    let d := d.plockAll
    let d := d.setRegN Reg.PWR_AWAKE_P (0xFFFF - d.fld Reg.PWR_PGATE 0 16)
    let d := d.forN 32 (fun d n => if d.unitGated n then d.unitSleep n else d)
    let d := { d with ttime := 0 }
    let d := (d.setStage 7).setFld Reg.PWR_STATE 0 3 0
    (d.logWith 0x00050000 0x0010 0 0).calAwake.pwrDone.twinEnable

end Sys2Proof.Machine
end

