-- ==== Sys2Proof/Machine/Supply.lean ====
section
/-! DEFINITION. The supply watch (R341–R346): samples, crossings, warning excursions and their records, rails below their minimum or reset
level, and the repeated bring-up of the regions. -/

namespace Sys2Proof.Machine

/-- The reset level of each own rail in mV (R341). -/
def supReset : List Nat := [650, 780, 1000, 740, 950, 340, 1600, 1550]

/-- Rail `r`'s context. -/
def Device.supOf (d : Device) (r : Nat) : SupCtx := Tab.get (fun _ => SupCtx.reset) d.sup r

/-- Rail `r`'s context changed. -/
def Device.modSup (d : Device) (r : Nat) (f : SupCtx → SupCtx) : Device :=
  { d with sup := Tab.set (fun _ => SupCtx.reset) d.sup r (f (d.supOf r)) }

/-- The SUPPLY_WARN record of an excursion of rail `r` (R345). -/
def Device.supRecord (d : Device) (r : Nat) (e : Excursion) (cnt : Nat) : Device :=
  d.recordAt e.t0 0x08 (severity 0x08) 0x00070000 (e.kind * 256 + r) e.extreme (min (20 * e.count) (2 ^ 32 - 1)) cnt

/-- The log entry of an excursion: at most one per rail per second, the next holding the count of those left out, but always one where the rail
fell below its reset level (`deep`) (R342, R344). -/
def Device.supLog (d : Device) (r : Nat) (deep : Bool) : Device :=
  let c := d.supOf r
  let soon := match c.logged with
    | some t => decide (d.ttime < t + 1000000 * usTicks)
    | none => false
  if soon && !deep then d.modSup r (fun c => { c with quiet := c.quiet + 1 })
  else (d.logWith 0x00070000 0x0050 32 c.quiet).modSup r (fun c => { c with logged := some d.ttime, quiet := 0 })

/-- An excursion ends: SUP_WARNCNT, the log entry, and the record, which waits while the event queue is in reset (R342, R344). -/
def Device.excEnd (d : Device) (r : Nat) (e : Excursion) : Device :=
  let d := d.modSup r (fun c => { c with exc := none })
  let d := ((d.setBit Reg.SUP_STATUS r false).setBit Reg.SUP_STATUS (8 + r) false).addSat Reg.SUP_WARNCNT 0 32 1
  let d := d.supLog r (e.kind = 4)
  let n := d.regN Reg.SUP_WARNCNT
  if d.regionReset then d.modSup r (fun c => { c with late := c.late ++ [(n, e)] }) else d.supRecord r e n

/-- SUP_NOW and SUP_EXTR take a sample (R346). -/
def Device.supShow (d : Device) (r mv : Nat) : Device :=
  let d := d.setRegN (Reg.SUP_NOW r) mv
  let d := if d.fld (Reg.SUP_EXTR r) 16 12 < mv then d.setFld (Reg.SUP_EXTR r) 16 12 mv else d
  if mv < d.fld (Reg.SUP_EXTR r) 0 12 then d.setFld (Reg.SUP_EXTR r) 0 12 mv else d

/-- The instant at which the open segment of a pier ends, where its last cycle has begun: the end of the cycle before the one that starts the
next segment or before the end of capture in the compare pipeline; `last` is the end of the cycle before (R173, R177). -/
def segEnds (last : Nat) : List Pipe → Option Nat
  | [] => none
  | .capOff :: _ => some last
  | .cycle f :: l => if f.view.start || f.view.segt then some f.view.prevEnd else segEnds f.view.tEnd l
  | _ :: l => segEnds last l

/-- The open segment of pier `p` overlaps an excursion that began at `t0`. -/
def Device.segMeets (d : Device) (p t0 : Nat) : Bool :=
  match d.streamOf p with
  | none => true
  | some s =>
    match segEnds (d.strOf s).lastEnd (d.strOf s).flights with
    | some t => decide (t0 < t)
    | none => true

/-- A supply warning of rail `r` that began at `t0` marks what it overlaps, with the rail's MARG_EN (R122, R177, R342): every burst in play,
every open capture segment whose last cycle ended no earlier, and the cycles that end later. -/
def Device.warnOpen (d : Device) (r t0 : Nat) : Device :=
  if !d.bit Reg.SUP_CTRL (16 + r) then d
  else
    let d := d.forN 16 (fun d p => match (d.capOf p).seg with
      | some g => if d.segMeets p t0 then d.modCap p (fun c => { c with seg := some { g with marginal := true } }) else d
      | none => d)
    let mark : Pipe → Pipe := fun x => match x with
      | .cycle f => if t0 < f.view.tEnd then .cycle { f with view := { f.view with marginal := true } } else x
      | x => x
    d.forN 16 (fun d s => if d.playing s then d.modStr s (fun c => { c with marginal := true, flights := c.flights.map mark }) else d)

/-- The excursion of rail `r` with its next sample: one goes on to its end, or begins with the earlier of two samples beyond a level (R342). -/
def Device.excStep (d : Device) (r mv : Nat) (prev : Option Nat) (t0 : Nat) : Device :=
  let lo := d.fld (Reg.SUP_THR r) 0 12
  let hi := d.fld (Reg.SUP_THR r) 16 12
  let h := d.fld Reg.SUP_CTRL 0 8
  match (d.supOf r).exc with
  | some e =>
    if (e.kind = 2 ∧ mv + h ≤ hi) ∨ (e.kind ≠ 2 ∧ lo + h ≤ mv) then d.excEnd r { e with count := e.count + 1 }
    else d.modSup r (fun c =>
      { c with exc := some { e with count := e.count + 1, extreme := if e.kind = 2 then max e.extreme mv else min e.extreme mv } })
  | none =>
    match prev with
    | none => d
    | some v =>
      if v < lo ∧ mv < lo then
        (((d.modSup r (fun c => { c with exc := some ⟨t0, 1, min v mv, 1⟩ })).setBit Reg.SUP_STATUS r true).event Page.SUP r).warnOpen r t0
      else if hi < v ∧ hi < mv then
        (((d.modSup r (fun c => { c with exc := some ⟨t0, 2, max v mv, 1⟩ })).setBit Reg.SUP_STATUS (8 + r) true).event Page.SUP r).warnOpen r t0
      else d

/-- The excursion in progress is of kind `k` or a lower one: it becomes `k` (R343, R344). -/
def Device.excKind (d : Device) (r k : Nat) : Device :=
  d.modSup r (fun c => { c with exc := c.exc.map (fun e => { e with kind := if e.kind = 2 then e.kind else max e.kind k }) })

/-- A rail falls below its operating minimum: MIN (R343). -/
def Device.supBelowMin (d : Device) (r : Nat) : Device :=
  ((d.setBit Reg.SUP_STATUS (16 + r) true).event Page.SUP (8 + r)).excKind r 3

/-- What rail `r` brings by a crossing of its minimum (`isLow`) and of its reset level (`deep`): the causes SUPPLY and POWERON, in one entry
where they come together; below its reset level VAUX acts as power-on reset, and any other rail resets the regions outside the always-on domain
unless they are (R343, R344, R360). -/
def Device.supCross (d : Device) (r : Nat) (isLow deep : Bool) : Device :=
  if deep && r = 7 then d.powerOnReset
  else
    let d := if deep then d.excKind r 4 else d
    let down := deep && !d.regionReset
    let mask := (if isLow then 2 ^ 4 else 0) + (if down then 1 else 0)
    let d := if mask = 0 then d else d.safeArrive mask []
    if down then d.regionsDown else d

/-- SUPPLY_SAMPLE: rail `r` is sampled at 50 MS/s; a level counts as crossed after two consecutive samples beyond it (R342–R344). -/
def Device.supplySample (d : Device) (r mv : Nat) : Device :=
  let c := d.supOf r
  let t0 := c.lastT
  let d := if c.prev.isSome then d.reach (c.lastT + 20 * nsTicks) else d
  let d := d.modSup r (fun c => { c with prev := some mv, lastT := d.ttime })
  let d := (d.supShow r mv).excStep r mv c.prev t0
  let two (p : Nat → Bool) : Bool := match c.prev with | some v => p v && p mv | none => false
  let min := supMin.getD r 0
  let isLow := two (fun v => decide (v < min)) && !d.bit Reg.SUP_STATUS (16 + r)
  let d := if isLow then d.supBelowMin r
    else if two (fun v => decide (min ≤ v)) then d.setBit Reg.SUP_STATUS (16 + r) false
    else d
  d.supCross r isLow (two (fun v => decide (v < supReset.getD r 0)))

/-- REGION_REBRINGUP: all rails have stayed above their minimums for 1 ms; the regions are released, late records follow, and Keystone repeats
bring-up from its first step (R344). -/
def Device.regionRebringup (d : Device) : Device :=
  if !d.regionReset ∨ d.fld Reg.SUP_STATUS 16 8 ≠ 0 then d
  else
    let d := { d with regionReset := false }
    let d := d.strapsApply
    let d := d.forN 8 (fun d r =>
      let l := (d.supOf r).late
      l.foldl (fun d x => d.supRecord r x.2 x.1) (d.modSup r (fun c => { c with late := [] })))
    if d.kawake then ((d.setStage 6).modKey (fun k => { k with steps := 0 })).setBit Reg.MEM_STATUS 0 true else d

end Sys2Proof.Machine
end

