-- ==== Sys2Proof/WellFormed.lean ====
section
/-! DEFINITION. Operands that no sender can form: list lengths and ranges that the widths of the operands do not fix. -/

namespace Sys2Proof

/-- The codes of the instruction register that are listed (R442). -/
def listedIr (c : Nat) : Bool := c ≤ 6 || c = 0x10

/-- An address lies in vector memory (R216). -/
def memAddr (a : BitVec 36) : Bool := decide (a.toNat < 0xC00000000)

/-- The addresses of a read-back, if one differs, lie in a half of the control store: it holds 6,144 words (R142). -/
def okReadBack (bad : Option (BitVec 13 × Word)) : Bool :=
  match bad with
  | some b => decide (b.1.toNat < 6144)
  | none => true

/-- A reading carries one value for each of the 20 sensors of the die (R380). -/
def okSensors (ts : List (BitVec 12)) : Bool := decide (ts.length = 20)

/-- The dwords of a packet are as many as its LEN field can count (R295). -/
def okPayload (data : List Word) : Bool := decide (data.length ≤ 127)

/-- A SNAP frame carries 1–4 dwords (R394). -/
def okSnap (data : List Word) : Bool := decide (1 ≤ data.length ∧ data.length ≤ 4)

/-- HELLO carries one of the roles of R396. -/
def okRole (role : BitVec 3) : Bool := decide (role.toNat ≤ 5)

/-- Every measured fine path covers its 48 elements, 40 of them selected, and its 64 interpolator steps (R240). -/
def okMeas (meas : List ChanMeas) (slices : List SliceMeas) : Bool := meas.all (fun m => m.a.ok && m.b.ok) && slices.all (fun m => m.a.ok && m.b.ok)

/-- The operands of a command are within what its row admits. BYPASS takes the codes that no other row takes (R442). -/
def Instr.wellFormed : Instr → Bool
  | .ucsLoadWriteDone bad => okReadBack bad
  | .memReplayDone _ _ _ a => memAddr a
  | .memCeWriteback a _ _ => memAddr a
  | .memScrubRead a _ _ => memAddr a
  | .sensorReading ts => okSensors ts
  | .rwr _ _ _ data => okPayload data
  | .cpl _ _ data => okPayload data
  | .twinSnap _ _ data => okSnap data
  | .twinHello _ role _ _ _ => okRole role
  | .calComputeDone meas slices _ => okMeas meas slices
  | .bypass code => !listedIr code.toNat
  | _ => true

end Sys2Proof
end

