-- ==== Sys2Proof/Machine/Access.lean ====
section
/-! DEFINITION. What several families of commands share: register writes as commands, page controls, fields of sequence instructions, packets of the Trestle link,
the port mailboxes, and frames of the twin link. -/

namespace Sys2Proof.Machine

/-! ## Register accesses (R9, R413–R416) -/

/-- Requester `q` writes `v` to the register at `a` with an aligned 32-bit access. -/
def Device.cmdWrite (d : Device) (q : Requester) (a : Nat) (v : Word) : Device := d.writeReg (reqNo q) a true v

/-- The address of a page, from its number (R411). -/
def pageBase (page : BitVec 12) : Nat := 4096 * page.toNat

/-- A write of PG_CTRL that adds command bits to ENABLE and FREEZE as they stand (R416). -/
def Device.pgCommand (d : Device) (q : Requester) (page : BitVec 12) (bits : Word) : Device :=
  d.cmdWrite q (Reg.PG_CTRL (pageBase page)) ((d.reg (Reg.PG_CTRL (pageBase page)) &&& 5) ||| bits)

/-- A write of PG_CTRL that sets bit `b` to `on` and keeps the other one of ENABLE and FREEZE (R416). -/
def Device.pgSwitch (d : Device) (q : Requester) (page : BitVec 12) (b : Nat) (on : Bool) : Device :=
  d.cmdWrite q (Reg.PG_CTRL (pageBase page)) ((d.reg (Reg.PG_CTRL (pageBase page)) &&& 5).putBit b on)

/-- Requester `q` writes command `op` about task `i` to DISP_CMD, and the dispatcher finds `ecc` in the descriptor (R260, R266). -/
def Device.taskCommand (d : Device) (q : Requester) (op i : Nat) (ecc : Ecc) : Device :=
  let d := d.noteUE (tdAddr i 0) (ecc = .bad)
  let d := d.cmdWrite q Reg.DISP_CMD (BitVec.ofNat 32 (op * 2 ^ 28 + i))
  if ecc = .corrected && !d.last.error then d.sramFixed else d

/-- The address lies in the sequence store (R97, R411). -/
def isSeqWindow (a : Nat) : Bool := decide (0x400000 ≤ a ∧ a < 0x600000)

/-- Word `word` of timing set `set` of channel `chan` (R70). -/
def tsmemAddr (chan set word : Nat) : Nat := 0x200000 + 0x2000 * chan + 0x20 * set + 4 * word

/-! ## Sequence instructions (R56, R106, R108, R110) -/

/-- BRF: branches when the flag is 1, and clears it with CLR = 1 (R106). -/
def Device.engBrf (d : Device) (s w : Nat) : Device :=
  let f := insField w 32 5
  if d.bit (Reg.STR_FLAGS s) f then
    (if natBit w 40 then d.setBit (Reg.STR_FLAGS s) f false else d).setPc s (insField w 0 18)
  else d

/-- The instruction is a WAIT of MODE `m` (R110). -/
def isWait (m w : Nat) : Bool := insOp w = 0x10 && insField w 46 2 = m

/-- The instruction is a CAPOP of OP `o`, or of the reserved OP 0b11 (R108). -/
def isCapop (o w : Nat) : Bool := insOp w = 0x1C && (insField w 32 2 = o || insField w 32 2 = 3)

/-- CAPOP: its boundary action, or a fault at B for OP 0b11 (R108). -/
def Device.engCapop (d : Device) (s w : Nat) (b : Bnd) (a : Nat) : Device :=
  if insField w 32 2 = 3 then d.engFault s 0x01 a else d.bnd s b a

/-- SETPE: port, chip select and data (R56). -/
def Device.engSetpe (d : Device) (s w a : Nat) : Device :=
  d.bnd s (.setpe (insField w 44 3) (insField w 42 2) (if natBit w 47 then d.g s (insField w 48 4) else w % 2 ^ 32)) a

/-! ## Packets (R295–R298) -/

/-- Reads of `n` dwords from `a`, with what the ECC check of the pair of each address finds; a dword that is refused reads 0, and the flag
says that one was (R296). -/
def Device.readRun (d : Device) (found : Nat → Ecc) (a : Nat) : Nat → Device × List Word × Bool
  | 0 => (d, [], false)
  | n + 1 =>
    let r := (d.winEcc 0 a (found a)).readAt 0 a
    let t := r.1.readRun found (a + 4) n
    (t.1, r.2.getD 0 :: t.2.1, t.2.2 || r.2.isNone)

/-- Writes of dwords from `a`, in order (R296); from the first that meets a full journal on they wait (R399). -/
def Device.writeRun (d : Device) (a : Nat) : List Word → Device
  | [] => d
  | v :: vs => (if d.hostWaits then d.hostWait (.write a v.toNat) else (d.writeAt 0 a v.toNat).dev).writeRun (a + 4) vs

/-- An RRD is performed and answered (R296). -/
def Device.rrdServe (d : Device) (tag a len : Nat) (found : List (Nat × Ecc)) : Device :=
  let r := d.readRun (fun x => ((found.find? (fun e => e.1 = (x - a) / 4)).map (·.2)).getD .good) a len
  (r.1.queuePkt 3 tag (if r.2.2 then 1 else 0) 0 0 r.2.1).pump

/-- RRD (R295, R296); a read waits for the writes before it. -/
def Device.rrdPacket (d : Device) (seq tag a : Nat) (l : ReadLen) : Device :=
  let len := l.len.toNat
  let found := l.ecc.map (fun e => (e.1.toNat, e.2))
  d.onPkt seq 1 0 (fun d =>
    if 0x1000000 ≤ a ∨ len = 0 ∨ 64 < len then d.badPkt tag true
    else if !d.twin.waiting.isEmpty then d.hostWait (.read tag a len found)
    else d.rrdServe tag a len found)

/-- The accesses that wait are performed in order, as far as the journal has room (R399). -/
def Device.hostWork : Nat → Device → Device
  | 0, d => d
  | n + 1, d =>
    if d.role = 5 && d.journalFull then d
    else match d.twin.waiting with
      | [] => d
      | x :: rest =>
        let d := d.modTwin (fun t => { t with waiting := rest })
        Device.hostWork n (match x with
          | .write a v => (d.writeAt 0 a v).dev
          | .read tag a len found => d.rrdServe tag a len found)

/-- The accesses that wait go on. -/
def Device.hostGoes (d : Device) : Device := Device.hostWork d.twin.waiting.length d

/-- RWR (R295, R296). -/
def Device.rwrPacket (d : Device) (seq tag a : Nat) (data : List Word) : Device :=
  d.onPkt seq 0 (ceilDiv data.length 16) (fun d => 
    if 0x1000000 ≤ a ∨ data.length = 0 ∨ 64 < data.length then d.badPkt tag false else d.writeRun a data)

/-- CPLE: the read of host memory ends with code 0x04; one that answers no MRD is counted (R300). -/
def Device.cplePacket (d : Device) (tag : Nat) : Device :=
  if d.trs.mrds.any (fun m => m.tag = tag) then d.dmaReadFail tag 0x04 else d.addSat Reg.TRS_CRCERR 16 16 1

/-- `f` while the Trestle link is ACTIVE: packets arrive and timers run only then. -/
def Device.linkLive (d : Device) (f : Device → Device) : Device := if d.lst 0 = 3 then f d else d

/-- A data packet that is not accepted (R297), or one with a good CRC and the next SEQ whose TYPE or reserved fields R295 does not admit: it
is answered where it is a non-posted request, whose tag is given, and discarded otherwise. The credits of its class return either way (R298). -/
def Device.badData (d : Device) (seq : Nat) (flaw : PktFlaw) : Device :=
  d.linkLive (fun d =>
    match flaw with
    | .corrupt => d.rejectPkt seq false
    | .reserved cls tag len =>
      d.onPkt seq cls.val (if cls.val = 0 then ceilDiv len.toNat 16 else 0) (fun d => d.badPkt tag.toNat (cls.val = 1)))

/-- ACK (R297). -/
def Device.linkAck (d : Device) (seq : Nat) : Device := d.linkLive (fun d => (d.acked seq).dozeStep)

/-- NAK: packets up to the SEQ it carries are acknowledged, the others are sent again (R297). -/
def Device.linkNak (d : Device) (seq : Nat) : Device := d.linkLive (fun d => (d.acked seq).trsReplay.dozeStep)

/-- CREDIT (R298). -/
def Device.linkCredit (d : Device) (cls hdr units : Nat) : Device := d.linkLive (fun d => (d.gotCredit cls hdr units).dozeStep)

/-- The ACK interval passes (R297). -/
def Device.ackTimer (d : Device) : Device := d.linkLive (fun d => if d.trs.ackDue = 0 then d else d.sendAck)

/-- 4 µs without an ACK for the oldest packet (R297). -/
def Device.replayTimeout (d : Device) : Device := d.linkLive (fun d => d.trsReplay)

/-! ## Port mailboxes and the test port (R387, R442, R443) -/

/-- `f` while the MBOX instruction is selected, whose data register shows what `f` left (R387). -/
def Device.onMbox (d : Device) (f : Device → Device) : Device :=
  if d.tap.ir = 0x10 then { f d with tap := { (f d).tap with dr := (f d).tapDr 0x10 } } else d

/-- A JTAG READ: the dword at the pointer, and the mailbox state (R387). -/
def Device.jtagRead (d : Device) : Device :=
  let r := d.mbRead 1 1
  r.1.send (.reply 1 (r.2 ++ [BitVec.ofNat 32 (d.mbState 1)]))

/-- A board-port read transfer of `n` dwords (R387). -/
def Device.boardRead (d : Device) (n : Nat) : Device :=
  let r := d.mbRead 2 n
  r.1.send (.bytes 2 ((dwBytes (r.2.map (·.toNat))).map (·.toNat)))

/-- The identity certificate as a response carries it (R378). -/
def certificate : List Word := (List.range (min Config.certLen 252)).map Config.certWord

/-- SAMPLE/PRELOAD: the boundary register is loaded, or captures what the spec does not fix (R442). -/
def Device.tapSample (d : Device) (load : Option Nat) : Device :=
  let d := d.tapIr 1
  match load with
  | some v => { d with tap := { d.tap with bsr := v, dr := v } }
  | none => let x := d.draw; { x.2 with tap := { x.2.tap with bsr := x.1, dr := x.1 } }

/-! ## Frames of the twin link (R394) -/

/-- A valid frame arrives while the link is ACTIVE; a device in role OFF ignores it. What it acknowledges makes room in the journal. -/
def Device.twinFrame (d : Device) (jseq : Nat) (f : Device → Device) : Device :=
  if d.twinLive && d.role ≠ 0 then (f (d.twinHeard jseq)).hostGoes else d

end Sys2Proof.Machine
end

