-- ==== Sys2Proof/Machine/CalCmds.lean ====
section
/-! DEFINITION. Self-calibration (R244–R253). -/

namespace Sys2Proof.Machine

/-- CAL_FULL (R244): CAL_CMD.FULL starts a FULL run of the selected channels. -/
def execCalFull (q : Requester) (s₀ : State) : Host.Outcome State Fault Refusal := s₀.run (fun d => d.cmdWrite q Reg.CAL_CMD 1)

/-- CAL_VERIFY (R244): CAL_CMD.VERIFY starts a VERIFY run of the selected channels. -/
def execCalVerify (q : Requester) (s₀ : State) : Host.Outcome State Fault Refusal := s₀.run (fun d => d.cmdWrite q Reg.CAL_CMD 4)

/-- CAL_TRIMS (R244): CAL_CMD.TRIMS starts a TRIMS run of the selected channels. -/
def execCalTrims (q : Requester) (s₀ : State) : Host.Outcome State Fault Refusal := s₀.run (fun d => d.cmdWrite q Reg.CAL_CMD 8)

/-- CAL_COMMIT (R248): CAL_CMD.COMMIT moves staged values to COMMIT_WAIT. -/
def execCalCommit (q : Requester) (s₀ : State) : Host.Outcome State Fault Refusal := s₀.run (fun d => d.cmdWrite q Reg.CAL_CMD 0x10)

/-- CAL_ABORT (R250): CAL_CMD.ABORT ends a run in progress, leaving the active values. -/
def execCalAbort (q : Requester) (s₀ : State) : Host.Outcome State Fault Refusal := s₀.run (fun d => (d.cmdWrite q Reg.CAL_CMD 0x20).wakeStep)

/-- CAL_DISCARD (R250): CAL_CMD.DISCARD discards staged values. -/
def execCalDiscard (q : Requester) (s₀ : State) : Host.Outcome State Fault Refusal := s₀.run (fun d => (d.cmdWrite q Reg.CAL_CMD 0x40).wakeStep)

/-- CAL_PERIOD_TRIGGER (R244): CAL_PERIOD.SEC seconds pass after the last commit and a FULL run starts or is remembered. -/
def execCalPeriodTrigger (s₀ : State) : Host.Outcome State Fault Refusal := s₀.run (fun d => d.calPeriod)

/-- CAL_NO_METER_TIMEOUT (R245): A run finds no meter to borrow for 10 ms and ends with outcome 0x02. -/
def execCalNoMeterTimeout (s₀ : State) : Host.Outcome State Fault Refusal := s₀.run (fun d => d.calNoMeter.wakeStep)

/-- CAL_GATHER_DONE (R245): Gathering of a run completes; a VERIFY compares offsets, others proceed to compute. -/
def execCalGatherDone (offs : VerifyMeas) (s₀ : State) : Host.Outcome State Fault Refusal := s₀.run (fun d => (d.calGatherDone offs).wakeStep)

/-- CAL_COMPUTE_DONE (R245): Computation ends, plausibility checks apply and results are staged or the run is rejected. -/
def execCalComputeDone (meas : List ChanMeas) (slices : List SliceMeas) (eccTs : List (BitVec 8 × BitVec 10 × Ecc)) (s₀ : State) :
    Host.Outcome State Fault Refusal :=
  if okMeas meas slices then
    s₀.run (fun d => (d.calComputeDone meas slices (eccTs.map (fun e => (e.1.toNat, e.2.1.toNat, e.2.2)))).wakeStep)
  else .fault .illFormed

/-- CAL_RESTART_WAIT_EXPIRY (R246): 100 µs after the change has settled the aborted run restarts. -/
def execCalRestartWaitExpiry (s₀ : State) : Host.Outcome State Fault Refusal := s₀.run (fun d => d.calRestart)

/-- CAL_COMMIT_APPLY (R248): In the first cycle with no stream running the commit switches BANK for every channel and writes CAL_DONE. -/
def execCalCommitApply (s₀ : State) : Host.Outcome State Fault Refusal := s₀.run (fun d => d.calApply.wakeStep)

/-- CAL_HOLD_EXPIRY (R249): CAL_HOLDMAX expires and a held immediate launch is released. -/
def execCalHoldExpiry (s : Fin 16) (s₀ : State) : Host.Outcome State Fault Refusal := s₀.run (fun d => d.calHoldExpiry s.val)

/-- CAL_TABLE_SCRUB (R247): The calibration table scrubber reads every word once per 10 ms. -/
def execCalTableScrub (bank : Bool) (ecc : Ecc) (s₀ : State) : Host.Outcome State Fault Refusal := s₀.run (fun d => (d.calScrub bank ecc).wakeStep)

/-- CAL_MRAM_WRITE_DONE (R251): Keystone completes the MRAM calibration record with its commit word. -/
def execCalMramWriteDone (s₀ : State) : Host.Outcome State Fault Refusal := s₀.run (fun d => d.calRecordDone)

/-- CAL_RECORD_DEFERRED_WRITE (R384): The 10 s mark after the last calibration record passes and Keystone writes the deferred record with the tables then active. -/
def execCalRecordDeferredWrite (s₀ : State) : Host.Outcome State Fault Refusal := s₀.run (fun d => d.calDeferred)

end Sys2Proof.Machine
end

