-- ==== Sys2Proof/Machine/CapCmds.lean ====
section
/-! DEFINITION. Capture engines, trigger actions and trigger lines (R170–R173, R180, R187–R191). -/

namespace Sys2Proof.Machine

/-- CAP_ARM (R170): CAP_CMD.ARM checks and installs a capture region and clears its segment headers. -/
def execCapArm (q : Requester) (p : Fin 16) (s₀ : State) : Host.Outcome State Fault Refusal := s₀.run (fun d => d.cmdWrite q (Reg.CAP_CMD p.val) 1)

/-- CAP_DISARM (R170): CAP_CMD.DISARM closes the open segment and clears ARMED. -/
def execCapDisarm (q : Requester) (p : Fin 16) (s₀ : State) : Host.Outcome State Fault Refusal := s₀.run (fun d => d.cmdWrite q (Reg.CAP_CMD p.val) 2)

/-- CAP_RELEASE (R180): A write of CAP_RELEASE lowers a site's quota use or sets every use to 0. -/
def execCapRelease (q : Requester) (p : Fin 16) (v : Word) (s₀ : State) : Host.Outcome State Fault Refusal :=
  s₀.run (fun d => d.cmdWrite q (Reg.CAP_RELEASE p.val) v)

/-- CAP_REARM_DONE (R173): The re-arm of a Gecko engine ends and a pending segment opens at the next cycle. -/
def execCapRearmDone (p : Fin 16) (s₀ : State) : Host.Outcome State Fault Refusal := s₀.run (fun d => d.rearmEnd p.val)

/-- TRIGGER_ACTIONS (R190): The actions of a fired condition take effect at their fixed times: flags, jump request, TRIGOUT and TRIGGER record. -/
def execTriggerActions (p : Fin 16) (s₀ : State) : Host.Outcome State Fault Refusal := s₀.run (fun d => d.trigActions p.val)

/-- TRIGOUT_PULSE_END (R189): A TRIGOUT pulse reaches its width and the line falls. -/
def execTrigoutPulseEnd (line : Fin 8) (s₀ : State) : Host.Outcome State Fault Refusal := s₀.run (fun d => d.trigoutEnd line.val)

/-- TRIGIN_EDGE (R187): An edge on a TRIGIN ball is synchronised and attributed to a cycle or lost. -/
def execTriginEdge (line : Fin 4) (t : BitVec 64) (rise : Bool) (s₀ : State) : Host.Outcome State Fault Refusal :=
  s₀.run (fun d => d.triginEdge line.val t.toNat rise)

/-- ARM_STATUS_FILL_DONE (R170): The ARM status fill of every segment header finishes and the engine sets the index, PHASE, CAP_USEs and ARMED. -/
def execArmStatusFillDone (p : Fin 16) (s₀ : State) : Host.Outcome State Fault Refusal := s₀.run (fun d => d.capFillDone p.val)

end Sys2Proof.Machine
end

