-- ==== Sys2Proof/Machine/CoreCmds.lean ====
section
/-! DEFINITION. Tasks, cores and interrupts (R261–R281). -/

namespace Sys2Proof.Machine

/-- DISP_SUBMIT (R266): DISP_CMD SUBMIT takes an IDLE task to WAITING. -/
def execDispSubmit (q : Requester) (task : BitVec 12) (ecc : Ecc) (s₀ : State) : Host.Outcome State Fault Refusal :=
  s₀.run (fun d => d.taskCommand q 1 task.toNat ecc)

/-- DISP_DEC (R267): DISP_CMD DEC decrements a task or adds to OWED. -/
def execDispDec (q : Requester) (task : BitVec 12) (ecc : Ecc) (s₀ : State) : Host.Outcome State Fault Refusal :=
  s₀.run (fun d => d.taskCommand q 2 task.toNat ecc)

/-- DISP_CANCEL (R274): DISP_CMD CANCEL cancels a task by its state. -/
def execDispCancel (q : Requester) (task : BitVec 12) (ecc : Ecc) (s₀ : State) : Host.Outcome State Fault Refusal :=
  s₀.run (fun d => d.taskCommand q 3 task.toNat ecc)

/-- HOOK_FIRE (R268): A completion hook fires and decrements the next task of its ring with the hook data. -/
def execHookFire (ecc : Ecc) (s₀ : State) : Host.Outcome State Fault Refusal := s₀.run (fun d => d.hookFire ecc)

/-- TASK_PLACE (R269): Every 2 core clocks the dispatcher places the first eligible READY task into a core slot. -/
def execTaskPlace (found : Option (BitVec 12 × Ecc)) (s₀ : State) : Host.Outcome State Fault Refusal := s₀.run (fun d => d.taskPlace (found.map (fun x => (x.1.toNat, x.2))))

/-- NCP_TAKE (R270): A read of NCP_TAKE moves the slotted task to RUNNING on the core. -/
def execNcpTake (k : Fin 16) (s₀ : State) : Host.Outcome State Fault Refusal := s₀.run (fun d => d.readReg (1 + k.val) (Reg.NCP_TAKE k.val) true)

/-- NCP_DONE (R270): A write of NCP_DONE completes the running task. -/
def execNcpDone (k : Fin 16) (result : Word) (s₀ : State) : Host.Outcome State Fault Refusal :=
  s₀.run (fun d => d.writeReg (1 + k.val) (Reg.NCP_DONE k.val) true result)

/-- DISP_FLOW_WRITE (R272): A write of DISP_FLOWf changes a flow's budget or window and returns slotted tasks beyond it. -/
def execDispFlowWrite (q : Requester) (f : Fin 64) (v : Word) (s₀ : State) : Host.Outcome State Fault Refusal :=
  s₀.run (fun d => d.cmdWrite q (Reg.DISP_FLOW f.val) v)

/-- DISP_CORE_RUN (R261): A write of DISP_COREk.RUN holds a core in reset or releases it at DISP_RVEC. -/
def execDispCoreRun (q : Requester) (k : Fin 16) (run : Bool) (s₀ : State) : Host.Outcome State Fault Refusal :=
  s₀.run (fun d => d.cmdWrite q (Reg.DISP_CORE k.val) (((d.reg (Reg.DISP_CORE k.val)) &&& 2) ||| (if run then 1 else 0)))

/-- DELAY_LIST_TICK (R273): A delay list ticks on tester time and its due tasks become READY. -/
def execDelayListTick (l : Fin 4) (s₀ : State) : Host.Outcome State Fault Refusal := s₀.run (fun d => d.listTick l.val)

/-- DISP_TICK_WRITE (R273): A write of DISP_TICKl changes a delay list's period from its next tick. -/
def execDispTickWrite (q : Requester) (l : Fin 4) (v : Word) (s₀ : State) : Host.Outcome State Fault Refusal :=
  s₀.run (fun d => d.cmdWrite q (Reg.DISP_TICK l.val) v)

/-- CORE_WFI (R262): A core executes WFI and sleeps when DEEP = 1. -/
def execCoreWfi (k : Fin 16) (s₀ : State) : Host.Outcome State Fault Refusal := s₀.run (fun d => d.coreWfi k.val)

/-- CORE_WAKE (R262): A sleeping core wakes on its wake line, a slotted task, its timer or an enabled interrupt;
`atCompare` says that it is the instant at which its timer reaches NCP_TCMP. -/
def execCoreWake (k : Fin 16) (atCompare : Bool) (s₀ : State) : Host.Outcome State Fault Refusal :=
  s₀.run (fun d => (if atCompare then d.timerReach k.val else d).coreWake k.val)

/-- CORE_TIMER_COMPARE (R263): The time CSR reaches NCP_TCMP and the machine timer interrupt is pending. -/
def execCoreTimerCompare (k : Fin 16) (s₀ : State) : Host.Outcome State Fault Refusal := s₀.run (fun d => d.timerReach k.val)

/-- INTC_REQUEST_EDGE (R277): A block source's request rises and the source becomes pending. -/
def execIntcRequestEdge (n : BitVec 9) (s₀ : State) : Host.Outcome State Fault Refusal := s₀.run (fun d => d.reqEdge n.toNat)

/-- INTC_SWTRIG (R277): A write of INTC_SWTRIG makes a software source pending. -/
def execIntcSwtrig (q : Requester) (id : BitVec 10) (s₀ : State) : Host.Outcome State Fault Refusal :=
  s₀.run (fun d => d.cmdWrite q Reg.INTC_SWTRIG (BitVec.ofNat 32 id.toNat))

/-- INTC_OFFER (R278): A pending source is offered to one eligible target in round-robin order. -/
def execIntcOffer (n : BitVec 9) (s₀ : State) : Host.Outcome State Fault Refusal := s₀.run (fun d => d.intcOffer n.toNat)

/-- INTC_CLAIM (R279): A read of INTC_CLAIMt claims the highest-priority offered source. -/
def execIntcClaim (q : Requester) (t : Fin 17) (s₀ : State) : Host.Outcome State Fault Refusal :=
  s₀.run (fun d => d.readReg (reqNo q) (Reg.INTC_CLAIM t.val) true)

/-- INTC_COMPLETE (R279): A write of a source's ID to INTC_CLAIMt completes it, re-offering it if still pending. -/
def execIntcComplete (q : Requester) (t : Fin 17) (id : BitVec 10) (s₀ : State) : Host.Outcome State Fault Refusal :=
  s₀.run (fun d => d.cmdWrite q (Reg.INTC_CLAIM t.val) (BitVec.ofNat 32 id.toNat))

end Sys2Proof.Machine
end

