-- ==== Sys2Proof/Machine/IvmCmds.lean ====
section
/-! DEFINITION. Interval meters (R196–R213). -/

namespace Sys2Proof.Machine

/-- IVM_ARM (R201): IVM_CMD.ARM starts the meter's calibration and run. -/
def execIvmArm (q : Requester) (i : Fin 32) (s₀ : State) : Host.Outcome State Fault Refusal :=
  s₀.run (fun d => (d.cmdWrite q (Reg.IVM_CMD i.val) 1).calPoll)

/-- IVM_DISARM (R212): IVM_CMD.DISARM abandons an interval measurement or ends a run with the events so far. -/
def execIvmDisarm (q : Requester) (i : Fin 32) (s₀ : State) : Host.Outcome State Fault Refusal :=
  s₀.run (fun d => (d.cmdWrite q (Reg.IVM_CMD i.val) 2).calPoll)

/-- IVM_SWEVT (R196): IVM_CMD.SWEVT produces a software event stamped at the next TCLK edge. -/
def execIvmSwevt (q : Requester) (i : Fin 32) (s₀ : State) : Host.Outcome State Fault Refusal :=
  s₀.run (fun d => (d.cmdWrite q (Reg.IVM_CMD i.val) 4).calPoll)

/-- IVM_FLUSH (R213): IVM_CMD.FLUSH empties the meter's FIFO. -/
def execIvmFlush (q : Requester) (i : Fin 32) (s₀ : State) : Host.Outcome State Fault Refusal := s₀.run (fun d => d.cmdWrite q (Reg.IVM_CMD i.val) 8)

/-- IVM_CAL_DONE (R201): The meter's interpolator calibration ends, passing into the run or failing with CALBAD. -/
def execIvmCalDone (i : Fin 32) (a1 : BitVec 18) (a2 : BitVec 18) (b1 : BitVec 18) (b2 : BitVec 18) (s₀ : State) : Host.Outcome State Fault Refusal :=
  s₀.run (fun d => (d.ivmCalDone i.val a1.toNat a2.toNat b1.toNat b2.toNat).calPoll)

/-- IVM_EVENT (R198): An event of a selected source reaches the meter and is accepted, held off, stamped or counted. -/
def execIvmEvent (i : Fin 32) (src : BitVec 10) (rise : Bool) (ball : BitVec 64) (past : Bool) (code : BitVec 14) (s₀ : State) : Host.Outcome State Fault Refusal :=
  s₀.run (fun d => (d.ivmEdge i.val src.toNat rise ball.toNat past code.toNat).calPoll)

/-- IVM_GATE_CLOSE (R202): The meter's gate closes and the run ends. -/
def execIvmGateClose (i : Fin 32) (s₀ : State) : Host.Outcome State Fault Refusal := s₀.run (fun d => (d.ivmGateClose i.val).calPoll)

/-- IVM_TIMEOUT (R206): The meter's time limit expires and the measurement or run ends with TIMEOUT. -/
def execIvmTimeout (i : Fin 32) (s₀ : State) : Host.Outcome State Fault Refusal := s₀.run (fun d => (d.ivmTimeout i.val).calPoll)

/-- IVM_RESULT_FINAL (R209): A measurement's result becomes final: RES and the FIFO update, DONE is raised and a record may be written. -/
def execIvmResultFinal (i : Fin 32) (s₀ : State) : Host.Outcome State Fault Refusal := s₀.run (fun d => (d.ivmFinal i.val).calPoll)

/-- IVM_FIFO_READ (R208): A read of IVM_FIFO_LO removes the head entry and latches its upper bits and flags. -/
def execIvmFifoRead (q : Requester) (i : Fin 32) (s₀ : State) : Host.Outcome State Fault Refusal :=
  s₀.run (fun d => d.readReg (reqNo q) (Reg.IVM_FIFO_LO i.val) true)

/-- IVM_LOAN_END (R211): A meter's loan to the calibration engine ends and a held ARM takes effect. -/
def execIvmLoanEnd (i : Fin 32) (s₀ : State) : Host.Outcome State Fault Refusal := s₀.run (fun d => (d.ivmLoanEnd i.val).calPoll)

end Sys2Proof.Machine
end

