-- ==== Sys2Proof/Machine/KeyCmds.lean ====
section
/-! DEFINITION. Reset, bring-up, mailboxes and the test port (R364–R387, R433, R442, R443). -/

namespace Sys2Proof.Machine

/-- RESET_ASSERT (R433): RESET_N is asserted or power-on reset occurs, acting as power-on reset with cause POWERON. -/
def execResetAssert (s₀ : State) : Host.Outcome State Fault Refusal := s₀.run (fun d => d.powerOnReset)

/-- BRINGUP_START (R366): RESET_N is released with VAUX in range and the ROM starts bring-up. -/
def execBringupStart (boardId : BitVec 6) (viaMaster : Bool) (twinEn : Bool) (fuseOk : Bool) (keyEngineOk : Bool) (s₀ : State) : Host.Outcome State Fault Refusal :=
  s₀.run (fun d => d.bringupStart boardId.toNat viaMaster twinEn fuseOk keyEngineOk)

/-- ROM_IMAGE_LOADED (R367): The ROM accepts a flash image and loads its Keystone code, or falls back to link boot. -/
def execRomImageLoaded (answers : Bool) (board : List Word) (imgA : List Word) (imgB : List Word) (s₀ : State) : Host.Outcome State Fault Refusal :=
  s₀.run (fun d => d.romImage answers board imgA imgB)

/-- FIRMWARE_START (R369): Keystone firmware starts in its slot and Keystone becomes awake. -/
def execFirmwareStart (h0 : SlotHash) (h1 : SlotHash) (s₀ : State) : Host.Outcome State Fault Refusal := s₀.run (fun d => d.firmwareStart h0 h1)

/-- BRINGUP_STEP_DONE (R369): A firmware bring-up step completes, or fails and stops bring-up at stage 0x0D. -/
def execBringupStepDone (step : Fin 5) (s₀ : State) : Host.Outcome State Fault Refusal := s₀.run (fun d => d.bringupStep step.val)

/-- BRINGUP_COMPLETE (R369): Page settings and locks are applied, STAGE becomes 0x07 and PWR_STATE becomes READY. -/
def execBringupComplete (s₀ : State) : Host.Outcome State Fault Refusal := s₀.run (fun d => d.bringupComplete)

/-- MGMT_KRESTART (R364): MGMT_CMD.KRESTART starts a Keystone warm restart with reason 1. -/
def execMgmtKrestart (q : Requester) (s₀ : State) : Host.Outcome State Fault Refusal := s₀.run (fun d => d.cmdWrite q Reg.MGMT_CMD 1)

/-- KEYSTONE_WDOG_EXPIRY (R365): The Keystone watchdog expires and a warm restart with reason 2 begins. -/
def execKeystoneWdogExpiry (s₀ : State) : Host.Outcome State Fault Refusal := s₀.run (fun d => d.keyWdog)

/-- FW_CONFIRM_TIMEOUT (R386): The confirmation time expires with CONFPEND = 1 and Keystone falls back to the old slot and half. -/
def execFwConfirmTimeout (s₀ : State) : Host.Outcome State Fault Refusal := s₀.run (fun d => d.confirmTimeout)

/-- UPDATE_STAGE_DONE (R385): Programming and read-back of the idle flash image complete and the update request is answered. -/
def execUpdateStageDone (ok : Bool) (s₀ : State) : Host.Outcome State Fault Refusal := s₀.run (fun d => d.updateDone ok)

/-- MB_POST (R387): MGMT_MBCMD.POST posts the host mailbox request to Keystone. -/
def execMbPost (q : Requester) (s₀ : State) : Host.Outcome State Fault Refusal := s₀.run (fun d => d.cmdWrite q Reg.MGMT_MBCMD 1)

/-- MB_ABORT (R389): MGMT_MBCMD.ABORT abandons the host mailbox request. -/
def execMbAbort (q : Requester) (s₀ : State) : Host.Outcome State Fault Refusal := s₀.run (fun d => d.cmdWrite q Reg.MGMT_MBCMD 2)

/-- JTAG_MBOX_SETPTR (R387): A JTAG MBOX SETPTR operation sets the mailbox pointer. -/
def execJtagMboxSetptr (ptr : BitVec 9) (s₀ : State) : Host.Outcome State Fault Refusal :=
  s₀.run (fun d => d.onMbox (fun d => d.mbSetPtr 1 ptr.toNat))

/-- JTAG_MBOX_WRITE (R387): A JTAG MBOX WRITE stores a dword at the pointer. -/
def execJtagMboxWrite (v : Word) (s₀ : State) : Host.Outcome State Fault Refusal := s₀.run (fun d => d.onMbox (fun d => d.mbWrite 1 v))

/-- JTAG_MBOX_READ (R387): A JTAG MBOX READ returns the dword at the pointer. -/
def execJtagMboxRead (s₀ : State) : Host.Outcome State Fault Refusal := s₀.run (fun d => d.onMbox (fun d => d.jtagRead))

/-- JTAG_MBOX_POST (R387): A JTAG MBOX POST posts the JTAG mailbox request. -/
def execJtagMboxPost (s₀ : State) : Host.Outcome State Fault Refusal := s₀.run (fun d => d.onMbox (fun d => d.mbPost 1))

/-- BP_SETPTR (R387): A board-port SETPTR sets the mailbox pointer. -/
def execBpSetptr (ptr : BitVec 9) (s₀ : State) : Host.Outcome State Fault Refusal := s₀.run (fun d => d.mbSetPtr 2 ptr.toNat)

/-- BP_WRITE (R387): A board-port WRITE stores dwords at the pointer. -/
def execBpWrite (data : List Word) (s₀ : State) : Host.Outcome State Fault Refusal := s₀.run (fun d => data.foldl (fun d v => d.mbWrite 2 v) d)

/-- BP_POST (R387): A board-port POST posts the board mailbox request. -/
def execBpPost (s₀ : State) : Host.Outcome State Fault Refusal := s₀.run (fun d => d.mbPost 2)

/-- BP_STATUS (R387): A board-port STATUS returns the mailbox state byte. -/
def execBpStatus (s₀ : State) : Host.Outcome State Fault Refusal := s₀.run (fun d => d.send (.bytes 2 [d.mbState 2]))

/-- BP_READ (R387): A board-port read transfer returns the dwords at the pointer. -/
def execBpRead (count : Nat) (s₀ : State) : Host.Outcome State Fault Refusal := s₀.run (fun d => d.boardRead count)

/-- GET_INFO (R387): GET_INFO returns device identity, stage, image and version counters. -/
def execGetInfo (s₀ : State) : Host.Outcome State Fault Refusal := s₀.run (fun d => d.serveOp 0x01 (fun d _ => (d, some (0, d.getInfo))))

/-- LOG_READ (R387): LOG_READ returns up to 15 log entries from a given LSEQ. -/
def execLogRead (s₀ : State) : Host.Outcome State Fault Refusal :=
  s₀.run (fun d => d.serveOp 0x02 (fun d o => (d, some (0, d.logRead (d.reqWord o 4)))))

/-- SENSORS (R387): SENSORS returns temperature and rail readings. -/
def execSensors (s₀ : State) : Host.Outcome State Fault Refusal := s₀.run (fun d => d.serveOp 0x03 (fun d _ => (d, some (0, d.sensors))))

/-- ATTEST (R379): ATTEST returns a report over a nonce signed with the identity key. -/
def execAttest (s₀ : State) : Host.Outcome State Fault Refusal := s₀.run (fun d => d.serveOp 0x04 (fun d o => (d, some (d.attest o))))

/-- GET_CERT (R378): GET_CERT returns the identity certificate. -/
def execGetCert (s₀ : State) : Host.Outcome State Fault Refusal := s₀.run (fun d => d.serveOp 0x05 (fun d _ => (d, some (0, certificate))))

/-- UPDATE_STAGE (R385): UPDATE_STAGE checks a bundle in vector memory and starts programming the idle flash image. -/
def execUpdateStage (s₀ : State) : Host.Outcome State Fault Refusal := s₀.run (fun d => d.serveOp 0x10 (fun d o => d.updateStage o))

/-- FW_SWITCH (R386): FW_SWITCH loads the staged image into the idle slot and half and warm-restarts into it. -/
def execFwSwitch (s₀ : State) : Host.Outcome State Fault Refusal := s₀.run (fun d => d.serveOp 0x11 (fun d o => d.fwSwitch o))

/-- FW_CONFIRM (R386): FW_CONFIRM clears CONFPEND and writes a boot-select record. -/
def execFwConfirm (s₀ : State) : Host.Outcome State Fault Refusal := s₀.run (fun d => d.serveOp 0x12 (fun d _ => (d.fwConfirm, some (0, []))))

/-- ARB_COMMIT (R375): ARB_COMMIT raises the anti-rollback counter to the running SVN. -/
def execArbCommit (stuck : BitVec 256) (s₀ : State) : Host.Outcome State Fault Refusal :=
  s₀.run (fun d => d.serveOp 0x13 (fun d _ => d.arbCommit stuck))

/-- FUSE_PROGRAM (R373): FUSE_PROGRAM blows fuse bits in both copies, or is refused. -/
def execFuseProgram (stuck : Word) (s₀ : State) : Host.Outcome State Fault Refusal :=
  s₀.run (fun d => d.serveOp 0x20 (fun d o => d.fuseProgram o stuck))

/-- KRESTART (R364): A mailbox KRESTART starts a Keystone warm restart with reason 1. -/
def execKrestart (s₀ : State) : Host.Outcome State Fault Refusal := s₀.run (fun d => d.serveOp 0x21 (fun d _ => ((d.answer 0 []).warmRestart 1 d.kslot, none)))

/-- BOOT_LOAD (R368): BOOT_LOAD delivers bundle bytes during link boot at stage 0x05. -/
def execBootLoad (s₀ : State) : Host.Outcome State Fault Refusal := s₀.run (fun d => d.serveOp 0x30 (fun d o => d.bootLoad o))

/-- FUSE_FCLR (R377): FUSE_CMD.FCLR clears security fault 0x02 or 0x03. -/
def execFuseFclr (q : Requester) (s₀ : State) : Host.Outcome State Fault Refusal := s₀.run (fun d => d.cmdWrite q Reg.FUSE_CMD 1)

/-- EXTEST (R443): Update-IR of EXTEST enters the safe state with cause SW and then drives balls from the boundary register. -/
def execExtest (s₀ : State) : Host.Outcome State Fault Refusal := s₀.run (fun d => d.tapIr 0)

/-- EXTEST_PULSE (R443): Update-IR of EXTEST_PULSE enters the safe state and drives the AC-coupled lanes with pulses. -/
def execExtestPulse (s₀ : State) : Host.Outcome State Fault Refusal := s₀.run (fun d => d.tapIr 5)

/-- EXTEST_TRAIN (R443): Update-IR of EXTEST_TRAIN enters the safe state and drives the AC-coupled lanes with trains. -/
def execExtestTrain (s₀ : State) : Host.Outcome State Fault Refusal := s₀.run (fun d => d.tapIr 6)

/-- CLAMP (R443): Update-IR of CLAMP enters the safe state and holds balls from the boundary register. -/
def execClamp (s₀ : State) : Host.Outcome State Fault Refusal := s₀.run (fun d => d.tapIr 3)

/-- HIGHZ (R443): Update-IR of HIGHZ enters the safe state and releases the outputs. -/
def execHighz (s₀ : State) : Host.Outcome State Fault Refusal := s₀.run (fun d => d.tapIr 4)

/-- SAMPLE_PRELOAD (R442): SAMPLE/PRELOAD captures or loads the boundary register without affecting the balls. -/
def execSamplePreload (load : Option Nat) (s₀ : State) : Host.Outcome State Fault Refusal := s₀.run (fun d => d.tapSample load)

/-- IDCODE (R442): IDCODE selects the identification register. -/
def execIdcode (s₀ : State) : Host.Outcome State Fault Refusal := s₀.run (fun d => d.tapIr 2)

/-- BYPASS (R442): BYPASS selects the one-bit bypass register, also for unlisted and locked instructions. -/
def execBypass (code : BitVec 8) (s₀ : State) : Host.Outcome State Fault Refusal :=
  if !listedIr code.toNat then s₀.run (fun d => d.tapIr code.toNat) else .fault .illFormed

/-- KEYSTONE_SRAM_UE (R364): An uncorrectable error in Keystone SRAM starts a warm restart with reason 5. -/
def execKeystoneSramUe (s₀ : State) : Host.Outcome State Fault Refusal := s₀.run (fun d => d.keySramUE)

/-- FIRMWARE_RESTART_REQUEST (R364): Keystone firmware requests its own warm restart with reason 6. -/
def execFirmwareRestartRequest (s₀ : State) : Host.Outcome State Fault Refusal := s₀.run (fun d => d.krestart 6)

/-- MBOX (R443): Update-IR of the MBOX instruction selects the mailbox data register, and after a boundary instruction every channel returns to CH_DEN deasserted and CH_DHI low. -/
def execMbox (s₀ : State) : Host.Outcome State Fault Refusal := s₀.run (fun d => d.tapIr 0x10)

end Sys2Proof.Machine
end

