-- ==== Sys2Proof/Machine/LinkCmds.lean ====
section
/-! DEFINITION. Link training, Trestle packets, DMA, the event queue and the watchdog (R288–R308). -/

namespace Sys2Proof.Machine

/-- LANE_LOSS (R289): A receive lane loses lock or sees too many errors and is declared lost, starting a retrain. -/
def execLaneLoss (link : Link) (lane : Fin 16) (s₀ : State) : Host.Outcome State Fault Refusal := s₀.run (fun d => (d.laneLoss (linkNo link) lane.val).hostGoes)

/-- DETECT_RETRY (R291): In DETECT, 10 ms pass and training sets are sent again. -/
def execDetectRetry (link : Link) (s₀ : State) : Host.Outcome State Fault Refusal := s₀.run (fun d => d.detectRetry (linkNo link))

/-- TRAINING_SET_RECEIVED (R291): Training sets received on a link advance it through TRAIN, CONFIG, ACTIVE or a wake. -/
def execTrainingSetReceived (link : Link) (lanes : BitVec 16) (mask : BitVec 16) (ts2 : Bool) (wake : Bool) (inv : BitVec 16) (fits : Bool) (s₀ : State) : Host.Outcome State Fault Refusal :=
  s₀.run (fun d => d.trainingSet (linkNo link) lanes.toNat mask.toNat ts2 wake inv.toNat fits)

/-- TRAINING_TIMEOUT (R291): TRAIN, CONFIG or RETRAIN runs out of time and the link returns to DETECT. -/
def execTrainingTimeout (link : Link) (s₀ : State) : Host.Outcome State Fault Refusal := s₀.run (fun d => (d.trainingTimeout (linkNo link)).hostGoes)

/-- LANE_READD_RETRY (R292): Every 1 ms a lost lane is retried with TS1 while the others stay ACTIVE. -/
def execLaneReaddRetry (link : Link) (lane : Fin 16) (answered : Bool) (s₀ : State) : Host.Outcome State Fault Refusal :=
  s₀.run (fun d => d.laneReadd (linkNo link) lane.val answered)

/-- TRS_TEST_WRITE (R294): A write of TRS_TEST enters TEST with loopback or PRBS, or returns to DETECT. -/
def execTrsTestWrite (q : Requester) (v : Word) (s₀ : State) : Host.Outcome State Fault Refusal := s₀.run (fun d => d.cmdWrite q Reg.TRS_TEST v)

/-- TRS_RETRAIN (R308): TRS_CMD.RETRAIN takes the link from ACTIVE to RETRAIN. -/
def execTrsRetrain (q : Requester) (s₀ : State) : Host.Outcome State Fault Refusal := s₀.run (fun d => d.cmdWrite q Reg.TRS_CMD 1)

/-- DQ_RESTART (R300): TRS_CMD.DQn_RESTART clears ERR and restarts a stopped DMA queue at HEAD. -/
def execDqRestart (q : Requester) (n : Fin 2) (s₀ : State) : Host.Outcome State Fault Refusal :=
  s₀.run (fun d => d.cmdWrite q Reg.TRS_CMD (if n.val = 0 then 2 else 4))

/-- TRS_LEQ_WRITE (R290): A write of TRS_LEQi is held until the lane's next training, with EQPEND = 1. -/
def execTrsLeqWrite (q : Requester) (i : Fin 16) (v : Word) (s₀ : State) : Host.Outcome State Fault Refusal :=
  s₀.run (fun d => d.cmdWrite q (Reg.TRS_LEQ i.val) v)

/-- RRD (R296): A register read packet is performed as LEN aligned reads and answered with one completion. -/
def execRrd (seq : BitVec 12) (tag : BitVec 8) (len : ReadLen) (addr : BitVec 64) (s₀ : State) : Host.Outcome State Fault Refusal :=
  s₀.run (fun d => d.rrdPacket seq.toNat tag.toNat addr.toNat len)

/-- RWR (R296): A register write packet is performed as LEN aligned writes in arrival order. -/
def execRwr (seq : BitVec 12) (tag : BitVec 8) (addr : BitVec 64) (data : List Word) (s₀ : State) : Host.Outcome State Fault Refusal :=
  if okPayload data then s₀.run (fun d => d.rwrPacket seq.toNat tag.toNat addr.toNat data) else .fault .illFormed

/-- CPL (R299): A completion with data answers an MRD and its data moves on toward vector memory. -/
def execCpl (seq : BitVec 12) (tag : BitVec 8) (data : List Word) (s₀ : State) : Host.Outcome State Fault Refusal :=
  if okPayload data then s₀.run (fun d => d.onPkt seq.toNat 2 0 (fun d => d.dmaData tag.toNat data)) else .fault .illFormed

/-- CPLE (R300): A completion without data answers an MRD with an error and ends the descriptor with code 0x04. -/
def execCple (seq : BitVec 12) (tag : BitVec 8) (_status : BitVec 4) (s₀ : State) : Host.Outcome State Fault Refusal :=
  s₀.run (fun d => d.onPkt seq.toNat 2 0 (fun d => d.cplePacket tag.toNat))

/-- BAD_DATA_PACKET (R295, R297): A data packet with a bad CRC, framing or sequence gap is discarded and answered with NAK, a duplicate is
acknowledged, and one of another TYPE or with a reserved field set is counted, with CPLE where it is a non-posted request. -/
def execBadDataPacket (seq : BitVec 12) (flaw : PktFlaw) (s₀ : State) : Host.Outcome State Fault Refusal :=
  s₀.run (fun d => d.badData seq.toNat flaw)

/-- ACK (R297): An ACK link packet frees acknowledged packets from the replay buffer. -/
def execAck (seq : BitVec 12) (s₀ : State) : Host.Outcome State Fault Refusal := s₀.run (fun d => d.linkAck seq.toNat)

/-- NAK (R297): A NAK link packet makes the F256 resend every unacknowledged packet. -/
def execNak (seq : BitVec 12) (s₀ : State) : Host.Outcome State Fault Refusal := s₀.run (fun d => d.linkNak seq.toNat)

/-- CREDIT (R298): A CREDIT link packet updates the host's credits for a class. -/
def execCredit (cls : Fin 3) (hdr : BitVec 8) (units : BitVec 16) (s₀ : State) : Host.Outcome State Fault Refusal :=
  s₀.run (fun d => d.linkCredit cls.val hdr.toNat units.toNat)

/-- DOZE_REQ (R305): A DOZE_REQ link packet is answered with DOZE_ACK and entry to the DOZE link state, or DOZE_NAK. -/
def execDozeReq (s₀ : State) : Host.Outcome State Fault Refusal := s₀.run (fun d => d.dozeReq)

/-- ACK_TIMER (R297): The ACK interval passes and the F256 sends a cumulative ACK. -/
def execAckTimer (s₀ : State) : Host.Outcome State Fault Refusal := s₀.run (fun d => d.ackTimer)

/-- REPLAY_TIMEOUT (R297): 4 µs pass without an ACK for the oldest packet and the F256 replays, retraining after four futile replays. -/
def execReplayTimeout (s₀ : State) : Host.Outcome State Fault Refusal := s₀.run (fun d => d.replayTimeout)

/-- CREDIT_RETURN_TIMER (R298): The credit return interval passes and unreturned credits are sent in CREDIT packets. -/
def execCreditReturnTimer (s₀ : State) : Host.Outcome State Fault Refusal := s₀.run (fun d => d.creditReturn)

/-- MRD_TIMEOUT (R298): An MRD waits 50 µs without completion and its descriptor ends with code 0x05. -/
def execMrdTimeout (tag : BitVec 8) (s₀ : State) : Host.Outcome State Fault Refusal := s₀.run (fun d => d.dmaReadFail tag.toNat 0x05)

/-- DMA_DOORBELL (R299): A write of TRS_DQn_TAIL posts descriptors to a DMA queue. -/
def execDmaDoorbell (q : Requester) (n : Fin 2) (tail : BitVec 16) (s₀ : State) : Host.Outcome State Fault Refusal :=
  s₀.run (fun d => d.cmdWrite q (Reg.TRS_DQ_TAIL n.val) (BitVec.ofNat 32 tail.toNat))

/-- DMA_DESCRIPTOR_FETCHED (R300): A DMA descriptor read arrives, its range is checked and transfer begins or it ends with code 0x01. -/
def execDmaDescriptorFetched (n : Fin 2) (s₀ : State) : Host.Outcome State Fault Refusal := s₀.run (fun d => d.dmaFetched n.val)

/-- DMA_DESCRIPTOR_DONE (R301): A descriptor finishes: its status is written, HEAD advances, DMA_DONE is raised and an INTR sent if asked. -/
def execDmaDescriptorDone (n : Fin 2) (s₀ : State) : Host.Outcome State Fault Refusal := s₀.run (fun d => d.dmaDone n.val)

/-- DQ_DISABLE (R308): Clearing TRS_DQn_CTRL.EN resets HEAD and TAIL once the running descriptor ends. -/
def execDqDisable (q : Requester) (n : Fin 2) (s₀ : State) : Host.Outcome State Fault Refusal :=
  s₀.run (fun d => d.cmdWrite q (Reg.TRS_DQ_CTRL n.val) (d.reg (Reg.TRS_DQ_CTRL n.val) &&& 0x7FFFFFFF))

/-- EVENT_RECORD_WRITE (R303): A pending event record is written to the ring in two MWR packets once the ring, EN and link allow. -/
def execEventRecordWrite (s₀ : State) : Host.Outcome State Fault Refusal := s₀.run (fun d => d.evqStep)

/-- EVQ_ENABLE (R303): A write of EVQ_CTRL.EN from 0 to 1 resets PROD, CONS and PHASE and ends the old ring's notification state. -/
def execEvqEnable (q : Requester) (s₀ : State) : Host.Outcome State Fault Refusal :=
  s₀.run (fun d => d.cmdWrite q Reg.EVQ_CTRL (d.reg Reg.EVQ_CTRL ||| 0x80000000))

/-- EVQ_CONS_WRITE (R304): A write of EVQ_CONS records records consumed, or is ignored with fault 0x02. -/
def execEvqConsWrite (q : Requester) (v : Word) (s₀ : State) : Host.Outcome State Fault Refusal := s₀.run (fun d => d.cmdWrite q Reg.EVQ_CONS v)

/-- EVQ_AGE_EXPIRY (R304): The oldest unnotified record reaches the age limit and a notification is sent. -/
def execEvqAgeExpiry (s₀ : State) : Host.Outcome State Fault Refusal := s₀.run (fun d => d.evqAge)

/-- WDOG_KICK (R306): A write of 0xA5 to TRS_WDKICK kicks the host watchdog; any other value sets fault 0x02. -/
def execWdogKick (q : Requester) (v : Word) (s₀ : State) : Host.Outcome State Fault Refusal := s₀.run (fun d => d.cmdWrite q Reg.TRS_WDKICK v)

/-- WDOG_WRITE (R306): A write of TRS_WDOG sets or disables the host watchdog period. -/
def execWdogWrite (q : Requester) (v : Word) (s₀ : State) : Host.Outcome State Fault Refusal := s₀.run (fun d => d.cmdWrite q Reg.TRS_WDOG v)

/-- WDOG_EXPIRY (R306): The host watchdog expires: cause WDOG, WDOG event and a LOG entry in MRAM. -/
def execWdogExpiry (s₀ : State) : Host.Outcome State Fault Refusal := s₀.run (fun d => d.wdogExpire)

end Sys2Proof.Machine
end

