-- ==== Sys2Proof/Machine/MemCmds.lean ====
section
/-! DEFINITION. Vector memory and the ledger (R215–R232). -/

namespace Sys2Proof.Machine

/-- REFRESH_DUE (R219): A per-bank refresh falls due and is issued in a refresh slot. -/
def execRefreshDue (n : Fin 32) (pc : Fin 2) (banks : List (Fin 48)) (s₀ : State) : Host.Outcome State Fault Refusal :=
  s₀.run (fun d => d.refreshDue n.val pc.val (banks.map (·.val)))

/-- ROW_IDLE_CLOSE (R218): A bank's row idle time expires and the row closes. -/
def execRowIdleClose (n : Fin 32) (pc : Fin 2) (bank : Fin 48) (s₀ : State) : Host.Outcome State Fault Refusal :=
  s₀.run (fun d => d.closeRow n.val pc.val bank.val)

/-- STACK_TEMP_READ (R215): A stack's temperature is read through the test port every 1 ms. -/
def execStackTempRead (k : Fin 2) (t : BitVec 8) (s₀ : State) : Host.Outcome State Fault Refusal := s₀.run (fun d => d.stackTemp k.val t.toNat)

/-- MEM_PARITY_ERROR (R222): A parity error on a pseudo-channel starts a replay from the retry buffer. -/
def execMemParityError (n : Fin 32) (pc : Fin 2) (s₀ : State) : Host.Outcome State Fault Refusal := s₀.run (fun d => d.memParity n.val pc.val)

/-- MEM_REPLAY_DONE (R222): A replay completes, or a command that failed three replays is abandoned with REPLAY_FAIL. -/
def execMemReplayDone (n : Fin 32) (pc : Fin 2) (lost : Option Abandoned) (a : BitVec 36) (s₀ : State) : Host.Outcome State Fault Refusal :=
  if memAddr a then s₀.run (fun d => d.replayDone n.val pc.val lost a.toNat) else .fault .illFormed

/-- MEM_CE_WRITEBACK (R223): A corrected access is written back in a service slot unless superseded. -/
def execMemCeWriteback (a : BitVec 36) (syndrome : BitVec 8) (superseded : Bool) (s₀ : State) : Host.Outcome State Fault Refusal :=
  if memAddr a then s₀.run (fun d => d.ceWriteback a.toNat syndrome.toNat superseded) else .fault .illFormed

/-- MEM_SCRUB_READ (R225): The scrubber reads words of a pseudo-channel in a service slot. -/
def execMemScrubRead (a : BitVec 36) (ecc : Ecc) (syndrome : BitVec 8) (s₀ : State) : Host.Outcome State Fault Refusal :=
  if memAddr a then s₀.run (fun d => d.memScrub a.toNat ecc syndrome.toNat) else .fault .illFormed

/-- MEM_ZERO_FILL_DONE (R221): The bring-up zero-fill of the stacks completes and STKOK is set for each good stack. -/
def execMemZeroFillDone (okA : Bool) (okB : Bool) (s₀ : State) : Host.Outcome State Fault Refusal := s₀.run (fun d => d.zeroFillDone okA okB)

/-- LEDGER_ADMIT (R231): LDG_CMD.ADMIT starts admission of the streams in LDG_REQ. -/
def execLedgerAdmit (q : Requester) (s₀ : State) : Host.Outcome State Fault Refusal := s₀.run (fun d => d.cmdWrite q Reg.LDG_CMD 1)

/-- LEDGER_WITHDRAW (R231): LDG_CMD.WITHDRAW starts removal of the admissions of the streams in LDG_REQ. -/
def execLedgerWithdraw (q : Requester) (s₀ : State) : Host.Outcome State Fault Refusal := s₀.run (fun d => d.cmdWrite q Reg.LDG_CMD 2)

/-- LEDGER_COMMAND_DONE (R231): An ADMIT or WITHDRAW completes, admitting, withdrawing or refusing with a cause. -/
def execLedgerCommandDone (s₀ : State) : Host.Outcome State Fault Refusal := s₀.run (fun d => d.ldgDone)

/-- LDG_DMA_WRITE (R232): A write of LDG_DMA lowers a share, raises it within the limit, or is refused. -/
def execLdgDmaWrite (q : Requester) (v : Word) (s₀ : State) : Host.Outcome State Fault Refusal := s₀.run (fun d => d.cmdWrite q Reg.LDG_DMA v)

end Sys2Proof.Machine
end

