-- ==== Sys2Proof/Machine/MicroCmds.lean ====
section
/-! DEFINITION. Micro-operations of a customer routine, each executed when it is the next one (R126–R134, R160). -/

namespace Sys2Proof.Machine

/-- ALU (R131): An ALU micro-operation computes into DST and sets the micro-flags. -/
def execAlu (s : Fin 16) (ecc : Ecc) (s₀ : State) : Host.Outcome State Fault Refusal :=
  s₀.run (fun d => d.microStep s.val ecc 0x01 (fun d w => d.uAlu s.val w))

/-- LDI (R131): LDI loads a zero-extended immediate into DST. -/
def execLdi (s : Fin 16) (ecc : Ecc) (s₀ : State) : Host.Outcome State Fault Refusal :=
  s₀.run (fun d => d.microStep s.val ecc 0x02 (fun d w => d.uLdi s.val w))

/-- LDIH (R131): LDIH loads the upper 16 bits of DST. -/
def execLdih (s : Fin 16) (ecc : Ecc) (s₀ : State) : Host.Outcome State Fault Refusal :=
  s₀.run (fun d => d.microStep s.val ecc 0x03 (fun d w => d.uLdih s.val w))

/-- BR (R129): BR branches within the routine when UCOND holds. -/
def execBr (s : Fin 16) (ecc : Ecc) (s₀ : State) : Host.Outcome State Fault Refusal :=
  s₀.run (fun d => d.microStep s.val ecc 0x04 (fun d w => d.uBr s.val w))

/-- CALLU (R129): CALLU pushes uPC + 1 and calls a micro-subroutine. -/
def execCallu (s : Fin 16) (ecc : Ecc) (s₀ : State) : Host.Outcome State Fault Refusal :=
  s₀.run (fun d => d.microStep s.val ecc 0x05 (fun d w => d.uCall s.val w))

/-- RETU (R129): RETU returns from a micro-subroutine. -/
def execRetu (s : Fin 16) (ecc : Ecc) (s₀ : State) : Host.Outcome State Fault Refusal :=
  s₀.run (fun d => d.microStep s.val ecc 0x06 (fun d _ => d.uRet s.val))

/-- EMIT (R132): EMIT queues plays of a span, waiting for free queue slots. -/
def execEmit (s : Fin 16) (ecc : Ecc) (s₀ : State) : Host.Outcome State Fault Refusal :=
  s₀.run (fun d => d.microStep s.val ecc 0x07 (fun d w => d.uEmit s.val w))

/-- NEXT (R129): NEXT ends the routine and dispatches the instruction at SPC. -/
def execNext (s : Fin 16) (ecc : Ecc) (s₀ : State) : Host.Outcome State Fault Refusal :=
  s₀.run (fun d => d.microStep s.val ecc 0x08 (fun d _ => d.uNext s.val))

/-- SEQ (R131): A SEQ micro-operation changes SPC, the call stack, the loop stack or the Z and N state. -/
def execSeq (s : Fin 16) (ecc : Ecc) (s₀ : State) : Host.Outcome State Fault Refusal :=
  s₀.run (fun d => d.microStep s.val ecc 0x09 (fun d w => d.uSeq s.val w))

/-- BND (R133): BND queues a boundary action for B. -/
def execBnd (s : Fin 16) (ecc : Ecc) (s₀ : State) : Host.Outcome State Fault Refusal :=
  s₀.run (fun d => d.microStep s.val ecc 0x0A (fun d w => d.uBnd s.val w))

/-- APG_MICRO_OP (R160): An APG micro-operation queues ASET, ASAVE, AREST or SCRLD for B. -/
def execApgMicroOp (s : Fin 16) (ecc : Ecc) (ueData : Bool) (s₀ : State) : Host.Outcome State Fault Refusal :=
  s₀.run (fun d => d.microStep s.val ecc 0x0B (fun d w => d.uApg s.val w ueData))

/-- RDX (R131): RDX reads stream state into DST. -/
def execRdx (s : Fin 16) (ecc : Ecc) (s₀ : State) : Host.Outcome State Fault Refusal :=
  s₀.run (fun d => d.microStep s.val ecc 0x0C (fun d w => d.uRdx s.val w))

/-- WRX (R131): WRX sets or clears STR_FLAGS bits. -/
def execWrx (s : Fin 16) (ecc : Ecc) (s₀ : State) : Host.Outcome State Fault Refusal :=
  s₀.run (fun d => d.microStep s.val ecc 0x0D (fun d w => d.uWrx s.val w))

/-- LDS (R134): LDS reads a sequence-store word into DST. -/
def execLds (s : Fin 16) (ecc : Ecc) (ueData : Bool) (s₀ : State) : Host.Outcome State Fault Refusal :=
  s₀.run (fun d => d.microStep s.val ecc 0x0E (fun d w => d.uLds s.val w ueData))

/-- MATCHU (R131): MATCHU starts a MATCH from registers and IR fields. -/
def execMatchu (s : Fin 16) (ecc : Ecc) (s₀ : State) : Host.Outcome State Fault Refusal :=
  s₀.run (fun d => d.microStep s.val ecc 0x10 (fun d w => d.uMatch s.val w))

/-- FAULT (R131): The FAULT micro-operation raises a sequencer fault with CODE. -/
def execFaultOp (s : Fin 16) (ecc : Ecc) (s₀ : State) : Host.Outcome State Fault Refusal :=
  s₀.run (fun d => d.microStep s.val ecc 0x11 (fun d w => d.uFault s.val w))

end Sys2Proof.Machine
end

