-- ==== Sys2Proof/Machine/PageCmds.lean ====
section
/-! DEFINITION. Register, page and window accesses, and PEBUS frames (R9–R11, R17, R31, R40, R50, R54, R55, R71, R73, R95, R136, R264, R414–R417). -/

namespace Sys2Proof.Machine

/-- PIER_CTRL_WRITE (R31): A write of PIER_CTRL changes the stream assignment and MASKED_DRV, or is ignored whole while either stream is not halted. -/
def execPierCtrlWrite (q : Requester) (p : Fin 16) (v : Word) (s₀ : State) : Host.Outcome State Fault Refusal :=
  s₀.run (fun d => d.cmdWrite q (Reg.PIER_CTRL p.val) v)

/-- STATIC_RESUME (R50): PIER_CMD.STATIC_RESUME releases the pier's static channels to drive STATIC_LVL, unless the device is in the safe state. -/
def execStaticResume (q : Requester) (p : Fin 16) (s₀ : State) : Host.Outcome State Fault Refusal :=
  s₀.run (fun d => d.cmdWrite q (Reg.PIER_CMD p.val) 1)

/-- PG_COMMIT (R40): PG_CTRL.COMMIT applies the page's shadowed registers at once or holds the commit until the burst end or cycle boundary. -/
def execPgCommit (q : Requester) (page : BitVec 12) (s₀ : State) : Host.Outcome State Fault Refusal := s₀.run (fun d => d.pgCommand q page 8)

/-- PG_FREEZE (R416): A write of PG_CTRL.FREEZE holds commits, and writing 0 releases a held commit. -/
def execPgFreeze (q : Requester) (page : BitVec 12) (on : Bool) (s₀ : State) : Host.Outcome State Fault Refusal :=
  s₀.run (fun d => d.pgSwitch q page 2 on)

/-- PG_SOFT_RESET (R416): PG_CTRL.SOFT_RESET returns the page's registers and applied values to reset, or is refused with code 0xFE. -/
def execPgSoftReset (q : Requester) (page : BitVec 12) (s₀ : State) : Host.Outcome State Fault Refusal := s₀.run (fun d => d.pgCommand q page 2)

/-- PG_FCLR (R415): PG_CTRL.FCLR clears FAULT and PG_FAULT_CODE. -/
def execPgFclr (q : Requester) (page : BitVec 12) (s₀ : State) : Host.Outcome State Fault Refusal := s₀.run (fun d => d.pgCommand q page 16)

/-- PG_ENABLE (R416): A write of PG_CTRL.ENABLE on a CHN, CAP or GRD page enables or disables the block. -/
def execPgEnable (q : Requester) (page : BitVec 12) (on : Bool) (s₀ : State) : Host.Outcome State Fault Refusal :=
  s₀.run (fun d => d.pgSwitch q page 0 on)

/-- PG_LOCK_WRITE (R417): A write of PG_LOCK locks an unlocked page with the value as key, or unlocks a locked page when it carries the key. -/
def execPgLockWrite (q : Requester) (page : BitVec 12) (key : Word) (s₀ : State) : Host.Outcome State Fault Refusal :=
  s₀.run (fun d => d.cmdWrite q (Reg.PG_LOCK (pageBase page)) key)

/-- PG_EVT_PEND_CLEAR (R414): A W1C write of PG_EVT_PEND clears RAW event bits and may deassert the block's request. -/
def execPgEvtPendClear (q : Requester) (page : BitVec 12) (v : Word) (s₀ : State) : Host.Outcome State Fault Refusal :=
  s₀.run (fun d => d.cmdWrite q (Reg.PG_EVT_PEND (pageBase page)) v)

/-- PG_EVT_SET (R414): A W1S write of PG_EVT_SET sets RAW event bits for test. -/
def execPgEvtSet (q : Requester) (page : BitVec 12) (v : Word) (s₀ : State) : Host.Outcome State Fault Refusal :=
  s₀.run (fun d => d.cmdWrite q (Reg.PG_EVT_SET (pageBase page)) v)

/-- PG_EVT_EN_WRITE (R414): A write of PG_EVT_EN enables events and asserts the request at once when an enabled RAW bit is already 1. -/
def execPgEvtEnWrite (q : Requester) (page : BitVec 12) (v : Word) (s₀ : State) : Host.Outcome State Fault Refusal :=
  s₀.run (fun d => d.cmdWrite q (Reg.PG_EVT_EN (pageBase page)) v)

/-- REGISTER_WRITE (R10): A write to a register or window word without a row of its own, under the access code, alignment, mapping, lock and page rules. -/
def execRegisterWrite (q : Requester) (addr : RegAddr) (full : Bool) (v : Word) (s₀ : State) : Host.Outcome State Fault Refusal :=
  s₀.run (fun d => d.writeReg (reqNo q) addr.toNat full v)

/-- READ_CLEAR (R10): A read of an RC register returns the value and clears it in the same access. -/
def execReadClear (q : Requester) (addr : RegAddr) (how : ReadHow) (s₀ : State) : Host.Outcome State Fault Refusal :=
  s₀.run (fun d => (if how.full then d.winEcc (reqNo q) addr.toNat how.ecc else d).readReg (reqNo q) addr.toNat how.full)

/-- SPLIT_READ_LOW (R17): A read of the lower register of a split value latches the upper part for that requester. -/
def execSplitReadLow (q : Requester) (addr : RegAddr) (s₀ : State) : Host.Outcome State Fault Refusal :=
  s₀.run (fun d => d.readReg (reqNo q) addr.toNat true)

/-- HELD_WRITE_LOWER (R73): A write of the lower register of a held-write pair places the value in the requester's write latch. -/
def execHeldWriteLower (q : Requester) (addr : RegAddr) (v : Word) (s₀ : State) : Host.Outcome State Fault Refusal :=
  s₀.run (fun d => d.cmdWrite q addr.toNat v)

/-- HELD_WRITE_UPPER (R73): A write of the upper register of a held-write pair stores both halves, or its own half alone, and empties the latch. -/
def execHeldWriteUpper (q : Requester) (addr : RegAddr) (v : Word) (ue : Bool) (s₀ : State) : Host.Outcome State Fault Refusal :=
  s₀.run (fun d => (d.noteUE addr.toNat (ue && isSeqWindow addr.toNat)).cmdWrite q addr.toNat v)

/-- TSMEM_WRITE (R71): A write to the timing-set memory performs a read-modify-write of its word pair, refused on an uncorrectable error. -/
def execTsmemWrite (q : Requester) (chan : BitVec 8) (set : BitVec 8) (word : BitVec 3) (v : Word) (ecc : Ecc) (s₀ : State) : Host.Outcome State Fault Refusal :=
  s₀.run (fun d => (d.tsEcc (tsmemAddr chan.toNat set.toNat word.toNat) ecc).cmdWrite q (tsmemAddr chan.toNat set.toNat word.toNat) v)

/-- SPAN_DESC_WRITE (R95): A write to a span-table descriptor word is stored or ignored under the READY and ACTIVE restrictions. -/
def execSpanDescWrite (q : Requester) (span : BitVec 16) (word : BitVec 2) (v : Word) (ue : Bool) (s₀ : State) : Host.Outcome State Fault Refusal :=
  s₀.run (fun d => (d.noteUE (spanWord span.toNat word.toNat) ue).cmdWrite q (spanWord span.toNat word.toNat) v)

/-- CTRL_STORE_WRITE (R136): A write to the control-store window completes with an error and changes nothing. -/
def execCtrlStoreWrite (q : Requester) (w : BitVec 14) (v : Word) (s₀ : State) : Host.Outcome State Fault Refusal :=
  s₀.run (fun d => d.cmdWrite q (0x700000 + 4 * w.toNat) v)

/-- TASK_RAM_WRITE (R264): A write to a task descriptor is stored, or ignored with fault 0x01 while the task is not IDLE. -/
def execTaskRamWrite (q : Requester) (task : BitVec 12) (word : BitVec 4) (v : WinWord) (s₀ : State) : Host.Outcome State Fault Refusal :=
  s₀.run (fun d =>
    let a := tdAddr task.toNat (4 * word.toNat)
    (if d.taskState task.toNat = 0 then d.winEcc (reqNo q) a v.ecc else d).cmdWrite q a v.v)

/-- PEB_GO (R55): PEB_CMDk.GO queues a frame on the port, or raises OVERRUN when the queue is full. -/
def execPebGo (q : Requester) (port : Fin 8) (cs : BitVec 2) (s₀ : State) : Host.Outcome State Fault Refusal :=
  s₀.run (fun d => d.cmdWrite q (Reg.PEB_CMD port.val) (BitVec.ofNat 32 (0x100 + cs.toNat)))

/-- PEB_FRAME_DONE (R54): A PEBUS frame completes: received bits are stored, DONE is raised and the next queued frame starts. -/
def execPebFrameDone (port : Fin 8) (rx : BitVec 64) (s₀ : State) : Host.Outcome State Fault Refusal := s₀.run (fun d => d.pebDone port.val rx.toNat)

end Sys2Proof.Machine
end

