-- ==== Sys2Proof/Machine/Cycle.lean ====
section
/-! DEFINITION. One tester cycle: decoding a record (R41–R48, R91–R93), edges and the edge budget (R67, R76–R83),
compares (R77, R78), what a pier yields (R164), MATCH (R112, R113), and the lattice (R75, R83). -/

namespace Sys2Proof.Machine

/-! ## Actions (R42, R43) -/

/-- The drive action of a user code's field (R43). -/
def driveOf (n : Nat) : Drive :=
  match n with
  | 0 => .keep | 1 => .low | 2 => .high | 4 => .apg | 5 => .toggle | _ => .off

/-- The compare action of a user code's field (R43). -/
def cmpOf (n : Nat) : Cmp :=
  match n with
  | 1 => .low | 2 => .high | 3 => .between | 4 => .apg | 5 => .capture | 6 => .outside | _ => .none

/-- The actions of a pin action code (R42); `uct` is PIER_UCT of the channel's pier, `prev` the actions of the previous
cycle. Code 0xF has none. -/
def codeActions (code : Nat) (uct : Word) (prev : Drive × Cmp) : Option (Drive × Cmp) :=
  match code with
  | 0x0 => some prev
  | 0x1 => some (.low, .none)
  | 0x2 => some (.high, .none)
  | 0x3 => some (.off, .none)
  | 0x4 => some (.off, .low)
  | 0x5 => some (.off, .high)
  | 0x6 => some (.off, .between)
  | 0x7 => some (.keep, .none)
  | 0x8 => some (.apg, .none)
  | 0x9 => some (.off, .apg)
  | 0xA => some (.off, .capture)
  | 0xB => some (.toggle, .none)
  | 0xC => some (driveOf (uct.get 3 3), cmpOf (uct.get 0 3))
  | 0xD => some (driveOf (uct.get 11 3), cmpOf (uct.get 8 3))
  | 0xE => some (driveOf (uct.get 19 3), cmpOf (uct.get 16 3))
  | _ => none

/-- INV_DRV on a drive action (R47). -/
def Drive.invert : Drive → Drive
  | .low => .high
  | .high => .low
  | a => a

/-- INV_EXP on a compare action (R47). -/
def Cmp.invert : Cmp → Cmp
  | .low => .high
  | .high => .low
  | a => a

/-- A drive action that asserts CH_DEN (R76). -/
def Drive.drives : Drive → Bool
  | .low | .high | .apg | .toggle => true
  | .keep | .off => false

/-! ## What a channel does in a cycle -/

/-- The settings of one cycle that every channel shares: mode, timing set, period in 2^-16 tick, start, whether the APG is
used, the APG output and expect view. -/
structure CycCfg where
  mode : Nat
  ts : Nat
  per : Nat
  sInt : Nat
  sFrac : Nat
  apg : Bool
  out : ApgOut
  exp : ApgOut
deriving DecidableEq, Repr

/-- What a cycle decides for a channel: its state after it, the lane that presented code 0xF, the earliest ball time at which an event could
not be placed (R82), and what its results depend on. -/
structure ChanOut where
  ctx : ChanCtx
  bad : Option Nat
  timing : Option Nat
  play : ChanPlay
deriving DecidableEq, Repr

/-- Edge word `w` of timing set `m` of channel `n` (R68). -/
def edgeAddr (n m w : Nat) : Nat := 0x200000 + 0x2000 * n + 0x20 * m + 4 * w

/-- ATTR of an edge word. -/
def Device.edgeAttr (d : Device) (n m w : Nat) : Nat := d.fld (edgeAddr n m w) 29 3
/-- TIME of an edge word. -/
def Device.edgeTime (d : Device) (n m w : Nat) : Nat := d.fld (edgeAddr n m w) 0 25
/-- TRIM of an edge word in the active bank (R70). -/
def Device.edgeTrim (d : Device) (n m w : Nat) : Int := d.trimAt (edgeAddr n m w)

/-- The enabled edges of a channel's timing set in waveform mode: index, ATTR, TIME (R69, R76, R77). -/
def Device.edges (d : Device) (n m : Nat) : List (Nat × Nat × Nat) :=
  ((List.range 8).map (fun w => (w, d.edgeAttr n m w, d.edgeTime n m w))).filter (fun e => e.2.1 ≠ 0)

/-- An event of edge word `w` at channel time `t`, placed with its trim (R39, R67). -/
def Device.placeEdge (d : Device) (n m w t : Nat) (sig : Sig) (den budget : Bool) : Placed :=
  placeEvent w (d.ballTime n den (4 ≤ w) t) (d.edgeTrim n m w) sig budget

/-- The ball time of the third event in each coarse slot that holds more than two of `l` (R81, R82). -/
def thirdEvents (l : List (Nat × Nat)) : List Nat :=
  l.filterMap (fun e => (((l.filter (fun f => f.1 = e.1)).map (fun f => f.2)).mergeSort (fun a b => decide (a ≤ b)))[2]?)

/-- Events ordered by time, ties by edge number: later in the list takes effect (R79). -/
def sortEdges (es : List (Nat × Nat × Nat)) : List (Nat × Nat × Nat) :=
  es.mergeSort (fun a b => decide (a.2.2 < b.2.2 ∨ (a.2.2 = b.2.2 ∧ a.1 ≤ b.1)))

/-- One drive edge on the levels (CH_DEN, CH_DHI) (R76); `v` is the data value. -/
def driveEdge (act : Drive) (v : Bool) (lv : Bool × Bool) (attr : Nat) : Bool × Bool :=
  match attr with
  | 1 => (if act.drives then true else if act = .off then false else lv.1, lv.2)
  | 2 => (lv.1, if act.drives then v else lv.2)
  | 3 => (lv.1, if act.drives then !v else lv.2)
  | 4 => (lv.1, if act.drives then false else lv.2)
  | 5 => (lv.1, if act.drives then true else lv.2)
  | 6 => (if act.drives then false else lv.1, lv.2)
  | _ => lv

/-- The data value of a drive action (R76). -/
def driveValue (act : Drive) (apg dhi : Bool) : Bool :=
  match act with
  | .high => true
  | .apg => apg
  | .toggle => !dhi
  | _ => false

/-- Whether the site of channel `n` is active, or the channel has none (R51, R52). -/
def Device.chanActive (d : Device) (s n : Nat) : Bool :=
  match d.chanSite n with
  | some k => natBit (d.reg64 (Reg.STR_SITE_LO s) (Reg.STR_SITE_HI s)) k && natBit (d.siteEn (n / 16)) k
  | none => true

/-- MASKED_DRV holds the channel off in this cycle (R52). -/
def Device.maskedOff (d : Device) (s n : Nat) : Bool := !d.chanActive s n && d.bit (Reg.PIER_CTRL (n / 16)) 0

/-- The slots of the decoder on a channel: its enabled compare edges in waveform mode, every UI in fast-bit modes (R188). -/
def Device.decSlots (d : Device) (n : Nat) (k : CycCfg) : Nat :=
  if k.mode = 0 then bitsOf 4 (fun i => d.edgeAttr n k.ts (i + 4) ≠ 0) else 2 ^ (4 * k.mode) - 1

/-- The channel time of UI `i` of a fast-bit cycle of `N` UIs whose first one lies `ofs` after the start (R80). -/
def CycCfg.uiTime (k : CycCfg) (N ofs i : Nat) : Nat := (k.sInt * 65536 + k.sFrac + ofs * 65536 + i * k.per / N) / 65536

/-- The slots of a channel in the cycle, at their channel times: its enabled compare edges in waveform mode, every UI in fast-bit modes. -/
def Device.slotsOf (d : Device) (n : Nat) (k : CycCfg) : List Strobe :=
  let at_ (i attr t : Nat) : Strobe := ⟨i, attr, t, d.ballTime n false true t⟩
  if k.mode = 0 then (sortEdges ((d.edges n k.ts).filter (fun e => decide (4 ≤ e.1)))).map (fun e => at_ (e.1 - 4) e.2.1 (k.sInt + e.2.2))
  else (List.range (4 * k.mode)).map (fun i => at_ i 1 (k.uiTime (4 * k.mode) (d.edgeTime n k.ts 4) i))

/-- A channel that plays nothing in the cycle keeps its context; its slots have sample 0 (R164). -/
def Device.idleChan (d : Device) (n : Nat) (k : CycCfg) : ChanOut :=
  let c := d.chanOf n
  ⟨c, none, none, { ChanPlay.nothing with en := d.decSlots n k, drv := if c.dhi then 0xFF else 0, strobes := d.slotsOf n k }⟩

/-- Events placed for earlier cycles that may still lie ahead or share a coarse slot with new ones of a cycle that starts at `t`. -/
def keepPlaced (t : Nat) (l : List Placed) : List Placed := l.filter (fun e => decide (t + slotBias < e.slot * 1280 + 1280 + 84000))

/-- The ball time, less `slotBias`, of the first event that is one too many in its coarse slot (R81, R82). -/
def overBudget (l : List Placed) : List Nat := thirdEvents ((l.filter (fun e => e.budget)).map (fun e => (e.slot, e.ball)))

/-- MASKED_DRV takes a channel to its held levels at the start of a cycle (R52). -/
def Device.holdEvents (d : Device) (n t : Nat) : List Placed :=
  [placeEvent 8 (d.ballTime n false false t) 0 (.dhi false) false, placeEvent 8 (d.ballTime n true false t) 0 (.den false) false]

/-- What a drive edge does at the ball (R76): of levels `was` to `now`, the one that its attribute sets, where its action applies. -/
def edgeSig (act : Drive) (attr : Nat) (now : Bool × Bool) : Sig :=
  match attr with
  | 1 => if act = .keep then .idle else .den now.1
  | 6 => if act.drives then .den false else .idle
  | 7 => .idle
  | _ => if act.drives then .dhi now.2 else .idle

/-- The drive edges of a cycle in time order: what each does, and the levels after all. -/
def driveRun (act : Drive) (v : Bool) : List (Nat × Nat × Nat) → Bool × Bool → List ((Nat × Nat × Nat) × Sig) × (Bool × Bool)
  | [], lv => ([], lv)
  | e :: es, lv =>
    let now := driveEdge act v lv e.2.1
    let r := driveRun act v es now
    ((e, edgeSig act e.2.1 now) :: r.1, r.2)

/-- A channel in one waveform cycle. `code` is the lane's pin action code, `x` its comparator inputs (R42, R43, R47, R76–R82).
DESIGN CHOICE: user codes are decoded by the channel's own pier, and two compare edges of one tick both judge (log entries 95, 102).
DESIGN CHOICE: an APG compare that code K repeats, or a user code asks for, never enters the bitmap (log entry 134). -/
def Device.waveChan (d : Device) (s n : Nat) (k : CycCfg) (code : Nat) (x : Sample) : ChanOut :=
  let c := d.chanOf n
  let map := d.reg (Reg.CHN_PINMAP n)
  match codeActions code (d.reg (Reg.PIER_UCT (n / 16))) (c.drive, c.cmp) with
  | none => { d.idleChan n k with bad := some (map.get 16 8) }
  | some (dr, cm) =>
    let act := if map.bit 31 then dr.invert else dr
    let cmp := if map.bit 30 then cm.invert else cm
    let bitNo := map.get 8 7
    let dbit := xor (k.out.bit bitNo) (map.bit 31)
    let ebit := xor (k.exp.bit bitNo) (map.bit 30)
    let held := d.maskedOff s n
    let es := d.edges n k.ts
    let run := driveRun act (driveValue act dbit c.dhi) (sortEdges (es.filter (fun e => decide (e.1 < 4)))) (c.den, c.dhi)
    let slots := d.slotsOf n k
    let lv := if held then (false, false) else run.2
    let drives := run.1.map (fun r => d.placeEdge n k.ts r.1.1 (k.sInt + r.1.2.2) (if held then .idle else r.2) (r.1.2.1 = 1 || r.1.2.1 = 6) true)
    let samples := slots.map (fun e => d.placeEdge n k.ts (e.idx + 4) e.t .sample false true)
    let all := keepPlaced k.sInt c.placed ++ (if held then d.holdEvents n k.sInt else []) ++ drives ++ samples
    let unplaced := es.filter (fun e => decide (k.per ≤ e.2.2 * 65536) || (e.1 < 4 && e.2.1 = 7) || (4 ≤ e.1 && 4 ≤ e.2.1))
    let late := unplaced.map (fun e => d.ballTime n (e.1 < 4 && (e.2.1 = 1 || e.2.1 = 6)) (4 ≤ e.1) (k.sInt + e.2.2))
    let cfg := d.reg (Reg.APG_BMCFG s)
    { ctx := ⟨lv.2, lv.1, dr, cm, c.dir, all⟩, bad := none, timing := (late ++ overBudget all).min?.map (fun b => b - slotBias),
      play :=
       { uis := 0, plays := true, on := d.chanActive s n, cmp := cmp, compares := false, expect := if ebit then 1 else 0,
         en := d.decSlots n k, drv := if lv.2 then 0xFF else 0,
         strobes := slots, x := x,
         io := [if code = 9 && bitNo < 64 && cfg.get 18 6 ≤ bitNo && bitNo - cfg.get 18 6 ≤ cfg.get 24 6 then some (bitNo - cfg.get 18 6)
                else none],
         cut := none } }

/-- A channel in one fast-bit cycle of `N` = 4 or 8 UIs. `bits` is the lane's data (R45, R46, R80–R82). -/
def Device.fastChan (d : Device) (s n N : Nat) (k : CycCfg) (bits : Nat) (x : Sample) : ChanOut :=
  let c := d.chanOf n
  let map := d.reg (Reg.CHN_PINMAP n)
  let dir := d.fld (Reg.CHN_DIRSET n (k.ts / 16)) (2 * (k.ts % 16)) 2
  let bitNo (i : Nat) := (map.get 8 7 + i) % 128
  let sub := map.bit 27 && k.apg
  let drvBit (i : Nat) := xor (if sub then k.out.bit (bitNo i) else natBit bits i) (map.bit 31)
  let expBit (i : Nat) := xor (if sub then k.exp.bit (bitNo i) else natBit bits i) (map.bit 30)
  let held := d.maskedOff s n
  let late := [0, 1, 4].filter (fun w => decide (k.per ≤ d.edgeTime n k.ts w * 65536))
  let dhi := if held then false else if dir = 0 then drvBit (N - 1) else c.dhi
  let ui (w i : Nat) := k.uiTime N (d.edgeTime n k.ts w) i
  let drives := if dir = 0 && !held then (List.range N).map (fun i => d.placeEdge n k.ts 0 (ui 0 i) (.dhi (drvBit i)) false false) else []
  let turn := if dir = c.dir then [] else [d.placeEdge n k.ts 1 (ui 1 0) (if held then .idle else .den (dir = 0)) true true]
  let samples := (List.range N).map (fun i => d.placeEdge n k.ts 4 (ui 4 i) .sample false false)
  let all := keepPlaced k.sInt c.placed ++ (if held then d.holdEvents n k.sInt else []) ++ turn ++ drives ++ samples
  let cfg := d.reg (Reg.APG_BMCFG s)
  let io (i : Nat) := bitNo i - cfg.get 18 6
  { ctx := ⟨dhi, dir = 0 && !held, c.drive, c.cmp, if held then 2 else dir, all⟩, bad := none,
    timing := (late.map (fun w => d.ballTime n (w = 1) (w = 4) (ui w 0)) ++ overBudget all).min?.map (fun b => b - slotBias),
    play :=
     { uis := N, plays := true, on := d.chanActive s n, cmp := .none, compares := dir = 1,
       expect := bitsOf N expBit, en := d.decSlots n k, drv := bitsOf N (fun i => if dir = 0 && !held then drvBit i else dhi),
       strobes := d.slotsOf n k, x := x,
       io := (List.range N).map (fun i =>
         if sub && decide (bitNo i < 64) && decide (cfg.get 18 6 ≤ bitNo i) && decide (io i ≤ cfg.get 24 6) then some (io i) else none),
       cut := none } }

/-- The lane data of channel `n`, taken through LANE_SRC (R41, R45, R47). `data` lists pier data in pier order.
DESIGN CHOICE: a channel enabled within a burst whose LANE_SRC lies outside the stream's piers has data 0 (log entry 95). -/
def Device.laneData (d : Device) (s n mode : Nat) (data : List Nat) : Nat :=
  let src := d.fld (Reg.CHN_PINMAP n) 16 8
  let w := data.getD ((d.piers s).findIdx (· = src / 16)) 0
  if mode = 2 then w / 256 ^ (src % 16) % 256 else w / 16 ^ (src % 16) % 16

/-- Channel `n` plays in the cycle: enabled and not static (R32, R47). -/
def Device.chanPlays (d : Device) (n : Nat) : Bool := d.chanOn n && !d.chanStatic n

/-- Channel `n` in one cycle. -/
def Device.chanCycle (d : Device) (s n : Nat) (k : CycCfg) (data : List Nat) (x : Sample) : ChanOut :=
  if !d.chanPlays n then d.idleChan n k
  else
    match k.mode with
    | 0 => d.waveChan s n k (d.laneData s n 0 data) x
    | 1 => d.fastChan s n 4 k (d.laneData s n 1 data) x
    | _ => d.fastChan s n 8 k (d.laneData s n 2 data) x

/-! ## Records (R91–R93) -/

/-- An uncorrectable error in the `n` bytes from `a` of a span the player holds. -/
def SpanBuf.ue (b : SpanBuf) (a n : Nat) : Bool := b.bad.any (fun k => decide (a / 8 ≤ k) && decide (k * 8 < a + n))

/-- A position at the start of a span. -/
def PlayPos.start (addr : Nat) (b : SpanBuf) (cached : Bool) : PlayPos :=
  { addr := addr, buf := b, cached := cached, ptr := b.start, left := b.len, reps := 0, word := 0, fresh := true }

/-- Pier data of a record that carries it, in pier order (R92). -/
def recData (b : SpanBuf) (ptr mode np : Nat) : List Nat :=
  (List.range np).map (fun i => b.get (ptr + 4 + i * pierBytes mode) (pierBytes mode))

/-- Whether channel `n` judges when it plays a record with data, its actions before the record being `prev`; with the
actions after it (R113). -/
def Device.recJudges (d : Device) (s n mode : Nat) (w : Nat) (data : List Nat) (prev : Drive × Cmp) : Bool × (Drive × Cmp) :=
  let ts := w / 2 ^ 24
  if mode = 0 then
    match codeActions (d.laneData s n 0 data) (d.reg (Reg.PIER_UCT (n / 16))) prev with
    | some a => (a.2.judges && (d.edges n ts).any (fun e => decide (4 ≤ e.1)), a)
    | none => (false, prev)
  else (d.fld (Reg.CHN_DIRSET n (ts / 16)) (2 * (ts % 16)) 2 = 1, prev)

/-- Whether channel `n` judges in any of the `n` records from `ptr` of a MATCH span, over the passes of `fuel` records. -/
def Device.spanJudges (d : Device) (s n mode np : Nat) (b : SpanBuf) : Nat → Nat → Nat → List Nat → (Drive × Cmp) → Bool
  | 0, _, _, _, _ => false
  | fuel + 1, ptr, left, last, prev =>
    if left = 0 then d.spanJudges s n mode np b fuel b.start b.len last prev
    else
      let w := b.get ptr 4
      let data := if natBit w 0 then last else recData b ptr mode np
      let r := d.recJudges s n mode w data prev
      r.1 || d.spanJudges s n mode np b fuel (ptr + recBytes mode np w) (left - 1) data r.2

/-- The participants of a MATCH by span (R113): per pier the sites with an enabled channel compared, and whether an enabled
channel without a site is. A code K in a burst's first cycle compares nothing (R42). -/
def Device.matchParts (d : Device) (s : Nat) (b : SpanBuf) : List (Nat × Nat) × Bool :=
  let mode := d.fld (Reg.STR_CTRL s) 0 2
  let np := d.np s
  let on (n : Nat) := d.chanPlays n &&
    d.spanJudges s n mode np b (2 * b.len + 2) b.start b.len (d.strOf s).lastData
      (if (d.strOf s).first then (.off, .none) else ((d.chanOf n).drive, (d.chanOf n).cmp))
  ((d.piers s).map (fun p => (p, d.laneSites p (bitsOf 16 (fun j => on (16 * p + j))))),
   (d.chans s).any (fun n => (d.chanSite n).isNone && on n))

/-- The sites that take part in a cycle (R113): compared in the span, and active. -/
def Device.activeParts (d : Device) (s : Nat) (parts : List (Nat × Nat)) : Nat :=
  d.reg64 (Reg.STR_SITE_LO s) (Reg.STR_SITE_HI s) &&& parts.foldl (fun m e => m ||| (e.2 &&& d.siteEn e.1)) 0

/-! ## Period validity and the faults of a cycle (R74, R449) -/

/-- A period (in 2^-16 tick) is valid for a mode (R74). -/
def periodOk (mode per : Nat) : Bool :=
  decide (4096 * 65536 ≤ per) && decide (per ≤ (if mode = 0 then 2 ^ 32 else 16384) * 65536)

/-- The first of the faults a cycle holds, in the order of R449: 0x05, 0x09, 0x02, 0x0E, 0x04, 0x03. -/
def firstFault (f05 f09 f02 f0E f04 f03 : Bool) : Option Nat :=
  if f05 then some 0x05 else if f09 then some 0x09 else if f02 then some 0x02
  else if f0E then some 0x0E else if f04 then some 0x04 else if f03 then some 0x03 else none

/-- PIER_BADCODE of every pier that holds a lane with code 0xF takes its lowest such lane (R44). `lanes` are channels. -/
def Device.recordBad (d : Device) (lanes : List Nat) : Device :=
  d.forN 16 (fun d p =>
    match (List.range 16).find? (fun j => lanes.contains (16 * p + j)) with
    | some j => d.setRegN (Reg.PIER_BADCODE p) (2 ^ 8 + j)
    | none => d)

/-- An entry of timing set `m` of channel `n` that the cycle reads holds an uncorrectable error (R71). -/
def Device.tsUE (d : Device) (n m : Nat) : Bool := (List.range 4).any (fun i => d.winUE (edgeAddr n m (2 * i)))

/-! ## Taking a request into play (R98, R101, R112) -/

/-- What takes its place in play: nothing yet, a stop of the stream that has been carried out, or a position; the last of a span that failed
its check. -/
inductive Taken where
  | wait
  | ended (d : Device)
  | at (d : Device) (pos : PlayPos)
  | unfit (d : Device) (pos : PlayPos)

/-- A MATCH begins (R112): STR_MATCHLAT.CYCLES below STR_MATCHMIN is a fault; else its participants are found (R113). -/
def Device.matchStart (d : Device) (s addr : Nat) (b : SpanBuf) (req : MatchReq) : Taken :=
  if d.fld (Reg.STR_MATCHLAT s) 0 11 < d.matchMin s then .ended ((d.reach (d.strOf s).sInt).strFault s 0x08 addr)
  else
    let parts := d.matchParts s b
    let now := d.reg64 (Reg.STR_CYCLES_LO s) (Reg.STR_CYCLES_HI s)
    .at (d.modStr s (fun c => { c with mtch := some ⟨req, now, 1, parts.1, parts.2, 0, false, none, []⟩ })) (PlayPos.start addr b true)

/-- A request enters play with the span's records at hand. -/
def Device.enterPlay (d : Device) (s : Nat) (i : QItem) (b : SpanBuf) (cached : Bool) : Taken :=
  match i with
  | .play _ a _ => .at d (PlayPos.start a b cached)
  | .matchPlay _ a _ req => d.matchStart s a b req
  | .act _ _ => .wait

/-- The instruction a queue item came from. -/
def QItem.addr : QItem → Nat
  | .play _ a _ => a
  | .matchPlay _ a _ _ => a
  | .act _ a => a

/-- The first record of span `n` can be read although the span fails its check: it is in the stream's layout and in memory that is there. -/
def Device.recordReads (d : Device) (s n : Nat) : Bool :=
  let mode := d.fld (Reg.STR_CTRL s) 0 2
  let a := d.spanAddr n
  decide (d.spanMode n = mode) && decide (d.spanNpier n = d.np s) && decide (1 ≤ d.spanLen n) && decide (1 ≤ d.spanSize64 n) &&
    decide (a + recBytes mode (d.np s) (d.memRead a 4) ≤ memEnd) && d.stkOk (stackOf a)

/-- The next cycle is due and no span is in play: the request at the head of the queue enters play, a faulty span faults, and
a span that has not arrived underruns, at the instant at which the cycle is due (R96, R98, R101, R105). -/
def Device.takeRequest (d : Device) (s : Nat) : Taken :=
  let c := d.strOf s
  let due := d.reach c.sInt
  if c.jumpsHere || (c.stop ≠ 0 && !c.first) then .wait
  else if d.recordAbsent s then .ended (due.underrun s)
  else match c.queue with
    | [] => .wait
    | i :: is =>
      match i.fetch? with
      | none => .wait
      | some .waiting => .wait
      | some (.bad code) =>
        let n := (i.span?).getD 0
        if code = 0x05 ∧ d.recordReads s n then .unfit d (PlayPos.start i.addr (d.spanBuf n) false) else .ended (due.strFault s code i.addr)
      | some (.fetching _ got cache) =>
        let n := (i.span?).getD 0
        (d.modStr s (fun c => { c with queue := is, late := c.late ++ [(n, got, cache)] })).enterPlay s i (d.fetchedBuf s n) cache
      | some (.ready b) => (d.modStr s (fun c => { c with queue := is })).enterPlay s i b false
      | some (.cached b) => (d.modStr s (fun c => { c with queue := is })).enterPlay s i b true

/-! ## The end of a MATCH (R113) -/

/-- STR_MATCHSITE takes the sites satisfied in cycles up to `last`. -/
def Device.setMatchSite (d : Device) (s : Nat) (m : MatchCtx) (p : Nat → Bool) : Device :=
  d.setReg64 (Reg.STR_MATCHSITE_LO s) (Reg.STR_MATCHSITE_HI s)
    ((m.recent.filter (fun r => p r.1)).foldl (fun a r => a ||| r.2) 0)

/-- The match path is about to be discarded (R113): a span that has played through is resident in the loop cache; one whose load is
discarded leaves it empty (R99). -/
def Device.lcKeep (d : Device) (s : Nat) : Device :=
  let c := d.strOf s
  if c.lc.isSome then d
  else match c.pos with
    | some p => if d.lcHolds s p.buf.span then d.modStr s (fun c => { c with lc := some p.buf }) else d.setBit (Reg.STR_STATUS s) 8 false
    | none => d.setBit (Reg.STR_STATUS s) 8 false

/-- A MATCH ends without a match (R113): the match path is discarded, the micro-engine returns to its state at the MATCH and
continues at the target after a timeout gap. `e` is the index of the cycle that would follow the last pass. -/
def Device.matchTimeout (d : Device) (s : Nat) (m : MatchCtx) (e : Nat) : Device :=
  let l := d.fld (Reg.STR_MATCHLAT s) 0 11
  let d := d.lcKeep s
  let d := (d.setMatchSite s m (fun c => decide (c + l ≤ e))).event (Page.STR s) 4
  let sv := m.req.save
  let d := (List.range 16).foldl (fun d i => d.setReg (Reg.STR_G s i) (sv.g.getD i 0)) d
  let d := d.modStr s (fun c =>
    { c with queue := [], held := none, actSpans := [], late := [], fetchBad := [], pos := none, mtch := none, calls := sv.calls,
             loops := sv.loops, zf := sv.zf, nf := sv.nf, mask := sv.mask, eng := .running,
             micro := { c.micro with active := false } })
  let d := d.setPc s m.req.target
  (d.enterGap s (.till (roundUp ((d.strOf s).bCeil + usTicks) gridTicks))).gapJump s

/-- Passes of a MATCH (R112). -/
def MatchReq.passes (r : MatchReq) : Nat := if r.maxpass = 0 then 65536 else r.maxpass

/-- After a cycle of a MATCH whose index was `cycle` (R113, R115, R121): the match path, the end of a pass with a jump or a
stop pending, the next pass, or the timeout. -/
def Device.matchNext (d : Device) (s cycle : Nat) (m : MatchCtx) (pos : PlayPos) : Device :=
  if m.leave = some (cycle + 1) then
    (d.setMatchSite s m (fun _ => true)).modStr s (fun c => { c with pos := none, mtch := none })
  else if pos.reps ≠ 0 ∨ pos.left ≠ 0 then d
  else if (d.strOf s).jumpsHere then d.modStr s (fun c => { c with pos := none, mtch := none })
  else if (d.strOf s).stop ≠ 0 then d.endBurst s 4 3
  else if m.req.passes ≤ m.pass then d.matchTimeout s m (cycle + 1)
  else d.modStr s (fun c => { c with mtch := some { m with pass := m.pass + 1 }, pos := some (PlayPos.start pos.addr pos.buf true) })

/-! ## The cycle -/

/-- A record's cycle word is read when the last one has played its repeats: the position after it, whether it carries data,
its data, whether an uncorrectable error lies in it, and whether it passes its check (R91–R93, R96, R105). -/
def Device.nextRecord (d : Device) (s : Nat) (pos : PlayPos) (ue : Bool) : PlayPos × List Nat × Bool × Bool :=
  let last := (d.strOf s).lastData
  let pos := { pos with fresh := false }
  if pos.reps ≠ 0 then ({ pos with reps := pos.reps - 1 }, last, false, true)
  else
    let mode := d.fld (Reg.STR_CTRL s) 0 2
    let w := pos.buf.get pos.ptr 4
    let n := recBytes mode (d.np s) w
    ({ pos with ptr := pos.ptr + n, left := pos.left - 1, reps := w / 16 % 4096, word := w },
     if natBit w 0 then last else recData pos.buf pos.ptr mode (d.np s), ue || pos.buf.ue pos.ptr n,
     recordOk mode (d.np s) w pos.ptr (pos.buf.start + pos.buf.size * 64) pos.left)

/-- The code K of a burst's first cycle means drive off and no compare (R42); the previous direction is OFF (R80).
DESIGN CHOICE: for a channel enabled within a burst the previous cycle is the last one that it played, of whatever burst, with the
direction OFF (log entry 95). -/
def Device.firstCycle (d : Device) (s : Nat) : Device :=
  let d := (d.chans s).foldl (fun d n =>
    if d.chanPlays n then d.setChan n { d.chanOf n with drive := .off, cmp := .none, dir := 2 } else d) d
  (d.apgFill s).modStr s (fun c => { c with t0 := c.sInt, trigin := c.trigin.filter (fun e => decide (c.sInt ≤ e.1)) })

/-- Events of the cycle for the meters: a burst's first cycle, and MARK bits that rise or fall (R196, R198). -/
def markEvents (s t was now : Nat) (first : Bool) : List (Nat × Nat × Bool) :=
  (if first then [(0x2D0 + s, t, false)] else []) ++
    ((List.range 8).filter (fun m => natBit was m != natBit now m)).map (fun m => (0x210 + 8 * s + m, t, natBit was m))

/-- What the next cycle is for capture and triggers, `cycle` its index and `tEnd` its end. -/
def Device.cycView (d : Device) (s : Nat) (pos : PlayPos) (newSpan : Bool) (mode cycle tEnd : Nat) : CycView :=
  let c := d.strOf s
  { t := c.sInt, tEnd := tEnd, prevEnd := c.lastEnd, cycle := cycle, isMatch := c.mtch.isSome, word := pos.word, first := c.first,
    start := c.segStart, segt := newSpan && pos.buf.segt, mode := mode, lines := c.trigLines,
    edges := (c.trigin.filter (fun e => decide (e.1 < tEnd))).map (fun e => e.2), marginal := d.marginalNow }

/-- A cycle enters the compare pipeline: its results are known 24 ns after its samples can have come back (R40, R190). -/
def Device.fly (d : Device) (s : Nat) (v : CycView) (e : ApgOut) (outs : List (Nat × ChanPlay)) : Device :=
  let parts := match (d.strOf s).mtch with | some m => d.activeParts s m.parts | none => 0
  d.modStr s (fun c => { c with flights := c.flights ++ [.cycle ⟨v, e, outs, v.tEnd + d.rtdMax s + 24 * nsTicks, parts⟩] })

/-- A cycle without a fault plays: events are placed, its samples enter the compare pipeline, the APG and the lattice move on
(R66, R75, R93). -/
def Device.playCycle (d : Device) (s : Nat) (pos : PlayPos) (newSpan : Bool) (data : List Nat) (k : CycCfg)
    (outs : List (Nat × ChanOut)) : Device :=
  let c := d.strOf s
  let cycle := d.reg64 (Reg.STR_CYCLES_LO s) (Reg.STR_CYCLES_HI s)
  let next := c.sInt * 65536 + c.sFrac + k.per
  let tEnd := next / 65536
  let mark := pos.word / 2 ^ 16 % 256
  let v := d.cycView s pos newSpan k.mode cycle tEnd
  let d := outs.foldl (fun d o => if d.chanPlays o.1 then d.setChan o.1 o.2.ctx else d) d
  let d := d.setReg64 (Reg.STR_CYCLES_LO s) (Reg.STR_CYCLES_HI s) (cycle + 1)
  let d := d.fly s v k.exp (outs.map (fun o => (o.1, o.2.play)))
  let d := { d with ivmq := d.ivmq ++ markEvents s c.sInt (if c.first then 0 else c.markWas) mark c.first }
  let d := d.modStr s (fun c =>
    { c with segStart := false, trigLines := 0, trigin := c.trigin.filter (fun e => decide (tEnd ≤ e.1)), first := false, apgSeen := [],
             lastData := data, pos := some pos, sInt := tEnd, sFrac := next % 65536, lastEnd := tEnd,
             marginal := c.marginal || d.marginalNow, mark := mark, markWas := mark })
  let d := if k.apg then (d.apgPush s k.out).modStr s (fun c => { c with apgDue := true }) else d
  match (d.strOf s).mtch with
  | some m => d.matchNext s cycle m pos
  | none => if pos.reps = 0 ∧ pos.left = 0 then d.modStr s (fun c => { c with pos := none }) else d

/-- The events of a faulty cycle that lie at ball times before the fault's instant `t` stand: drive edges, and samples, which are
judged (R82). -/
def Device.playUntil (d : Device) (s : Nat) (pos : PlayPos) (newSpan : Bool) (k : CycCfg) (outs : List (Nat × ChanOut)) (t : Nat) : Device :=
  let cycle := d.reg64 (Reg.STR_CYCLES_LO s) (Reg.STR_CYCLES_HI s)
  let tEnd := ((d.strOf s).sInt * 65536 + (d.strOf s).sFrac + k.per) / 65536
  let v := d.cycView s pos newSpan k.mode cycle tEnd
  let b := t + slotBias
  let x := d.draw
  let d := outs.foldl (fun d o =>
    if d.chanPlays o.1 then d.setChan o.1 { o.2.ctx with placed := o.2.ctx.placed.filter (fun e => decide (e.ball < b)) } else d) x.2
  let plays := outs.map (fun o =>
    let p : ChanPlay := { o.2.play with strobes := o.2.play.strobes.filter (fun e => decide (e.ball < b)) }
    (o.1, p.cutAt (b - 1) (d.ballTime o.1 false true tEnd) (natBit x.1 o.1)))
  if k.sInt < t || plays.any (fun o => o.2.plays && !o.2.strobes.isEmpty) then d.fly s v k.exp plays else d

/-- A cycle before it plays: the device with its settings taken, the position and data after its record, what each channel does, the lanes whose code 0xF
had no meaning, and the fault it ends in with the instant it takes effect (R82, R449). -/
structure CycPlan where
  dev : Device
  pos : PlayPos
  data : List Nat
  newSpan : Bool
  cfg : CycCfg
  outs : List (Nat × ChanOut)
  bad : List Nat
  fault : Option Nat
  instant : Nat

/-- The cycle at a position: its record is read, every channel decided and its faults found (R449). `samples` are the
comparator inputs of the stream's channels in ascending order; `eccTs` lists channels whose timing-set entry is found
uncorrectable; `unfit` says that the span has failed its check. -/
def Device.cyclePlan (d : Device) (s : Nat) (pos : PlayPos) (unfit : Bool) (samples : List Sample) (ueVec : Bool) (eccTs : List (Nat × Ecc)) : CycPlan :=
  let d := d.reach (d.strOf s).sInt
  let d := ((d.settleDue s (d.strOf s).sInt).boundaryCommits s).apgSettle s
  let newSpan := pos.fresh
  let r := d.nextRecord s pos ueVec
  let first := (d.strOf s).first
  let d := if first then d.firstCycle s else d
  let mode := d.fld (Reg.STR_CTRL s) 0 2
  let ts := r.1.word / 2 ^ 24 % 256
  let per := d.perFix s ts
  let key := some (per / 65536, per % 65536)
  let d := if (d.strOf s).period ≠ none ∧ (d.strOf s).period ≠ key then d.modStr s (fun c => { c with sFrac := 0 }) else d
  let d := d.modStr s (fun c => { c with period := key })
  let d := eccTs.foldl (fun d e => if (d.chans s).contains e.1 && d.chanPlays e.1 then d.tsEcc (edgeAddr e.1 ts 0) e.2 else d) d
  let out := d.apgOut s
  let k : CycCfg := ⟨mode, ts, per, (d.strOf s).sInt, (d.strOf s).sFrac, natBit r.1.word 2, out, d.apgExpect s out⟩
  let ns := d.chans s
  let outs := (List.range ns.length).map (fun i =>
    let n := ns.getD i 0
    (n, d.chanCycle s n k r.2.1 (samples.getD i ⟨0, 0, 0⟩)))
  let bad := outs.filterMap (fun o => o.2.bad)
  let late := outs.filterMap (fun o => o.2.timing)
  let ue := ns.any (fun n => d.chanPlays n && d.tsUE n ts)
  let bad05 := unfit || first && natBit r.1.word 0 || !r.2.2.2
  let f := firstFault bad05 r.2.2.1 (!bad.isEmpty) ue (!periodOk mode per) (!late.isEmpty)
  let atStart := firstFault bad05 r.2.2.1 (!bad.isEmpty) ue (!periodOk mode per) false
  { dev := d, pos := r.1, data := r.2.1, newSpan := newSpan, cfg := k, outs := outs, bad := bad,
    fault := if f.isNone && (d.strOf s).mtch.isSome && per ≠ d.perFix s (d.refTs s) then some 0x08 else f,
    instant := (if atStart.isSome then k.sInt :: late else late).min?.getD k.sInt }

/-- The cycle at a position plays, or its fault takes effect (R75, R449). -/
def Device.cycleAt (d : Device) (s : Nat) (pos : PlayPos) (unfit : Bool) (samples : List Sample) (ueVec : Bool) (eccTs : List (Nat × Ecc)) : Device :=
  let k := d.cyclePlan s pos unfit samples ueVec eccTs
  match k.fault with
  | some code =>
    let d' := k.dev.playUntil s k.pos k.newSpan k.cfg k.outs k.instant
    ((({ d' with ttime := d.ttime } : Device).reach k.instant).recordBad k.bad).strFault s code pos.addr
  | none => k.dev.playCycle s k.pos k.newSpan k.data k.cfg k.outs

/-- A stop at the end of the tester cycle ends the burst there (R121), as a normal end where HALT acts at that boundary (R124). -/
def Device.stopCycle (d : Device) (s : Nat) : Device :=
  if (d.strOf s).pos.isNone && haltsHere (d.strOf s).queue then d.endBurst s 0 3 else d.endBurst s 4 3

/-- A request that leads the queue and whose records are at hand needs no fetch to enter play (R99, R101, R114). -/
def Device.handOver (d : Device) (s : Nat) : Device :=
  match (d.strOf s).queue with
  | i :: _ => if i.waits && !d.recordAbsent s then d.fetchBegin s false else d
  | [] => d

/-- CYCLE_START (R75, R101, R121), with the bytes that have arrived of the span being fetched: a stop at a cycle boundary ends the burst; else
the next cycle of the span in play, or the first of the next request, plays, or underruns. Outside play, in a gap, or before the boundary
ahead of it, no cycle starts. -/
def Device.cycleStart (d : Device) (s : Nat) (samples : List Sample) (arrived : Nat) (ueVec : Bool) (eccTs : List (Nat × Ecc)) : Device :=
  let d := d.fetchArrive s arrived
  let c := d.strOf s
  if !d.playing s || c.gap ≠ .none then d
  else if c.stop = 2 then d.stopCycle s
  else match c.pos with
    | some pos => if d.recordAbsent s then (d.reach c.sInt).underrun s else d.cycleAt s pos false samples ueVec eccTs
    | none =>
      match (d.handOver s).takeRequest s with
      | .wait => d
      | .ended d => d
      | .at d pos => d.cycleAt s pos false samples ueVec eccTs
      | .unfit d pos => d.cycleAt s pos true samples ueVec eccTs

end Sys2Proof.Machine
end

