-- ==== Sys2Proof/Machine/PlayCmds.lean ====
section
/-! DEFINITION. Cycles, spans and launches of a stream (R75, R98–R125). -/

namespace Sys2Proof.Machine

/-- CYCLE_START (R75): A tester cycle of a stream begins: the player issues the cycle word and pier data, edges are placed and compares, capture, triggers and the APG act. -/
def execCycleStart (s : Fin 16) (samples : List Sample) (arrived : Nat) (ueVec : Bool) (eccTs : List (BitVec 8 × Ecc)) (s₀ : State) : Host.Outcome State Fault Refusal :=
  s₀.run (fun d => d.cycleStart s.val samples arrived ueVec (eccTs.map (fun e => (e.1.toNat, e.2))))

/-- BITMAP_UPDATE_WRITE (R182): A queued fail-bitmap update is written by read-modify-write of its 32-byte unit. -/
def execBitmapUpdateWrite (p : Fin 16) (ue : Bool) (s₀ : State) : Host.Outcome State Fault Refusal := s₀.run (fun d => d.bmWrite p.val ue)

/-- GAP_END (R111): A WAIT, PHASE or timeout gap ends and the next cycle starts on a whole tick. -/
def execGapEnd (s : Fin 16) (s₀ : State) : Host.Outcome State Fault Refusal := s₀.run (fun d => d.gapEnd s.val)

/-- SPAN_BOUNDARY (R105): Play reaches boundary B and the boundary actions queued for it act in program order. -/
def execSpanBoundary (s : Fin 16) (s₀ : State) : Host.Outcome State Fault Refusal := s₀.run (fun d => d.spanBoundary s.val)

/-- SPAN_FETCH_BEGIN (R98): The player begins a span request: it checks READY, checks the descriptor and starts fetching or loads the loop cache. -/
def execSpanFetchBegin (s : Fin 16) (ue : Bool) (s₀ : State) : Host.Outcome State Fault Refusal := s₀.run (fun d => d.fetchBegin s.val ue)

/-- SPAN_READY_POLL (R98): The player re-reads the descriptor of a span with READY = 0 in each pier-clock cycle. -/
def execSpanReadyPoll (s : Fin 16) (ue : Bool) (s₀ : State) : Host.Outcome State Fault Refusal := s₀.run (fun d => d.fetchBegin s.val ue)

/-- MICRO_ENGINE_RESUME (R98): The request queue or stream buffer gains room and the micro-engine resumes running ahead. -/
def execMicroEngineResume (s : Fin 16) (s₀ : State) : Host.Outcome State Fault Refusal := s₀.run (fun d => d.engResume s.val)

/-- STR_LAUNCH (R119): STR_CMD.LAUNCH requests an immediate launch, which is refused or accepted into PRIMING. -/
def execStrLaunch (q : Requester) (s : Fin 16) (s₀ : State) : Host.Outcome State Fault Refusal := s₀.run (fun d => d.cmdWrite q (Reg.STR_CMD s.val) 1)

/-- STR_SCHED (R120): STR_CMD.SCHED arms a launch at STR_LAUNCH_T. -/
def execStrSched (q : Requester) (s : Fin 16) (s₀ : State) : Host.Outcome State Fault Refusal := s₀.run (fun d => d.cmdWrite q (Reg.STR_CMD s.val) 2)

/-- STR_QUORUM (R120): STR_CMD.QUORUM arms a launch at STR_LAUNCH_T whose start depends on the chain's verdict. -/
def execStrQuorum (q : Requester) (s : Fin 16) (s₀ : State) : Host.Outcome State Fault Refusal := s₀.run (fun d => d.cmdWrite q (Reg.STR_CMD s.val) 4)

/-- STR_CANCEL (R120): STR_CMD.CANCEL returns an armed stream to HALTED before T − 2 µs. -/
def execStrCancel (q : Requester) (s : Fin 16) (s₀ : State) : Host.Outcome State Fault Refusal := s₀.run (fun d => d.cmdWrite q (Reg.STR_CMD s.val) 8)

/-- STR_STOP_SPAN (R121): STR_CMD.STOP 0b01 ends the burst at the next span boundary. -/
def execStrStopSpan (q : Requester) (s : Fin 16) (s₀ : State) : Host.Outcome State Fault Refusal :=
  s₀.run (fun d => d.cmdWrite q (Reg.STR_CMD s.val) 0x10)

/-- STR_STOP_CYCLE (R121): STR_CMD.STOP 0b10 ends the burst at the end of the current tester cycle. -/
def execStrStopCycle (q : Requester) (s : Fin 16) (s₀ : State) : Host.Outcome State Fault Refusal :=
  s₀.run (fun d => d.cmdWrite q (Reg.STR_CMD s.val) 0x20)

/-- STR_JUMP_REQUEST (R115): STR_CMD.JUMP requests the armed jump, ignored with JUMP_REFUSED while JREADY = 0. -/
def execStrJumpRequest (q : Requester) (s : Fin 16) (s₀ : State) : Host.Outcome State Fault Refusal :=
  s₀.run (fun d => d.cmdWrite q (Reg.STR_CMD s.val) 0x100)

/-- STR_JUMP_ARM (R114): A write of STR_JUMP with ARM = 1 arms a jump and starts the target prefetch, or fails. -/
def execStrJumpArm (q : Requester) (s : Fin 16) (target : BitVec 18) (s₀ : State) : Host.Outcome State Fault Refusal :=
  s₀.run (fun d => d.cmdWrite q (Reg.STR_JUMP s.val) (BitVec.ofNat 32 (2 ^ 31 + target.toNat)))

/-- JUMP_PREFETCH_DONE (R114): The prefetch of the armed jump target completes and JREADY becomes 1. -/
def execJumpPrefetchDone (s : Fin 16) (s₀ : State) : Host.Outcome State Fault Refusal := s₀.run (fun d => d.jumpReady s.val)

/-- STREAM_PRIMED (R119): The stream buffer is primed: an immediate launch waits for its 5 ns slot, a scheduled one becomes ARMED. -/
def execStreamPrimed (s : Fin 16) (s₀ : State) : Host.Outcome State Fault Refusal := s₀.run (fun d => d.strPrimed s.val)

/-- LAUNCH_FIRST_CYCLE (R119): An immediate launch reaches its first cycle time and STATE becomes RUNNING. -/
def execLaunchFirstCycle (s : Fin 16) (s₀ : State) : Host.Outcome State Fault Refusal := s₀.run (fun d => d.launchFirst s.val)

/-- SCHED_READINESS (R120): At T − 2 µs an armed stream evaluates GO or NOGO. -/
def execSchedReadiness (s : Fin 16) (s₀ : State) : Host.Outcome State Fault Refusal := s₀.run (fun d => d.schedReady s.val)

/-- SCHED_START (R120): At T a scheduled launch with GO, or a quorum launch with GO verdict, plays its first cycle. -/
def execSchedStart (s : Fin 16) (s₀ : State) : Host.Outcome State Fault Refusal := s₀.run (fun d => d.schedStart s.val)

/-- STR_FLAGS_SET (R125): A W1S write of STR_FLAGS sets external flags, which may release a WAIT FLAG. -/
def execStrFlagsSet (q : Requester) (s : Fin 16) (v : Word) (s₀ : State) : Host.Outcome State Fault Refusal :=
  s₀.run (fun d => d.cmdWrite q (Reg.STR_FLAGS s.val) v)

/-- STR_FLAGS_CLEAR (R125): A W1C write of STR_FLAGS_CLR clears external flags. -/
def execStrFlagsClear (q : Requester) (s : Fin 16) (v : Word) (s₀ : State) : Host.Outcome State Fault Refusal :=
  s₀.run (fun d => d.cmdWrite q (Reg.STR_FLAGS_CLR s.val) v)

/-- SPAN_FETCH_DONE (R98): The last byte of a span's last queued play arrives from vector memory, and ACTIVE returns to 0 unless the span stays in the loop cache or is an armed jump target. -/
def execSpanFetchDone (s : Fin 16) (s₀ : State) : Host.Outcome State Fault Refusal := s₀.run (fun d => d.fetchDone s.val)

end Sys2Proof.Machine
end

