-- ==== Sys2Proof/Machine/PowerCmds.lean ====
section
/-! DEFINITION. Commands on clocks, power states and the step governor (R18–R27, R352, R353, R448). -/

namespace Sys2Proof.Machine

/-- REFCLK_LOSS (R18): REFCLK has been absent or outside ±500 ppm for 2 µs: the PLLs fed by REFCLK lose lock, the always-on PLL moves to the oscillator, Trestle drops and ALERT_N is asserted. -/
def execRefclkLoss (s₀ : State) : Host.Outcome State Fault Refusal := s₀.run (fun d => d.refLoss)

/-- REFCLK_RETURN (R448): REFCLK has been present and in tolerance for 100 µs: REFOK becomes 1, the always-on PLL switches back and Keystone relocks the other PLLs. -/
def execRefclkReturn (s₀ : State) : Host.Outcome State Fault Refusal := s₀.run (fun d => d.refReturn)

/-- PLL_LOCK_LOSS (R18): A PLL loses lock: channels are forced off before any unlocked TCLK period and the PLL safe-state cause arrives. -/
def execPllLockLoss (k : Fin 6) (s₀ : State) : Host.Outcome State Fault Refusal := s₀.run (fun d => d.pllLost k.val)

/-- PLL_LOCK (R448): A PLL reports lock: the PLL cause condition ends once all PLLs are locked, and cores held for a core PLL loss are released. -/
def execPllLock (k : Fin 6) (s₀ : State) : Host.Outcome State Fault Refusal := s₀.run (fun d => d.pllLock k.val)

/-- PWR_REQ_READY (R25): A PWR_REQ write with TARGET READY starts a wake from DOZE or RETAIN: PLL relock, governed unit wakes and a verification pass. -/
def execPwrReqReady (q : Requester) (s₀ : State) : Host.Outcome State Fault Refusal := s₀.run (fun d => d.cmdWrite q Reg.PWR_REQ 0)

/-- PWR_REQ_DOZE (R22): A PWR_REQ write with TARGET DOZE is refused or starts entry to DOZE. -/
def execPwrReqDoze (q : Requester) (s₀ : State) : Host.Outcome State Fault Refusal := s₀.run (fun d => d.cmdWrite q Reg.PWR_REQ 1)

/-- PWR_REQ_RETAIN (R24): A PWR_REQ write with TARGET RETAIN is refused or starts entry to RETAIN with the stack named in RET_STACK kept. -/
def execPwrReqRetain (q : Requester) (stackB : Bool) (s₀ : State) : Host.Outcome State Fault Refusal :=
  s₀.run (fun d => d.cmdWrite q Reg.PWR_REQ (if stackB then 6 else 2))

/-- POWER_ENTRY_DONE (R27): Entry to DOZE or RETAIN completes: STATE leaves ENTERING, STATE_DONE is raised and any held PWR_REQ value is acted on. -/
def execPowerEntryDone (s₀ : State) : Host.Outcome State Fault Refusal := s₀.run (fun d => d.pwrEntered)

/-- RETAIN_ZERO_FILL_DONE (R24): The zero-fill of the stack lost to RETAIN completes during the exit from RETAIN. -/
def execRetainZeroFillDone (s₀ : State) : Host.Outcome State Fault Refusal := s₀.run (fun d => d.retainFilled)

/-- PWR_PGATE_WRITE (R352): A write of PWR_PGATE gates piers or requests their wake, and is ignored for an assigned pier. -/
def execPwrPgateWrite (q : Requester) (v : Word) (s₀ : State) : Host.Outcome State Fault Refusal := s₀.run (fun d => d.cmdWrite q Reg.PWR_PGATE v)

/-- PWR_SGATE_WRITE (R352): A write of PWR_SGATE puts a stack in self-refresh or requests its wake, unless the stack is charged, holds an armed region or DMA runs. -/
def execPwrSgateWrite (q : Requester) (v : Word) (s₀ : State) : Host.Outcome State Fault Refusal := s₀.run (fun d => d.cmdWrite q Reg.PWR_SGATE v)

/-- GOVERNOR_ADMIT (R353): A governor interval expires and the next queued pier or memory channel begins its wake. -/
def execGovernorAdmit (s₀ : State) : Host.Outcome State Fault Refusal := s₀.run (fun d => d.govAdmit)

/-- UNIT_WAKE_DONE (R353): A pier or memory channel completes its wake; GATE_DONE is raised when the queue is empty. -/
def execUnitWakeDone (u : Fin 48) (s₀ : State) : Host.Outcome State Fault Refusal := s₀.run (fun d => d.unitWakeDone u.val)

end Sys2Proof.Machine
end

