-- ==== Sys2Proof/Machine/SafeCmds.lean ====
section
/-! DEFINITION. Supplies, guards, sensors and the safe state (R342–R358, R380). -/

namespace Sys2Proof.Machine

/-- SUPPLY_SAMPLE (R342): Each own rail is sampled and compared with its warning, minimum and reset levels. -/
def execSupplySample (rail : Fin 8) (mv : BitVec 12) (s₀ : State) : Host.Outcome State Fault Refusal :=
  s₀.run (fun d => d.supplySample rail.val mv.toNat)

/-- REGION_REBRINGUP (R344): All rails stay above minimum for 1 ms and Keystone repeats bring-up of the reset regions. -/
def execRegionRebringup (s₀ : State) : Host.Outcome State Fault Refusal := s₀.run (fun d => d.regionRebringup)

/-- GUARD_SAMPLE (R348): A guard monitor takes a sample and decides IN, OUT or UNRESOLVED. -/
def execGuardSample (i : Fin 32) (volts : GuardVolts) (s₀ : State) : Host.Outcome State Fault Refusal :=
  s₀.run (fun d => d.guardSample i.val (guardCode volts))

/-- GUARD_LATCH_PERIOD (R349): At a latch-period multiple, latched bits of monitors in state IN clear under LATCH 0b10. -/
def execGuardLatchPeriod (s₀ : State) : Host.Outcome State Fault Refusal := s₀.run (fun d => d.guardLatchPeriod)

/-- GRD_LATCH_CLEAR (R349): A W1C write of GRD_LATCH clears latched bits whose monitors are no longer out. -/
def execGrdLatchClear (q : Requester) (v : Word) (s₀ : State) : Host.Outcome State Fault Refusal := s₀.run (fun d => d.cmdWrite q Reg.GRD_LATCH v)

/-- SENSOR_READING (R380): The die sensors report and Tj is compared with the warning level and 110 °C. -/
def execSensorReading (ts : List (BitVec 12)) (s₀ : State) : Host.Outcome State Fault Refusal :=
  if okSensors ts then s₀.run (fun d => d.sensorReading ts) else .fault .illFormed

/-- SAFE_ENTRY (R356): A safe-state cause arrives: SAFE_N, channels, TRIGOUT, MARKOUT and strobes go safe and streams halt at their next boundary. -/
def execSafeEntry (cause : Fin 14) (s₀ : State) : Host.Outcome State Fault Refusal :=
  s₀.run (fun d => if cause.val = 6 && !d.normal then d else d.safeCause cause.val)

/-- SAFE_CAUSE_CLEAR (R355): A W1C write of SAFE_CAUSE clears cause bits whose conditions no longer hold. -/
def execSafeCauseClear (q : Requester) (v : Word) (s₀ : State) : Host.Outcome State Fault Refusal := s₀.run (fun d => d.cmdWrite q Reg.SAFE_CAUSE v)

/-- SAFE_KEY_WRITE (R358): A write of SAFE_KEY advances, resets or completes the exit key sequence into EXIT_WAIT. -/
def execSafeKeyWrite (q : Requester) (v : Word) (s₀ : State) : Host.Outcome State Fault Refusal := s₀.run (fun d => d.cmdWrite q Reg.SAFE_KEY v)

/-- SAFE_CMD_ENTER (R355): SAFE_CMD.ENTER raises safe-state cause SW. -/
def execSafeCmdEnter (q : Requester) (s₀ : State) : Host.Outcome State Fault Refusal := s₀.run (fun d => d.cmdWrite q Reg.SAFE_CMD 1)

/-- SAFE_N_EXTERNAL_LOW (R357): SAFE_N is held low at the ball for 4 ns in state NORMAL and cause EXT arrives. -/
def execSafeNExternalLow (s₀ : State) : Host.Outcome State Fault Refusal := s₀.run (fun d => if d.normal then d.safeCause 6 else d)

/-- SAFE_EXIT (R358): SAFE_N reads high for 1 µs in EXIT_WAIT and STATE becomes NORMAL with a SAFE_EXIT record. -/
def execSafeExit (s₀ : State) : Host.Outcome State Fault Refusal :=
  s₀.run (fun d => if d.fld Reg.SAFE_STATUS 29 2 = 2 then d.safeExit.twinNormal else d)

end Sys2Proof.Machine
end

