-- ==== Sys2Proof/Machine/SeqCmds.lean ====
section
/-! DEFINITION. Sequence instructions, each executed by the micro-engine when it is the next one (R103–R112, R56, R84, R128, R159). -/

namespace Sys2Proof.Machine

/-- NOP (R106): The micro-engine executes NOP. -/
def execNop (s : Fin 16) (ft : Fetched) (s₀ : State) : Host.Outcome State Fault Refusal :=
  s₀.run (fun d => if (d.strOf s.val).eng = .micro then d.microStep s.val ft.word 0x00 (fun d _ => d) else d.engStep s.val ft (isOp 0x00) (fun d _ _ => d))

/-- HALT (R109): HALT queues the end of the burst at B. -/
def execHalt (s : Fin 16) (ft : Fetched) (s₀ : State) : Host.Outcome State Fault Refusal :=
  s₀.run (fun d => d.engStep s.val ft (isOp 0x01) (fun d _ a => (d.bnd s.val .halt a).setEng s.val .done))

/-- PLAY (R106): PLAY queues COUNT plays of a span. -/
def execPlay (s : Fin 16) (ft : Fetched) (s₀ : State) : Host.Outcome State Fault Refusal :=
  s₀.run (fun d => d.engStep s.val ft (isOp 0x02) (fun d w a => d.enqPlays s.val (insField w 0 16) (insField w 32 16 + 1) a))

/-- PLAYR (R106): PLAYR queues COUNT plays of the span named in G[rs]. -/
def execPlayr (s : Fin 16) (ft : Fetched) (s₀ : State) : Host.Outcome State Fault Refusal :=
  s₀.run (fun d => d.engStep s.val ft (isOp 0x03) (fun d w a => d.enqPlays s.val (d.g s.val (insField w 48 4) % 2 ^ 16) (insField w 32 16 + 1) a))

/-- MATCH (R112): MATCH plays a span from the loop cache pass after pass until the match decision or timeout. -/
def execMatchSpan (s : Fin 16) (ft : Fetched) (s₀ : State) : Host.Outcome State Fault Refusal :=
  s₀.run (fun d => d.engStep s.val ft (isOp 0x04) (fun d w a => d.engMatch s.val w (insField w 0 16) (d.g s.val (insField w 48 4)) a))

/-- JUMP (R106): JUMP continues the micro-engine at an address. -/
def execJump (s : Fin 16) (ft : Fetched) (s₀ : State) : Host.Outcome State Fault Refusal :=
  s₀.run (fun d => d.engStep s.val ft (isOp 0x08) (fun d w _ => d.setPc s.val (insField w 0 18)))

/-- CALL (R107): CALL pushes the next address on the call stack and continues at an address. -/
def execCall (s : Fin 16) (ft : Fetched) (s₀ : State) : Host.Outcome State Fault Refusal :=
  s₀.run (fun d => d.engStep s.val ft (isOp 0x09) (fun d w a => d.engCall s.val (insField w 0 18) a))

/-- RET (R107): RET pops the call stack and continues at the popped address. -/
def execRet (s : Fin 16) (ft : Fetched) (s₀ : State) : Host.Outcome State Fault Refusal :=
  s₀.run (fun d => d.engStep s.val ft (isOp 0x0A) (fun d _ a => d.engRet s.val a))

/-- BRF (R106): BRF branches when an STR_FLAGS bit is 1 and optionally clears it. -/
def execBrf (s : Fin 16) (ft : Fetched) (s₀ : State) : Host.Outcome State Fault Refusal :=
  s₀.run (fun d => d.engStep s.val ft (isOp 0x0B) (fun d w _ => d.engBrf s.val w))

/-- LOOP (R107): LOOP pushes a count and address, or skips the body when the count is 0. -/
def execLoop (s : Fin 16) (ft : Fetched) (ueAt : Option (BitVec 18)) (s₀ : State) : Host.Outcome State Fault Refusal :=
  s₀.run (fun d => d.engStep s.val ft (isOp 0x0C) (fun d w a => d.engLoop s.val (if natBit w 47 then d.g s.val (insField w 48 4) else w % 2 ^ 32) a (ueAt.map (·.toNat))))

/-- ENDL (R107): ENDL decrements the top count and branches back or pops. -/
def execEndl (s : Fin 16) (ft : Fetched) (s₀ : State) : Host.Outcome State Fault Refusal :=
  s₀.run (fun d => d.engStep s.val ft (isOp 0x0D) (fun d _ a => d.engEndl s.val a))

/-- WAIT_DELAY (R110): WAIT DELAY inserts a gap of a given length at B. -/
def execWaitDelay (s : Fin 16) (ft : Fetched) (s₀ : State) : Host.Outcome State Fault Refusal :=
  s₀.run (fun d => d.engStep s.val ft (isWait 0) (fun d w a => d.engWait s.val 0 0 (w % 2 ^ 32) a))

/-- WAIT_UNTIL (R110): WAIT UNTIL delays the next cycle to a time after the burst's first cycle. -/
def execWaitUntil (s : Fin 16) (ft : Fetched) (s₀ : State) : Host.Outcome State Fault Refusal :=
  s₀.run (fun d => d.engStep s.val ft (isWait 1) (fun d w a => d.engWait s.val 1 0 (w % 2 ^ 32) a))

/-- WAIT_FLAG (R110): WAIT FLAG stops the micro-engine until an STR_FLAGS bit is 1, then clears it. -/
def execWaitFlag (s : Fin 16) (ft : Fetched) (s₀ : State) : Host.Outcome State Fault Refusal :=
  s₀.run (fun d => d.engStep s.val ft (isWait 2) (fun d w a => d.engWait s.val 2 (insField w 32 5) 0 a))

/-- WAIT_DRAIN (R110): WAIT DRAIN inserts a gap of STR_MATCHMIN reference cycles after which all results are final. -/
def execWaitDrain (s : Fin 16) (ft : Fetched) (s₀ : State) : Host.Outcome State Fault Refusal :=
  s₀.run (fun d => d.engStep s.val ft (isWait 3) (fun d _ a => d.engWait s.val 3 0 0 a))

/-- SETR (R106): SETR loads a G register and sets the Z and N state. -/
def execSetr (s : Fin 16) (ft : Fetched) (s₀ : State) : Host.Outcome State Fault Refusal :=
  s₀.run (fun d => d.engStep s.val ft (isOp 0x14) (fun d w _ => d.setGZN s.val (insField w 48 4) (w % 2 ^ 32)))

/-- ADDI (R106): ADDI adds a value to a G register and sets the Z and N state. -/
def execAddi (s : Fin 16) (ft : Fetched) (s₀ : State) : Host.Outcome State Fault Refusal :=
  s₀.run (fun d => d.engStep s.val ft (isOp 0x15) (fun d w _ => d.setGZN s.val (insField w 48 4) ((d.g s.val (insField w 48 4) + w % 2 ^ 32) % 2 ^ 32)))

/-- SITEMSK (R108): SITEMSK changes half of the active-site mask at B. -/
def execSitemsk (s : Fin 16) (ft : Fetched) (s₀ : State) : Host.Outcome State Fault Refusal :=
  s₀.run (fun d => d.engStep s.val ft (isOp 0x18) (fun d w a => d.engSite s.val (insField w 46 2) (natBit w 32) (w % 2 ^ 32) a))

/-- SITEDROP (R108): SITEDROP inserts a drain gap and then removes failed sites from the mask. -/
def execSitedrop (s : Fin 16) (ft : Fetched) (s₀ : State) : Host.Outcome State Fault Refusal :=
  s₀.run (fun d => d.engStep s.val ft (isOp 0x19) (fun d _ a => (d.bnd s.val .siteDrop a).setEng s.val .waitGap))

/-- FAILCLR (R108): FAILCLR clears STR_SITEFAIL at B. -/
def execFailclr (s : Fin 16) (ft : Fetched) (s₀ : State) : Host.Outcome State Fault Refusal :=
  s₀.run (fun d => d.engStep s.val ft (isOp 0x1A) (fun d _ a => d.bnd s.val .failClr a))

/-- CAPOP_ENABLE (R108): CAPOP OP 0b00 turns capture on at B. -/
def execCapopEnable (s : Fin 16) (ft : Fetched) (s₀ : State) : Host.Outcome State Fault Refusal :=
  s₀.run (fun d => d.engStep s.val ft (isCapop 0) (fun d w a => d.engCapop s.val w .capOn a))

/-- CAPOP_DISABLE (R108): CAPOP OP 0b01 turns capture off at B. -/
def execCapopDisable (s : Fin 16) (ft : Fetched) (s₀ : State) : Host.Outcome State Fault Refusal :=
  s₀.run (fun d => d.engStep s.val ft (isCapop 1) (fun d w a => d.engCapop s.val w .capOff a))

/-- CAPOP_SEGMENT (R108): CAPOP OP 0b10 closes the open segment and starts the next at B. -/
def execCapopSegment (s : Fin 16) (ft : Fetched) (s₀ : State) : Host.Outcome State Fault Refusal :=
  s₀.run (fun d => d.engStep s.val ft (isCapop 2) (fun d w a => d.engCapop s.val w .capSeg a))

/-- TRIG (R108): TRIG pulses stream trigger lines for the first cycle after B. -/
def execTrig (s : Fin 16) (ft : Fetched) (s₀ : State) : Host.Outcome State Fault Refusal :=
  s₀.run (fun d => d.engStep s.val ft (isOp 0x1E) (fun d w a => d.bnd s.val (.trig (insField w 32 8)) a))

/-- SIGNAL (R108): SIGNAL writes STR_SIGNAL, raises SIGNAL and presents the completion hook at B. -/
def execSignal (s : Fin 16) (ft : Fetched) (s₀ : State) : Host.Outcome State Fault Refusal :=
  s₀.run (fun d => d.engStep s.val ft (isOp 0x1F) (fun d w a => d.bnd s.val (.signal (insField w 32 16)) a))

/-- SETPE (R57): SETPE queues a PEBUS frame at the boundary after the preceding span. -/
def execSetpe (s : Fin 16) (ft : Fetched) (s₀ : State) : Host.Outcome State Fault Refusal :=
  s₀.run (fun d => d.engStep s.val ft (isOp 0x48) (fun d w a => d.engSetpe s.val w a))

/-- PHASE (R85): PHASE re-bases the lattice on a tester-time grid at B, with a gap up to the grid instant. -/
def execPhase (s : Fin 16) (ft : Fetched) (s₀ : State) : Host.Outcome State Fault Refusal :=
  s₀.run (fun d => d.engStep s.val ft (isOp 0x4C) (fun d w a => d.bnd s.val (.phase (w % 2 ^ 32) (d.g s.val (insField w 48 4))) a))

/-- ASET (R159): ASET writes an APG register at B. -/
def execAset (s : Fin 16) (ft : Fetched) (s₀ : State) : Host.Outcome State Fault Refusal :=
  s₀.run (fun d => d.engStep s.val ft (isOp 0x20) (fun d w a => d.engAset s.val (insField w 32 6) (if natBit w 47 then d.g s.val (insField w 48 4) else w % 2 ^ 32) a))

/-- ASAVE (R159): ASAVE copies address generators into their save registers at B. -/
def execAsave (s : Fin 16) (ft : Fetched) (s₀ : State) : Host.Outcome State Fault Refusal :=
  s₀.run (fun d => d.engStep s.val ft (isOp 0x21) (fun d w a => d.bnd s.val (.asave (insField w 32 3)) a))

/-- AREST (R159): AREST restores address generators from their save registers at B. -/
def execArest (s : Fin 16) (ft : Fetched) (s₀ : State) : Host.Outcome State Fault Refusal :=
  s₀.run (fun d => d.engStep s.val ft (isOp 0x22) (fun d w a => d.bnd s.val (.arest (insField w 32 3)) a))

/-- SCRLD (R159): SCRLD loads the 14 scramble registers from the sequence store at B. -/
def execScrld (s : Fin 16) (ft : Fetched) (ueData : Bool) (s₀ : State) : Host.Outcome State Fault Refusal :=
  s₀.run (fun d => d.engStep s.val ft (isOp 0x23) (fun d w a => d.engScr s.val (insField w 0 18) a ueData))

/-- CUSTOMER_OPCODE_DISPATCH (R128): A customer opcode is dispatched to its routine in the customer region. -/
def execCustomerOpcodeDispatch (s : Fin 16) (ue : Bool) (entry : Ecc) (s₀ : State) : Host.Outcome State Fault Refusal :=
  s₀.run (fun d => d.engStep s.val ⟨ue, entry, []⟩ (fun w => decide (0xC0 ≤ insOp w)) (fun d _ _ => d.custStart s.val))

end Sys2Proof.Machine
end

