-- ==== Sys2Proof/Machine/TimeCmds.lean ====
section
/-! DEFINITION. Tester time, the Viaduct chain and strobes (R310–R340). -/

namespace Sys2Proof.Machine

/-- TTIME_WRAP (R310): TTIME wraps to 0: TIME_EPOCH increments and a TIME_EPOCH record is written. -/
def execTtimeWrap (s₀ : State) : Host.Outcome State Fault Refusal := s₀.run (fun d => d.timeWrap)

/-- SYNC_EDGE (R316): A SYNC rising edge is stamped and, when armed, applies a pending SETTIME or APPLY. -/
def execSyncEdge (t : BitVec 64) (s₀ : State) : Host.Outcome State Fault Refusal := s₀.run (fun d => d.syncEdge t.toNat)

/-- SYNC_ARM_LAPSE (R316): A device armed for 100 ms without a SYNC edge lapses and writes LINK 0x17. -/
def execSyncArmLapse (s₀ : State) : Host.Outcome State Fault Refusal := s₀.run (fun d => d.syncLapse)

/-- VIA_SETTIME (R317): VIA_CMD.SETTIME on the master sends a SETTIME frame after its next SYNC edge. -/
def execViaSettime (q : Requester) (s₀ : State) : Host.Outcome State Fault Refusal := s₀.run (fun d => d.cmdWrite q Reg.VIA_CMD 1)

/-- VIA_SKEWCAL (R326): VIA_CMD.SKEWCAL on the master broadcasts SKEWCAL. -/
def execViaSkewcal (q : Requester) (s₀ : State) : Host.Outcome State Fault Refusal := s₀.run (fun d => d.cmdWrite q Reg.VIA_CMD 2)

/-- VIA_APPLY (R328): VIA_CMD.APPLY on the master broadcasts APPLY. -/
def execViaApply (q : Requester) (s₀ : State) : Host.Outcome State Fault Refusal := s₀.run (fun d => d.cmdWrite q Reg.VIA_CMD 4)

/-- VIA_QANNOUNCE (R332): VIA_CMD.QANNOUNCE on the master broadcasts a quorum time, or is refused. -/
def execViaQannounce (q : Requester) (s₀ : State) : Host.Outcome State Fault Refusal := s₀.run (fun d => d.cmdWrite q Reg.VIA_CMD 8)

/-- VIA_RETRAIN (R340): VIA_CMD.RETRAIN retrains both Viaduct ports. -/
def execViaRetrain (q : Requester) (s₀ : State) : Host.Outcome State Fault Refusal := s₀.run (fun d => d.cmdWrite q Reg.VIA_CMD 0x10)

/-- VIA_SKEW_WRITE (R328): A host write of VIA_SKEW restores a saved correction and sets SKEW_VALID. -/
def execViaSkewWrite (q : Requester) (v : Word) (s₀ : State) : Host.Outcome State Fault Refusal := s₀.run (fun d => d.cmdWrite q Reg.VIA_SKEW v)

/-- ADDR (R320): An ADDR frame assigns the receiver its address and is forwarded or answered with END. -/
def execAddr (param : BitVec 32) (s₀ : State) : Host.Outcome State Fault Refusal := s₀.run (fun d => d.frAddr param.toNat)

/-- END (R320): An END frame travels up; at the master it sets CHAINLEN or raises CALDONE. -/
def execEndFrame (complete : Bool) (addr : BitVec 6) (s₀ : State) : Host.Outcome State Fault Refusal := s₀.run (fun d => d.frEnd complete addr.toNat)

/-- SETTIME (R317): A SETTIME frame is forwarded and arms the device for the next SYNC edge. -/
def execSettime (t : BitVec 64) (epoch : BitVec 32) (s₀ : State) : Host.Outcome State Fault Refusal :=
  s₀.run (fun d => d.frSettime t.toNat epoch.toNat)

/-- TIME (R331): A TIME frame is forwarded and its residual is monitored against VIA_TOL. -/
def execTime (tstamp : BitVec 64) (corr : BitVec 64) (src : BitVec 8) (arr : BitVec 64) (dep : BitVec 64) (s₀ : State) : Host.Outcome State Fault Refusal :=
  s₀.run (fun d => d.frTime tstamp.toNat corr.toNat arr.toNat dep.toNat src.toNat)

/-- DREQ (R326): A DREQ frame from the down neighbour is stamped and answered with DRESP. -/
def execDreq (arr : BitVec 64) (dep : BitVec 64) (s₀ : State) : Host.Outcome State Fault Refusal := s₀.run (fun d => d.frDreq arr.toNat dep.toNat)

/-- DRESP (R326): A DRESP frame completes a skew exchange, averaged after 4,096 exchanges. -/
def execDresp (tstamp : BitVec 64) (diff : BitVec 32) (arr : BitVec 64) (s₀ : State) : Host.Outcome State Fault Refusal :=
  s₀.run (fun d => d.frDresp tstamp.toNat diff.toNat arr.toNat)

/-- SKEWSUM (R327): A SKEWSUM frame lets the device form its pending correction and pass its own down. -/
def execSkewsum (c : BitVec 32) (path : BitVec 64) (s₀ : State) : Host.Outcome State Fault Refusal := s₀.run (fun d => d.frSkewsum c.toNat path.toNat)

/-- SKEWCAL (R326): A SKEWCAL frame starts a slave's skew exchanges. -/
def execSkewcal (s₀ : State) : Host.Outcome State Fault Refusal := s₀.run (fun d => d.frSkewcal)

/-- APPLY (R328): An APPLY frame arms the device to step by its pending correction. -/
def execApply (s₀ : State) : Host.Outcome State Fault Refusal := s₀.run (fun d => d.frApply)

/-- QANNOUNCE (R332): A QANNOUNCE frame records the quorum time's tag. -/
def execQannounce (t : BitVec 64) (s₀ : State) : Host.Outcome State Fault Refusal := s₀.run (fun d => d.frQannounce t.toNat)

/-- BAD_FRAME (R323): A Viaduct frame with a bad CRC, framing or field is discarded and counted. -/
def execBadFrame (s₀ : State) : Host.Outcome State Fault Refusal := s₀.run (fun d => d.badFrame)

/-- TIME_FRAME_ORIGINATE (R325): Every VIA_TPER µs the master originates a TIME frame. -/
def execTimeFrameOriginate (dep : BitVec 64) (s₀ : State) : Host.Outcome State Fault Refusal := s₀.run (fun d => d.timeOriginate dep.toNat)

/-- SKEW_EXCHANGE_TICK (R326): Every 500 ns during skew calibration a slave sends a DREQ. -/
def execSkewExchangeTick (dep : BitVec 64) (s₀ : State) : Host.Outcome State Fault Refusal := s₀.run (fun d => d.skewTick dep.toNat)

/-- QUORUM_READINESS (R333): At T − 2 µs each device evaluates readiness and, at the chain end, sends READY upward. -/
def execQuorumReadiness (s₀ : State) : Host.Outcome State Fault Refusal := s₀.run (fun d => d.quorumReady)

/-- READY (R334): A READY signal set from below is merged and passed up the chain. -/
def execReady (tag : SigTag) (nogo : Bool) (count : BitVec 7) (addr : BitVec 6) (s₀ : State) : Host.Outcome State Fault Refusal :=
  s₀.run (fun d => d.sigReady tag.tag.toNat tag.same nogo count.toNat addr.toNat)

/-- VERDICT (R335): A VERDICT signal set is received and forwarded, deciding whether quorum streams start. -/
def execVerdict (tag : SigTag) (go : Bool) (s₀ : State) : Host.Outcome State Fault Refusal := s₀.run (fun d => d.sigVerdict tag.tag.toNat tag.same go)

/-- QUORUM_DECIDE (R335): At T − 1 µs the master sends VERDICT GO or NOGO. -/
def execQuorumDecide (s₀ : State) : Host.Outcome State Fault Refusal := s₀.run (fun d => d.quorumDecide)

/-- VERDICT_DEADLINE (R335): At T − 100 ns a device without GO starts none of its quorum streams. -/
def execVerdictDeadline (s₀ : State) : Host.Outcome State Fault Refusal := s₀.run (fun d => d.quorumDeadline)

/-- TSTR_ENABLE (R337): Writing TSTR_CTRLk.EN from 0 to 1 arms a strobe, or refuses it. -/
def execTstrEnable (q : Requester) (k : Fin 4) (v : Word) (s₀ : State) : Host.Outcome State Fault Refusal :=
  s₀.run (fun d => d.cmdWrite q (Reg.TSTR_CTRL k.val) (v ||| 0x80000000))

/-- TSTR_DISABLE (R337): Writing EN = 0 stops a strobe after any pulse in progress. -/
def execTstrDisable (q : Requester) (k : Fin 4) (s₀ : State) : Host.Outcome State Fault Refusal :=
  s₀.run (fun d => d.cmdWrite q (Reg.TSTR_CTRL k.val) (d.reg (Reg.TSTR_CTRL k.val) &&& 0x7FFFFFFF))

/-- TSTROBE_PULSE (R337): A strobe's pulse time arrives and its line rises. -/
def execTstrobePulse (k : Fin 4) (s₀ : State) : Host.Outcome State Fault Refusal := s₀.run (fun d => d.strobePulse k.val)

/-- TSTROBE_PULSE_END (R337): A strobe pulse reaches its width and the line falls. -/
def execTstrobePulseEnd (k : Fin 4) (s₀ : State) : Host.Outcome State Fault Refusal := s₀.run (fun d => d.strobeFall k.val)

end Sys2Proof.Machine
end

