-- ==== Sys2Proof/Machine/TwinCmds.lean ====
section
/-! DEFINITION. Twin pairs (R397–R407). -/

namespace Sys2Proof.Machine

/-- TWIN_WRITE (R399): A journal WRITE frame is applied in JSEQ order by the standby. -/
def execTwinWrite (addr : BitVec 24) (jseq : BitVec 32) (v : Word) (s₀ : State) : Host.Outcome State Fault Refusal :=
  s₀.run (fun d => d.twinFrame jseq.toNat (fun d => d.twinWrite addr.toNat jseq.toNat v.toNat))

/-- TWIN_SNAP (R397): A SNAP frame loads up to four dwords into the standby. -/
def execTwinSnap (addr : BitVec 24) (jseq : BitVec 32) (data : List Word) (s₀ : State) : Host.Outcome State Fault Refusal :=
  if okSnap data then s₀.run (fun d => d.twinFrame jseq.toNat (fun d => d.twinSnap jseq.toNat addr.toNat data)) else .fault .illFormed

/-- TWIN_CHECKPOINT (R400): A CHECKPOINT frame marks a burst end or calibration commit and clears the pending launch. -/
def execTwinCheckpoint (jseq : BitVec 32) (kind : BitVec 8) (s : Fin 16) (_status : BitVec 16) (burst : BitVec 32) (s₀ : State) : Host.Outcome State Fault Refusal :=
  s₀.run (fun d => d.twinFrame jseq.toNat (fun d => d.twinCheckpoint kind.toNat s.val burst.toNat))

/-- TWIN_HB (R404): An HB frame acknowledges or reports journal progress and resets the heartbeat timeout; one with a bad CRC is discarded (R393). -/
def execTwinHb (jseq : Option (BitVec 32)) (s₀ : State) : Host.Outcome State Fault Refusal :=
  s₀.run (fun d => match jseq with | some j => d.twinFrame j.toNat (fun d => d) | none => d)

/-- TWIN_HELLO (R397): A HELLO frame settles roles and starts the snapshot. -/
def execTwinHello (jseq : BitVec 32) (role : BitVec 3) (_side : Bool) (pref : Bool) (synced : Bool) (s₀ : State) : Host.Outcome State Fault Refusal :=
  if okRole role then s₀.run (fun d => if d.role = 0 then d.helloEarly role.toNat pref synced
    else d.twinFrame jseq.toNat (fun d => d.twinGotHello role.toNat pref synced)) else .fault .illFormed

/-- TWIN_FAIL (R404): A FAIL frame starts a takeover on a synced standby with AUTO = 1. -/
def execTwinFail (jseq : BitVec 32) (s₀ : State) : Host.Outcome State Fault Refusal := s₀.run (fun d => d.twinFrame jseq.toNat (fun d => d.twinFail))

/-- TWIN_SWAP_FRAME (R407): A SWAP frame starts the partner's takeover with nothing to reissue. -/
def execTwinSwapFrame (jseq : BitVec 32) (s₀ : State) : Host.Outcome State Fault Refusal :=
  s₀.run (fun d => d.twinFrame jseq.toNat (fun d => d.swapFrame))

/-- TWIN_HASH (R402): A HASH frame delivers half a digest for the span-hash comparison. -/
def execTwinHash (jseq : BitVec 32) (half : BitVec 128) (part : Bool) (kind : Bool) (span : BitVec 16) (s₀ : State) : Host.Outcome State Fault Refusal :=
  s₀.run (fun d => d.twinFrame jseq.toNat (fun d => d.hashFrame half.toNat part kind span.toNat))

/-- TWIN_HB_SEND (R404): After 1 µs without a sent frame a device sends HB. -/
def execTwinHbSend (s₀ : State) : Host.Outcome State Fault Refusal := s₀.run (fun d => d.hbSend)

/-- TWIN_HB_TIMEOUT (R404): No valid frame arrives for HBTO µs and a synced standby with AUTO = 1 starts a takeover. -/
def execTwinHbTimeout (s₀ : State) : Host.Outcome State Fault Refusal := s₀.run (fun d => d.hbTimeout)

/-- TWIN_SETTLE_DONE (R404): SETTLE ends after TWIN_ACT_N goes low: the TWIN cause is cleared and exit begins or the safe state stays. -/
def execTwinSettleDone (s₀ : State) : Host.Outcome State Fault Refusal := s₀.run (fun d => d.settleDone.hostGoes)

/-- TWN_SWAP (R407): TWN_CMD.SWAP requests a planned swap, ignored unless active and synced. -/
def execTwnSwap (q : Requester) (s₀ : State) : Host.Outcome State Fault Refusal := s₀.run (fun d => d.cmdWrite q Reg.TWN_CMD 1)

/-- TWIN_SWAP_START (R407): In the first cycle with every stream halted the active device sends SWAP and becomes STANDBY. -/
def execTwinSwapStart (s₀ : State) : Host.Outcome State Fault Refusal := s₀.run (fun d => d.swapStart.hostGoes)

/-- TWN_HASHCHK (R402): TWN_CMD.HASHCHK starts the span-hash check on both devices. -/
def execTwnHashchk (q : Requester) (s₀ : State) : Host.Outcome State Fault Refusal := s₀.run (fun d => d.cmdWrite q Reg.TWN_CMD 2)

/-- TWIN_HASH_DONE (R402): A device finishes its span hashing and comparison and raises HASH_DONE. -/
def execTwinHashDone (s₀ : State) : Host.Outcome State Fault Refusal := s₀.run (fun d => d.hashDone)

end Sys2Proof.Machine
end

