-- ==== Sys2Proof/Machine/UcsCmds.lean ====
section
/-! DEFINITION. Loads of the control store and its scrubber (R137–R146). -/

namespace Sys2Proof.Machine

/-- LOAD_CUST (R141): UCS_CMD.LOAD_CUST starts a load of the customer region, or refuses it. -/
def execLoadCust (q : Requester) (s₀ : State) : Host.Outcome State Fault Refusal := s₀.run (fun d => d.cmdWrite q Reg.UCS_CMD 1)

/-- CLEAR_CUST (R145): UCS_CMD.CLEAR_CUST invalidates every customer dispatch entry. -/
def execClearCust (q : Requester) (s₀ : State) : Host.Outcome State Fault Refusal := s₀.run (fun d => d.cmdWrite q Reg.UCS_CMD 2)

/-- LOAD_VEND (R146): UCS_CMD.LOAD_VEND from Keystone loads a vendor image into the free half. -/
def execLoadVend (image : List Word) (s₀ : State) : Host.Outcome State Fault Refusal :=
  s₀.run (fun d => if d.lstate = 0 then d.loadVend (image.map (·.toNat)) else d.fault Page.UCS 0x01)

/-- VSWITCH (R146): UCS_CMD.VSWITCH from Keystone sets VTARGET and moves halted streams to it. -/
def execVswitch (s₀ : State) : Host.Outcome State Fault Refusal := s₀.run (fun d => d.cmdWrite .keystone Reg.UCS_CMD 0x20)

/-- UCS_LOAD_READ_DONE (R142): The load engine finishes copying the image into staging and moves to CHECK, or refuses on a read error. -/
def execUcsLoadReadDone (ue : Option (BitVec 15)) (s₀ : State) : Host.Outcome State Fault Refusal := s₀.run (fun d => d.loadReadDone (ue.map (·.toNat)))

/-- UCS_LOAD_CHECK_DONE (R142): Header, signature and static verifier checks finish and the load moves to WRITE or is refused. -/
def execUcsLoadCheckDone (s₀ : State) : Host.Outcome State Fault Refusal := s₀.run (fun d => d.loadCheckDone)

/-- UCS_LOAD_WRITE_DONE (R142): The payload is written and read back: dispatch entries are set, CUST_VALID is set and LOAD_DONE is raised. -/
def execUcsLoadWriteDone (bad : Option (BitVec 13 × Word)) (s₀ : State) : Host.Outcome State Fault Refusal :=
  if okReadBack bad then s₀.run (fun d => d.loadWriteDone (bad.map (fun b => (b.1.toNat, b.2.toNat)))) else .fault .illFormed

/-- CS_SCRUB_STEP (R137): The control-store scrubber reads one word, repairing corrected errors and recording uncorrectable ones. -/
def execCsScrubStep (w : BitVec 14) (ecc : Ecc) (s₀ : State) : Host.Outcome State Fault Refusal := s₀.run (fun d => d.csScrub w.toNat ecc)

end Sys2Proof.Machine
end

