-- ==== Sys2Proof/Machine/Dispatch.lean ====
section
/-! DEFINITION. One arm per command: each is one call of its meaning. -/

namespace Sys2Proof.Machine

open Sys2Proof

/-- The effect of a command on everything but the queue. -/
def exec (i : Instr) (s : State) : Host.Outcome State Fault Refusal :=
  match i with
  | .refclkLoss => Sys2Proof.Machine.execRefclkLoss s
  | .refclkReturn => Sys2Proof.Machine.execRefclkReturn s
  | .pllLockLoss k => Sys2Proof.Machine.execPllLockLoss k s
  | .pllLock k => Sys2Proof.Machine.execPllLock k s
  | .pwrReqReady q => Sys2Proof.Machine.execPwrReqReady q s
  | .pwrReqDoze q => Sys2Proof.Machine.execPwrReqDoze q s
  | .pwrReqRetain q stackB => Sys2Proof.Machine.execPwrReqRetain q stackB s
  | .powerEntryDone => Sys2Proof.Machine.execPowerEntryDone s
  | .retainZeroFillDone => Sys2Proof.Machine.execRetainZeroFillDone s
  | .pwrPgateWrite q v => Sys2Proof.Machine.execPwrPgateWrite q v s
  | .pwrSgateWrite q v => Sys2Proof.Machine.execPwrSgateWrite q v s
  | .governorAdmit => Sys2Proof.Machine.execGovernorAdmit s
  | .unitWakeDone u => Sys2Proof.Machine.execUnitWakeDone u s
  | .pierCtrlWrite q p v => Sys2Proof.Machine.execPierCtrlWrite q p v s
  | .staticResume q p => Sys2Proof.Machine.execStaticResume q p s
  | .pgCommit q page => Sys2Proof.Machine.execPgCommit q page s
  | .pgFreeze q page on => Sys2Proof.Machine.execPgFreeze q page on s
  | .pgSoftReset q page => Sys2Proof.Machine.execPgSoftReset q page s
  | .pgFclr q page => Sys2Proof.Machine.execPgFclr q page s
  | .pgEnable q page on => Sys2Proof.Machine.execPgEnable q page on s
  | .pgLockWrite q page key => Sys2Proof.Machine.execPgLockWrite q page key s
  | .pgEvtPendClear q page v => Sys2Proof.Machine.execPgEvtPendClear q page v s
  | .pgEvtSet q page v => Sys2Proof.Machine.execPgEvtSet q page v s
  | .pgEvtEnWrite q page v => Sys2Proof.Machine.execPgEvtEnWrite q page v s
  | .registerWrite q addr full v => Sys2Proof.Machine.execRegisterWrite q addr full v s
  | .readClear q addr full => Sys2Proof.Machine.execReadClear q addr full s
  | .splitReadLow q addr => Sys2Proof.Machine.execSplitReadLow q addr s
  | .heldWriteLower q addr v => Sys2Proof.Machine.execHeldWriteLower q addr v s
  | .heldWriteUpper q addr v ue => Sys2Proof.Machine.execHeldWriteUpper q addr v ue s
  | .tsmemWrite q chan set word v ecc => Sys2Proof.Machine.execTsmemWrite q chan set word v ecc s
  | .spanDescWrite q span word v ue => Sys2Proof.Machine.execSpanDescWrite q span word v ue s
  | .ctrlStoreWrite q w v => Sys2Proof.Machine.execCtrlStoreWrite q w v s
  | .taskRamWrite q task word v => Sys2Proof.Machine.execTaskRamWrite q task word v s
  | .pebGo q port cs => Sys2Proof.Machine.execPebGo q port cs s
  | .pebFrameDone port rx => Sys2Proof.Machine.execPebFrameDone port rx s
  | .cycleStart str samples arrived ueVec eccTs => Sys2Proof.Machine.execCycleStart str samples arrived ueVec eccTs s
  | .bitmapUpdateWrite p ue => Sys2Proof.Machine.execBitmapUpdateWrite p ue s
  | .gapEnd str => Sys2Proof.Machine.execGapEnd str s
  | .spanBoundary str => Sys2Proof.Machine.execSpanBoundary str s
  | .spanFetchBegin str ue => Sys2Proof.Machine.execSpanFetchBegin str ue s
  | .spanReadyPoll str ue => Sys2Proof.Machine.execSpanReadyPoll str ue s
  | .microEngineResume str => Sys2Proof.Machine.execMicroEngineResume str s
  | .strLaunch q str => Sys2Proof.Machine.execStrLaunch q str s
  | .strSched q str => Sys2Proof.Machine.execStrSched q str s
  | .strQuorum q str => Sys2Proof.Machine.execStrQuorum q str s
  | .strCancel q str => Sys2Proof.Machine.execStrCancel q str s
  | .strStopSpan q str => Sys2Proof.Machine.execStrStopSpan q str s
  | .strStopCycle q str => Sys2Proof.Machine.execStrStopCycle q str s
  | .strJumpRequest q str => Sys2Proof.Machine.execStrJumpRequest q str s
  | .strJumpArm q str target => Sys2Proof.Machine.execStrJumpArm q str target s
  | .jumpPrefetchDone str => Sys2Proof.Machine.execJumpPrefetchDone str s
  | .streamPrimed str => Sys2Proof.Machine.execStreamPrimed str s
  | .launchFirstCycle str => Sys2Proof.Machine.execLaunchFirstCycle str s
  | .schedReadiness str => Sys2Proof.Machine.execSchedReadiness str s
  | .schedStart str => Sys2Proof.Machine.execSchedStart str s
  | .strFlagsSet q str v => Sys2Proof.Machine.execStrFlagsSet q str v s
  | .strFlagsClear q str v => Sys2Proof.Machine.execStrFlagsClear q str v s
  | .nop str ft => Sys2Proof.Machine.execNop str ft s
  | .halt str ft => Sys2Proof.Machine.execHalt str ft s
  | .play str ft => Sys2Proof.Machine.execPlay str ft s
  | .playr str ft => Sys2Proof.Machine.execPlayr str ft s
  | .matchSpan str ft => Sys2Proof.Machine.execMatchSpan str ft s
  | .jump str ft => Sys2Proof.Machine.execJump str ft s
  | .call str ft => Sys2Proof.Machine.execCall str ft s
  | .ret str ft => Sys2Proof.Machine.execRet str ft s
  | .brf str ft => Sys2Proof.Machine.execBrf str ft s
  | .loop str ft ueAt => Sys2Proof.Machine.execLoop str ft ueAt s
  | .endl str ft => Sys2Proof.Machine.execEndl str ft s
  | .waitDelay str ft => Sys2Proof.Machine.execWaitDelay str ft s
  | .waitUntil str ft => Sys2Proof.Machine.execWaitUntil str ft s
  | .waitFlag str ft => Sys2Proof.Machine.execWaitFlag str ft s
  | .waitDrain str ft => Sys2Proof.Machine.execWaitDrain str ft s
  | .setr str ft => Sys2Proof.Machine.execSetr str ft s
  | .addi str ft => Sys2Proof.Machine.execAddi str ft s
  | .sitemsk str ft => Sys2Proof.Machine.execSitemsk str ft s
  | .sitedrop str ft => Sys2Proof.Machine.execSitedrop str ft s
  | .failclr str ft => Sys2Proof.Machine.execFailclr str ft s
  | .capopEnable str ft => Sys2Proof.Machine.execCapopEnable str ft s
  | .capopDisable str ft => Sys2Proof.Machine.execCapopDisable str ft s
  | .capopSegment str ft => Sys2Proof.Machine.execCapopSegment str ft s
  | .trig str ft => Sys2Proof.Machine.execTrig str ft s
  | .signal str ft => Sys2Proof.Machine.execSignal str ft s
  | .setpe str ft => Sys2Proof.Machine.execSetpe str ft s
  | .phase str ft => Sys2Proof.Machine.execPhase str ft s
  | .aset str ft => Sys2Proof.Machine.execAset str ft s
  | .asave str ft => Sys2Proof.Machine.execAsave str ft s
  | .arest str ft => Sys2Proof.Machine.execArest str ft s
  | .scrld str ft ueData => Sys2Proof.Machine.execScrld str ft ueData s
  | .customerOpcodeDispatch str ue entry => Sys2Proof.Machine.execCustomerOpcodeDispatch str ue entry s
  | .alu str ecc => Sys2Proof.Machine.execAlu str ecc s
  | .ldi str ecc => Sys2Proof.Machine.execLdi str ecc s
  | .ldih str ecc => Sys2Proof.Machine.execLdih str ecc s
  | .br str ecc => Sys2Proof.Machine.execBr str ecc s
  | .callu str ecc => Sys2Proof.Machine.execCallu str ecc s
  | .retu str ecc => Sys2Proof.Machine.execRetu str ecc s
  | .emit str ecc => Sys2Proof.Machine.execEmit str ecc s
  | .next str ecc => Sys2Proof.Machine.execNext str ecc s
  | .seq str ecc => Sys2Proof.Machine.execSeq str ecc s
  | .bnd str ecc => Sys2Proof.Machine.execBnd str ecc s
  | .apgMicroOp str ecc ueData => Sys2Proof.Machine.execApgMicroOp str ecc ueData s
  | .rdx str ecc => Sys2Proof.Machine.execRdx str ecc s
  | .wrx str ecc => Sys2Proof.Machine.execWrx str ecc s
  | .lds str ecc ueData => Sys2Proof.Machine.execLds str ecc ueData s
  | .matchu str ecc => Sys2Proof.Machine.execMatchu str ecc s
  | .faultOp str ecc => Sys2Proof.Machine.execFaultOp str ecc s
  | .loadCust q => Sys2Proof.Machine.execLoadCust q s
  | .clearCust q => Sys2Proof.Machine.execClearCust q s
  | .loadVend image => Sys2Proof.Machine.execLoadVend image s
  | .vswitch => Sys2Proof.Machine.execVswitch s
  | .ucsLoadReadDone ue => Sys2Proof.Machine.execUcsLoadReadDone ue s
  | .ucsLoadCheckDone => Sys2Proof.Machine.execUcsLoadCheckDone s
  | .ucsLoadWriteDone bad => Sys2Proof.Machine.execUcsLoadWriteDone bad s
  | .csScrubStep w ecc => Sys2Proof.Machine.execCsScrubStep w ecc s
  | .capArm q p => Sys2Proof.Machine.execCapArm q p s
  | .capDisarm q p => Sys2Proof.Machine.execCapDisarm q p s
  | .capRelease q p v => Sys2Proof.Machine.execCapRelease q p v s
  | .capRearmDone p => Sys2Proof.Machine.execCapRearmDone p s
  | .triggerActions p => Sys2Proof.Machine.execTriggerActions p s
  | .trigoutPulseEnd line => Sys2Proof.Machine.execTrigoutPulseEnd line s
  | .triginEdge line t rise => Sys2Proof.Machine.execTriginEdge line t rise s
  | .ivmArm q ix => Sys2Proof.Machine.execIvmArm q ix s
  | .ivmDisarm q ix => Sys2Proof.Machine.execIvmDisarm q ix s
  | .ivmSwevt q ix => Sys2Proof.Machine.execIvmSwevt q ix s
  | .ivmFlush q ix => Sys2Proof.Machine.execIvmFlush q ix s
  | .ivmCalDone ix a1 a2 b1 b2 => Sys2Proof.Machine.execIvmCalDone ix a1 a2 b1 b2 s
  | .ivmEvent ix src rise ball past code => Sys2Proof.Machine.execIvmEvent ix src rise ball past code s
  | .ivmGateClose ix => Sys2Proof.Machine.execIvmGateClose ix s
  | .ivmTimeout ix => Sys2Proof.Machine.execIvmTimeout ix s
  | .ivmResultFinal ix => Sys2Proof.Machine.execIvmResultFinal ix s
  | .ivmFifoRead q ix => Sys2Proof.Machine.execIvmFifoRead q ix s
  | .ivmLoanEnd ix => Sys2Proof.Machine.execIvmLoanEnd ix s
  | .refreshDue n pc banks => Sys2Proof.Machine.execRefreshDue n pc banks s
  | .rowIdleClose n pc bank => Sys2Proof.Machine.execRowIdleClose n pc bank s
  | .stackTempRead k t => Sys2Proof.Machine.execStackTempRead k t s
  | .memParityError n pc => Sys2Proof.Machine.execMemParityError n pc s
  | .memReplayDone n pc lost a => Sys2Proof.Machine.execMemReplayDone n pc lost a s
  | .memCeWriteback a syndrome superseded => Sys2Proof.Machine.execMemCeWriteback a syndrome superseded s
  | .memScrubRead a ecc syndrome => Sys2Proof.Machine.execMemScrubRead a ecc syndrome s
  | .memZeroFillDone okA okB => Sys2Proof.Machine.execMemZeroFillDone okA okB s
  | .ledgerAdmit q => Sys2Proof.Machine.execLedgerAdmit q s
  | .ledgerWithdraw q => Sys2Proof.Machine.execLedgerWithdraw q s
  | .ledgerCommandDone => Sys2Proof.Machine.execLedgerCommandDone s
  | .ldgDmaWrite q v => Sys2Proof.Machine.execLdgDmaWrite q v s
  | .calFull q => Sys2Proof.Machine.execCalFull q s
  | .calVerify q => Sys2Proof.Machine.execCalVerify q s
  | .calTrims q => Sys2Proof.Machine.execCalTrims q s
  | .calCommit q => Sys2Proof.Machine.execCalCommit q s
  | .calAbort q => Sys2Proof.Machine.execCalAbort q s
  | .calDiscard q => Sys2Proof.Machine.execCalDiscard q s
  | .calPeriodTrigger => Sys2Proof.Machine.execCalPeriodTrigger s
  | .calNoMeterTimeout => Sys2Proof.Machine.execCalNoMeterTimeout s
  | .calGatherDone offs => Sys2Proof.Machine.execCalGatherDone offs s
  | .calComputeDone meas slices eccTs => Sys2Proof.Machine.execCalComputeDone meas slices eccTs s
  | .calRestartWaitExpiry => Sys2Proof.Machine.execCalRestartWaitExpiry s
  | .calCommitApply => Sys2Proof.Machine.execCalCommitApply s
  | .calHoldExpiry str => Sys2Proof.Machine.execCalHoldExpiry str s
  | .calTableScrub bank ecc => Sys2Proof.Machine.execCalTableScrub bank ecc s
  | .calMramWriteDone => Sys2Proof.Machine.execCalMramWriteDone s
  | .dispSubmit q task ue => Sys2Proof.Machine.execDispSubmit q task ue s
  | .dispDec q task ue => Sys2Proof.Machine.execDispDec q task ue s
  | .dispCancel q task ue => Sys2Proof.Machine.execDispCancel q task ue s
  | .hookFire ue => Sys2Proof.Machine.execHookFire ue s
  | .taskPlace ue => Sys2Proof.Machine.execTaskPlace ue s
  | .ncpTake k => Sys2Proof.Machine.execNcpTake k s
  | .ncpDone k result => Sys2Proof.Machine.execNcpDone k result s
  | .dispFlowWrite q f v => Sys2Proof.Machine.execDispFlowWrite q f v s
  | .dispCoreRun q k run => Sys2Proof.Machine.execDispCoreRun q k run s
  | .delayListTick l => Sys2Proof.Machine.execDelayListTick l s
  | .dispTickWrite q l v => Sys2Proof.Machine.execDispTickWrite q l v s
  | .coreWfi k => Sys2Proof.Machine.execCoreWfi k s
  | .coreWake k atCompare => Sys2Proof.Machine.execCoreWake k atCompare s
  | .coreTimerCompare k => Sys2Proof.Machine.execCoreTimerCompare k s
  | .intcRequestEdge n => Sys2Proof.Machine.execIntcRequestEdge n s
  | .intcSwtrig q id => Sys2Proof.Machine.execIntcSwtrig q id s
  | .intcOffer n => Sys2Proof.Machine.execIntcOffer n s
  | .intcClaim q t => Sys2Proof.Machine.execIntcClaim q t s
  | .intcComplete q t id => Sys2Proof.Machine.execIntcComplete q t id s
  | .laneLoss link lane => Sys2Proof.Machine.execLaneLoss link lane s
  | .detectRetry link => Sys2Proof.Machine.execDetectRetry link s
  | .trainingSetReceived link lanes mask ts2 wake inv fits => Sys2Proof.Machine.execTrainingSetReceived link lanes mask ts2 wake inv fits s
  | .trainingTimeout link => Sys2Proof.Machine.execTrainingTimeout link s
  | .laneReaddRetry link lane answered => Sys2Proof.Machine.execLaneReaddRetry link lane answered s
  | .trsTestWrite q v => Sys2Proof.Machine.execTrsTestWrite q v s
  | .trsRetrain q => Sys2Proof.Machine.execTrsRetrain q s
  | .dqRestart q n => Sys2Proof.Machine.execDqRestart q n s
  | .trsLeqWrite q ix v => Sys2Proof.Machine.execTrsLeqWrite q ix v s
  | .rrd seq tag len addr => Sys2Proof.Machine.execRrd seq tag len addr s
  | .rwr seq tag addr data => Sys2Proof.Machine.execRwr seq tag addr data s
  | .cpl seq tag data => Sys2Proof.Machine.execCpl seq tag data s
  | .cple seq tag status => Sys2Proof.Machine.execCple seq tag status s
  | .badDataPacket seq flaw => Sys2Proof.Machine.execBadDataPacket seq flaw s
  | .ack seq => Sys2Proof.Machine.execAck seq s
  | .nak seq => Sys2Proof.Machine.execNak seq s
  | .credit cls hdr units => Sys2Proof.Machine.execCredit cls hdr units s
  | .dozeReq => Sys2Proof.Machine.execDozeReq s
  | .ackTimer => Sys2Proof.Machine.execAckTimer s
  | .replayTimeout => Sys2Proof.Machine.execReplayTimeout s
  | .creditReturnTimer => Sys2Proof.Machine.execCreditReturnTimer s
  | .mrdTimeout tag => Sys2Proof.Machine.execMrdTimeout tag s
  | .dmaDoorbell q n tail => Sys2Proof.Machine.execDmaDoorbell q n tail s
  | .dmaDescriptorFetched n => Sys2Proof.Machine.execDmaDescriptorFetched n s
  | .dmaDescriptorDone n => Sys2Proof.Machine.execDmaDescriptorDone n s
  | .dqDisable q n => Sys2Proof.Machine.execDqDisable q n s
  | .eventRecordWrite => Sys2Proof.Machine.execEventRecordWrite s
  | .evqEnable q => Sys2Proof.Machine.execEvqEnable q s
  | .evqConsWrite q v => Sys2Proof.Machine.execEvqConsWrite q v s
  | .evqAgeExpiry => Sys2Proof.Machine.execEvqAgeExpiry s
  | .wdogKick q v => Sys2Proof.Machine.execWdogKick q v s
  | .wdogWrite q v => Sys2Proof.Machine.execWdogWrite q v s
  | .wdogExpiry => Sys2Proof.Machine.execWdogExpiry s
  | .ttimeWrap => Sys2Proof.Machine.execTtimeWrap s
  | .syncEdge t => Sys2Proof.Machine.execSyncEdge t s
  | .syncArmLapse => Sys2Proof.Machine.execSyncArmLapse s
  | .viaSettime q => Sys2Proof.Machine.execViaSettime q s
  | .viaSkewcal q => Sys2Proof.Machine.execViaSkewcal q s
  | .viaApply q => Sys2Proof.Machine.execViaApply q s
  | .viaQannounce q => Sys2Proof.Machine.execViaQannounce q s
  | .viaRetrain q => Sys2Proof.Machine.execViaRetrain q s
  | .viaSkewWrite q v => Sys2Proof.Machine.execViaSkewWrite q v s
  | .addr param => Sys2Proof.Machine.execAddr param s
  | .endFrame complete addr => Sys2Proof.Machine.execEndFrame complete addr s
  | .settime t epoch => Sys2Proof.Machine.execSettime t epoch s
  | .time tstamp corr src arr dep => Sys2Proof.Machine.execTime tstamp corr src arr dep s
  | .dreq arr dep => Sys2Proof.Machine.execDreq arr dep s
  | .dresp tstamp diff arr => Sys2Proof.Machine.execDresp tstamp diff arr s
  | .skewsum c path => Sys2Proof.Machine.execSkewsum c path s
  | .skewcal => Sys2Proof.Machine.execSkewcal s
  | .apply => Sys2Proof.Machine.execApply s
  | .qannounce t => Sys2Proof.Machine.execQannounce t s
  | .badFrame => Sys2Proof.Machine.execBadFrame s
  | .timeFrameOriginate dep => Sys2Proof.Machine.execTimeFrameOriginate dep s
  | .skewExchangeTick dep => Sys2Proof.Machine.execSkewExchangeTick dep s
  | .quorumReadiness => Sys2Proof.Machine.execQuorumReadiness s
  | .ready tag nogo count addr => Sys2Proof.Machine.execReady tag nogo count addr s
  | .verdict tag go => Sys2Proof.Machine.execVerdict tag go s
  | .quorumDecide => Sys2Proof.Machine.execQuorumDecide s
  | .verdictDeadline => Sys2Proof.Machine.execVerdictDeadline s
  | .tstrEnable q k v => Sys2Proof.Machine.execTstrEnable q k v s
  | .tstrDisable q k => Sys2Proof.Machine.execTstrDisable q k s
  | .tstrobePulse k => Sys2Proof.Machine.execTstrobePulse k s
  | .tstrobePulseEnd k => Sys2Proof.Machine.execTstrobePulseEnd k s
  | .supplySample rail mv => Sys2Proof.Machine.execSupplySample rail mv s
  | .regionRebringup => Sys2Proof.Machine.execRegionRebringup s
  | .guardSample ix volts => Sys2Proof.Machine.execGuardSample ix volts s
  | .guardLatchPeriod => Sys2Proof.Machine.execGuardLatchPeriod s
  | .grdLatchClear q v => Sys2Proof.Machine.execGrdLatchClear q v s
  | .sensorReading ts => Sys2Proof.Machine.execSensorReading ts s
  | .safeEntry cause => Sys2Proof.Machine.execSafeEntry cause s
  | .safeCauseClear q v => Sys2Proof.Machine.execSafeCauseClear q v s
  | .safeKeyWrite q v => Sys2Proof.Machine.execSafeKeyWrite q v s
  | .safeCmdEnter q => Sys2Proof.Machine.execSafeCmdEnter q s
  | .safeNExternalLow => Sys2Proof.Machine.execSafeNExternalLow s
  | .safeExit => Sys2Proof.Machine.execSafeExit s
  | .resetAssert => Sys2Proof.Machine.execResetAssert s
  | .bringupStart boardId viaMaster twinEn fuseOk keyEngineOk => Sys2Proof.Machine.execBringupStart boardId viaMaster twinEn fuseOk keyEngineOk s
  | .romImageLoaded answers board imgA imgB => Sys2Proof.Machine.execRomImageLoaded answers board imgA imgB s
  | .firmwareStart ok0 ok1 => Sys2Proof.Machine.execFirmwareStart ok0 ok1 s
  | .bringupStepDone step => Sys2Proof.Machine.execBringupStepDone step s
  | .bringupComplete => Sys2Proof.Machine.execBringupComplete s
  | .mgmtKrestart q => Sys2Proof.Machine.execMgmtKrestart q s
  | .keystoneWdogExpiry => Sys2Proof.Machine.execKeystoneWdogExpiry s
  | .fwConfirmTimeout => Sys2Proof.Machine.execFwConfirmTimeout s
  | .updateStageDone ok => Sys2Proof.Machine.execUpdateStageDone ok s
  | .mbPost q => Sys2Proof.Machine.execMbPost q s
  | .mbAbort q => Sys2Proof.Machine.execMbAbort q s
  | .jtagMboxSetptr ptr => Sys2Proof.Machine.execJtagMboxSetptr ptr s
  | .jtagMboxWrite v => Sys2Proof.Machine.execJtagMboxWrite v s
  | .jtagMboxRead => Sys2Proof.Machine.execJtagMboxRead s
  | .jtagMboxPost => Sys2Proof.Machine.execJtagMboxPost s
  | .bpSetptr ptr => Sys2Proof.Machine.execBpSetptr ptr s
  | .bpWrite data => Sys2Proof.Machine.execBpWrite data s
  | .bpPost => Sys2Proof.Machine.execBpPost s
  | .bpStatus => Sys2Proof.Machine.execBpStatus s
  | .bpRead count => Sys2Proof.Machine.execBpRead count s
  | .getInfo => Sys2Proof.Machine.execGetInfo s
  | .logRead => Sys2Proof.Machine.execLogRead s
  | .sensors => Sys2Proof.Machine.execSensors s
  | .attest => Sys2Proof.Machine.execAttest s
  | .getCert => Sys2Proof.Machine.execGetCert s
  | .updateStage => Sys2Proof.Machine.execUpdateStage s
  | .fwSwitch => Sys2Proof.Machine.execFwSwitch s
  | .fwConfirm => Sys2Proof.Machine.execFwConfirm s
  | .arbCommit stuck => Sys2Proof.Machine.execArbCommit stuck s
  | .fuseProgram stuck => Sys2Proof.Machine.execFuseProgram stuck s
  | .krestart => Sys2Proof.Machine.execKrestart s
  | .bootLoad => Sys2Proof.Machine.execBootLoad s
  | .fuseFclr q => Sys2Proof.Machine.execFuseFclr q s
  | .extest => Sys2Proof.Machine.execExtest s
  | .extestPulse => Sys2Proof.Machine.execExtestPulse s
  | .extestTrain => Sys2Proof.Machine.execExtestTrain s
  | .clamp => Sys2Proof.Machine.execClamp s
  | .highz => Sys2Proof.Machine.execHighz s
  | .samplePreload load => Sys2Proof.Machine.execSamplePreload load s
  | .idcode => Sys2Proof.Machine.execIdcode s
  | .bypass code => Sys2Proof.Machine.execBypass code s
  | .twinWrite addr jseq v => Sys2Proof.Machine.execTwinWrite addr jseq v s
  | .twinSnap addr jseq data => Sys2Proof.Machine.execTwinSnap addr jseq data s
  | .twinCheckpoint jseq kind str status burst => Sys2Proof.Machine.execTwinCheckpoint jseq kind str status burst s
  | .twinHb jseq => Sys2Proof.Machine.execTwinHb jseq s
  | .twinHello jseq role side pref synced => Sys2Proof.Machine.execTwinHello jseq role side pref synced s
  | .twinFail jseq => Sys2Proof.Machine.execTwinFail jseq s
  | .twinSwapFrame jseq => Sys2Proof.Machine.execTwinSwapFrame jseq s
  | .twinHash jseq half part kind span => Sys2Proof.Machine.execTwinHash jseq half part kind span s
  | .twinHbSend => Sys2Proof.Machine.execTwinHbSend s
  | .twinHbTimeout => Sys2Proof.Machine.execTwinHbTimeout s
  | .twinSettleDone => Sys2Proof.Machine.execTwinSettleDone s
  | .twnSwap q => Sys2Proof.Machine.execTwnSwap q s
  | .twinSwapStart => Sys2Proof.Machine.execTwinSwapStart s
  | .twnHashchk q => Sys2Proof.Machine.execTwnHashchk q s
  | .twinHashDone => Sys2Proof.Machine.execTwinHashDone s
  | .spanFetchDone str => Sys2Proof.Machine.execSpanFetchDone str s
  | .armStatusFillDone p => Sys2Proof.Machine.execArmStatusFillDone p s
  | .calRecordDeferredWrite => Sys2Proof.Machine.execCalRecordDeferredWrite s
  | .keystoneSramUe => Sys2Proof.Machine.execKeystoneSramUe s
  | .firmwareRestartRequest => Sys2Proof.Machine.execFirmwareRestartRequest s
  | .mbox => Sys2Proof.Machine.execMbox s

end Sys2Proof.Machine
end

