-- ==== Sys2Proof/Machine/Rv.lean ====
section
/-! DEFINITION. The instruction set of the Newt cores, which R257 takes from the RISC-V manuals: RV32IMAC, machine and user mode, PMP. This file
has what concerns one processor alone: arithmetic, the expansion of compressed instructions, PMP and traps (log entry 100). -/

namespace Sys2Proof.Machine

/-! ## Registers -/

/-- Register `r`; x0 reads 0. -/
def Newt.rx (c : Newt) (r : Nat) : Word := if r = 0 then 0 else Tab.get (fun _ => 0) c.x r

/-- Register `r` written; x0 discards it. -/
def Newt.wx (c : Newt) (r : Nat) (v : Word) : Newt := if r = 0 then c else { c with x := Tab.set (fun _ => 0) c.x r v }

/-- A CSR that is held as a register. -/
def Newt.csrOf (c : Newt) (n : Nat) : Word := Tab.get (fun _ => 0) c.csr n

/-- A CSR that is held as a register, set. -/
def Newt.setCsr (c : Newt) (n : Nat) (v : Word) : Newt := { c with csr := Tab.set (fun _ => 0) c.csr n v }

/-- An integer as a register value. -/
def rvWord (z : Int) : Word := BitVec.ofInt 32 z

/-! ## Fields of an instruction word -/

/-- Bits `lo` and up, `n` of them. -/
def rvGet (w lo n : Nat) : Nat := w / 2 ^ lo % 2 ^ n
/-- The destination register. -/
def rvRd (w : Nat) : Nat := rvGet w 7 5
/-- The minor opcode. -/
def rvF3 (w : Nat) : Nat := rvGet w 12 3
/-- The first source register. -/
def rvRs1 (w : Nat) : Nat := rvGet w 15 5
/-- The second source register. -/
def rvRs2 (w : Nat) : Nat := rvGet w 20 5
/-- The immediate of the I format. -/
def rvImmI (w : Nat) : Int := signed 12 (rvGet w 20 12)
/-- The immediate of the S format. -/
def rvImmS (w : Nat) : Int := signed 12 (rvGet w 25 7 * 32 + rvGet w 7 5)
/-- The immediate of the B format. -/
def rvImmB (w : Nat) : Int := signed 13 (rvGet w 31 1 * 4096 + rvGet w 7 1 * 2048 + rvGet w 25 6 * 32 + rvGet w 8 4 * 2)
/-- The immediate of the J format. -/
def rvImmJ (w : Nat) : Int := signed 21 (rvGet w 31 1 * 2 ^ 20 + rvGet w 12 8 * 4096 + rvGet w 20 1 * 2048 + rvGet w 21 10 * 2)

/-! ## Arithmetic -/

/-- OP and OP-IMM but for the M extension; `alt` is bit 30 of the word where it selects SUB or SRA. -/
def rvAlu (f3 : Nat) (alt : Bool) (a b : Word) : Word :=
  match f3 with
  | 0 => if alt then a - b else a + b
  | 1 => a <<< (b.toNat % 32)
  | 2 => if a.toInt < b.toInt then 1 else 0
  | 3 => if a.toNat < b.toNat then 1 else 0
  | 4 => a ^^^ b
  | 5 => if alt then a.sshiftRight (b.toNat % 32) else a >>> (b.toNat % 32)
  | 6 => a ||| b
  | _ => a &&& b

/-- The M extension: exact products and quotients, narrowed; a division by 0 and the signed overflow have the results of the RISC-V manual. -/
def rvMul (f3 : Nat) (a b : Word) : Word :=
  match f3 with
  | 0 => a * b
  | 1 => rvWord (a.toInt * b.toInt / 2 ^ 32)
  | 2 => rvWord (a.toInt * (b.toNat : Int) / 2 ^ 32)
  | 3 => BitVec.ofNat 32 (a.toNat * b.toNat / 2 ^ 32)
  | 4 => if b = 0 then BitVec.allOnes 32 else rvWord (a.toInt.tdiv b.toInt)
  | 5 => if b = 0 then BitVec.allOnes 32 else BitVec.ofNat 32 (a.toNat / b.toNat)
  | 6 => if b = 0 then a else rvWord (a.toInt.tmod b.toInt)
  | _ => if b = 0 then a else BitVec.ofNat 32 (a.toNat % b.toNat)

/-- The condition of a branch; none for a reserved one. -/
def rvTaken (f3 : Nat) (a b : Word) : Option Bool :=
  match f3 with
  | 0 => some (a == b)
  | 1 => some (a != b)
  | 4 => some (decide (a.toInt < b.toInt))
  | 5 => some (decide (b.toInt ≤ a.toInt))
  | 6 => some (decide (a.toNat < b.toNat))
  | 7 => some (decide (b.toNat ≤ a.toNat))
  | _ => none

/-- What an AMO stores, by its function code; none for a reserved one. -/
def rvAmo (f5 : Nat) (m b : Word) : Option Word :=
  match f5 with
  | 0 => some (m + b)
  | 1 => some b
  | 4 => some (m ^^^ b)
  | 8 => some (m ||| b)
  | 12 => some (m &&& b)
  | 16 => some (if m.toInt ≤ b.toInt then m else b)
  | 20 => some (if m.toInt ≤ b.toInt then b else m)
  | 24 => some (if m.toNat ≤ b.toNat then m else b)
  | 28 => some (if m.toNat ≤ b.toNat then b else m)
  | _ => none

/-! ## Compressed instructions -/

/-- An I-format word. -/
def rvEncI (op f3 rd rs1 : Nat) (imm : Int) : Nat := op + rd * 2 ^ 7 + f3 * 2 ^ 12 + rs1 * 2 ^ 15 + unsigned 12 imm * 2 ^ 20
/-- An R-format word of OP. -/
def rvEncR (f3 f7 rd rs1 rs2 : Nat) : Nat := 0x33 + rd * 2 ^ 7 + f3 * 2 ^ 12 + rs1 * 2 ^ 15 + rs2 * 2 ^ 20 + f7 * 2 ^ 25
/-- An SW. -/
def rvEncSw (rs1 rs2 imm : Nat) : Nat := 0x23 + imm % 32 * 2 ^ 7 + 2 * 2 ^ 12 + rs1 * 2 ^ 15 + rs2 * 2 ^ 20 + imm / 32 * 2 ^ 25
/-- A branch that compares with x0. -/
def rvEncB (f3 rs1 : Nat) (imm : Int) : Nat :=
  let u := unsigned 13 imm
  0x63 + rvGet u 11 1 * 2 ^ 7 + rvGet u 1 4 * 2 ^ 8 + f3 * 2 ^ 12 + rs1 * 2 ^ 15 + rvGet u 5 6 * 2 ^ 25 + rvGet u 12 1 * 2 ^ 31
/-- A JAL. -/
def rvEncJ (rd : Nat) (imm : Int) : Nat :=
  let u := unsigned 21 imm
  0x6F + rd * 2 ^ 7 + rvGet u 12 8 * 2 ^ 12 + rvGet u 11 1 * 2 ^ 20 + rvGet u 1 10 * 2 ^ 21 + rvGet u 20 1 * 2 ^ 31

/-- The 6-bit immediate of the CI format. -/
def rvImmCI (h : Nat) : Int := signed 6 (rvGet h 12 1 * 32 + rvGet h 2 5)
/-- The offset of C.J and C.JAL. -/
def rvImmCJ (h : Nat) : Int :=
  signed 12 (rvGet h 12 1 * 2048 + rvGet h 11 1 * 16 + rvGet h 9 2 * 256 + rvGet h 8 1 * 1024 + rvGet h 7 1 * 64 + rvGet h 6 1 * 128 +
    rvGet h 3 3 * 2 + rvGet h 2 1 * 32)
/-- The offset of C.BEQZ and C.BNEZ. -/
def rvImmCB (h : Nat) : Int :=
  signed 9 (rvGet h 12 1 * 256 + rvGet h 10 2 * 8 + rvGet h 5 2 * 64 + rvGet h 3 2 * 2 + rvGet h 2 1 * 32)

/-- Quadrant 0: C.ADDI4SPN, C.LW, C.SW. -/
def rvQuad0 (h : Nat) : Option Nat :=
  let r1 := 8 + rvGet h 7 3
  let r2 := 8 + rvGet h 2 3
  let ofs := rvGet h 10 3 * 8 + rvGet h 6 1 * 4 + rvGet h 5 1 * 64
  match rvGet h 13 3 with
  | 0 =>
    let imm := rvGet h 11 2 * 16 + rvGet h 7 4 * 64 + rvGet h 6 1 * 4 + rvGet h 5 1 * 8
    if imm = 0 then none else some (rvEncI 0x13 0 r2 2 imm)
  | 2 => some (rvEncI 0x03 2 r2 r1 ofs)
  | 6 => some (rvEncSw r1 r2 ofs)
  | _ => none

/-- C.SRLI, C.SRAI, C.ANDI and the register forms of quadrant 1. -/
def rvQuad1Alu (h : Nat) : Option Nat :=
  let r1 := 8 + rvGet h 7 3
  let r2 := 8 + rvGet h 2 3
  match rvGet h 10 2, rvGet h 12 1, rvGet h 5 2 with
  | 0, 0, _ => some (rvEncI 0x13 5 r1 r1 (rvGet h 2 5))
  | 1, 0, _ => some (rvEncI 0x13 5 r1 r1 (1024 + rvGet h 2 5 : Nat))
  | 2, _, _ => some (rvEncI 0x13 7 r1 r1 (rvImmCI h))
  | 3, 0, 0 => some (rvEncR 0 32 r1 r1 r2)
  | 3, 0, 1 => some (rvEncR 4 0 r1 r1 r2)
  | 3, 0, 2 => some (rvEncR 6 0 r1 r1 r2)
  | 3, 0, 3 => some (rvEncR 7 0 r1 r1 r2)
  | _, _, _ => none

/-- Quadrant 1. -/
def rvQuad1 (h : Nat) : Option Nat :=
  let rd := rvGet h 7 5
  let r1 := 8 + rvGet h 7 3
  let imm := rvImmCI h
  match rvGet h 13 3 with
  | 0 => some (rvEncI 0x13 0 rd rd imm)
  | 1 => some (rvEncJ 1 (rvImmCJ h))
  | 2 => some (rvEncI 0x13 0 rd 0 imm)
  | 3 =>
    let sp : Int := signed 10 (rvGet h 12 1 * 512 + rvGet h 6 1 * 16 + rvGet h 5 1 * 64 + rvGet h 3 2 * 128 + rvGet h 2 1 * 32)
    if imm = 0 then none
    else if rd = 2 then some (rvEncI 0x13 0 2 2 sp)
    else some (0x37 + rd * 2 ^ 7 + unsigned 20 imm * 2 ^ 12)
  | 4 => rvQuad1Alu h
  | 5 => some (rvEncJ 0 (rvImmCJ h))
  | 6 => some (rvEncB 0 r1 (rvImmCB h))
  | _ => some (rvEncB 1 r1 (rvImmCB h))

/-- Quadrant 2. -/
def rvQuad2 (h : Nat) : Option Nat :=
  let rd := rvGet h 7 5
  let r2 := rvGet h 2 5
  match rvGet h 13 3, rvGet h 12 1 with
  | 0, 0 => some (rvEncI 0x13 1 rd rd r2)
  | 2, b => if rd = 0 then none else some (rvEncI 0x03 2 rd 2 (b * 32 + rvGet h 4 3 * 4 + rvGet h 2 2 * 64 : Nat))
  | 4, 0 => if r2 ≠ 0 then some (rvEncR 0 0 rd 0 r2) else if rd = 0 then none else some (rvEncI 0x67 0 0 rd 0)
  | 4, _ => if r2 ≠ 0 then some (rvEncR 0 0 rd rd r2) else if rd = 0 then some 0x00100073 else some (rvEncI 0x67 0 1 rd 0)
  | 6, _ => some (rvEncSw 2 r2 (rvGet h 9 4 * 4 + rvGet h 7 2 * 64))
  | _, _ => none

/-- The word that a 16-bit instruction stands for; none for a reserved one. -/
def rvExpand (h : Nat) : Option Nat :=
  match h % 4 with
  | 0 => rvQuad0 h
  | 1 => rvQuad1 h
  | _ => rvQuad2 h

/-! ## PMP (R257): 16 entries, 64 bytes at least -/

/-- The configuration byte of entry `i`. -/
def Newt.pmpCfg (c : Newt) (i : Nat) : Nat := (c.csrOf (0x3A0 + i / 4)).get (8 * (i % 4)) 8

/-- The address register of entry `i`. -/
def Newt.pmpAddr (c : Newt) (i : Nat) : Nat := (c.csrOf (0x3B0 + i)).toNat

/-- The bytes that entry `i` covers: from the first, up to but not including the second. -/
def Newt.pmpRange (c : Newt) (i : Nat) : Nat × Nat :=
  match c.pmpCfg i / 8 % 4 with
  | 1 => (if i = 0 then 0 else c.pmpAddr (i - 1) / 16 * 64, c.pmpAddr i / 16 * 64)
  | 3 =>
    let v := c.pmpAddr i ||| 7
    let t := ((List.range 33).find? (fun j => !natBit v j)).getD 32
    (v / 2 ^ (t + 1) * 2 ^ (t + 3), v / 2 ^ (t + 1) * 2 ^ (t + 3) + 2 ^ (t + 3))
  | _ => (0, 0)

/-- An access of `n` bytes at `a` passes PMP; `p` is its permission: 0 read, 1 write, 2 execute. -/
def Newt.pmpOk (c : Newt) (user : Bool) (a n p : Nat) : Bool :=
  match (List.range 16).find? (fun i => decide ((c.pmpRange i).1 < (c.pmpRange i).2 ∧ a < (c.pmpRange i).2 ∧ (c.pmpRange i).1 < a + n)) with
  | some i =>
    decide ((c.pmpRange i).1 ≤ a ∧ a + n ≤ (c.pmpRange i).2) && ((!user && !natBit (c.pmpCfg i) 7) || natBit (c.pmpCfg i) p)
  | none => !user

/-- A data access is made in user mode: in user mode, or with MPRV set and MPP user. -/
def Newt.dataUser (c : Newt) : Bool := c.user || ((c.csrOf 0x300).bit 17 && decide ((c.csrOf 0x300).get 11 2 = 0))

/-! ## Traps -/

/-- A trap is taken: mepc, mcause and mtval, the interrupt stack of mstatus, machine mode, and the handler. -/
def Newt.trap (c : Newt) (irq : Bool) (cause tval : Nat) : Newt :=
  let st := c.csrOf 0x300
  let st' := ((st.putBit 7 (st.bit 3)).putBit 3 false).put 11 2 (if c.user then 0 else 3)
  let tv := c.csrOf 0x305
  let base := tv &&& ~~~(3 : Word)
  let c := (((c.setCsr 0x341 c.pc).setCsr 0x342 (BitVec.ofNat 32 ((if irq then 2 ^ 31 else 0) + cause))).setCsr 0x343
    (BitVec.ofNat 32 tval)).setCsr 0x300 st'
  { c with user := false, wait := false, pc := if irq && tv.bit 0 then base + BitVec.ofNat 32 (4 * cause) else base }

/-- MRET. -/
def Newt.mret (c : Newt) : Newt :=
  let st := c.csrOf 0x300
  let toUser := decide (st.get 11 2 = 0)
  let st' := ((st.putBit 3 (st.bit 7)).putBit 7 true).put 11 2 0
  { c.setCsr 0x300 (if toUser then st'.putBit 17 false else st') with user := toUser, pc := c.csrOf 0x341 }

/-! ## CSRs -/

/-- What a write of a CSR that is held as a register leaves in it, from the value written and the value held. -/
def csrLegal (n : Nat) (v old : Word) : Word :=
  match n with
  | 0x300 => Word.merge 0x00220088 v (old.put 11 2 (if v.get 11 2 = 3 then 3 else if v.get 11 2 = 0 then 0 else old.get 11 2))
  | 0x304 => v &&& 0x00010880
  | 0x305 => if v.bit 1 then (v &&& ~~~(3 : Word)) ||| (old &&& 3) else v
  | 0x306 => v &&& 7
  | 0x320 => v &&& 5
  | 0x341 => v &&& ~~~(1 : Word)
  | _ => v

/-- One configuration byte of PMP written: a locked one stays, and a reserved one (W without R, NA4 below the granularity) is not taken. -/
def pmpByte (v old : Nat) : Nat :=
  if natBit old 7 || (natBit v 1 && !natBit v 0) || decide (v / 8 % 4 = 2) then old else v &&& 0x9F

/-- A write of a PMP CSR. -/
def Newt.pmpWrite (c : Newt) (n : Nat) (v : Word) : Newt :=
  if n < 0x3B0 then
    let old := c.csrOf n
    c.setCsr n ((List.range 4).foldl (fun (w : Word) j => w.put (8 * j) 8 (pmpByte (v.get (8 * j) 8) (old.get (8 * j) 8))) 0)
  else
    let i := n - 0x3B0
    let next := c.pmpCfg (i + 1)
    let tor := decide (i < 15) && natBit next 7 && decide (next / 8 % 4 = 1)
    if natBit (c.pmpCfg i) 7 || tor then c else c.setCsr n v

/-- A counter with one half written. -/
def halfPut (x : Nat) (hi : Bool) (v : Word) : Nat := if hi then v.toNat * 2 ^ 32 + x % 2 ^ 32 else x / 2 ^ 32 * 2 ^ 32 + v.toNat

/-- A write of CSR `n`; one that holds nothing to write is left alone. -/
def Newt.csrWrite (c : Newt) (n : Nat) (v : Word) : Newt :=
  if n = 0xB00 ∨ n = 0xB80 then { c with cycle := halfPut c.cycle (n = 0xB80) v }
  else if n = 0xB02 ∨ n = 0xB82 then { c with instret := halfPut c.instret (n = 0xB82) v }
  else if (0x3A0 ≤ n ∧ n < 0x3A4) ∨ (0x3B0 ≤ n ∧ n < 0x3C0) then c.pmpWrite n v
  else if [0x300, 0x304, 0x305, 0x306, 0x320, 0x340, 0x341, 0x342, 0x343].contains n then c.setCsr n (csrLegal n v (c.csrOf n))
  else c

/-- The value of CSR `n`, where it is one that a processor holds by itself; none where there is no such CSR. -/
def Newt.csrRead (c : Newt) (n : Nat) : Option Word :=
  if [0x300, 0x304, 0x305, 0x306, 0x320, 0x340, 0x341, 0x342, 0x343].contains n then some (c.csrOf n)
  else if 0x3A0 ≤ n ∧ n < 0x3A4 then some (c.csrOf n)
  else if 0x3B0 ≤ n ∧ n < 0x3C0 then
    some (if c.pmpCfg (n - 0x3B0) / 8 % 4 = 3 then c.csrOf n ||| 7 else c.csrOf n &&& ~~~(15 : Word))
  else if n = 0xB00 ∨ n = 0xC00 then some (BitVec.ofNat 32 c.cycle)
  else if n = 0xB80 ∨ n = 0xC80 then some (BitVec.ofNat 32 (c.cycle / 2 ^ 32))
  else if n = 0xB02 ∨ n = 0xC02 then some (BitVec.ofNat 32 c.instret)
  else if n = 0xB82 ∨ n = 0xC82 then some (BitVec.ofNat 32 (c.instret / 2 ^ 32))
  else if n = 0x301 then some 0x40101105
  else if n = 0x30A ∨ n = 0x31A ∨ n = 0x310 ∨ (0x323 ≤ n ∧ n < 0x340) ∨ (0xB03 ≤ n ∧ n < 0xB20) ∨ (0xB83 ≤ n ∧ n < 0xBA0) ∨ (0xF11 ≤ n ∧ n < 0xF14) ∨ n = 0xF15 then some 0
  else none

end Sys2Proof.Machine
end

