-- ==== Sys2Proof/Machine/Newt.lean ====
section
/-! DEFINITION. The Newt cores at work (R257–R263): the address map, loads, stores and atomics, the instruction cache, CSR accesses, one
instruction, and what the core clock brings while no command waits (log entry 100). -/

namespace Sys2Proof.Machine

/-- The processor of core `k`. -/
def Device.cpu (d : Device) (k : Nat) : Newt := (d.coreOf k).cpu
/-- The processor of core `k` changed. -/
def Device.modCpu (d : Device) (k : Nat) (f : Newt → Newt) : Device := d.modCore k (fun c => { c with cpu := f c.cpu })

/-! ## The address map (R258) -/

/-- Where an access goes: SRAM by its address in the site complex, the core port, register space, vector memory, or nowhere. -/
inductive CorePlace where
  | sram (a : Nat)
  | port (o : Nat)
  | reg (o : Nat)
  | vec (a : Nat)
  | nowhere
deriving DecidableEq, Repr

/-- The access of `n` bytes at `a` lies in `[lo, hi)`. -/
def inRange (a n lo hi : Nat) : Bool := decide (lo ≤ a ∧ a + n ≤ hi)

/-- Where an access of core `k` to `n` bytes at `a` goes. -/
def Device.corePlace (d : Device) (k a n : Nat) : CorePlace :=
  let word := decide (n = 4 ∧ a % 4 = 0)
  if inRange a n 0 0x40000 then .sram (0x4000000 + 0x40000 * k + a)
  else if inRange a n 0x2000000 0x2000100 then (if word then .port (a - 0x2000000) else .nowhere)
  else if inRange a n 0x4000000 0x4400000 || inRange a n 0x10000000 0x10800000 then .sram a
  else if inRange a n 0x40000000 0x41000000 then (if word then .reg (a - 0x40000000) else .nowhere)
  else if inRange a n 0x80000000 0x90000000 then .vec (d.fld (Reg.NCP_VMWIN0 k) 0 8 * 2 ^ 28 + (a - 0x80000000))
  else if inRange a n 0x90000000 0xA0000000 then .vec (d.fld (Reg.NCP_VMWIN1 k) 0 8 * 2 ^ 28 + (a - 0x90000000))
  else .nowhere

/-! ## SRAM (R259, R260) -/

/-- What SECDED finds in an access to SRAM at `a`: a corrected error is repaired and counted, an uncorrectable one stays in its word. -/
def Device.sramEcc (d : Device) (a : Nat) (e : Ecc) : Device :=
  match e with
  | .good => d
  | .corrected => d.sramFixed
  | .bad => d.modDisp (fun c => { c with sramBad := Tab.set (fun _ => false) c.sramBad (a / 8) true })

/-- A word of the `n` bytes of SRAM at `a` holds an uncorrectable error. -/
def Device.sramUE (d : Device) (a n : Nat) : Bool :=
  (List.range ((a + n - 1) / 8 + 1 - a / 8)).any (fun i => Tab.get (fun _ => false) d.disp.sramBad (a / 8 + i))

/-- An uncorrectable error met in SRAM: its log entry (R260, R383). -/
def Device.sramLog (d : Device) : Device := d.logWith 0x000B0000 0x0061 0 0

/-- Corrected errors of the last second are summarised in one log entry (R260, R383). -/
def Device.sramReport (d : Device) : Device :=
  let sec := d.ttime / (1000000 * usTicks)
  if d.disp.sramCe = 0 ∨ sec = d.disp.sramSec then d
  else (d.logWith 0x000B0000 0x0060 32 d.disp.sramCe).modDisp (fun c => { c with sramCe := 0, sramSec := sec })

/-- Bytes of SRAM stored: reservations of other cores on them are lost (R259). -/
def Device.sramStore (d : Device) (k a n v : Nat) : Device :=
  let d := { d with sram := memPut d.sram a v n }
  d.forN 16 (fun d j =>
    match (d.cpu j).resv with
    | some r => if j ≠ k ∧ r < a + n ∧ a < r + 4 then d.modCpu j (fun c => { c with resv := none }) else d
    | none => d)

/-! ## Loads and stores (R257–R260, R217, R102) -/

/-- The access of core `k` to the `n` bytes of vector memory at `v` was abandoned (R222). -/
def Device.coreLost (d : Device) (k v n : Nat) (store : Bool) : Bool :=
  (d.coreOf k).lost.any (fun e => decide (v / 8 ≤ e.1 ∧ e.1 ≤ (v + n - 1) / 8) && e.2 == store)

/-- The core has been told of it. -/
def Device.coreFound (d : Device) (k v n : Nat) (store : Bool) : Device :=
  d.modCore k (fun c => { c with lost := c.lost.filter (fun e => !(decide (v / 8 ≤ e.1 ∧ e.1 ≤ (v + n - 1) / 8) && e.2 == store)) })

/-- A load of `n` bytes at `a` by core `k`; none for an access fault. `e` is what SECDED finds in SRAM or a window. -/
def Device.coreLoad (d : Device) (k a n : Nat) (e : Ecc) : Device × Option Nat :=
  match d.corePlace k a n with
  | .sram s =>
    let d := d.sramEcc s e
    if d.sramUE s n then (d.sramLog, none) else (d, some (memGet d.sram s n))
  | .port o => (let r := d.readAt (1 + k) (0x1000000 + 0x1000 * k + o); (r.1, r.2.map (·.toNat)))
  | .reg o => (let r := (d.winEcc (1 + k) o e).readAt (1 + k) o; (r.1, r.2.map (·.toNat)))
  | .vec v =>
    if !d.memThere v n then (d, none)
    else if d.coreLost k v n false then (d.coreFound k v n false, none)
    else
      let d := d.touchRows v n
      let bad := d.badWords v n
      if bad.isEmpty then (d, some (d.memRead v n)) else (bad.foldl (fun d w => d.memUEfree w 2 noStream) d, none)
  | .nowhere => (d, none)

/-- A store of `n` bytes at `a` by core `k`, and whether it was made; it is refused with an access fault. -/
def Device.coreStore (d : Device) (k a n v : Nat) (e : Ecc) : Device × Bool :=
  match d.corePlace k a n with
  | .sram s =>
    let d := d.sramEcc s e
    if d.sramUE s n then (d.sramLog, false) else (d.sramStore k s n v, true)
  | .port o => (let r := d.writeAt (1 + k) (0x1000000 + 0x1000 * k + o) v; (r.dev, !r.error))
  | .reg o => (let r := d.writeAt (1 + k) o v; (r.dev, !r.error))
  | .vec w =>
    if !d.memThere w n then (d, false)
    else if d.coreLost k w n true then
      let x := d.draw
      (((x.2.memStore w n (x.1 % 2 ^ (8 * n))).hashStale).coreFound k w n true, false)
    else match d.overActive w n with
      | some s => (d.event (Page.STR s) 6, false)
      | none =>
        let d := d.touchRows w n
        let bad := d.badWords w n
        if bad.isEmpty then ((d.memStore w n v).hashStale, true) else (bad.foldl (fun d b => d.memUEfree b 3 noStream) d, false)
  | .nowhere => (d, false)

/-- How a core's step ends: with its new state, or with an exception of a cause and a value. -/
abbrev CoreRes := Device × Option (Nat × Nat)

/-- Core `k` goes on at `pc` with `v` in `rd`. -/
def Device.corePut (d : Device) (k rd : Nat) (v pc : Word) : CoreRes := (d.modCpu k (fun c => { c.wx rd v with pc := pc }), none)

/-- A loaded value extended as the function code says. -/
def rvExtend (f3 v : Nat) : Word :=
  match f3 with
  | 0 => rvWord (signed 8 v)
  | 1 => rvWord (signed 16 v)
  | _ => BitVec.ofNat 32 v

/-- The bytes of a load or store; none for a reserved function code. -/
def rvSize (f3 : Nat) (store : Bool) : Option Nat :=
  match f3 with
  | 0 => some 1
  | 1 => some 2
  | 2 => some 4
  | 4 => if store then none else some 1
  | 5 => if store then none else some 2
  | _ => none

/-- LB, LH, LW, LBU, LHU. -/
def Device.rvLoad (d : Device) (k w : Nat) (next : Word) (e : Ecc) : CoreRes :=
  let c := d.cpu k
  let a := (c.rx (rvRs1 w) + rvWord (rvImmI w)).toNat
  match rvSize (rvF3 w) false with
  | none => (d, some (2, w))
  | some n =>
    if !c.pmpOk c.dataUser a n 0 then (d, some (5, a))
    else match d.coreLoad k a n e with
      | (d, some v) => d.corePut k (rvRd w) (rvExtend (rvF3 w) v) next
      | (d, none) => (d, some (5, a))

/-- SB, SH, SW. -/
def Device.rvStore (d : Device) (k w : Nat) (next : Word) (e : Ecc) : CoreRes :=
  let c := d.cpu k
  let a := (c.rx (rvRs1 w) + rvWord (rvImmS w)).toNat
  match rvSize (rvF3 w) true with
  | none => (d, some (2, w))
  | some n =>
    if !c.pmpOk c.dataUser a n 1 then (d, some (7, a))
    else
      let r := d.coreStore k a n ((c.rx (rvRs2 w)).toNat % 2 ^ (8 * n)) e
      if r.2 then r.1.corePut k 0 0 next else (r.1, some (7, a))

/-- LR, SC and the AMOs (R259): on SRAM, in one step of their core; elsewhere an access fault and no effect, aligned or not. -/
def Device.rvAtomic (d : Device) (k w : Nat) (next : Word) (e : Ecc) : CoreRes :=
  let c := d.cpu k
  let a := (c.rx (rvRs1 w)).toNat
  let b := c.rx (rvRs2 w)
  let f5 := rvGet w 27 5
  let lr := decide (f5 = 2)
  let legal := decide (rvF3 w = 2) && (if lr then decide (rvRs2 w = 0) else decide (f5 = 3) || (rvAmo f5 0 0).isSome)
  let pass := (lr || f5 = 3 || c.pmpOk c.dataUser a 4 0) && c.pmpOk c.dataUser a 4 (if lr then 0 else 1)
  if !legal then (d, some (2, w))
  else match d.corePlace k a 4 with
    | .sram s =>
      let d := if a % 4 = 0 && pass then d.sramEcc s e else d
      if a % 4 ≠ 0 then (d, some (if lr then 4 else 6, a))
      else if !pass then (d, some (if lr then 5 else 7, a))
      else if f5 = 3 ∧ c.resv ≠ some s then (d.modCpu k (fun c => { c with resv := none })).corePut k (rvRd w) 1 next
      else if d.sramUE s 4 then (d.sramLog, some (if lr then 5 else 7, a))
      else
        let m : Word := BitVec.ofNat 32 (memGet d.sram s 4)
        if lr then (d.modCpu k (fun c => { c with resv := some s })).corePut k (rvRd w) m next
        else if f5 = 3 then
          ((d.sramStore k s 4 b.toNat).modCpu k (fun c => { c with resv := none })).corePut k (rvRd w) 0 next
        else (d.sramStore k s 4 ((rvAmo f5 m b).getD m).toNat).corePut k (rvRd w) m next
    | _ => (d, some (if lr then 5 else 7, a))

/-! ## CSRs and SYSTEM (R257, R262, R263) -/

/-- The value of CSR `n` of core `k`; none where there is none, or where user mode may not read it. -/
def Device.csrRead (d : Device) (k n : Nat) : Option Word :=
  let c := d.cpu k
  let counter := decide (0xC00 ≤ n ∧ n ≤ 0xC02) || decide (0xC80 ≤ n ∧ n ≤ 0xC82)
  if c.user && !(counter && (c.csrOf 0x306).bit (n % 4)) then none
  else if n = 0x344 then some (BitVec.ofNat 32 (d.mip k))
  else if n = 0xC01 then some (BitVec.ofNat 32 d.timeNs)
  else if n = 0xC81 then some (BitVec.ofNat 32 (d.timeNs / 2 ^ 32))
  else if n = 0xF14 then some (BitVec.ofNat 32 k)
  else c.csrRead n

/-- CSRRW, CSRRS, CSRRC and their immediate forms: the source is a register or its number. -/
def Device.rvCsr (d : Device) (k w : Nat) (next : Word) : CoreRes :=
  let n := rvGet w 20 12
  let src := if rvGet w 14 1 = 1 then BitVec.ofNat 32 (rvRs1 w) else (d.cpu k).rx (rvRs1 w)
  let op := rvGet w 12 2
  let writes := decide (op = 1) || decide (rvRs1 w ≠ 0)
  match d.csrRead k n with
  | none => (d, some (2, w))
  | some v =>
    if writes && decide (0xC00 ≤ n) then (d, some (2, w))
    else
      let new := if op = 1 then src else if op = 2 then v ||| src else v &&& ~~~src
      (if writes then d.modCpu k (fun c => c.csrWrite n new) else d).corePut k (rvRd w) v next

/-- ECALL, EBREAK, MRET, WFI and the CSR instructions. -/
def Device.rvSystem (d : Device) (k w : Nat) (next : Word) : CoreRes :=
  let c := d.cpu k
  if rvF3 w = 4 then (d, some (2, w))
  else if rvF3 w ≠ 0 then d.rvCsr k w next
  else if w = 0x00000073 then (d, some (if c.user then 8 else 11, 0))
  else if w = 0x00100073 then (d, some (3, c.pc.toNat))
  else if w = 0x30200073 ∧ !c.user then (d.modCpu k Newt.mret, none)
  else if w = 0x10500073 ∧ !(c.user && (c.csrOf 0x300).bit 21) then
    ((d.modCpu k (fun c => { c with pc := next, wait := true })).coreWfi k, none)
  else (d, some (2, w))

/-! ## One instruction -/

/-- Executes the 32-bit instruction `w` of core `k`, which took `len` bytes. -/
def Device.rvExec (d : Device) (k w len : Nat) (e : Ecc) : CoreRes :=
  let c := d.cpu k
  let next := c.pc + BitVec.ofNat 32 len
  let a := c.rx (rvRs1 w)
  let b := c.rx (rvRs2 w)
  let f3 := rvF3 w
  let f7 := rvGet w 25 7
  let bad : CoreRes := (d, some (2, w))
  match w % 128 with
  | 0x37 => d.corePut k (rvRd w) (BitVec.ofNat 32 (w / 4096 * 4096)) next
  | 0x17 => d.corePut k (rvRd w) (c.pc + BitVec.ofNat 32 (w / 4096 * 4096)) next
  | 0x6F => d.corePut k (rvRd w) next (c.pc + rvWord (rvImmJ w))
  | 0x67 => if f3 = 0 then d.corePut k (rvRd w) next ((a + rvWord (rvImmI w)) &&& ~~~(1 : Word)) else bad
  | 0x63 =>
    match rvTaken f3 a b with
    | some t => d.corePut k 0 0 (if t then c.pc + rvWord (rvImmB w) else next)
    | none => bad
  | 0x03 => d.rvLoad k w next e
  | 0x23 => d.rvStore k w next e
  | 0x13 =>
    if (f3 = 1 ∧ f7 ≠ 0) ∨ (f3 = 5 ∧ f7 ≠ 0 ∧ f7 ≠ 32) then bad
    else d.corePut k (rvRd w) (rvAlu f3 (f3 = 5 && f7 = 32) a (rvWord (rvImmI w))) next
  | 0x33 =>
    if f7 = 1 then d.corePut k (rvRd w) (rvMul f3 a b) next
    else if f7 = 0 ∨ (f7 = 32 ∧ (f3 = 0 ∨ f3 = 5)) then d.corePut k (rvRd w) (rvAlu f3 (f7 = 32) a b) next
    else bad
  | 0x2F => d.rvAtomic k w next e
  | 0x0F =>
    if f3 = 0 then d.corePut k 0 0 next
    else if f3 = 1 then (d.modCpu k (fun c => { c with icache := [] })).corePut k 0 0 next
    else bad
  | 0x73 => d.rvSystem k w next
  | _ => bad

/-! ## Fetch (R257–R260) -/

/-- Halfwords that the instruction cache of 16 KiB holds. -/
def icacheHalves : Nat := 8192

/-- A halfword fetched at `a`; none for an access fault. Site SRAM and the windows go through the instruction cache: where it holds another
value than memory, either may be fetched until FENCE.I (R259). -/
def Device.coreFetch (d : Device) (k a : Nat) (e : Ecc) : Device × Option Nat :=
  let c := d.cpu k
  let place := d.corePlace k a 2
  let cached := decide (0x10000000 ≤ a)
  let held := (c.icache.find? (fun x => cached && decide (x.1 = a))).map (·.2)
  match place with
  | .port _ | .reg _ | .nowhere => (d, none)
  | _ =>
    if !c.pmpOk c.user a 2 2 then (d, none)
    else
      let now := match place with
        | .sram s => memGet d.sram s 2
        | .vec v => d.memRead v 2
        | _ => 0
      let stale := match held with
        | some h => decide (h ≠ now)
        | none => false
      let x := if stale then d.draw else (1, d)
      match held with
      | some h => if x.1 % 2 = 0 ∨ !stale then (x.2, some h) else (x.2.coreLoad k a 2 e)
      | none =>
        match d.coreLoad k a 2 e with
        | (d, some v) =>
          (if cached then d.modCpu k (fun c => { c with icache := ((a, v) :: c.icache).take icacheHalves }) else d, some v)
        | r => r

/-- Core `k` takes exception `cause`. -/
def Device.coreTrap (d : Device) (k cause tval : Nat) : Device := d.modCpu k (fun c => c.trap false cause tval)

/-- A word writes instret. -/
def writesInstret (w : Nat) : Bool := w % 128 = 0x73 && rvF3 w ≠ 0 && (rvGet w 20 12 = 0xB02 || rvGet w 20 12 = 0xB82)

/-- Core `k` executes the instruction fetched, and counts it where it retires. -/
def Device.coreRetire (d : Device) (k w len : Nat) (e : Ecc) : Device :=
  match d.rvExec k w len e with
  | (d, none) =>
    if writesInstret w || ((d.cpu k).csrOf 0x320).bit 2 then d else d.modCpu k (fun c => { c with instret := (c.instret + 1) % 2 ^ 64 })
  | (d, some x) => d.coreTrap k x.1 x.2

/-- Core `k` fetches one instruction and executes it; `ef` and `ed` are what SECDED finds in SRAM in its fetch and its data access. -/
def Device.coreRun (d : Device) (k : Nat) (ef ed : Ecc) : Device :=
  let pc := (d.cpu k).pc.toNat
  match d.coreFetch k pc ef with
  | (d, none) => d.coreTrap k 1 pc
  | (d, some h) =>
    if h % 4 ≠ 3 then
      match rvExpand h with
      | some w => d.coreRetire k w 2 ed
      | none => d.coreTrap k 2 h
    else
      match d.coreFetch k ((pc + 2) % 2 ^ 32) ef with
      | (d, none) => d.coreTrap k 1 ((pc + 2) % 2 ^ 32)
      | (d, some g) => d.coreRetire k (h + g * 2 ^ 16) 4 ed

/-- The interrupt that core `k` takes among those pending and enabled: external, timer, then TASK. -/
def coreIrq (p : Nat) : Nat := if natBit p 11 then 11 else if natBit p 7 then 7 else 16

/-- What SECDED finds in one access, from a free value. -/
def freeEcc (x : Nat) : Ecc := if x % 3 = 0 then .good else if x % 3 = 1 then .corrected else .bad

/-- One core clock of core `k` (R257, R262): while it is awake it counts the clock, goes on waiting in WFI, takes an interrupt, or executes one
instruction. -/
def Device.coreClock (d : Device) (k : Nat) : Device :=
  if !d.coreAwake k then d
  else
    let d := if ((d.cpu k).csrOf 0x320).bit 0 then d else d.modCpu k (fun c => { c with cycle := (c.cycle + 1) % 2 ^ 64 })
    let p := d.irqs k
    let c := d.cpu k
    if c.wait ∧ p = 0 then d
    else if p ≠ 0 ∧ (c.user ∨ (c.csrOf 0x300).bit 3) then d.modCpu k (fun c => c.trap true (coreIrq p) 0)
    else
      let x := d.draw
      (x.2.modCpu k (fun c => { c with wait := false })).coreRun k (freeEcc x.1) (freeEcc (x.1 / 3))

/-- One step of the device while no command waits: a clock of tester time, a core clock of every core, and the report of corrected SRAM
errors (log entries 5, 100). -/
def Device.clock (d : Device) : Device := (d.idle.prbsClock.forN 16 (fun d k => d.coreClock k)).sramReport

end Sys2Proof.Machine
end

