-- ==== Sys2Proof/Machine/Balls.lean ====
section
/-! DEFINITION. What the F256 drives at its output balls (R35, R117, R350, R355, R395, R434, R435, R440, R442). -/

namespace Sys2Proof.Machine

/-- MARKOUT: the OR over the streams of their MARK terms as STR_MARKSEL routes them (R117). -/
def Device.markOut (d : Device) : Nat :=
  (List.range 16).foldl (fun v s => v ||| ((d.strOf s).mark &&& d.fld (Reg.STR_MARKSEL s) 0 8)) 0

/-- A number for each output ball. -/
def Ball.number : Ball → Nat
  | .chDen n => 2 * n
  | .chDhi n => 2 * n + 1
  | .trigout k => 512 + k
  | .markout k => 520 + k
  | .tstrobe k => 528 + k
  | .guardOut k => 532 + k
  | .pebCs port cs => 540 + 4 * port + cs
  | .twinAct => 572
  | .safeN => 573
  | .alertN => 574
  | .pebSck port => 575 + port
  | .pebMosi port => 583 + port
  | .flCs => 591

/-- A ball of the VAUX bank (R435); it works with VIO off. -/
def Ball.vaux : Ball → Bool
  | .safeN | .alertN | .flCs => true
  | _ => false

/-- What the device drives at a ball whose bank is powered: a level, or nothing for an open-drain output that is released. Channels are as
their placed events leave them; PEBUS and the flash port as they are between transfers. -/
def Device.drives (d : Device) : Ball → Option Bool
  | .chDen n => some (d.chanOf n).den
  | .chDhi n => some (d.chanOf n).dhi
  | .trigout k => some (Tab.get (fun _ => none) d.trigout k).isSome
  | .markout k => some (natBit d.markOut k)
  | .tstrobe k => some (d.strobeOf k).high
  | .guardOut k => some (natBit d.guardLevels k)
  | .pebCs port cs => some (natBit (d.pebCsN port) cs)
  | .pebSck port => some (d.bit (Reg.PEB_CFG port) 9)
  | .pebMosi _ => some false
  | .twinAct => some (d.bit Reg.TWN_STATUS 10)
  | .flCs => some true
  | .safeN => if d.bit Reg.SAFE_STATUS 28 then some false else none
  | .alertN => if d.alertLow then some false else none

/-- What the transmitter of Trestle lane `i` sends (R291, R294). -/
inductive LaneTx where
  | idle
  | training
  | packets
  | retransmit
  | prbs (bits : Nat)
deriving DecidableEq, Repr

/-- The transmitter of Trestle lane `i` in the state of its link: in TEST as TRS_TEST says (R291, R294); electrical idle while the lanes do not
work (R432, R434). -/
def Device.laneTx (d : Device) (i : Nat) : LaneTx :=
  if !d.laneUp 0 then .idle else
  match d.lst 0 with
  | 3 => if natBit (d.linkOf 0).active i then .packets else .idle
  | 4 => if natBit (d.linkOf 0).locked i then .training else .idle
  | 5 => .idle
  | 6 =>
    if !d.bit Reg.TRS_TEST (16 + i) ∨ d.fld Reg.TRS_TEST 0 2 = 1 then .idle
    else if d.fld Reg.TRS_TEST 0 2 = 2 then .retransmit
    else match d.fld Reg.TRS_TEST 4 3 with
      | 1 => .prbs 7
      | 2 => .prbs 15
      | 3 => .prbs 23
      | 4 => .prbs 31
      | _ => .idle
  | _ => if natBit (d.fld Reg.TRS_CTRL 0 16) i then .training else .idle

/-- The level at an output ball; none where the F256 does not drive it: the VIO bank while VIO is below its range (R35, R395), or HIGHZ. The
boundary instructions drive the boundary register's bit of the ball, whose place the spec does not give (log entry 90). -/
def Device.ball (d : Device) (b : Ball) : Option Bool :=
  if !b.vaux && !d.vioIn then none
  else if d.tap.drives then (if d.tap.ir = 4 then none else some (natBit d.tap.bsr (Config.bsrPlace b.number)))
  else d.drives b

end Sys2Proof.Machine
end

