-- ==== Sys2Proof/Safety.lean ====
section
/-! DEFINITION. The terms in which claims are stated: a command that completes, what it leaves unchanged, who may write a register, and the canonical form
of the sparse tables. -/

namespace Sys2Proof.Machine

/-- The command runs to its end: `exec` answers a next state with the queue as it was, and `P` holds of the device then. -/
def Completes (c : Instr) (s : State) (P : Device → Prop) : Prop :=
  ∃ t, exec c s = .next t ∧ t.pending = s.pending ∧ P t.dev

/-- Every register outside `S` is as it was. -/
def RegsBut (S : Nat → Prop) (d e : Device) : Prop := ∀ a, ¬ S a → e.reg a = d.reg a

/-- Every byte of vector memory is as it was. -/
def MemSame (d e : Device) : Prop := ∀ a, memByte e.mem a = memByte d.mem a

/-- Beside registers, only what was sent, the answer of the last access and the interrupt controller's context may differ. -/
def OnlyRegs (d e : Device) : Prop := e = { d with regs := e.regs, out := e.out, last := e.last, intc := e.intc }

/-- A write by `q` of the register at `a` is performed: its page can be reached (R9, R21, R344, R368), is not locked (R417), is not the page of a meter that is lent to the calibration
(R211), the write is not one that a twin pair journals or turns away (R399, R401), and no write of the host waits before it for room in the journal (R399). -/
def Device.admitsWrite (d : Device) (q : Requester) (a : Nat) : Bool :=
  match pageAt a with
  | some (p, i) =>
    d.reachable (reqNo q) (some p) && decide (d.reg (Reg.PG_LOCK (a - a % 0x1000)) = 0) && !(decide (q = .host) && decide (d.role ≠ 0) && mirrored a) &&
      !(decide (q = .host) && d.hostWaits) && !(p.block = .ivm && decide (a % 0x1000 ≠ 0x48) && d.ivmState i = 4)
  | none => false

/-- A write by `q` of the window word at `a` is performed (R21, R344, R368), is not one that a twin pair journals or turns away (R399, R401), and no write of the host waits
before it for room in the journal (R399). -/
def Device.admitsWindow (d : Device) (q : Requester) (a : Nat) : Bool :=
  d.reachable (reqNo q) none && !(decide (q = .host) && decide (d.role ≠ 0) && mirrored a) && !(decide (q = .host) && d.hostWaits)

/-- The block and the instance of the page that holds the register at `a`. -/
def pageIs (a : Nat) (blk : Block) (i : Nat) : Bool :=
  match pageAt a with
  | some (p, j) => decide (p.block = blk ∧ j = i)
  | none => false

/-- The event bits that the page at `a` defines (R413). -/
def eventsAt (a : Nat) : Nat :=
  match pageAt a with
  | some (p, _) => p.events
  | none => 0

/-- A read by `q` of the register at `a` is performed (R9, R21, R344, R368). -/
def Device.admitsRead (d : Device) (q : Requester) (a : Nat) : Bool :=
  match pageAt a with
  | some (p, _) => d.reachable (reqNo q) (some p)
  | none => false

/-- Nothing in the device waits for time to pass: no result of a cycle or end of a burst is on its way, and no meter collects stamps. A command that moves tester time
then has no effect but its own. -/
def Device.quiet (d : Device) : Bool :=
  d.str.all (fun e => e.2.flights = []) && decide (d.cal.ends = []) && (List.range 32).all (fun i => !(d.ivmMode i = 1 && d.ivmState i = 3))

/-- The command sends `l` on the lanes of the links and nothing else; nothing leaves while VIO is out of its range (R432). -/
def Sent (d e : Device) (l : List Out) : Prop := e.out = if d.vioIn then l else []

/-- The same of a command that moves tester time: what has become due meanwhile may follow. -/
def SentFirst (d e : Device) (l : List Out) : Prop := ∃ more, e.out = (if d.vioIn then l else []) ++ more ∧ (d.quiet = true → more = [])

/-- TTIME at which a frame crosses the ball, where the command brings `t` (R322). -/
def Device.stampAt (d : Device) (t : BitVec 64) : Nat := (d.reach t.toNat).ttime

/-- TTIME at which a frame leaves, where the command brings `t`, after one that arrived at `a` (R322). -/
def Device.stampThen (d : Device) (a t : BitVec 64) : Nat := ((d.reach a.toNat).reach t.toNat).ttime

/-- A further log entry is written in this second (R384). -/
def Device.logRoom (d : Device) : Bool := !(decide (d.ttime / (usTicks * 1000000) = d.logSec) && decide (100 ≤ d.logCnt))

/-- No access of the host waits for room in the journal, or none of them can go on (R399). -/
def Device.hostStill (d : Device) : Bool := d.twin.waiting.isEmpty || (decide (d.role = 5) && d.journalFull)

/-- The twin link is ACTIVE, and no access of the host waits for a frame on it (R399). -/
def Device.twinHears (d : Device) : Bool := d.twinLive && d.twin.waiting.isEmpty

/-- The spans that a hash check reads lie in memory that answers, and hold no uncorrectable word (R217, R221, R402). -/
def Device.hashClean (d : Device) : Bool :=
  d.hashSpans.all (fun i => decide (d.spanSize64 i = 0) || (d.memThere (d.spanAddr i) (d.spanSize64 i * 64) && (d.badWords (d.spanAddr i) (d.spanSize64 i * 64)).isEmpty))

/-- The sparse tables of registers, of vector memory and of SRAM are in canonical form. -/
def Device.canon (d : Device) : Bool := Tab.wf resetWord d.regs && Tab.wf memDefault d.mem && Tab.wf memDefault d.sram

/-- Vector memory is in canonical form (R216). -/
def Memory.wf (m : List Host.Cell) : Bool := Tab.wf memDefault m

/-! ## The micro-engine -/

/-- The instruction at STR_PC of stream `s`. -/
def Device.insWord (d : Device) (s : Nat) : Nat := d.seqWord (d.strPc s)

/-- The micro-engine of stream `s` executes instructions, the next one has opcode `op` and a condition that holds, its words in the sequence store have no uncorrectable error, and
its dispatch entry is VALID and has none (R97, R103, R128). -/
def Device.dispatches (d : Device) (s op : Nat) : Bool :=
  decide ((d.strOf s).eng = .running) && !d.winUE (seqAddr (d.strPc s)) && decide (insField (d.insWord s) 52 4 < 10) &&
  d.condHolds s (insField (d.insWord s) 52 4) && decide (insOp (d.insWord s) = op) && !d.csUE (d.entryOf s op) && natBit (d.csWord (d.entryOf s op)) 31

/-- The next instruction of stream `s` is one of the vendor's, with opcode `op` and reserved fields of 0, that is dispatched; its words and those of its routine, as `ft` tells, are
fetched without an error; the request queue and the stream buffer have room (R97, R98, R103, R128, R137). -/
def Device.executes (d : Device) (s : Nat) (ft : Fetched) (op : Nat) : Bool :=
  d.dispatches s op && decide (op < 0xC0) && (insUsed op).isSome && !insReserved (d.insWord s) ((insUsed op).getD 0) && !d.noRoom s &&
    !ft.ue && decide (ft.word = .good) &&
    (d.routineWords s (d.csWord (d.entryOf s op) % 2 ^ 14) ft.routine).all (fun e => decide (e.2 = .good) && !d.csUE e.1)

/-- The context of stream `s` once the next instruction is read: IR holds it, the temporaries are 0, the count of micro-operations starts again (R128). -/
def Device.irLoaded (d : Device) (s : Nat) : StrCtx :=
  { d.strOf s with micro :=
      { (d.strOf s).micro with active := false, ir := d.insWord s, addr := d.strPc s, stack := [], t := List.replicate 8 0, lim := 0 } }

/-- The context of stream `s` once the next instruction, one of the vendor's, is dispatched: uPC is the ENTRY of its dispatch entry, whose routine acts as the instruction's rule
states; it leaves the micro-engine's flags open (R128, R146). -/
def Device.fetched (d : Device) (s : Nat) : StrCtx :=
  { d.irLoaded s with micro :=
      { (d.irLoaded s).micro with upc := d.csWord (d.entryOf s (insOp (d.insWord s))) % 2 ^ 14, flagsOk := false } }

/-- Stream `s` has the context `c` then, and STR_PC is `pc`. Nothing changes beside that context and the registers in `S`: every other register, every other stream, vector memory
and every other engine are as they were. -/
def StreamTo (d e : Device) (s pc : Nat) (S : Nat → Prop) (c : StrCtx) : Prop :=
  e.strOf s = c ∧ e.strPc s = pc ∧ (∀ j, j ≠ s → e.strOf j = d.strOf j) ∧ RegsBut (fun a => a = Reg.STR_PC s ∨ S a) d e ∧
  e = { d with regs := e.regs, str := e.str, out := e.out, intc := e.intc }

/-- The micro-engine of stream `s` is in a customer routine, within the bound of micro-operations, and the next one has class `cls` and no uncorrectable error (R128, R129,
R137, R144). -/
def Device.executesMicro (d : Device) (s cls : Nat) : Bool :=
  decide ((d.strOf s).eng = .micro) && decide (12352 ≤ (d.strOf s).micro.upc) && decide ((d.strOf s).micro.upc < 16384) &&
  !d.csUE (d.strOf s).micro.upc && decide ((d.strOf s).micro.lim < 64) && !classReserved cls &&
  decide (d.csWord (d.strOf s).micro.upc / 2 ^ 27 = cls)

/-- The micro-operation at uPC of stream `s`. -/
def Device.microWord (d : Device) (s : Nat) : Nat := d.csWord (d.strOf s).micro.upc

/-- The micro-engine with uPC at the next word and one more micro-operation counted (R129, R144). -/
def Micro.next (m : Micro) : Micro := { m with upc := (m.upc + 1) % 2 ^ 14, lim := m.lim + 1 }

/-- The first item of a request queue is an action at a boundary. -/
def headActs : List QItem → Bool
  | .act _ _ :: _ => true
  | _ => false

/-- A core's access goes to SRAM (R258). -/
def onSram : CorePlace → Bool
  | .sram _ => true
  | _ => false

/-! ## Packets -/

/-- A posted packet with `units` data units has been taken: the next SEQ is expected, and an ACK and its credits are due (R297, R298). -/
def Device.tookPosted (d : Device) (units : Nat) : Device :=
  let t := d.trs
  { d with
    out := []
    trs := { t with
      rxSeq := (t.rxSeq + 1) % 4096
      ackDue := t.ackDue + 1
      grantH := (t.grantH + 1) % 256
      grantU := (t.grantU + units) % 65536
      grantDue := true } }

/-! ## Mailboxes -/

/-- The one request that waits is that of owner `o`, with opcode `op`; Keystone serves it and turns it down for nothing (R387). -/
def Device.carries (d : Device) (o op : Nat) : Bool :=
  decide (d.key.posts = [o]) && d.mbServed && d.key.updating.isNone && decide (d.reqWord o 0 % 65536 = op) && (d.mbRefusal o).isNone

/-- Dword `i` of an owner's response buffer. -/
def Device.rspWord (d : Device) (o i : Nat) : Word := if o = 0 then d.reg (Reg.MGMT_RSP i) else Tab.get (fun _ => (0 : Word)) (d.mbox o).buf (256 + i)

/-- The request of owner `o` in `d` is answered in `e` with a status and a payload: header, payload and state DONE (R387). -/
def Answered (d e : Device) (o status : Nat) (pay : List Word) : Prop :=
  e.key.posts = [] ∧ e.mbState o = 2 ∧ e.rspWord o 0 = BitVec.ofNat 32 (d.reqWord o 0 % 65536 + status * 65536) ∧
  e.rspWord o 1 = BitVec.ofNat 32 (4 * pay.length) ∧ e.rspWord o 2 = BitVec.ofNat 32 (d.reqWord o 2) ∧
  ∀ i < pay.length, e.rspWord o (4 + i) = pay.getD i 0

/-! ## The test port -/

/-- Channel levels after a test instruction that drives no balls: every channel is off where a boundary instruction was in force, else nothing has
changed (R443). -/
def BallsAfter (d e : Device) : Prop :=
  if isBoundary d.tap.ir then ∀ n < 256, (e.chanOf n).den = false ∧ (e.chanOf n).dhi = false else e.chan = d.chan

/-! ## The interrupt controller -/

/-- What the controller's bookkeeping promises (R277, R281): a request that it has seen is asserted, a source that is pending has a PRIO other than 0, and a source that is offered
to a target may be taken by it, or is kept for a core through DOZE and RETAIN (R282). -/
abbrev Device.intcInv (d : Device) : Prop :=
  (∀ n ∈ d.intc.seen, d.srcReq n = true) ∧ (∀ n < 512, natBit d.intc.pend n = true → d.srcPrio n ≠ 0) ∧
  ∀ e ∈ d.intc.offers, d.srcOffer e.1 = some e.2 → d.tgtEligible e.1 e.2 = true ∨ (e.2 < 16 ∧ d.asleep = true ∧ d.tgtAdmits e.1 e.2 = true)

end Sys2Proof.Machine
end

