-- ==== Sys2Proof/Certificates/Slice0/Obligations.lean ====
section
/-! DEFINITION. The statements for the provers: what the commands and the machine do, rule by rule. -/

open Sys2Proof Sys2Proof.Machine

/-! ## Clocks and power (R18–R27, R352, R353, R448) -/

/-- R18, R448: losing and regaining REFCLK and a PLL's lock. A lost REFCLK clears REFOK and every LOCK bit of the PLLs that it feeds and puts the always-on PLL on its
oscillator; a lost TCLK, pier, core or memory PLL is a cause of the safe state. -/
def Obligations.ClocksLostAndRegained : Prop :=
  (∀ s : State, s.dev.bit Reg.CLK_STATUS 7 = true →
    Completes .refclkLoss s (fun e => e.bit Reg.CLK_STATUS 7 = false ∧ e.bit Reg.CLK_STATUS 8 = true ∧
      ∀ k < 5, e.bit Reg.CLK_STATUS k = false)) ∧
  (∀ s : State, Completes .refclkReturn s (fun e => e.bit Reg.CLK_STATUS 7 = true ∧ e.bit Reg.CLK_STATUS 8 = false ∧
    (∀ k < 6, e.bit Reg.CLK_STATUS k = s.dev.bit Reg.CLK_STATUS k) ∧ RegsBut (· = Reg.CLK_STATUS) s.dev e ∧ OnlyRegs s.dev e)) ∧
  (∀ (s : State) (k : Fin 6), s.dev.bit Reg.CLK_STATUS k.val = true →
    Completes (.pllLockLoss k) s (fun e => e.bit Reg.CLK_STATUS k.val = false ∧ e.bit (Reg.PG_EVT_RAW Page.CLK) 0 = true ∧
      (k.val ≤ 1 → ∀ n < 256, (e.chanOf n).den = false) ∧ (k.val ≤ 3 → e.bit Reg.SAFE_CAUSE 7 = true))) ∧
  (∀ (s : State) (k : Fin 6), s.dev.bit Reg.CLK_STATUS k.val = false → (k.val = 5 ∨ s.dev.bit Reg.CLK_STATUS 7 = true) →
    Completes (.pllLock k) s (fun e => e.bit Reg.CLK_STATUS k.val = true))

/-- R22, R24, R25, R27: what an admitted write of PWR_REQ does in each state of the device: it wakes from DOZE or RETAIN, enters DOZE or RETAIN, is refused with the
code of R22, or is held while a transition is in progress.
Readings of the model: log entry 13. -/
def Obligations.PowerRequests : Prop :=
  (∀ (s : State) (q : Requester), s.dev.admitsWrite q Reg.PWR_REQ = true → (s.dev.pwrState = 2 ∨ s.dev.pwrState = 3) →
    Completes (.pwrReqReady q) s (fun e => e.pwrState = 5 ∧ e.pwr.phase = 1 ∧ e.last = ⟨0, false⟩ ∧
      e.pwr.zfill = (if s.dev.pwrState = 3 then some (1 - s.dev.pwr.keep) else none) ∧
      RegsBut (fun a => a = Reg.PWR_REQ ∨ a = Reg.PWR_STATE) s.dev e ∧ MemSame s.dev e)) ∧
  (∀ (s : State) (q : Requester), s.dev.admitsWrite q Reg.PWR_REQ = true → s.dev.pwrState ≤ 1 → s.dev.dozeRefusal = none → s.dev.calState = 0 →
    Completes (.pwrReqDoze q) s (fun e => e.pwrState = 4 ∧ e.pwr.target = 1 ∧ e.last = ⟨0, false⟩ ∧
      RegsBut (fun a => a = Reg.PWR_REQ ∨ a = Reg.PWR_STATE) s.dev e ∧ MemSame s.dev e)) ∧
  (∀ (s : State) (q : Requester) (b : Bool), s.dev.admitsWrite q Reg.PWR_REQ = true → s.dev.pwrState ≤ 1 → s.dev.dozeRefusal = none →
    s.dev.calState = 0 →
    Completes (.pwrReqRetain q b) s (fun e => e.pwrState = 4 ∧ e.pwr.target = 2 ∧ e.pwr.keep = (if b then 1 else 0) ∧ e.last = ⟨0, false⟩ ∧
      RegsBut (fun a => a = Reg.PWR_REQ ∨ a = Reg.PWR_STATE) s.dev e ∧ MemSame s.dev e)) ∧
  (∀ (s : State) (q : Requester) (c : Nat), s.dev.admitsWrite q Reg.PWR_REQ = true → s.dev.pwrState ≤ 1 → s.dev.dozeRefusal = some c →
    Completes (.pwrReqDoze q) s (fun e => e.pwrState = s.dev.pwrState ∧ e.fld Reg.PWR_STATE 8 8 = c ∧
      e.bit (Reg.PG_EVT_RAW Page.PWR) 1 = true)) ∧
  (∀ (s : State) (q : Requester), s.dev.admitsWrite q Reg.PWR_REQ = true → (s.dev.pwrState = 4 ∨ s.dev.pwrState = 5) →
    Completes (.pwrReqDoze q) s (fun e => e.pwr = { s.dev.pwr with held := some 1 } ∧ RegsBut (· = Reg.PWR_REQ) s.dev e))

/-- R19, R24, R27, R352, R353: entry to DOZE or RETAIN ends with every unit asleep, the channels off and three PLLs stopped; the stack that RETAIN lost is zero-filled on the way back; the step
governor begins the wake of the unit at the head of its queue and raises GATE_DONE once the queue is empty, and a unit whose wake completes is awake. PWR_PGATE sets the gate of every pier that is not assigned to a stream and clears any;
PWR_SGATE sets the gate of a stack that no admission charges, that holds no installed region, and with no DMA in progress.
Readings of the model: log entries 15 and 128. -/
def Obligations.PowerSteps : Prop :=
  (∀ s : State, s.dev.pwrState = 4 → s.dev.pwr.held = none →
    Completes .powerEntryDone s (fun e => e.pwrState = (if s.dev.pwr.target = 2 then 3 else 2) ∧ e.bit (Reg.PG_EVT_RAW Page.PWR) 0 = true ∧
      (∀ n < 256, (e.chanOf n).den = false) ∧ (∀ u < 48, e.unitAwake u = false) ∧ e.pwr.queue = [] ∧ e.pwr.waking = [] ∧
      (∀ k < 4, k ≠ 2 → e.bit Reg.CLK_STATUS k = false) ∧
      (s.dev.pwr.target = 2 → e.fld Reg.PWR_STATE 16 1 = s.dev.pwr.keep % 2 ∧ e.bit Reg.MEM_STATUS (8 + (1 - s.dev.pwr.keep)) = false))) ∧
  (∀ (s : State) (k : Nat), k < 2 → s.dev.pwr.zfill = some k → 2 ≤ s.dev.pwr.phase →
    Completes .retainZeroFillDone s (fun e => e.pwr.zfill = none ∧ e.bit Reg.MEM_STATUS (8 + k) = true ∧
      (∀ j < 16, e.fld (Reg.MCH_STATUS (16 * k + j)) 4 2 = (if s.dev.unitGated (16 * k + j) then 2 else 1)) ∧ MemSame s.dev e)) ∧
  (∀ (s : State) (u : Nat) (rest : List Nat), s.dev.pwr.queue = u :: rest →
    Completes .governorAdmit s (fun e => e.pwr.queue = rest ∧ e.pwr.waking = s.dev.pwr.waking ++ [u] ∧ e.pwr.lastAdm = e.ttime ∧
      e.fld Reg.PWR_GOVQ 16 6 = rest.length % 64 ∧ e.fld Reg.PWR_GOVQ 0 6 = u % 64 ∧ e.bit Reg.PWR_GOVQ 15 = true ∧
      (rest = [] → e.bit (Reg.PG_EVT_RAW Page.PWR) 2 = true) ∧
      (s.dev.quiet = true → RegsBut (fun a => a = Reg.PWR_GOVQ ∨ (rest = [] ∧ a = Reg.PG_EVT_RAW Page.PWR)) s.dev e ∧ MemSame s.dev e))) ∧
  (∀ (s : State) (u : Fin 48), s.dev.pwr.waking.contains u.val = true → s.dev.unitGated u.val = false → s.dev.pwrState ≠ 5 →
    Completes (.unitWakeDone u) s (fun e => e.unitAwake u.val = true ∧ e.pwr.waking = s.dev.pwr.waking.filter (fun v => v ≠ u.val) ∧
      MemSame s.dev e)) ∧
  (∀ (s : State) (q : Requester) (v : Word), s.dev.admitsWrite q Reg.PWR_PGATE = true →
    Completes (.pwrPgateWrite q v) s (fun e =>
      (∀ p < 16, e.bit Reg.PWR_PGATE p = (v.bit p && (s.dev.bit Reg.PWR_PGATE p || (s.dev.streamOf p).isNone))) ∧ e.last = ⟨0, false⟩ ∧
      MemSame s.dev e)) ∧
  (∀ (s : State) (q : Requester) (v : Word), s.dev.admitsWrite q Reg.PWR_SGATE = true →
    (∀ k < 2, ∀ st < 16, ¬ (s.dev.admitted st = true ∧ 0 < (s.dev.resOf st).charge k)) → (∀ k < 2, ∀ p < 16, s.dev.regionIn k p = false) →
    s.dev.dmaBusy 0 = false → s.dev.dmaBusy 1 = false →
    Completes (.pwrSgateWrite q v) s (fun e => (∀ k < 2, e.bit Reg.PWR_SGATE k = v.bit k) ∧ e.last = ⟨0, false⟩ ∧ MemSame s.dev e))

/-! ## Pages, registers and windows (R9–R17, R40, R50–R55, R71–R73, R95, R136, R264, R414–R417) -/

/-- R414, R415, R417: the header registers of a page. FCLR clears FAULT and the code; a write of PG_EVT_PEND clears the bits written, one of PG_EVT_SET sets the events
that the page defines, one of PG_EVT_EN enables them; a key locks an unlocked page.
Readings of the model: log entry 19. -/
def Obligations.PageHeaders : Prop :=
  (∀ (s : State) (q : Requester) (page : BitVec 12), s.dev.admitsWrite q (Reg.PG_CTRL (pageBase page)) = true →
    pageIs (pageBase page) .fuse 0 = false → s.dev.bit (Reg.PG_STATUS (pageBase page)) 4 = false →
    Completes (.pgFclr q page) s (fun e => e.reg (Reg.PG_FAULT_CODE (pageBase page)) = 0 ∧ e.bit (Reg.PG_STATUS (pageBase page)) 2 = false ∧
      RegsBut (fun a => a = Reg.PG_FAULT_CODE (pageBase page) ∨ a = Reg.PG_STATUS (pageBase page)) s.dev e ∧ MemSame s.dev e)) ∧
  (∀ (s : State) (q : Requester) (page : BitVec 12) (v : Word), s.dev.admitsWrite q (Reg.PG_EVT_PEND (pageBase page)) = true →
    Completes (.pgEvtPendClear q page v) s (fun e => e.reg (Reg.PG_EVT_RAW (pageBase page)) = s.dev.reg (Reg.PG_EVT_RAW (pageBase page)) &&& ~~~v ∧
      e.last = ⟨0, false⟩ ∧ RegsBut (· = Reg.PG_EVT_RAW (pageBase page)) s.dev e ∧ OnlyRegs s.dev e)) ∧
  (∀ (s : State) (q : Requester) (page : BitVec 12) (v : Word), s.dev.admitsWrite q (Reg.PG_EVT_SET (pageBase page)) = true →
    Completes (.pgEvtSet q page v) s (fun e =>
      e.reg (Reg.PG_EVT_RAW (pageBase page)) =
        s.dev.reg (Reg.PG_EVT_RAW (pageBase page)) ||| (v &&& BitVec.ofNat 32 (eventsAt (pageBase page))) ∧
      e.last = ⟨0, false⟩ ∧ RegsBut (· = Reg.PG_EVT_RAW (pageBase page)) s.dev e ∧ OnlyRegs s.dev e)) ∧
  (∀ (s : State) (q : Requester) (page : BitVec 12) (v : Word), s.dev.admitsWrite q (Reg.PG_EVT_EN (pageBase page)) = true →
    Completes (.pgEvtEnWrite q page v) s (fun e =>
      e.reg (Reg.PG_EVT_EN (pageBase page)) = v &&& BitVec.ofNat 32 (eventsAt (pageBase page)) ∧
      e.last = ⟨0, false⟩ ∧ RegsBut (· = Reg.PG_EVT_EN (pageBase page)) s.dev e ∧ OnlyRegs s.dev e)) ∧
  (∀ (s : State) (q : Requester) (page : BitVec 12) (key : Word), s.dev.admitsWrite q (Reg.PG_LOCK (pageBase page)) = true →
    pageIs (pageBase page) .chip 0 = false → pageIs (pageBase page) .fuse 0 = false →
    Completes (.pgLockWrite q page key) s (fun e => e.reg (Reg.PG_LOCK (pageBase page)) = key ∧ e.last = ⟨0, false⟩ ∧
      RegsBut (· = Reg.PG_LOCK (pageBase page)) s.dev e ∧ OnlyRegs s.dev e))

/-- R417: a write to a locked page is ignored with an error status and code 0xFF, and raises LOCKWR on the FUSE page; every other register keeps its value, but that the fault of
the DISP page is also told in DISP_LASTERR and by its event FAULT (R284). The page that keeps an INTC fault is its control page (R282). -/
def Obligations.LockedPages : Prop :=
  ∀ (s : State) (q : Requester) (addr : RegAddr) (v : Word) (blk : Block) (i : Nat), addr.toNat % 4 = 0 → pageIs addr.toNat blk i = true → (q = .host → s.dev.role = 0 ∧ s.dev.hostWaits = false) →
    s.dev.reachable (reqNo q) ((pageAt addr.toNat).map (·.1)) = true → s.dev.reg (Reg.PG_LOCK (addr.toNat - addr.toNat % 0x1000)) ≠ 0 →
    q ≠ .keystone → (addr.toNat % 0x1000 = 0x24 → v ≠ s.dev.reg (Reg.PG_LOCK (addr.toNat - addr.toNat % 0x1000))) →
    Completes (.registerWrite q addr true v) s (fun e =>
      e.last = ⟨0, true⟩ ∧ e.reg (Reg.PG_FAULT_CODE (faultPage blk (addr.toNat - addr.toNat % 0x1000))) = 0xFF ∧
      e.bit (Reg.PG_EVT_RAW Page.FUSE) 1 = true ∧
      RegsBut (fun a => a = Reg.PG_FAULT_CODE (faultPage blk (addr.toNat - addr.toNat % 0x1000)) ∨
        a = Reg.PG_STATUS (faultPage blk (addr.toNat - addr.toNat % 0x1000)) ∨ a = Reg.PG_EVT_RAW Page.FUSE ∨
        (blk = .disp ∧ (a = Reg.DISP_LASTERR ∨ a = Reg.PG_EVT_RAW Page.DISP))) s.dev e ∧ OnlyRegs s.dev e)

/-- R32, R40, R53, R416: ENABLE, FREEZE, COMMIT and SOFT_RESET. ENABLE of a channel takes the value written, and a channel that is disabled outside the safe state holds CH_DEN
deasserted; FREEZE of a channel or pier page takes the value written. A commit applies the delays of a channel, where they are in range, or the site enables of a pier, whose stream is
halted, and is held while the channel's page is frozen. A soft reset of a TRG page whose pier is halted and whose registers admit it returns the page's registers, its events and its
fault to reset, and leaves PG_EVT_EN and the lock.
Readings of the model: log entries 21, 22 and 42. -/
def Obligations.PageControls : Prop :=
  (∀ (s : State) (q : Requester) (page : BitVec 12) (on : Bool) (n : Nat), s.dev.admitsWrite q (Reg.PG_CTRL (pageBase page)) = true →
    pageIs (pageBase page) .chn n = true → s.dev.bit (Reg.PG_STATUS (pageBase page)) 4 = false →
    Completes (.pgEnable q page on) s (fun e => e.bit (Reg.PG_CTRL (pageBase page)) 0 = on ∧
      (on = false → s.dev.bit (Reg.PG_CTRL (pageBase page)) 0 = true → s.dev.bit (Reg.PIER_STATUS (n / 16)) 3 = false → (e.chanOf n).den = false) ∧
      RegsBut (· = Reg.PG_CTRL (pageBase page)) s.dev e ∧ MemSame s.dev e)) ∧
  (∀ (s : State) (q : Requester) (page : BitVec 12) (on : Bool) (n : Nat), s.dev.admitsWrite q (Reg.PG_CTRL (pageBase page)) = true →
    (pageIs (pageBase page) .chn n = true ∨ pageIs (pageBase page) .pier n = true) → s.dev.bit (Reg.PG_STATUS (pageBase page)) 4 = false →
    Completes (.pgFreeze q page on) s (fun e => e.bit (Reg.PG_CTRL (pageBase page)) 2 = on ∧
      RegsBut (· = Reg.PG_CTRL (pageBase page)) s.dev e ∧ MemSame s.dev e)) ∧
  (∀ (s : State) (q : Requester) (page : BitVec 12) (p : Nat), s.dev.admitsWrite q (Reg.PG_CTRL (pageBase page)) = true →
    pageIs (pageBase page) .pier p = true → s.dev.frozen (pageBase page) = false → s.dev.pierHalted p = true →
    Completes (.pgCommit q page) s (fun e => e.app (Reg.PIER_SITE_EN_LO p) = s.dev.reg (Reg.PIER_SITE_EN_LO p) ∧
      e.app (Reg.PIER_SITE_EN_HI p) = s.dev.reg (Reg.PIER_SITE_EN_HI p) ∧ e.pendingCommit (pageBase page) = false ∧ MemSame s.dev e)) ∧
  (∀ (s : State) (q : Requester) (page : BitVec 12) (n : Nat), s.dev.admitsWrite q (Reg.PG_CTRL (pageBase page)) = true →
    pageIs (pageBase page) .chn n = true → s.dev.frozen (pageBase page) = false → s.dev.pierHalted (n / 16) = true →
    s.dev.fld (Reg.CHN_DRV_DLY n) 0 17 ≤ s.dev.fld (Reg.CHN_RTD n) 0 18 → s.dev.fld (Reg.CHN_DRV_DLY n) 0 17 ≤ 81920 → s.dev.fld (Reg.CHN_RTD n) 0 18 ≤ 163840 →
    Completes (.pgCommit q page) s (fun e => e.app (Reg.CHN_DRV_DLY n) = s.dev.reg (Reg.CHN_DRV_DLY n) ∧ e.app (Reg.CHN_RTD n) = s.dev.reg (Reg.CHN_RTD n) ∧
      e.app (Reg.CHN_DEN_OFS n) = s.dev.reg (Reg.CHN_DEN_OFS n) ∧ e.pendingCommit (pageBase page) = false ∧ MemSame s.dev e)) ∧
  (∀ (s : State) (q : Requester) (page : BitVec 12) (n : Nat), s.dev.admitsWrite q (Reg.PG_CTRL (pageBase page)) = true →
    pageIs (pageBase page) .chn n = true → s.dev.frozen (pageBase page) = true →
    Completes (.pgCommit q page) s (fun e => e.pendingCommit (pageBase page) = true ∧ e.applied = s.dev.applied)) ∧
  (∀ (s : State) (q : Requester) (page : BitVec 12) (r : PageRow) (p : Nat), s.dev.admitsWrite q (Reg.PG_CTRL (pageBase page)) = true →
    pageAt (pageBase page) = some (r, p) → r.block = .trg → s.dev.pierHalted p = true → s.dev.softOk r p (pageBase page) = true →
    Completes (.pgSoftReset q page) s (fun e => e.trgOf p = TrgCtx.reset ∧ e.reg (Reg.PG_EVT_RAW (pageBase page)) = 0 ∧
      e.reg (Reg.PG_FAULT_CODE (pageBase page)) = 0 ∧ e.reg (Reg.PG_EVT_EN (pageBase page)) = s.dev.reg (Reg.PG_EVT_EN (pageBase page)) ∧
      e.reg (Reg.PG_LOCK (pageBase page)) = s.dev.reg (Reg.PG_LOCK (pageBase page)) ∧
      (∀ o < 0x1000, (findRow r.block.rows o).isSome = true → e.reg (pageBase page + o) = resetWord (pageBase page + o)) ∧
      RegsBut (fun a => pageBase page ≤ a ∧ a < pageBase page + 0x1000) s.dev e ∧ MemSame s.dev e))

/-- R17, R73: split reads and held writes. A read of the lower register of TTIME answers its low half and latches the high half and the epoch for the reader; a write of the
lower word of the sequence store changes nothing else, and the upper word then stores both.
Readings of the model: log entries 24 and 61. -/
def Obligations.SplitAndHeld : Prop :=
  (∀ (s : State) (q : Requester) (addr : RegAddr), addr.toNat = Reg.TIME_NOW_LO → s.dev.admitsRead q Reg.TIME_NOW_LO = true →
    Completes (.splitReadLow q addr) s (fun e => e.last = ⟨BitVec.ofNat 32 s.dev.ttimeNow, false⟩ ∧
      Tab.get (fun _ => none) e.rlatch (reqNo q) = some (Reg.TIME_NOW_LO + 4, BitVec.ofNat 32 (s.dev.ttimeNow / 2 ^ 32)) ∧
      Tab.get (fun _ => none) e.elatch (reqNo q) = some (s.dev.reg Reg.TIME_EPOCH) ∧ e.regs = s.dev.regs ∧ MemSame s.dev e)) ∧
  (∀ (s : State) (q : Requester) (addr : RegAddr) (v : Word), isSeqWindow addr.toNat = true → addr.toNat % 8 = 0 → s.dev.admitsWindow q addr.toNat = true →
    Completes (.heldWriteLower q addr v) s (fun e => e.heldFor (reqNo q) (addr.toNat + 4) = some v ∧ e.last = ⟨0, false⟩ ∧
      e.regs = s.dev.regs ∧ MemSame s.dev e)) ∧
  (∀ (s : State) (q : Requester) (addr : RegAddr) (v lo : Word) (ue : Bool), isSeqWindow addr.toNat = true → addr.toNat % 8 = 4 →
    s.dev.admitsWindow q addr.toNat = true → s.dev.heldFor (reqNo q) addr.toNat = some lo →
    Completes (.heldWriteUpper q addr v ue) s (fun e => e.reg addr.toNat = v ∧ e.reg (addr.toNat - 4) = lo ∧ e.winUE addr.toNat = false ∧
      e.heldFor (reqNo q) addr.toNat = none ∧ e.last = ⟨0, false⟩ ∧
      RegsBut (fun a => a = addr.toNat ∨ a = addr.toNat - 4) s.dev e ∧ MemSame s.dev e))

/-- R71, R94, R136, R264: writes to the windows. A timing-set word whose pair can be read is stored but for its TRIM; a span word whose span is neither ACTIVE nor READY is stored; the
control store takes no write; a word of a task that is IDLE, and whose check bits are good, is stored within its writable bits. -/
def Obligations.WindowWrites : Prop :=
  (∀ (s : State) (q : Requester) (ch st : BitVec 8) (w : BitVec 3) (v : Word), s.dev.admitsWindow q (tsmemAddr ch.toNat st.toNat w.toNat) = true →
    s.dev.winUE (tsmemAddr ch.toNat st.toNat w.toNat) = false →
    Completes (.tsmemWrite q ch st w v .good) s (fun e => e.reg (tsmemAddr ch.toNat st.toNat w.toNat) = v &&& 0xE1FFFFFF#32 ∧ e.last = ⟨0, false⟩ ∧
      RegsBut (· = tsmemAddr ch.toNat st.toNat w.toNat) s.dev e ∧ OnlyRegs s.dev e)) ∧
  (∀ (s : State) (q : Requester) (ch st : BitVec 8) (w : BitVec 3) (v : Word), s.dev.admitsWindow q (tsmemAddr ch.toNat st.toNat w.toNat) = true →
    Completes (.tsmemWrite q ch st w v .bad) s (fun e => e.last = ⟨0, true⟩ ∧ e.regs = s.dev.regs ∧ MemSame s.dev e)) ∧
  (∀ (s : State) (q : Requester) (n : BitVec 16) (v : Word), s.dev.admitsWindow q (spanWord n.toNat 1) = true →
    s.dev.winUE (spanWord n.toNat 1) = false → s.dev.spanActive n.toNat = false → s.dev.spanReady n.toNat = false →
    Completes (.spanDescWrite q n 1 v false) s (fun e => e.reg (spanWord n.toNat 1) = v ∧ e.last = ⟨0, false⟩ ∧
      RegsBut (fun a => a = spanWord n.toNat 1 ∨ a = Reg.TWN_HSTAT) s.dev e ∧ OnlyRegs s.dev e)) ∧
  (∀ (s : State) (q : Requester) (w : BitVec 14) (v : Word), (q = .host → s.dev.hostWaits = false) →
    Completes (.ctrlStoreWrite q w v) s (fun e => e.last = ⟨0, true⟩ ∧ e.regs = s.dev.regs ∧ OnlyRegs s.dev e)) ∧
  (∀ (s : State) (q : Requester) (t : BitVec 12) (w : BitVec 4) (v : Word), s.dev.reachable (reqNo q) none = true → (q = .host → s.dev.hostWaits = false) →
    s.dev.taskState t.toNat = 0 → s.dev.winUE (tdAddr t.toNat (4 * w.toNat)) = false →
    Completes (.taskRamWrite q t w ⟨v, .good⟩) s (fun e => e.last = ⟨0, false⟩ ∧
      e.reg (tdAddr t.toNat (4 * w.toNat)) =
        Word.merge (BitVec.ofNat 32 (taskMask (4 * w.toNat))) v (s.dev.reg (tdAddr t.toNat (4 * w.toNat))) ∧
      RegsBut (· = tdAddr t.toNat (4 * w.toNat)) s.dev e ∧ OnlyRegs s.dev e))

/-- R95: a write of word 0, 1 or 2 of a descriptor that is READY or ACTIVE, or of word 3 of one that is ACTIVE, changes nothing, ends with an error and sets SPAN_WREJ of a stream that
holds the span, or of S0; any other write stores its defined bits, those of word 3 without ACTIVE. -/
def Obligations.SpanDescriptorWrites : Prop :=
  ∀ (s : State) (q : Requester) (n : BitVec 16) (w : BitVec 2) (v : Word) (a : Nat) (ready active : Bool), a = spanWord n.toNat w.toNat →
    s.dev.admitsWindow q a = true → s.dev.winUE a = false → ready = s.dev.bit (spanWord n.toNat 3) 31 →
    active = (List.range 16).any (fun i => s.dev.holdsSpan i n.toNat) →
    (active = true ∨ (w ≠ 3 ∧ ready = true) →
      Completes (.spanDescWrite q n w v false) s (fun e => e.last = ⟨0, true⟩ ∧
        ∃ h < 16, (s.dev.holdsSpan h n.toNat = true ∨ (active = false ∧ h = 0)) ∧ e.bit (Reg.PG_EVT_RAW (Page.STR h)) 6 = true ∧
          RegsBut (· = Reg.PG_EVT_RAW (Page.STR h)) s.dev e ∧ OnlyRegs s.dev e)) ∧
    (active = false → (w = 3 ∨ ready = false) →
      Completes (.spanDescWrite q n w v false) s (fun e => e.last = ⟨0, false⟩ ∧
        e.reg a = v &&& (if w = 0 then 0x3FFFFFFF else if w = 1 then 0xFFFFFFFF else if w = 2 then 0x0FFFFFFF else 0xBC1FFFFF) ∧
        RegsBut (fun x => x = a ∨ x = Reg.TWN_HSTAT) s.dev e ∧ OnlyRegs s.dev e))

/-- R412: an access to a range with no page and no window changes nothing, reads 0 and ends with an error; an offset of a page at which no register is defined reads 0, ignores writes
and ends without one. -/
def Obligations.UnmappedAccesses : Prop :=
  (∀ (s : State) (q : Requester) (addr : RegAddr) (v : Word), addr.toNat < 0x1000000 → addr.toNat % 4 = 0 → pageAt addr.toNat = none → isWindow addr.toNat = false →
    ((q = .host → s.dev.hostWaits = false) →
      Completes (.registerWrite q addr true v) s (fun e => e.last = ⟨0, true⟩ ∧ e.regs = s.dev.regs ∧ OnlyRegs s.dev e)) ∧
    ∀ ecc : Ecc, Completes (.readClear q addr ⟨true, ecc⟩) s (fun e => e.last = ⟨0, true⟩ ∧ e.regs = s.dev.regs ∧ OnlyRegs s.dev e)) ∧
  (∀ (s : State) (q : Requester) (addr : RegAddr) (v : Word) (p : PageRow) (i : Nat), addr.toNat % 4 = 0 → pageAt addr.toNat = some (p, i) →
    isWindow addr.toNat = false →
    (if addr.toNat % 0x1000 < 0x40 then 0x28 ≤ addr.toNat % 0x1000 else findRow p.block.rows (addr.toNat % 0x1000) = none) →
    (s.dev.admitsWrite q addr.toNat = true →
      Completes (.registerWrite q addr true v) s (fun e => e.last = ⟨0, false⟩ ∧ e.regs = s.dev.regs ∧ OnlyRegs s.dev e)) ∧
    (s.dev.admitsRead q addr.toNat = true →
      ∀ ecc : Ecc, Completes (.readClear q addr ⟨true, ecc⟩) s (fun e => e.last = ⟨0, false⟩ ∧ e.regs = s.dev.regs ∧ OnlyRegs s.dev e)))

/-- R10, R31, R50, R55: register accesses and the pins of a pier. A write of a plain register stores its writable bits; a read of a counter that clears answers it and leaves 0; PIER_CTRL changes
while the pier and its new stream are halted; STATIC_RESUME ends the hold of static channels outside the safe state; PEBUS frames queue in order and answer with the bits received. -/
def Obligations.RegistersAndPins : Prop :=
  (∀ (s : State) (q : Requester) (addr : RegAddr) (v : Word), addr.toNat = Reg.MGMT_CTRL → s.dev.admitsWrite q Reg.MGMT_CTRL = true →
    Completes (.registerWrite q addr true v) s (fun e => e.reg Reg.MGMT_CTRL = Word.merge 1 v (s.dev.reg Reg.MGMT_CTRL) ∧ e.last = ⟨0, false⟩ ∧
      RegsBut (· = Reg.MGMT_CTRL) s.dev e ∧ OnlyRegs s.dev e)) ∧
  (∀ (s : State) (q : Requester) (addr : RegAddr) (v : Word),
    Completes (.registerWrite q addr false v) s (fun e => e.last = ⟨0, true⟩ ∧ e.regs = s.dev.regs ∧ OnlyRegs s.dev e)) ∧
  (∀ (s : State) (q : Requester) (addr : RegAddr), addr.toNat = Reg.TRS_REPLAY → s.dev.admitsRead q Reg.TRS_REPLAY = true →
    ∀ ecc : Ecc, Completes (.readClear q addr ⟨true, ecc⟩) s (fun e => e.last = ⟨s.dev.reg Reg.TRS_REPLAY, false⟩ ∧ e.reg Reg.TRS_REPLAY = 0 ∧
      RegsBut (· = Reg.TRS_REPLAY) s.dev e ∧ OnlyRegs s.dev e)) ∧
  (∀ (s : State) (q : Requester) (p : Fin 16) (v : Word), s.dev.admitsWrite q (Reg.PIER_CTRL p.val) = true → s.dev.pierHalted p.val = true →
    (v.bit 12 = true → s.dev.halted (v.get 8 4) = true ∧ s.dev.bit Reg.PWR_PGATE p.val = false) →
    Completes (.pierCtrlWrite q p v) s (fun e => e.reg (Reg.PIER_CTRL p.val) = Word.merge 0x1F01 v (s.dev.reg (Reg.PIER_CTRL p.val)) ∧ e.last = ⟨0, false⟩ ∧ MemSame s.dev e)) ∧
  (∀ (s : State) (q : Requester) (p : Fin 16), s.dev.admitsWrite q (Reg.PIER_CMD p.val) = true → s.dev.normal = true →
    Completes (.staticResume q p) s (fun e => e.bit (Reg.PIER_STATUS p.val) 2 = false ∧ RegsBut (· = Reg.PIER_STATUS p.val) s.dev e ∧ MemSame s.dev e)) ∧
  (∀ (s : State) (q : Requester) (k : Fin 8) (cs : BitVec 2), s.dev.admitsWrite q (Reg.PEB_CMD k.val) = true → (s.dev.pebOf k.val) = ⟨[], none⟩ →
    Completes (.pebGo q k cs) s (fun e => e.pebOf k.val =
        ⟨[], some ⟨cs.toNat, s.dev.reg64 (Reg.PEB_TXLO k.val) (Reg.PEB_TXHI k.val) % 2 ^ s.dev.pebBits k.val⟩⟩ ∧ e.regs = s.dev.regs ∧ MemSame s.dev e)) ∧
  (∀ (s : State) (q : Requester) (k : Fin 8) (cs : BitVec 2), s.dev.admitsWrite q (Reg.PEB_CMD k.val) = true → (s.dev.pebOf k.val).busy.isSome = true →
    (s.dev.pebOf k.val).queue.length < 16 →
    Completes (.pebGo q k cs) s (fun e => (e.pebOf k.val).queue = (s.dev.pebOf k.val).queue ++
        [⟨cs.toNat, s.dev.reg64 (Reg.PEB_TXLO k.val) (Reg.PEB_TXHI k.val) % 2 ^ s.dev.pebBits k.val⟩] ∧
      (e.pebOf k.val).busy = (s.dev.pebOf k.val).busy ∧ e.regs = s.dev.regs ∧ MemSame s.dev e)) ∧
  (∀ (s : State) (k : Fin 8) (rx : BitVec 64) (f : Frame), (s.dev.pebOf k.val).busy = some f →
    Completes (.pebFrameDone k rx) s (fun e => e.reg64 (Reg.PEB_RXLO k.val) (Reg.PEB_RXHI k.val) = rx.toNat % 2 ^ s.dev.pebBits k.val ∧
      e.bit (Reg.PG_EVT_RAW Page.PEB) k.val = true ∧ (e.pebOf k.val).busy = (s.dev.pebOf k.val).queue.head? ∧ MemSame s.dev e))

/-! ## Sequence instructions (R56, R84, R97–R112, R128, R159) -/

/-- R106, R107, R109: the flow of a program. An instruction whose condition holds moves STR_PC to the next address or to its target; CALL, RET, LOOP and ENDL push and pop the two
stacks of 16; HALT queues the end of the burst at B and nothing beyond it is executed.
Readings of the model: log entry 35. -/
def Obligations.SequenceFlow : Prop :=
  ∀ (s : State) (i : Fin 16) (ft : Fetched) (a w : Nat) (c : StrCtx), a = s.dev.strPc i.val → w = s.dev.insWord i.val → c = s.dev.fetched i.val →
    (s.dev.executes i.val ft 0x00 = true →
      Completes (.nop i ft) s (fun e => StreamTo s.dev e i.val ((a + 1) % seqSize) (fun _ => False) c)) ∧
    (s.dev.executes i.val ft 0x01 = true →
      Completes (.halt i ft) s (fun e => StreamTo s.dev e i.val ((a + 1) % seqSize) (fun _ => False)
        { c with queue := c.queue ++ [.act .halt a], eng := .done })) ∧
    (s.dev.executes i.val ft 0x08 = true →
      Completes (.jump i ft) s (fun e => StreamTo s.dev e i.val (insField w 0 18) (fun _ => False) c)) ∧
    (s.dev.executes i.val ft 0x09 = true → c.calls.length < 16 →
      Completes (.call i ft) s (fun e => StreamTo s.dev e i.val (insField w 0 18) (fun _ => False)
        { c with calls := (a + 1) % seqSize :: c.calls })) ∧
    (∀ t ts, s.dev.executes i.val ft 0x0A = true → c.calls = t :: ts →
      Completes (.ret i ft) s (fun e => StreamTo s.dev e i.val (t % seqSize) (fun _ => False) { c with calls := ts })) ∧
    (s.dev.executes i.val ft 0x0B = true → s.dev.bit (Reg.STR_FLAGS i.val) (insField w 32 5) = true →
      Completes (.brf i ft) s (fun e => StreamTo s.dev e i.val (insField w 0 18) (· = Reg.STR_FLAGS i.val) c ∧
        e.reg (Reg.STR_FLAGS i.val) = (if natBit w 40 then (s.dev.reg (Reg.STR_FLAGS i.val)).putBit (insField w 32 5) false
          else s.dev.reg (Reg.STR_FLAGS i.val)))) ∧
    (∀ n, s.dev.executes i.val ft 0x0C = true → n = (if natBit w 47 then s.dev.g i.val (insField w 48 4) else w % 2 ^ 32) → n ≠ 0 → c.loops.length < 16 →
      Completes (.loop i ft none) s (fun e => StreamTo s.dev e i.val ((a + 1) % seqSize) (fun _ => False)
        { c with loops := (n, (a + 1) % seqSize) :: c.loops })) ∧
    (∀ n t ts, s.dev.executes i.val ft 0x0D = true → c.loops = (n, t) :: ts → 1 < n → n < 2 ^ 32 →
      Completes (.endl i ft) s (fun e => StreamTo s.dev e i.val (t % seqSize) (fun _ => False) { c with loops := (n - 1, t) :: ts })) ∧
    (∀ t ts, s.dev.executes i.val ft 0x0D = true → c.loops = (1, t) :: ts →
      Completes (.endl i ft) s (fun e => StreamTo s.dev e i.val ((a + 1) % seqSize) (fun _ => False) { c with loops := ts }))

/-- R105, R107, R128, R129, R137, R144: what the micro-engine finds wrong waits for its boundary and stops it there: a call, a return or a loop past the stacks, an uncorrectable error in the
instruction, a reserved condition, a dispatch entry that is not VALID or has an uncorrectable error; a false condition only skips. In a routine: the 65th micro-operation (0x0C), a fetch outside the customer routines or with an uncorrectable error
(0x0D), a reserved class (0x01); a corrected error is counted and the micro-operation is executed.
Readings of the model: log entries 35 and 125. -/
def Obligations.SequencerFaults : Prop :=
  (∀ (s : State) (i : Fin 16) (ft : Fetched) (a w : Nat) (b r c : StrCtx), a = s.dev.strPc i.val → w = s.dev.insWord i.val →
      b = s.dev.strOf i.val → r = s.dev.irLoaded i.val → c = s.dev.fetched i.val →
      (s.dev.executes i.val ft 0x09 = true → 16 ≤ c.calls.length →
        Completes (.call i ft) s (fun e => StreamTo s.dev e i.val ((a + 1) % seqSize) (fun _ => False)
          { c with queue := c.queue ++ [.act (.fault 0x07) a], eng := .done })) ∧
      (s.dev.executes i.val ft 0x0A = true → c.calls = [] →
        Completes (.ret i ft) s (fun e => StreamTo s.dev e i.val ((a + 1) % seqSize) (fun _ => False)
          { c with queue := c.queue ++ [.act (.fault 0x07) a], eng := .done })) ∧
      (s.dev.executes i.val ft 0x0D = true → c.loops = [] →
        Completes (.endl i ft) s (fun e => StreamTo s.dev e i.val ((a + 1) % seqSize) (fun _ => False)
          { c with queue := c.queue ++ [.act (.fault 0x07) a], eng := .done })) ∧
      (b.eng = .running → ft.ue = true → Completes (.nop i ft) s (fun e => e.strPc i.val = (a + 1) % seqSize ∧ e.winUE (seqAddr a) = true ∧
        e.strOf i.val = { b with queue := b.queue ++ [.act (.fault 0x09) a], eng := .done } ∧ RegsBut (· = Reg.STR_PC i.val) s.dev e ∧ MemSame s.dev e)) ∧
      (b.eng = .running → ft.ue = false → s.dev.winUE (seqAddr a) = false → 10 ≤ insField w 52 4 →
        Completes (.nop i ft) s (fun e => StreamTo s.dev e i.val ((a + 1) % seqSize) (fun _ => False)
          { r with queue := r.queue ++ [.act (.fault 0x01) a], eng := .done })) ∧
      (b.eng = .running → ft.ue = false → s.dev.winUE (seqAddr a) = false → insField w 52 4 < 10 → s.dev.condHolds i.val (insField w 52 4) = false → insOp w = 0x08 →
        Completes (.jump i ft) s (fun e => StreamTo s.dev e i.val ((a + 1) % seqSize) (fun _ => False) r)) ∧
      (b.eng = .running → ft.ue = false → s.dev.winUE (seqAddr a) = false → insField w 52 4 < 10 → s.dev.condHolds i.val (insField w 52 4) = true → w = 0x08 * 2 ^ 56 →
        (ft.word = .good → s.dev.csUE (s.dev.entryOf i.val 0x08) = false → natBit (s.dev.csWord (s.dev.entryOf i.val 0x08)) 31 = false →
          Completes (.jump i ft) s (fun e => StreamTo s.dev e i.val ((a + 1) % seqSize) (fun _ => False)
            { r with queue := r.queue ++ [.act (.fault 0x01) a], eng := .done })) ∧
        (ft.word = .bad → Completes (.jump i ft) s (fun e => e.strPc i.val = (a + 1) % seqSize ∧ e.csUE (s.dev.entryOf i.val 0x08) = true ∧
          e.strOf i.val = { r with queue := r.queue ++ [.act (.fault 0x0D) a], eng := .done })))) ∧
  (∀ (s : State) (i : Fin 16) (pc : Nat) (c : StrCtx), pc = s.dev.strPc i.val → c = s.dev.strOf i.val → c.eng = .micro →
      (12352 ≤ c.micro.upc → c.micro.upc < 16384 → s.dev.csUE c.micro.upc = false → 64 ≤ c.micro.lim →
        Completes (.ldi i .good) s (fun e => StreamTo s.dev e i.val pc (fun _ => False)
          { c with queue := c.queue ++ [.act (.fault 0x0C) c.micro.addr], eng := .done })) ∧
      (c.micro.upc < 12352 ∨ 16384 ≤ c.micro.upc →
        Completes (.ldi i .good) s (fun e => StreamTo s.dev e i.val pc (fun _ => False)
          { c with queue := c.queue ++ [.act (.fault 0x0D) c.micro.addr], eng := .done })) ∧
      (12352 ≤ c.micro.upc → c.micro.upc < 16384 →
        Completes (.ldi i .bad) s (fun e => e.strOf i.val = { c with queue := c.queue ++ [.act (.fault 0x0D) c.micro.addr], eng := .done } ∧
          e.csUE c.micro.upc = true ∧ e.regs = s.dev.regs ∧ MemSame s.dev e)) ∧
      (12352 ≤ c.micro.upc → c.micro.upc < 16384 → s.dev.csUE c.micro.upc = false → c.micro.lim < 64 → classReserved (s.dev.microWord i.val / 2 ^ 27) = true →
        Completes (.ldi i .good) s (fun e => StreamTo s.dev e i.val pc (fun _ => False)
          { c with queue := c.queue ++ [.act (.fault 0x01) c.micro.addr], eng := .done })) ∧
      (s.dev.executesMicro i.val 0x02 = true → insField (s.dev.microWord i.val) 22 5 < 16 → s.dev.fld Reg.UCS_CE_CNT 0 16 < 0xFFFF →
        Completes (.ldi i .corrected) s (fun e => e.fld Reg.UCS_CE_CNT 0 16 = s.dev.fld Reg.UCS_CE_CNT 0 16 + 1 ∧ e.bit (Reg.PG_EVT_RAW Page.UCS) 2 = true ∧
          e.g i.val (insField (s.dev.microWord i.val) 22 5) = s.dev.microWord i.val % 2 ^ 22 ∧ e.strOf i.val = { c with micro := c.micro.next } ∧
          MemSame s.dev e)))

/-- R98, R106, R107, R112: PLAY and PLAYR queue COUNT plays of a span, as many as the queue of 64 requests has room for, and a full queue stops the micro-engine; MATCH queues
one request that carries SENSE, SCOPE, MAXPASS, its timeout target and the state that a timeout restores. -/
def Obligations.SequencePlays : Prop :=
  ∀ (s : State) (i : Fin 16) (ft : Fetched) (a w : Nat) (c : StrCtx), a = s.dev.strPc i.val → w = s.dev.insWord i.val → c = s.dev.fetched i.val →
    (∀ n, s.dev.executes i.val ft 0x02 = true → n = insField w 32 16 + 1 →
      Completes (.play i ft) s (fun e => StreamTo s.dev e i.val ((a + 1) % seqSize) (fun _ => False)
        { c with queue := c.queue ++ List.replicate (min n (64 - requests c.queue)) (.play (insField w 0 16) a .waiting),
                 held := if 64 - requests c.queue < n then some (insField w 0 16, n - (64 - requests c.queue), a) else none,
                 eng := if 64 ≤ requests c.queue + n then .waitRoom else .running })) ∧
    (∀ n, s.dev.executes i.val ft 0x03 = true → n = insField w 32 16 + 1 → requests c.queue + n < 64 →
      Completes (.playr i ft) s (fun e => StreamTo s.dev e i.val ((a + 1) % seqSize) (fun _ => False)
        { c with queue := c.queue ++ List.replicate n (.play (s.dev.g i.val (insField w 48 4) % 2 ^ 16) a .waiting), held := none })) ∧
    (s.dev.executes i.val ft 0x04 = true → requests c.queue < 63 →
      Completes (.matchSpan i ft) s (fun e => StreamTo s.dev e i.val ((a + 1) % seqSize) (fun _ => False)
        { c with queue := c.queue ++ [.matchPlay (insField w 0 16) a .waiting
            ⟨natBit w 47, natBit w 46, insField w 16 16, s.dev.g i.val (insField w 48 4) % 2 ^ 18, s.dev.engSave i.val⟩] }))

/-- R110: the four forms of WAIT. DELAY and UNTIL queue a gap; FLAG queues its gap and stops the micro-engine until the flag is 1; DRAIN stops it until the gap has ended.
Readings of the model: log entry 35. -/
def Obligations.SequenceWaits : Prop :=
  ∀ (s : State) (i : Fin 16) (ft : Fetched) (a w : Nat) (c : StrCtx), a = s.dev.strPc i.val → w = s.dev.insWord i.val → c = s.dev.fetched i.val →
    s.dev.executes i.val ft 0x10 = true →
    (insField w 46 2 = 0 → Completes (.waitDelay i ft) s (fun e => StreamTo s.dev e i.val ((a + 1) % seqSize) (fun _ => False)
        { c with queue := c.queue ++ [.act (.waitDelay (w % 2 ^ 32)) a] })) ∧
    (insField w 46 2 = 1 → Completes (.waitUntil i ft) s (fun e => StreamTo s.dev e i.val ((a + 1) % seqSize) (fun _ => False)
        { c with queue := c.queue ++ [.act (.waitUntil (w % 2 ^ 32)) a] })) ∧
    (insField w 46 2 = 2 → s.dev.bit (Reg.STR_FLAGS i.val) (insField w 32 5) = false →
      Completes (.waitFlag i ft) s (fun e => StreamTo s.dev e i.val ((a + 1) % seqSize) (fun _ => False)
        { c with queue := c.queue ++ [.act (.waitFlag (insField w 32 5) none) a], eng := .waitFlag (insField w 32 5) })) ∧
    (insField w 46 2 = 3 → Completes (.waitDrain i ft) s (fun e => StreamTo s.dev e i.val ((a + 1) % seqSize) (fun _ => False)
        { c with queue := c.queue ++ [.act .waitDrain a], eng := .waitGap }))

/-- R106, R108: SETR and ADDI write a general register and set the Z and N state; SITEMSK changes the mask in program order at once and the mask in play at B; SITEDROP and FAILCLR
queue their actions. -/
def Obligations.SequenceRegisters : Prop :=
  ∀ (s : State) (i : Fin 16) (ft : Fetched) (a w r v : Nat) (c : StrCtx), a = s.dev.strPc i.val → w = s.dev.insWord i.val → c = s.dev.fetched i.val → r = insField w 48 4 → v = w % 2 ^ 32 →
    (s.dev.executes i.val ft 0x14 = true →
      Completes (.setr i ft) s (fun e => e.g i.val r = v ∧ StreamTo s.dev e i.val ((a + 1) % seqSize) (· = Reg.STR_G i.val r)
        { c with zf := decide (v = 0), nf := natBit v 31 })) ∧
    (s.dev.executes i.val ft 0x15 = true →
      Completes (.addi i ft) s (fun e => e.g i.val r = (s.dev.g i.val r + v) % 2 ^ 32 ∧
        StreamTo s.dev e i.val ((a + 1) % seqSize) (· = Reg.STR_G i.val r)
          { c with zf := decide ((s.dev.g i.val r + v) % 2 ^ 32 = 0), nf := natBit ((s.dev.g i.val r + v) % 2 ^ 32) 31 })) ∧
    (s.dev.executes i.val ft 0x18 = true →
      Completes (.sitemsk i ft) s (fun e => StreamTo s.dev e i.val ((a + 1) % seqSize) (fun _ => False)
        { c with queue := c.queue ++ [.act (.siteMask (insField w 46 2) (natBit w 32) v) a],
                 mask := siteOp (insField w 46 2) (natBit w 32) v c.mask })) ∧
    (s.dev.executes i.val ft 0x19 = true →
      Completes (.sitedrop i ft) s (fun e => StreamTo s.dev e i.val ((a + 1) % seqSize) (fun _ => False)
        { c with queue := c.queue ++ [.act .siteDrop a], eng := .waitGap })) ∧
    (s.dev.executes i.val ft 0x1A = true →
      Completes (.failclr i ft) s (fun e => StreamTo s.dev e i.val ((a + 1) % seqSize) (fun _ => False)
        { c with queue := c.queue ++ [.act .failClr a] }))

/-- R57, R85, R108: capture, trigger, signal, PEBUS and phase instructions queue one action for the boundary after the preceding span, with operands as they are read now; CAPOP
with OP 3 is a fault of code 0x01 there. -/
def Obligations.SequenceActions : Prop :=
  ∀ (s : State) (i : Fin 16) (ft : Fetched) (a w r : Nat) (c : StrCtx), a = s.dev.strPc i.val → w = s.dev.insWord i.val → c = s.dev.fetched i.val → r = insField w 48 4 →
    (s.dev.executes i.val ft 0x1C = true → insField w 32 2 = 0 →
      Completes (.capopEnable i ft) s (fun e => StreamTo s.dev e i.val ((a + 1) % seqSize) (fun _ => False)
        { c with queue := c.queue ++ [.act .capOn a] })) ∧
    (s.dev.executes i.val ft 0x1C = true → insField w 32 2 = 1 →
      Completes (.capopDisable i ft) s (fun e => StreamTo s.dev e i.val ((a + 1) % seqSize) (fun _ => False)
        { c with queue := c.queue ++ [.act .capOff a] })) ∧
    (s.dev.executes i.val ft 0x1C = true → insField w 32 2 = 2 →
      Completes (.capopSegment i ft) s (fun e => StreamTo s.dev e i.val ((a + 1) % seqSize) (fun _ => False)
        { c with queue := c.queue ++ [.act .capSeg a] })) ∧
    (s.dev.executes i.val ft 0x1C = true → insField w 32 2 = 3 →
      Completes (.capopEnable i ft) s (fun e => StreamTo s.dev e i.val ((a + 1) % seqSize) (fun _ => False)
        { c with queue := c.queue ++ [.act (.fault 0x01) a], eng := .done })) ∧
    (s.dev.executes i.val ft 0x1E = true →
      Completes (.trig i ft) s (fun e => StreamTo s.dev e i.val ((a + 1) % seqSize) (fun _ => False)
        { c with queue := c.queue ++ [.act (.trig (insField w 32 8)) a] })) ∧
    (s.dev.executes i.val ft 0x1F = true →
      Completes (.signal i ft) s (fun e => StreamTo s.dev e i.val ((a + 1) % seqSize) (fun _ => False)
        { c with queue := c.queue ++ [.act (.signal (insField w 32 16)) a] })) ∧
    (s.dev.executes i.val ft 0x48 = true →
      Completes (.setpe i ft) s (fun e => StreamTo s.dev e i.val ((a + 1) % seqSize) (fun _ => False)
        { c with queue := c.queue ++
            [.act (.setpe (insField w 44 3) (insField w 42 2) (if natBit w 47 then s.dev.g i.val r else w % 2 ^ 32)) a] })) ∧
    (s.dev.executes i.val ft 0x4C = true →
      Completes (.phase i ft) s (fun e => StreamTo s.dev e i.val ((a + 1) % seqSize) (fun _ => False)
        { c with queue := c.queue ++ [.act (.phase (w % 2 ^ 32) (s.dev.g i.val r)) a] }))

/-- R128, R159: the instructions of the pattern generator queue a register write, a save or a restore, or the 14 words read from the sequence store; a customer opcode of an enabled
stream with a valid entry starts its routine with the temporaries at 0; the flags of the micro-engine are those that a customer routine left, or open. -/
def Obligations.SequenceGenerator : Prop :=
  ∀ (s : State) (i : Fin 16) (ft : Fetched) (a w r v a₀ : Nat) (c : StrCtx), a = s.dev.strPc i.val → w = s.dev.insWord i.val → c = s.dev.fetched i.val → r = insField w 48 4 →
    v = (if natBit w 47 then s.dev.g i.val r else w % 2 ^ 32) → a₀ = insField w 0 18 →
    (s.dev.executes i.val ft 0x20 = true → asetBadTarget (insField w 32 6) = false → apgReserved (0x200 + 4 * insField w 32 6) v = false →
      Completes (.aset i ft) s (fun e => StreamTo s.dev e i.val ((a + 1) % seqSize) (fun _ => False)
        { c with queue := c.queue ++ [.act (.aset (insField w 32 6) v) a] })) ∧
    (s.dev.executes i.val ft 0x21 = true →
      Completes (.asave i ft) s (fun e => StreamTo s.dev e i.val ((a + 1) % seqSize) (fun _ => False)
        { c with queue := c.queue ++ [.act (.asave (insField w 32 3)) a] })) ∧
    (s.dev.executes i.val ft 0x22 = true →
      Completes (.arest i ft) s (fun e => StreamTo s.dev e i.val ((a + 1) % seqSize) (fun _ => False)
        { c with queue := c.queue ++ [.act (.arest (insField w 32 3)) a] })) ∧
    (s.dev.executes i.val ft 0x23 = true → a₀ ≤ 262137 → (∀ k < 7, s.dev.winUE (seqAddr (a₀ + k)) = false) →
      Completes (.scrld i ft false) s (fun e => StreamTo s.dev e i.val ((a + 1) % seqSize) (fun _ => False)
        { c with queue := c.queue ++
            [.act (.scrld ((List.range 7).flatMap (fun k => [s.dev.seqWord (a₀ + k) % 2 ^ 32, s.dev.seqWord (a₀ + k) / 2 ^ 32]))) a] })) ∧
    (s.dev.dispatches i.val (insOp w) = true → 0xC0 ≤ insOp w → s.dev.bit Reg.UCS_CUST_EN i.val = true → (s.dev.strOf i.val).micro.flagsOk = true →
      Completes (.customerOpcodeDispatch i false .good) s (fun e => StreamTo s.dev e i.val ((a + 1) % seqSize) (fun _ => False)
        { c with eng := .micro, micro := { c.micro with active := true, flagsOk := true } })) ∧
    (s.dev.dispatches i.val (insOp w) = true → 0xC0 ≤ insOp w → s.dev.bit Reg.UCS_CUST_EN i.val = true → (s.dev.strOf i.val).micro.flagsOk = false →
      Completes (.customerOpcodeDispatch i false .good) s (fun e => e.strPc i.val = (a + 1) % seqSize ∧ RegsBut (· = Reg.STR_PC i.val) s.dev e ∧
        ∃ z n k, e.strOf i.val = { c with eng := .micro, micro := { c.micro with active := true, flagsOk := true, uz := z, un := n, uc := k } }))

/-! ## Customer routines (R126–R134, R137, R144, R160) -/

/-- R127, R131: ALU, LDI, LDIH, RDX and LDS write their destination, a general register or a temporary of the routine; an ALU operation other than MOV sets the micro-flags to its
result and carry, and CMP sets them alone.
Readings of the model: log entry 2. -/
def Obligations.MicroData : Prop :=
  ∀ (s : State) (i : Fin 16) (w pc : Nat) (c : StrCtx) (m : Micro), w = s.dev.microWord i.val → pc = s.dev.strPc i.val → c = s.dev.strOf i.val → m = c.micro.next →
    (∀ x y v cy, s.dev.executesMicro i.val 0x01 = true → insField w 23 4 ≠ 8 → insField w 23 4 ≠ 9 → insField w 18 5 < 16 →
      s.dev.opd i.val (insField w 13 5) = .val x →
      (if natBit w 12 then y = unsigned 32 (signed 12 (w % 2 ^ 12)) else s.dev.opd i.val (w % 32) = .val y) →
      aluOp (insField w 23 4) x y = some (v, some cy) →
      Completes (.alu i .good) s (fun e => e.g i.val (insField w 18 5) = v % 2 ^ 32 ∧
        StreamTo s.dev e i.val pc (· = Reg.STR_G i.val (insField w 18 5))
          { c with micro := { m with uz := decide (v % 2 ^ 32 = 0), un := natBit v 31, uc := cy } })) ∧
    (∀ x y v cy, s.dev.executesMicro i.val 0x01 = true → insField w 23 4 = 9 → s.dev.opd i.val (insField w 13 5) = .val x → natBit w 12 = false →
      s.dev.opd i.val (w % 32) = .val y → v = (x + 2 ^ 32 - y) % 2 ^ 32 → cy = decide (x < y) →
      Completes (.alu i .good) s (fun e => StreamTo s.dev e i.val pc (fun _ => False)
          { c with micro := { m with uz := decide (v = 0), un := natBit v 31, uc := cy } })) ∧
    (s.dev.executesMicro i.val 0x02 = true → insField w 22 5 < 16 →
      Completes (.ldi i .good) s (fun e => e.g i.val (insField w 22 5) = w % 2 ^ 22 ∧
        StreamTo s.dev e i.val pc (· = Reg.STR_G i.val (insField w 22 5)) { c with micro := m })) ∧
    (∀ k, s.dev.executesMicro i.val 0x03 = true → k < 8 → insField w 22 5 = 0x10 + k →
      Completes (.ldih i .good) s (fun e => StreamTo s.dev e i.val pc (fun _ => False)
        { c with micro := { m with t := m.t.set k (BitVec.ofNat 32 ((m.t.getD k 0).toNat % 2 ^ 16 + w % 2 ^ 16 * 2 ^ 16)) } })) ∧
    (s.dev.executesMicro i.val 0x0C = true → insField w 22 5 < 16 → insField w 16 6 = 0 →
      Completes (.rdx i .good) s (fun e => e.g i.val (insField w 22 5) = s.dev.regN (Reg.STR_FLAGS i.val) ∧
        StreamTo s.dev e i.val pc (· = Reg.STR_G i.val (insField w 22 5)) { c with micro := m })) ∧
    (s.dev.executesMicro i.val 0x0C = true → insField w 22 5 < 16 → insField w 16 6 = 7 →
      Completes (.rdx i .good) s (fun e => e.g i.val (insField w 22 5) = 64 - requests c.queue ∧
        StreamTo s.dev e i.val pc (· = Reg.STR_G i.val (insField w 22 5)) { c with micro := m })) ∧
    (∀ a, s.dev.executesMicro i.val 0x0E = true → insField w 22 5 < 16 → s.dev.opd i.val (insField w 17 5) = .val a → a < seqSize →
      s.dev.winUE (seqAddr a) = false →
      Completes (.lds i .good false) s (fun e =>
        e.g i.val (insField w 22 5) = (if natBit w 16 then s.dev.seqWord a / 2 ^ 32 else s.dev.seqWord a % 2 ^ 32) ∧
        StreamTo s.dev e i.val pc (· = Reg.STR_G i.val (insField w 22 5)) { c with micro := m }))

/-- R129, R131: branches, micro-subroutines, the end of a routine, and the operations on SPC and on the call and loop stacks. A micro-operation moves uPC to the next word, or to its
target. -/
def Obligations.MicroFlow : Prop :=
  ∀ (s : State) (i : Fin 16) (w pc : Nat) (c : StrCtx) (m : Micro), w = s.dev.microWord i.val → pc = s.dev.strPc i.val → c = s.dev.strOf i.val → m = c.micro.next →
    (∀ ft : Fetched, ft.word = .good → s.dev.executesMicro i.val 0x00 = true → Completes (.nop i ft) s (fun e => StreamTo s.dev e i.val pc (fun _ => False) { c with micro := m })) ∧
    (∀ b, s.dev.executesMicro i.val 0x04 = true → c.micro.cond (insField w 23 4) = some b →
      Completes (.br i .good) s (fun e => StreamTo s.dev e i.val pc (fun _ => False)
        { c with micro := { m with upc := if b then w % 2 ^ 14 else m.upc } })) ∧
    (s.dev.executesMicro i.val 0x05 = true → c.micro.stack.length < 8 →
      Completes (.callu i .good) s (fun e => StreamTo s.dev e i.val pc (fun _ => False)
        { c with micro := { m with stack := m.upc :: m.stack, upc := w % 2 ^ 14 } })) ∧
    (∀ t ts, s.dev.executesMicro i.val 0x06 = true → c.micro.stack = t :: ts →
      Completes (.retu i .good) s (fun e => StreamTo s.dev e i.val pc (fun _ => False) { c with micro := { m with stack := ts, upc := t } })) ∧
    (s.dev.executesMicro i.val 0x08 = true → requests c.queue < 64 →
      Completes (.next i .good) s (fun e => StreamTo s.dev e i.val pc (fun _ => False)
        { c with micro := { m with active := false, stack := [] }, eng := .running })) ∧
    (∀ v, s.dev.executesMicro i.val 0x09 = true → insField w 23 4 = 0 → s.dev.opd i.val (insField w 18 5) = .val v →
      Completes (.seq i .good) s (fun e => StreamTo s.dev e i.val (v % 2 ^ 18) (fun _ => False) { c with micro := m })) ∧
    (s.dev.executesMicro i.val 0x09 = true → insField w 23 4 = 1 → c.calls.length < 16 →
      Completes (.seq i .good) s (fun e => StreamTo s.dev e i.val pc (fun _ => False) { c with micro := m, calls := pc :: c.calls })) ∧
    (∀ t ts, s.dev.executesMicro i.val 0x09 = true → insField w 23 4 = 2 → c.calls = t :: ts →
      Completes (.seq i .good) s (fun e => StreamTo s.dev e i.val (t % seqSize) (fun _ => False) { c with micro := m, calls := ts })) ∧
    (∀ v, s.dev.executesMicro i.val 0x09 = true → insField w 23 4 = 3 → s.dev.opd i.val (insField w 18 5) = .val v → c.loops.length < 16 →
      Completes (.seq i .good) s (fun e => StreamTo s.dev e i.val pc (fun _ => False) { c with micro := m, loops := (v, pc) :: c.loops })) ∧
    (∀ v, s.dev.executesMicro i.val 0x09 = true → insField w 23 4 = 7 → s.dev.opd i.val (insField w 18 5) = .val v →
      Completes (.seq i .good) s (fun e => StreamTo s.dev e i.val pc (fun _ => False) { c with micro := m, zf := decide (v = 0), nf := natBit v 31 }))

/-- R131–R133, R144, R160: what a routine queues: plays by EMIT, which restarts the bound on micro-operations, boundary actions by BND and APG, a MATCH by MATCHU, and a fault by FAULT,
which stops the routine; WRX clears and sets external flags.
Readings of the model: log entry 36. -/
def Obligations.MicroActions : Prop :=
  ∀ (s : State) (i : Fin 16) (w pc : Nat) (c : StrCtx) (m : Micro), w = s.dev.microWord i.val → pc = s.dev.strPc i.val → c = s.dev.strOf i.val → m = c.micro.next →
    (∀ span n, s.dev.executesMicro i.val 0x07 = true → s.dev.opd i.val (insField w 22 5) = .val span → natBit w 21 = true → n = insField w 5 16 + 1 →
      requests c.queue + n ≤ 64 →
      Completes (.emit i .good) s (fun e => StreamTo s.dev e i.val pc (fun _ => False)
        { c with micro := { m with lim := 0 }, queue := c.queue ++ List.replicate n (.play (span % 2 ^ 16) m.addr .waiting), held := none })) ∧
    (s.dev.executesMicro i.val 0x0A = true → insField w 22 5 = 0 →
      Completes (.bnd i .good) s (fun e => StreamTo s.dev e i.val pc (fun _ => False)
        { c with micro := m, queue := c.queue ++ [.act .halt m.addr], eng := .done })) ∧
    (∀ v, s.dev.executesMicro i.val 0x0A = true → insField w 22 5 = 5 → s.dev.opd i.val (insField w 17 5) = .val v →
      Completes (.bnd i .good) s (fun e => StreamTo s.dev e i.val pc (fun _ => False)
        { c with micro := m, queue := c.queue ++ [.act (.siteMask (w % 4) (natBit (w % 2 ^ 12) 2) v) m.addr],
                 mask := siteOp (w % 4) (natBit (w % 2 ^ 12) 2) v c.mask })) ∧
    (∀ v, s.dev.executesMicro i.val 0x0A = true → insField w 22 5 = 0x0A → s.dev.opd i.val (insField w 17 5) = .val v →
      Completes (.bnd i .good) s (fun e => StreamTo s.dev e i.val pc (fun _ => False)
        { c with micro := m, queue := c.queue ++ [.act (.signal (v % 2 ^ 16)) m.addr] })) ∧
    (s.dev.executesMicro i.val 0x0B = true → insField w 22 5 = 1 →
      Completes (.apgMicroOp i .good false) s (fun e => StreamTo s.dev e i.val pc (fun _ => False)
        { c with micro := m, queue := c.queue ++ [.act (.asave (w % 8)) m.addr] })) ∧
    (∀ v, s.dev.executesMicro i.val 0x0D = true → insField w 21 6 = 0 → s.dev.opd i.val (insField w 16 5) = .val v →
      Completes (.wrx i .good) s (fun e => e.reg (Reg.STR_FLAGS i.val) = s.dev.reg (Reg.STR_FLAGS i.val) &&& ~~~(BitVec.ofNat 32 v) ∧
        StreamTo s.dev e i.val pc (· = Reg.STR_FLAGS i.val) { c with micro := m })) ∧
    (∀ span t, s.dev.executesMicro i.val 0x10 = true → s.dev.opd i.val (insField w 22 5) = .val span → s.dev.opd i.val (insField w 17 5) = .val t →
      Completes (.matchu i .good) s (fun e => StreamTo s.dev e i.val pc (fun _ => False)
        { c with micro := m, queue := c.queue ++ [.matchPlay (span % 2 ^ 16) m.addr .waiting
            ⟨natBit m.ir 47, natBit m.ir 46, insField m.ir 16 16, t % 2 ^ 18, s.dev.engSave i.val⟩] })) ∧
    (s.dev.executesMicro i.val 0x11 = true →
      Completes (.faultOp i .good) s (fun e => StreamTo s.dev e i.val pc (fun _ => False)
        { c with micro := m, queue := c.queue ++ [.act (.fault (w % 256)) m.addr], eng := .done }))

/-! ## Launches, gaps, spans and cycles (R75, R90, R98–R125, R182) -/

/-- R118–R120: launch commands. An accepted launch makes the stream PRIMING with its masks and its micro-engine at STR_START; a scheduled one must be at least 4 µs ahead, a quorum
one also announced; a launch that R118 refuses leaves the streams as they were and reports its status in a burst record. CANCEL before T − 2 µs returns the stream to HALTED. -/
def Obligations.Launches : Prop :=
  ∀ (s : State) (q : Requester) (i : Fin 16), s.dev.admitsWrite q (Reg.STR_CMD i.val) = true →
    (s.dev.refusal i.val = none →
      Completes (.strLaunch q i) s (fun e => e.strState i.val = 1 ∧ (e.strOf i.val).arm = .immediate ∧ (e.strOf i.val).eng = .running ∧
        (e.strOf i.val).calls = [] ∧ (e.strOf i.val).loops = [] ∧ (e.strOf i.val).queue = [] ∧ e.strPc i.val = s.dev.fld (Reg.STR_START i.val) 0 18 ∧
        e.reg64 (Reg.STR_SITE_LO i.val) (Reg.STR_SITE_HI i.val) = s.dev.reg64 (Reg.STR_SITE_INIT_LO i.val) (Reg.STR_SITE_INIT_HI i.val) ∧
        e.reg (Reg.STR_FAULT i.val) = 0 ∧ e.last = ⟨0, false⟩ ∧ MemSame s.dev e)) ∧
    (∀ n, s.dev.refusal i.val = none → s.dev.ahead (s.dev.launchTime i.val) = some n → 4 * usTicks ≤ n →
      Completes (.strSched q i) s (fun e => e.strState i.val = 1 ∧ (e.strOf i.val).arm = .sched ∧ e.bit (Reg.STR_STATUS i.val) 4 = true ∧
        e.strPc i.val = s.dev.fld (Reg.STR_START i.val) 0 18 ∧ MemSame s.dev e)) ∧
    (∀ n, s.dev.refusal i.val = none → s.dev.ahead (s.dev.launchTime i.val) = some n → 4 * usTicks ≤ n → s.dev.via.qt = some (s.dev.launchTime i.val) →
      Completes (.strQuorum q i) s (fun e => e.strState i.val = 1 ∧ (e.strOf i.val).arm = .quorum ∧ e.bit (Reg.STR_STATUS i.val) 4 = true ∧
        e.strPc i.val = s.dev.fld (Reg.STR_START i.val) 0 18 ∧ MemSame s.dev e)) ∧
    (∀ st, s.dev.refusal i.val = some st → s.dev.evbuf.length < 256 →
      Completes (.strLaunch q i) s (fun e => e.str = s.dev.str ∧ e.bit (Reg.PG_EVT_RAW (Page.STR i.val)) 1 = true ∧ MemSame s.dev e ∧
        ∃ r, e.evbuf = s.dev.evbuf ++ [r] ∧ r.type = 2 ∧ r.code = st ∧ r.source = 0x00300000 + i.val ∧ r.p0 = 0xFFFFFFFF)) ∧
    (∀ n, (s.dev.strState i.val = 1 ∨ s.dev.strState i.val = 2) → ((s.dev.strOf i.val).arm = .sched ∨ (s.dev.strOf i.val).arm = .quorum) →
      s.dev.ahead (s.dev.launchTime i.val) = some n → 2 * usTicks < n →
      Completes (.strCancel q i) s (fun e => e.strState i.val = 0 ∧ (e.strOf i.val).arm = .none ∧ (e.strOf i.val).queue = [] ∧
        (e.strOf i.val).eng = .idle ∧ MemSame s.dev e))

/-- R119, R120, R125: from PRIMING to the first cycle. A primed scheduled launch becomes ARMED; readiness at T − 2 µs is kept or the launch is missed; at its time the stream is
RUNNING with the lattice at that time, and the burst is counted.
Readings of the model: log entry 32. -/
def Obligations.FirstCycles : Prop :=
  ∀ (s : State) (i : Fin 16) (c : StrCtx), c = s.dev.strOf i.val →
    (∀ d : Device, d = ({ s.dev with out := [] } : Device).fetchPrime i.val → s.dev.strState i.val = 1 → c.primed = false → d.strState i.val = 1 → (d.strOf i.val).primed = false →
      d.isPrimed i.val = true →
      ((d.strOf i.val).arm = .sched ∨ (d.strOf i.val).arm = .quorum →
        Completes (.streamPrimed i) s (fun e => e.strState i.val = 2 ∧ e.strOf i.val = { d.strOf i.val with primed := true } ∧
          RegsBut (· = Reg.STR_STATUS i.val) d e ∧ MemSame s.dev e)) ∧
      ((d.strOf i.val).arm = .immediate → d.piersAwake i.val = true → ¬ ((d.strOf i.val).mayHold = true ∧ d.calState = 5) →
        Completes (.streamPrimed i) s (fun e => e.strOf i.val = { d.strOf i.val with primed := true, launchT := d.launchSlot } ∧
          RegsBut (fun _ => False) d e ∧ MemSame s.dev e)) ∧
      ((d.strOf i.val).arm = .immediate → d.piersAwake i.val = true → (d.strOf i.val).mayHold = true → d.calState = 5 →
        Completes (.streamPrimed i) s (fun e => e.strOf i.val = { d.strOf i.val with primed := true } ∧ e.bit Reg.CAL_STATUS 4 = true ∧
          e.cal.held = d.cal.held ++ [(i.val, d.ttime + max 1 (d.fld Reg.CAL_HOLDMAX 0 16) * usTicks)] ∧ MemSame s.dev e))) ∧
    (∀ n a f is, s.dev.strState i.val = 1 → c.primed = true → c.arm = .immediate → s.dev.cal.held = [] → c.queue = .play n a f :: is → c.apgDue = false →
      s.dev.pwrState ≤ 1 → s.dev.regN (Reg.STR_BURST_ID i.val) < 0xFFFFFFFE →
      Completes (.launchFirstCycle i) s (fun e => e.strState i.val = 3 ∧ (e.strOf i.val).sInt = c.launchT ∧ (e.strOf i.val).sFrac = 0 ∧
        (e.strOf i.val).queue = c.queue ∧ e.regN (Reg.STR_BURST_ID i.val) = s.dev.regN (Reg.STR_BURST_ID i.val) + 1 ∧ e.pwrState = 1 ∧
        (s.dev.quiet = true → MemSame s.dev e))) ∧
    ((s.dev.strState i.val = 1 ∨ s.dev.strState i.val = 2) → (c.arm = .sched ∨ c.arm = .quorum) → c.verdict = none → s.dev.notReady i.val = 0 →
      Completes (.schedReadiness i) s (fun e => (e.strOf i.val).verdict = some 0 ∧ e.strState i.val = s.dev.strState i.val ∧
        (s.dev.quiet = true → e.strOf i.val = { c with verdict := some 0 } ∧ e.regs = s.dev.regs ∧ MemSame s.dev e))) ∧
    ((s.dev.strState i.val = 1 ∨ s.dev.strState i.val = 2) → c.arm = .sched → c.verdict = none → s.dev.notReady i.val ≠ 0 →
      Completes (.schedReadiness i) s (fun e => e.strState i.val = 0 ∧ e.bit (Reg.PG_EVT_RAW (Page.STR i.val)) 5 = true ∧
        (s.dev.quiet = true → MemSame s.dev e))) ∧
    (∀ n a f is, s.dev.strState i.val = 2 → c.arm = .sched → c.verdict = some 0 → c.queue = .play n a f :: is → c.apgDue = false →
      Completes (.schedStart i) s (fun e => e.strState i.val = 3 ∧ (e.strOf i.val).sInt = s.dev.launchTime i.val ∧ (e.strOf i.val).sFrac = 0 ∧
        (e.strOf i.val).queue = c.queue ∧ e.bit (Reg.STR_STATUS i.val) 4 = false ∧ (s.dev.quiet = true → MemSame s.dev e))) ∧
    (∀ n a f is, s.dev.strState i.val = 2 → c.arm = .quorum → c.verdict = some 0 → s.dev.via.verdict = some true → c.queue = .play n a f :: is →
      c.apgDue = false →
      Completes (.schedStart i) s (fun e => e.strState i.val = 3 ∧ (e.strOf i.val).sInt = s.dev.launchTime i.val ∧ (e.strOf i.val).queue = c.queue))

/-- R114, R115, R121, R125: stops, jumps and flags. STOP makes a RUNNING stream STOPPING with its kind; a jump is armed on a PLAY whose condition holds, ready once prefetched, and
requested while ready, and taken at once in a gap; flags are set and cleared bit by bit, and a flag that the micro-engine waits for is cleared by it.
Readings of the model: log entries 29, 37 and 124. -/
def Obligations.StreamControls : Prop :=
  (∀ (s : State) (q : Requester) (i : Fin 16) (c : StrCtx), s.dev.admitsWrite q (Reg.STR_CMD i.val) = true → c = s.dev.strOf i.val → s.dev.strState i.val = 3 →
    Completes (.strStopSpan q i) s (fun e => e.strState i.val = 5 ∧ e.strOf i.val = { c with stop := 1 } ∧
      RegsBut (· = Reg.STR_STATUS i.val) s.dev e ∧ MemSame s.dev e) ∧
    Completes (.strStopCycle q i) s (fun e => e.strState i.val = 5 ∧ e.strOf i.val = { c with stop := 2 } ∧
      RegsBut (· = Reg.STR_STATUS i.val) s.dev e ∧ MemSame s.dev e)) ∧
  (∀ (s : State) (q : Requester) (i : Fin 16) (c : StrCtx), s.dev.admitsWrite q (Reg.STR_CMD i.val) = true → c = s.dev.strOf i.val →
    (s.dev.bit (Reg.STR_STATUS i.val) 5 = true → s.dev.playing i.val = true → c.gap = .none →
      Completes (.strJumpRequest q i) s (fun e => e.strOf i.val =
          { c with jumpReq := some (min (s.dev.ttime + 20 * nsTicks) (c.jumpReq.getD (s.dev.ttime + 20 * nsTicks))) } ∧ e.regs = s.dev.regs ∧
        MemSame s.dev e)) ∧
    (∀ t, s.dev.bit (Reg.STR_STATUS i.val) 5 = true → s.dev.strState i.val = 4 → c.gap = .till t → c.jumpReq = none → s.dev.ttime + 20 * nsTicks < t →
      Completes (.strJumpRequest q i) s (fun e => e.strPc i.val = s.dev.fld (Reg.STR_JUMP i.val) 0 18 ∧ e.bit (Reg.STR_JUMP i.val) 31 = false ∧
        e.bit (Reg.STR_STATUS i.val) 5 = false ∧ (e.strOf i.val).queue = [] ∧ (e.strOf i.val).calls = [] ∧ (e.strOf i.val).loops = [] ∧
        (e.strOf i.val).gap = .till (roundUp (s.dev.ttime + 20 * nsTicks + 80 * nsTicks) gridTicks) ∧ MemSame s.dev e)) ∧
    (s.dev.bit (Reg.STR_STATUS i.val) 5 = false →
      Completes (.strJumpRequest q i) s (fun e => e.bit (Reg.PG_EVT_RAW (Page.STR i.val)) 7 = true ∧ e.strOf i.val = c ∧
        RegsBut (· = Reg.PG_EVT_RAW (Page.STR i.val)) s.dev e ∧ MemSame s.dev e))) ∧
  (∀ (s : State) (q : Requester) (i : Fin 16) (target : BitVec 18) (w : Nat) (c : StrCtx), s.dev.admitsWrite q (Reg.STR_JUMP i.val) = true →
    c = s.dev.strOf i.val → w = s.dev.seqWord target.toNat → s.dev.winUE (seqAddr target.toNat) = false → insField w 52 4 = 0 → insOp w = 2 →
    insReserved w ((insUsed 2).getD 0) = false →
    Completes (.strJumpArm q i target) s (fun e => e.bit (Reg.STR_JUMP i.val) 31 = true ∧ e.fld (Reg.STR_JUMP i.val) 0 18 = target.toNat ∧
      e.bit (Reg.STR_STATUS i.val) 5 = false ∧ e.strOf i.val = { c with jump := some (w % 2 ^ 16) } ∧
      RegsBut (fun a => a = Reg.STR_JUMP i.val ∨ a = Reg.STR_STATUS i.val) s.dev e ∧ MemSame s.dev e)) ∧
  (∀ (s : State) (i : Fin 16) (n : Nat), (s.dev.strOf i.val).jump = some n → s.dev.spanReady n = true → s.dev.spanOk i.val n = true →
    s.dev.bit (Reg.STR_STATUS i.val) 5 = false → s.dev.bufBytes i.val + s.dev.jumpBytes n ≤ bufSize →
    s.dev.jumpBytes n * creditByte ≤ s.dev.creditNow i.val →
    Completes (.jumpPrefetchDone i) s (fun e => e.bit (Reg.STR_STATUS i.val) 5 = true ∧ (e.strOf i.val).jump = some n ∧ MemSame s.dev e)) ∧
  (∀ (s : State) (q : Requester) (i : Fin 16) (v : Word), s.dev.admitsWrite q (Reg.STR_FLAGS i.val) = true → (s.dev.strOf i.val).eng = .running →
    Completes (.strFlagsSet q i v) s (fun e => e.reg (Reg.STR_FLAGS i.val) = s.dev.reg (Reg.STR_FLAGS i.val) ||| v ∧
      RegsBut (· = Reg.STR_FLAGS i.val) s.dev e ∧ OnlyRegs s.dev e)) ∧
  (∀ (s : State) (q : Requester) (i : Fin 16) (v : Word) (f : Nat), s.dev.admitsWrite q (Reg.STR_FLAGS i.val) = true → f < 32 →
    (s.dev.strOf i.val).eng = .waitFlag f → v.bit f = true → (s.dev.strOf i.val).micro.active = false →
    Completes (.strFlagsSet q i v) s (fun e => e.reg (Reg.STR_FLAGS i.val) = (s.dev.reg (Reg.STR_FLAGS i.val) ||| v).putBit f false ∧
      (e.strOf i.val).eng = .running ∧ (∀ g p, (s.dev.strOf i.val).gap = .flag g p → (e.strOf i.val).gap = .primed (max (s.dev.ttime + 100 * nsTicks) p) []) ∧
      RegsBut (· = Reg.STR_FLAGS i.val) s.dev e ∧ MemSame s.dev e)) ∧
  (∀ (s : State) (q : Requester) (i : Fin 16) (v : Word), s.dev.admitsWrite q (Reg.STR_FLAGS_CLR i.val) = true →
    Completes (.strFlagsClear q i v) s (fun e => e.reg (Reg.STR_FLAGS i.val) = s.dev.reg (Reg.STR_FLAGS i.val) &&& ~~~v ∧
      RegsBut (· = Reg.STR_FLAGS i.val) s.dev e ∧ OnlyRegs s.dev e))

/-- R98, R99, R105, R107: the request queue. Once the reads of the preceding requests have been issued, a span whose READY is 1 and whose descriptor and records pass the checks is fetched and ACTIVE; one with READY 0 waits; a bad one is
marked with code 0x05; when its last byte has arrived the request holds the span's bytes; an engine that waited for room queues the plays it owes.
Readings of the model: log entries 38 and 123. -/
def Obligations.SpanRequests : Prop :=
  (∀ (s : State) (i : Fin 16) (c : StrCtx) (n a : Nat), c = s.dev.strOf i.val → c.queue.find? QItem.waits = some (.play n a .waiting) → c.jumpBuf = none →
    s.dev.bit (Reg.STR_CTRL i.val) 4 = false → s.dev.winUE (spanWord n 0) = false → s.dev.winUE (spanWord n 2) = false →
    (s.dev.spanReady n = false →
      Completes (.spanFetchBegin i false) s (fun e => (∀ j, e.strOf j = s.dev.strOf j) ∧ e.regs = s.dev.regs ∧ MemSame s.dev e) ∧
      Completes (.spanReadyPoll i false) s (fun e => (∀ j, e.strOf j = s.dev.strOf j) ∧ e.regs = s.dev.regs ∧ MemSame s.dev e)) ∧
    (s.dev.readsIssued i.val = true → s.dev.spanReady n = true → s.dev.spanOk i.val n = false →
      Completes (.spanFetchBegin i false) s (fun e => e.strOf i.val = { c with queue := updFirst QItem.waits (fun _ => .play n a (.bad 0x05)) c.queue } ∧
        e.regs = s.dev.regs ∧ MemSame s.dev e) ∧
      Completes (.spanReadyPoll i false) s (fun e => e.strOf i.val = { c with queue := updFirst QItem.waits (fun _ => .play n a (.bad 0x05)) c.queue } ∧
        e.regs = s.dev.regs ∧ MemSame s.dev e)) ∧
    (s.dev.readsIssued i.val = true → s.dev.spanReady n = true → s.dev.spanOk i.val n = true → 0 < s.dev.spanSize64 n →
      Completes (.spanFetchBegin i false) s (fun e =>
        (e.strOf i.val).queue = updFirst QItem.waits (fun _ => .play n a (.fetching (s.dev.spanSize64 n * 64) 0 false)) c.queue ∧
        n ∈ (e.strOf i.val).actSpans ∧ e.regs = s.dev.regs ∧ MemSame s.dev e) ∧
      Completes (.spanReadyPoll i false) s (fun e =>
        (e.strOf i.val).queue = updFirst QItem.waits (fun _ => .play n a (.fetching (s.dev.spanSize64 n * 64) 0 false)) c.queue ∧
        n ∈ (e.strOf i.val).actSpans ∧ e.regs = s.dev.regs ∧ MemSame s.dev e))) ∧
  (∀ (s : State) (i : Fin 16) (c : StrCtx) (n a size got : Nat) (is : List QItem), c = s.dev.strOf i.val → c.late = [] →
    c.queue = .play n a (.fetching size got false) :: is → s.dev.fetchGot i.val size got false (2 ^ 36) = size →
    s.dev.badWords (s.dev.spanAddr n + got) (size - got) = [] →
    Completes (.spanFetchDone i) s (fun e => (e.strOf i.val).queue = .play n a (.ready (s.dev.fetchedBuf i.val n)) :: is ∧
      (e.strOf i.val).fetchBad = [] ∧ (e.strOf i.val).credit = s.dev.creditNow i.val - (size - got) * creditByte ∧ e.regs = s.dev.regs ∧ MemSame s.dev e)) ∧
  (∀ (s : State) (i : Fin 16) (c : StrCtx), c = s.dev.strOf i.val → c.eng = .waitRoom → s.dev.noRoom i.val = false → c.held = none →
    Completes (.microEngineResume i) s (fun e => e.strOf i.val = { c with eng := if c.micro.active then .micro else .running } ∧
      e.regs = s.dev.regs ∧ MemSame s.dev e)) ∧
  (∀ (s : State) (i : Fin 16) (c : StrCtx) (span n a : Nat), c = s.dev.strOf i.val → c.eng = .waitRoom → c.held = some (span, n, a) →
    s.dev.bufBytes i.val < bufSize → requests c.queue + n < 64 → c.micro.active = false →
    Completes (.microEngineResume i) s (fun e => e.strOf i.val =
      { c with queue := c.queue ++ List.replicate n (.play span a .waiting), held := none, eng := .running } ∧ e.regs = s.dev.regs ∧ MemSame s.dev e))

/-- R75, R105, R108, R110, R111, R182: cycles, boundaries, gaps and the fail bitmap. A cycle that plays without a fault is counted and moves the lattice on by the period; a SITEMSK and a SIGNAL act at their
boundary, by the end of the last cycle; a gap ends at its instant or goes over to waiting for the prime; a bitmap update sets its bits in its unit of 32 bytes and changes no other byte.
Readings of the model: log entry 29. -/
def Obligations.CyclesAndGaps : Prop :=
  (∀ (s : State) (i : Fin 16) (samples : List Sample) (n : Nat) (ueVec : Bool) (eccTs : List (BitVec 8 × Ecc)) (c : StrCtx) (pos : PlayPos) (k : CycPlan)
    (d1 d : Device), d1 = ({ s.dev with out := [] } : Device).fetchArrive i.val n → c = d1.strOf i.val → d1.playing i.val = true → c.gap = .none → c.stop ≠ 2 →
    ((c.pos = some pos ∧ d1.recordAbsent i.val = false ∧ d = d1) ∨ (c.pos = none ∧ (d1.handOver i.val).takeRequest i.val = .at d pos)) → (d.strOf i.val).mtch = none →
    k = d.cyclePlan i.val pos false samples ueVec (eccTs.map (fun e => (e.1.toNat, e.2))) → k.fault = none →
    Completes (.cycleStart i samples n ueVec eccTs) s (fun e =>
      e.reg64 (Reg.STR_CYCLES_LO i.val) (Reg.STR_CYCLES_HI i.val) = (s.dev.reg64 (Reg.STR_CYCLES_LO i.val) (Reg.STR_CYCLES_HI i.val) + 1) % 2 ^ 64 ∧
      (e.strOf i.val).sInt = (k.cfg.sInt * 65536 + k.cfg.sFrac + k.cfg.per) / 65536 ∧ (e.strOf i.val).first = false)) ∧
  (∀ (s : State) (i : Fin 16) (c : StrCtx) (op a v : Nat) (half : Bool), c = s.dev.strOf i.val → s.dev.playing i.val = true → c.gap = .none → c.pos = none →
    c.jumpReq = none → c.stop = 0 → c.apgDue = false → op < 4 → v < 2 ^ 32 → c.queue = [.act (.siteMask op half v) a] →
    Completes (.spanBoundary i) s (fun e =>
      e.reg64 (Reg.STR_SITE_LO i.val) (Reg.STR_SITE_HI i.val) =
        siteOp op half v (s.dev.reg64 (Reg.STR_SITE_LO i.val) (Reg.STR_SITE_HI i.val)) ∧
      (s.dev.quiet = true → e.strOf i.val = { c with queue := [] } ∧
        RegsBut (fun x => x = Reg.STR_SITE_LO i.val ∨ x = Reg.STR_SITE_HI i.val) s.dev e ∧ MemSame s.dev e))) ∧
  (∀ (s : State) (i : Fin 16) (c : StrCtx) (a code : Nat), c = s.dev.strOf i.val → s.dev.playing i.val = true → c.gap = .none → c.pos = none →
    c.jumpReq = none → c.stop = 0 → c.apgDue = false → code < 2 ^ 16 → c.queue = [.act (.signal code) a] →
    Completes (.spanBoundary i) s (fun e => e.regN (Reg.STR_SIGNAL i.val) = code ∧ e.bit (Reg.PG_EVT_RAW (Page.STR i.val)) 3 = true ∧
      (s.dev.quiet = true → e.strOf i.val = { c with queue := [] } ∧ e.hooks = s.dev.hooks ++ [(16 + i.val, code)] ∧ MemSame s.dev e))) ∧
  (∀ (s : State) (i : Fin 16) (c : StrCtx) (t : Nat), c = s.dev.strOf i.val → c.gap = .till t → s.dev.strState i.val = 4 → headActs c.queue = false →
    Completes (.gapEnd i) s (fun e => e.strState i.val = 3 ∧ (e.strOf i.val).gap = .none ∧ (e.strOf i.val).sInt = t ∧ (e.strOf i.val).sFrac = 0 ∧
      (e.strOf i.val).queue = c.queue ∧ (s.dev.quiet = true → RegsBut (· = Reg.STR_STATUS i.val) s.dev e ∧ MemSame s.dev e))) ∧
  (∀ (s : State) (i : Fin 16) (c : StrCtx) (t : Nat) (post : List GapAdj), c = s.dev.strOf i.val → c.gap = .primed t post → s.dev.strState i.val = 4 →
    s.dev.isPrimed i.val = true → s.dev.ttime ≤ s.dev.planned i.val → headActs c.queue = false →
    Completes (.gapEnd i) s (fun e => e.strState i.val = 3 ∧ (e.strOf i.val).gap = .none ∧ (e.strOf i.val).sInt = s.dev.planned i.val ∧
      (e.strOf i.val).sFrac = 0 ∧ (e.strOf i.val).queue = c.queue)) ∧
  (∀ (s : State) (i : Fin 16) (c : StrCtx) (t : Nat), c = s.dev.strOf i.val → c.gap = .drain t → s.dev.strState i.val = 4 →
    Completes (.gapEnd i) s (fun e => e.strState i.val = 3 ∧ (e.strOf i.val).gap = .none ∧ (e.strOf i.val).sInt = t ∧ (e.strOf i.val).sFrac = 0 ∧
      (e.strOf i.val).eng = (if c.micro.active then .micro else .running) ∧
      (s.dev.quiet = true → RegsBut (· = Reg.STR_STATUS i.val) s.dev e ∧ MemSame s.dev e))) ∧
  (∀ (s : State) (i : Fin 16) (c : StrCtx) (d : Device) (t m f : Nat), c = s.dev.strOf i.val → c.gap = .drop t →
    d = (({ s.dev with out := [] } : Device).reach t).settleDue i.val t → m = d.reg64 (Reg.STR_SITE_LO i.val) (Reg.STR_SITE_HI i.val) → f = d.siteFail i.val →
    Completes (.gapEnd i) s (fun e => e.reg64 (Reg.STR_SITE_LO i.val) (Reg.STR_SITE_HI i.val) = m - (m &&& f) ∧
      (e.strOf i.val).mask = c.mask - (c.mask &&& f) ∧ (e.strOf i.val).gap = .none ∧ (e.strOf i.val).sInt = t ∧
      (s.dev.quiet = true → MemSame s.dev e))) ∧
  (∀ (s : State) (p : Fin 16) (u : BmUpdate) (us : List BmUpdate), (s.dev.capOf p.val).bmq = u :: us → s.dev.memUE u.addr 32 = false →
    Completes (.bitmapUpdateWrite p false) s (fun e => (e.capOf p.val).bmq = us ∧
      e.memRead u.addr 32 = (s.dev.memRead u.addr 32 ||| u.bits) % 2 ^ 256 ∧
      (∀ a, (a < u.addr ∨ u.addr + 32 ≤ a) → memByte e.mem a = memByte s.dev.mem a) ∧ e.regs = s.dev.regs))

/-! ## Control store (R126, R135–R146) -/

/-- R137, R141, R142, R145, R146: loads of the control store. LOAD_CUST starts READ or is refused with its code; READ stages the image; CHECK goes over to WRITE with the old image invalid,
or refuses; WRITE stores the payload with zeros behind it and sets CUST_VALID. CLEAR_CUST invalidates every entry. LOAD_VEND stages an image for the half that is not VTARGET, and
VSWITCH moves VTARGET and the halted streams to a verified half. The scrubber counts a corrected error, and records the address of an uncorrectable one, which stays.
Readings of the model: log entries 3, 78, 132 and 133. -/
def Obligations.ControlStoreLoads : Prop :=
  (∀ (s : State) (q : Requester) (a len : Nat), s.dev.admitsWrite q Reg.UCS_CMD = true → s.dev.lstate = 0 →
    a = s.dev.reg64 Reg.UCS_IMG_ADDR_LO Reg.UCS_IMG_ADDR_HI → len = s.dev.regN Reg.UCS_IMG_LEN →
    (s.dev.custBusy = false → s.dev.bit Reg.FUSE_CFG0 0 = true → a % 64 = 0 → 0 < len → a + len ≤ memEnd → stackOf a = stackOf (a + len - 1) →
      s.dev.memThere (a + 12) 4 = true → s.dev.badWords (a + 12) 4 = [] → len = 0xC0 + 4 * s.dev.memRead (a + 12) 4 →
      Completes (.loadCust q) s (fun e => e.lstate = 1 ∧ e.ucs.vend = false ∧ e.ucs.addr = a ∧ e.ucs.len = len ∧ RegsBut (· = Reg.UCS_STATUS) s.dev e ∧ MemSame s.dev e)) ∧
    (s.dev.custBusy = true →
      Completes (.loadCust q) s (fun e => e.reg Reg.UCS_LOAD_STATUS = 0xFFFF0001 ∧ e.lstate = 0 ∧ e.bit (Reg.PG_EVT_RAW Page.UCS) 1 = true ∧ MemSame s.dev e)) ∧
    (s.dev.custBusy = false →
      Completes (.clearCust q) s (fun e => (∀ i < 64, natBit (e.csWord (12288 + i)) 31 = false) ∧ e.bit Reg.UCS_STATUS 8 = false ∧ MemSame s.dev e))) ∧
  (∀ (s : State) (image : List Word) (h : Nat), s.dev.lstate = 0 → h = 1 - s.dev.fld Reg.UCS_STATUS 12 1 → (∀ j < 16, s.dev.vendHalf j ≠ h) →
    Completes (.loadVend image) s (fun e => e.lstate = 1 ∧ e.ucs.vend = true ∧ e.ucs.half = h ∧ e.ucs.stage = image.map (·.toNat) ∧
      RegsBut (· = Reg.UCS_STATUS) s.dev e ∧ MemSame s.dev e)) ∧
  (∀ (s : State) (h : Nat), s.dev.admitsWrite .keystone Reg.UCS_CMD = true → s.dev.lstate = 0 → h = 1 - s.dev.fld Reg.UCS_STATUS 12 1 →
    s.dev.bit Reg.UCS_STATUS (16 + h) = true →
    Completes .vswitch s (fun e => e.fld Reg.UCS_STATUS 12 1 = h ∧ (∀ j < 16, s.dev.halted j = true → e.vendHalf j = h) ∧
      RegsBut (fun a => a = Reg.UCS_STATUS ∨ a = Reg.UCS_VSEL ∨ a = Reg.PG_EVT_RAW Page.UCS) s.dev e ∧ MemSame s.dev e)) ∧
  (∀ (s : State) (a len : Nat), s.dev.lstate = 1 → s.dev.ucs.vend = false → a = s.dev.ucs.addr → len = s.dev.ucs.len → s.dev.memThere a len = true →
    s.dev.badWords a len = [] →
    Completes (.ucsLoadReadDone none) s (fun e => e.lstate = 2 ∧ e.ucs.stage = (List.range (len / 4)).map (fun i => s.dev.memRead (a + 4 * i) 4) ∧
      RegsBut (· = Reg.UCS_STATUS) s.dev e ∧ MemSame s.dev e)) ∧
  (∀ s : State, s.dev.lstate = 1 → s.dev.ucs.vend = true →
    Completes (.ucsLoadReadDone none) s (fun e => e.lstate = 2 ∧ e.ucs = s.dev.ucs ∧ RegsBut (· = Reg.UCS_STATUS) s.dev e ∧ MemSame s.dev e)) ∧
  (∀ (s : State) (w : BitVec 15), s.dev.lstate = 1 →
    (s.dev.ucs.vend = false → s.dev.memThere s.dev.ucs.addr s.dev.ucs.len = true → s.dev.ucs.addr % 64 = 0 ∧ w.toNat < s.dev.ucs.len) →
    Completes (.ucsLoadReadDone (some w)) s (fun e => e.lstate = 0 ∧ e.reg Reg.UCS_LOAD_STATUS = 0xFFFF0004 ∧ e.bit (Reg.PG_EVT_RAW Page.UCS) 1 = true ∧
      e.ucs.stage = [] ∧ MemSame s.dev e)) ∧
  (∀ s : State, s.dev.lstate = 2 → s.dev.ucs.vend = false → imgHeaderOk s.dev.ucs.stage false = true → s.dev.imgSignCheck s.dev.ucs.stage = 0 →
    verifyImage s.dev.ucs.stage = none →
    Completes .ucsLoadCheckDone s (fun e => e.lstate = 3 ∧ e.bit Reg.UCS_STATUS 8 = false ∧ (∀ i < 64, natBit (e.csWord (12288 + i)) 31 = false) ∧
      e.ucs = s.dev.ucs ∧ MemSame s.dev e)) ∧
  (∀ (s : State) (i c : Nat), s.dev.lstate = 2 → s.dev.ucs.vend = false → imgHeaderOk s.dev.ucs.stage false = true → s.dev.imgSignCheck s.dev.ucs.stage = 0 →
    verifyImage s.dev.ucs.stage = some (i, c) → i < 4096 → c < 2 ^ 16 →
    Completes .ucsLoadCheckDone s (fun e => e.lstate = 0 ∧ e.regN Reg.UCS_LOAD_STATUS = i * 2 ^ 16 + c ∧ e.bit (Reg.PG_EVT_RAW Page.UCS) 1 = true ∧
      MemSame s.dev e)) ∧
  (∀ (s : State) (ws : List Nat), s.dev.lstate = 3 → s.dev.ucs.vend = false → ws = s.dev.ucs.stage →
    Completes (.ucsLoadWriteDone none) s (fun e => e.lstate = 0 ∧ e.bit Reg.UCS_STATUS 8 = true ∧ e.reg Reg.UCS_LOAD_STATUS = 0xFFFF0000 ∧
      e.regN Reg.UCS_CUST_SVN = imgSvn ws % 2 ^ 32 ∧ e.bit (Reg.PG_EVT_RAW Page.UCS) 0 = true ∧
      (∀ i < 4096, e.csWord (12288 + i) = (if i < imgWords ws ∨ i < 64 then imgPay ws i else 0) % 2 ^ 32) ∧ MemSame s.dev e)) ∧
  (∀ (s : State) (w : BitVec 14), s.dev.bit Reg.UCS_CTRL 0 = true → s.dev.csUE w.toNat = false → s.dev.fld Reg.UCS_CE_CNT 0 16 < 0xFFFF →
    Completes (.csScrubStep w .corrected) s (fun e => e.fld Reg.UCS_CE_CNT 0 16 = s.dev.fld Reg.UCS_CE_CNT 0 16 + 1 ∧
      e.bit (Reg.PG_EVT_RAW Page.UCS) 2 = true ∧ RegsBut (fun a => a = Reg.UCS_CE_CNT ∨ a = Reg.PG_EVT_RAW Page.UCS) s.dev e ∧ OnlyRegs s.dev e)) ∧
  (∀ (s : State) (w : BitVec 14), s.dev.bit Reg.UCS_CTRL 0 = true →
    Completes (.csScrubStep w .bad) s (fun e => e.csUE w.toNat = true ∧ e.regN Reg.UCS_UE_ADDR = 2 ^ 31 + w.toNat ∧ e.bit (Reg.PG_EVT_RAW Page.UCS) 3 = true ∧
      RegsBut (fun a => a = Reg.UCS_UE_ADDR ∨ a = Reg.PG_EVT_RAW Page.UCS) s.dev e ∧ MemSame s.dev e)) ∧
  (∀ (s : State) (w : BitVec 14) (x : Ecc), s.dev.bit Reg.UCS_CTRL 0 = false ∨ x = .good ∧ s.dev.csUE w.toNat = false →
    Completes (.csScrubStep w x) s (fun e => e.regs = s.dev.regs ∧ OnlyRegs s.dev e))

/-! ## Capture and triggers (R164–R195) -/

/-- R166, R170–R173, R179: arming, disarming and releasing a capture engine. ARM takes the region of a halted pier with its status fill still to come; the fill leaves the status
dword of every segment header 0 and the engine ARMED at segment 0 with no use; ARM on a pier in play is a fault of code 0x01.
Readings of the model: log entry 44. -/
def Obligations.CaptureEngines : Prop :=
  (∀ (s : State) (q : Requester) (p : Fin 16), s.dev.admitsWrite q (Reg.CAP_CMD p.val) = true →
    (s.dev.pierHalted p.val = true → (s.dev.capRegion p.val).ok = true →
      Completes (.capArm q p) s (fun e => (e.capOf p.val).region = some (s.dev.capRegion p.val) ∧ (e.capOf p.val).fill = true ∧
        e.bit (Reg.CAP_STATUS p.val) 0 = false ∧ e.last = ⟨0, false⟩ ∧ MemSame s.dev e)) ∧
    (s.dev.pierHalted p.val = false →
      Completes (.capArm q p) s (fun e => e.reg (Reg.PG_FAULT_CODE (Page.CAP p.val)) = 1 ∧ e.bit (Reg.PG_STATUS (Page.CAP p.val)) 2 = true ∧
        e.cap = s.dev.cap ∧ MemSame s.dev e)) ∧
    (s.dev.pierHalted p.val = true → (s.dev.capOf p.val).seg = none →
      Completes (.capDisarm q p) s (fun e => (e.capOf p.val).region = none ∧ (e.capOf p.val).fill = false ∧ e.bit (Reg.CAP_STATUS p.val) 0 = false ∧
        MemSame s.dev e))) ∧
  (∀ (s : State) (q : Requester) (p : Fin 16) (v : Word) (u : Nat), s.dev.admitsWrite q (Reg.CAP_RELEASE p.val) = true → v.bit 31 = false →
    u = v.toNat / 2 ^ 24 % 64 →
    Completes (.capRelease q p v) s (fun e =>
      e.regN (Reg.CAP_USE p.val u) = s.dev.regN (Reg.CAP_USE p.val u) - v.toNat % 2 ^ 24 ∧ e.last = ⟨0, false⟩ ∧
      RegsBut (· = Reg.CAP_USE p.val u) s.dev e ∧ MemSame s.dev e)) ∧
  (∀ (s : State) (p : Fin 16), (∀ j, s.dev.streamOf p.val = some j → (s.dev.strOf j).flights = []) →
    Completes (.capRearmDone p) s (fun e => e.bit (Reg.CAP_STATUS p.val) 3 = false ∧ RegsBut (· = Reg.CAP_STATUS p.val) s.dev e ∧ OnlyRegs s.dev e)) ∧
  (∀ (s : State) (p : Fin 16) (j : Nat) (c : StrCtx), s.dev.streamOf p.val = some j → c = s.dev.strOf j → c.flights ≠ [] →
    Completes (.capRearmDone p) s (fun e => e.strOf j = { c with flights := c.flights ++ [.rearmed p.val] } ∧ e.regs = s.dev.regs ∧ MemSame s.dev e)) ∧
  (∀ (s : State) (p : Fin 16) (r : Region), (s.dev.capOf p.val).fill = true → (s.dev.capOf p.val).region = some r → (∀ i < 16, s.dev.heldSpans i = []) →
    (∀ k < r.cnt, s.dev.memThere (r.base + k * r.seg64 * 64 + 0x3C) 4 = true) →
    Completes (.armStatusFillDone p) s (fun e => e.bit (Reg.CAP_STATUS p.val) 0 = true ∧ e.fld (Reg.CAP_STATUS p.val) 12 20 = 0 ∧
      (e.capOf p.val).fill = false ∧ (∀ u < 64, e.regN (Reg.CAP_USE p.val u) = 0) ∧
      (∀ k < r.cnt, e.memRead (r.base + k * r.seg64 * 64 + 0x3C) 4 = 0)))

/-- R187, R189–R192: the actions of a firing and the trigger pins. The oldest firing leaves its engine, sets the flags it names and raises the TRIGOUT lines it names in state
NORMAL; a pulse ends; an edge of TRIGIN is attributed, 6 ns on, in every stream that is not halted to a cycle in the compare pipeline, or kept for one that has not started.
Readings of the model: log entry 45. -/
def Obligations.TriggerActions : Prop :=
  (∀ (s : State) (p : Fin 16) (a : TrigAct) (rest : List TrigAct), (s.dev.trgOf p.val).acts = a :: rest → a.jump = false → a.stream < 16 →
    (s.dev.strOf a.stream).eng = .running →
    Completes (.triggerActions p) s (fun e => (∃ l, (e.trgOf p.val).acts = rest ++ l) ∧
      e.reg (Reg.STR_FLAGS a.stream) = s.dev.reg (Reg.STR_FLAGS a.stream) ||| BitVec.ofNat 32 a.flags ∧
      (s.dev.normal = true → ∀ k < 8, natBit a.out k = true → (Tab.get (fun _ => none) e.trigout k).isSome = true) ∧
      (s.dev.quiet = true → (e.trgOf p.val).acts = rest ∧ (a.evt = false → RegsBut (· = Reg.STR_FLAGS a.stream) s.dev e) ∧ MemSame s.dev e))) ∧
  (∀ (s : State) (k : Fin 8) (t : Nat), Tab.get (fun _ => none) s.dev.trigout k.val = some t →
    Completes (.trigoutPulseEnd k) s (fun e => Tab.get (fun _ => none) e.trigout k.val = none ∧
      (∀ j, j ≠ k.val → Tab.get (fun _ => none) e.trigout j = Tab.get (fun _ => none) s.dev.trigout j) ∧
      (s.dev.quiet = true → e.regs = s.dev.regs ∧ MemSame s.dev e))) ∧
  (∀ (s : State) (k : Fin 4) (t : BitVec 64) (rise : Bool),
    Completes (.triginEdge k t rise) s (fun e =>
      (∀ j < 16, (e.strOf j).trigin = (s.dev.strOf j).trigin ++
        (if s.dev.halted j = false ∧ ((s.dev.strOf j).first = true ∨ (s.dev.strOf j).lastEnd ≤ t.toNat + 6 * nsTicks) then
          [(t.toNat + 6 * nsTicks, k.val, rise)] else [])) ∧
      (∀ j f is, j < 16 → s.dev.halted j = false → (s.dev.strOf j).flights = .cycle f :: is → max s.dev.ttime t.toNat < f.due →
        e.strOf j = (s.dev.strOf j).takeEdge (t.toNat + 6 * nsTicks) k.val rise) ∧
      (s.dev.quiet = true → (∀ j < 16, e.strOf j = { s.dev.strOf j with trigin := (e.strOf j).trigin }) ∧ e.regs = s.dev.regs ∧ MemSame s.dev e)))

/-! ## Interval meters (R196–R213) -/

/-- R201, R206, R208, R210–R212: commands of a meter. ARM calibrates, waits for the end of a loan, or is a fault without TCLK; calibration codes within their bounds start the
measurement; DISARM during calibration makes the meter IDLE; FLUSH and reads empty the FIFO; the loan of an IDLE meter ends, where the calibration engine asks for none.
Readings of the model: log entry 47. -/
def Obligations.MeterCommands : Prop :=
  (∀ (s : State) (q : Requester) (i : Fin 32), s.dev.admitsWrite q (Reg.IVM_CMD i.val) = true → s.dev.calState ≠ 1 → s.dev.calState ≠ 2 →
    (s.dev.ivmState i.val = 0 → s.dev.bit Reg.CLK_STATUS 0 = true →
      Completes (.ivmArm q i) s (fun e => e.ivmState i.val = 1 ∧ (e.ivmOf i.val).events = [] ∧ (e.ivmOf i.val).seq = 0 ∧
        RegsBut (· = Reg.IVM_STATUS i.val) s.dev e ∧ MemSame s.dev e)) ∧
    (s.dev.ivmState i.val = 0 → s.dev.bit Reg.CLK_STATUS 0 = false →
      Completes (.ivmArm q i) s (fun e => e.reg (Reg.PG_FAULT_CODE (Page.IVM i.val)) = 3 ∧ e.ivmState i.val = 0 ∧ MemSame s.dev e)) ∧
    (s.dev.ivmState i.val = 4 →
      Completes (.ivmArm q i) s (fun e => (e.ivmOf i.val).armHeld = true ∧ e.regs = s.dev.regs ∧ MemSame s.dev e)) ∧
    (s.dev.ivmState i.val = 1 →
      Completes (.ivmDisarm q i) s (fun e => e.ivmState i.val = 0 ∧ RegsBut (· = Reg.IVM_STATUS i.val) s.dev e ∧ MemSame s.dev e)) ∧
    Completes (.ivmFlush q i) s (fun e => (e.ivmOf i.val).fifo = [] ∧ e.fld (Reg.IVM_STATUS i.val) 16 9 = 0 ∧
      RegsBut (· = Reg.IVM_STATUS i.val) s.dev e ∧ MemSame s.dev e)) ∧
  (∀ (s : State) (i : Fin 32) (a1 a2 b1 b2 : BitVec 18), s.dev.ivmState i.val = 1 → s.dev.calState ≠ 1 → s.dev.calState ≠ 2 →
    a1.toNat + 16 * 3277 ≤ a2.toNat → a2.toNat ≤ a1.toNat + 16 * 4915 → b1.toNat + 16 * 3277 ≤ b2.toNat → b2.toNat ≤ b1.toNat + 16 * 4915 →
    Completes (.ivmCalDone i a1 a2 b1 b2) s (fun e => e.ivmState i.val = (if s.dev.ivmMode i.val = 3 then 2 else 3) ∧ e.bit (Reg.IVM_STATUS i.val) 3 = true ∧
      (e.ivmOf i.val).opened = (if s.dev.ivmMode i.val = 3 then none else some (s.dev.ivmNow i.val)) ∧
      e.regN (Reg.IVM_CALCODE_A i.val) = (a1.toNat + 8) / 16 + (a2.toNat + 8) / 16 * 2 ^ 16 ∧
      e.regN (Reg.IVM_CALCODE_B i.val) = (b1.toNat + 8) / 16 + (b2.toNat + 8) / 16 * 2 ^ 16 ∧ MemSame s.dev e)) ∧
  (∀ (s : State) (q : Requester) (i : Fin 32) (v f : Nat) (rest : List (Nat × Nat)), s.dev.admitsRead q (Reg.IVM_FIFO_LO i.val) = true →
    (s.dev.ivmOf i.val).fifo = (v, f) :: rest →
    Completes (.ivmFifoRead q i) s (fun e => e.last = ⟨BitVec.ofNat 32 v, false⟩ ∧ (e.ivmOf i.val).fifo = rest ∧
      RegsBut (· = Reg.IVM_STATUS i.val) s.dev e ∧ MemSame s.dev e)) ∧
  (∀ (s : State) (i : Fin 32), s.dev.ivmState i.val = 4 → s.dev.calState ≠ 1 → s.dev.calState ≠ 2 → (s.dev.ivmOf i.val).armHeld = false →
    Completes (.ivmLoanEnd i) s (fun e => e.ivmState i.val = 0 ∧ RegsBut (· = Reg.IVM_STATUS i.val) s.dev e ∧ MemSame s.dev e)) ∧
  (∀ (s : State) (i : Fin 32), s.dev.ivmState i.val = 4 → s.dev.calState ≠ 1 → s.dev.calState ≠ 2 → (s.dev.ivmOf i.val).armHeld = true → s.dev.bit Reg.CLK_STATUS 0 = true →
    Completes (.ivmLoanEnd i) s (fun e => e.ivmState i.val = 1 ∧ (e.ivmOf i.val).armHeld = false ∧ RegsBut (· = Reg.IVM_STATUS i.val) s.dev e ∧
      MemSame s.dev e))

/-- R196, R199, R202–R206, R209: events and results. The first event of a totalize run is taken at its time; the gate, or the limit with TIMEOUT, ends a run; a totalize run reports its
count, an interval the difference of its two stamps, each with DONE.
Readings of the model: log entries 2 and 47. -/
def Obligations.MeterRuns : Prop :=
  (∀ (s : State) (i : Fin 32) (src : BitVec 10) (ball : BitVec 64) (past : Bool) (code : BitVec 14), s.dev.calState ≠ 1 → s.dev.calState ≠ 2 → s.dev.ivmState i.val = 3 → s.dev.ivmMode i.val = 2 →
    ivmInterpolated src.toNat = true → s.dev.fld (Reg.IVM_START i.val) 0 10 = src.toNat → s.dev.fld (Reg.IVM_START i.val) 14 2 = 0 →
    s.dev.fld (Reg.IVM_STOP i.val) 0 10 ≠ src.toNat → s.dev.fld (Reg.IVM_HOLDOFF i.val) 0 16 = 0 → s.dev.regN (Reg.IVM_GATE i.val) = 0 →
    s.dev.bit (Reg.IVM_CTRL i.val) 4 = false → (s.dev.ivmOf i.val).ended = none → (s.dev.ivmOf i.val).events = [] → (s.dev.ivmOf i.val).lastEdge = none →
    (s.dev.ivmOf i.val).calEnd ≤ (s.dev.ivmOf i.val).base + ball.toNat →
    Completes (.ivmEvent i src true ball past code) s (fun e =>
      ⟨0, (s.dev.ivmOf i.val).base + ball.toNat, past, code.toNat, false, 0, 0, true, false, false, true⟩ ∈ (e.ivmOf i.val).events ∧
      (e.ivmOf i.val).lastEdge = some ((s.dev.ivmOf i.val).base + ball.toNat) ∧ (s.dev.quiet = true → (e.ivmOf i.val).events.length = 1 ∧ e.regs = s.dev.regs ∧ MemSame s.dev e))) ∧
  (∀ (s : State) (q : Requester) (i : Fin 32) (t : Nat), s.dev.admitsWrite q (Reg.IVM_CMD i.val) = true → s.dev.calState ≠ 1 → s.dev.calState ≠ 2 → s.dev.ivmState i.val = 3 →
    s.dev.ivmMode i.val = 2 → s.dev.fld (Reg.IVM_START i.val) 0 10 = 0x2FC → s.dev.fld (Reg.IVM_STOP i.val) 0 10 ≠ 0x2FC →
    s.dev.fld (Reg.IVM_HOLDOFF i.val) 0 16 = 0 → s.dev.regN (Reg.IVM_GATE i.val) = 0 → (s.dev.ivmOf i.val).ended = none →
    (s.dev.ivmOf i.val).events = [] → (s.dev.ivmOf i.val).lastEdge = none → (s.dev.ivmOf i.val).calEnd ≤ s.dev.ivmNow i.val →
    t = (s.dev.ivmOf i.val).base + (s.dev.ttime / 1280 + 1) * 1280 →
    Completes (.ivmSwevt q i) s (fun e => (e.ivmOf i.val).events = [⟨0, t, false, 0, true, 0, 0, true, false, false, true⟩] ∧ e.regs = s.dev.regs ∧ MemSame s.dev e)) ∧
  (∀ (s : State) (i : Fin 32) (g : Nat), s.dev.calState ≠ 1 → s.dev.calState ≠ 2 → s.dev.ivmState i.val = 3 → s.dev.ivmGateEnd i.val = some g → (s.dev.ivmOf i.val).ended = none →
    Completes (.ivmGateClose i) s (fun e => (e.ivmOf i.val).ended = some (.gate, g) ∧
      (s.dev.quiet = true → e.regs = s.dev.regs ∧ MemSame s.dev e))) ∧
  (∀ (s : State) (i : Fin 32), s.dev.calState ≠ 1 → s.dev.calState ≠ 2 → (s.dev.ivmState i.val = 2 ∨ s.dev.ivmState i.val = 3) → s.dev.fld (Reg.IVM_TIMEOUT i.val) 0 24 ≠ 0 →
    s.dev.ivmEndOf i.val (s.dev.ivmView i.val).acc = none →
    Completes (.ivmTimeout i) s (fun e =>
      (e.ivmOf i.val).ended = some (.timeout, (s.dev.ivmOf i.val).calEnd + s.dev.fld (Reg.IVM_TIMEOUT i.val) 0 24 * usTicks) ∧
      e.bit (Reg.PG_EVT_RAW (Page.IVM i.val)) 1 = true ∧
      (s.dev.quiet = true → RegsBut (· = Reg.PG_EVT_RAW (Page.IVM i.val)) s.dev e ∧ MemSame s.dev e))) ∧
  (∀ (s : State) (i : Fin 32) (why : IvmEnd) (t n : Nat), s.dev.calState ≠ 1 → s.dev.calState ≠ 2 → s.dev.ivmState i.val = 3 → s.dev.ivmMode i.val = 2 → 
    s.dev.ivmEndOf i.val (s.dev.ivmView i.val).acc = some (why, t) → n = ((s.dev.ivmAccepted i.val).filter (fun x => x.start)).length →
    Completes (.ivmResultFinal i) s (fun e => e.reg64 (Reg.IVM_RES_LO i.val) (Reg.IVM_RES_HI i.val) = n % 2 ^ 64 ∧ e.ivmState i.val = 0 ∧
      e.bit (Reg.PG_EVT_RAW (Page.IVM i.val)) 0 = true ∧ MemSame s.dev e)) ∧
  (∀ (s : State) (i : Fin 32) (a b : IvmEv) (why : IvmEnd) (t : Nat), s.dev.calState ≠ 1 → s.dev.calState ≠ 2 → s.dev.ivmState i.val = 3 → s.dev.ivmMode i.val = 0 →
    s.dev.ivmEndOf i.val (s.dev.ivmView i.val).acc = some (why, t) → why ≠ .timeout →
    s.dev.fld (Reg.IVM_REPEAT i.val) 0 16 = 0 → s.dev.ivmInterval i.val = some (a, b) → a.t ≤ b.t → b.t < 2 ^ 64 →
    Completes (.ivmResultFinal i) s (fun e => e.reg64 (Reg.IVM_RES_LO i.val) (Reg.IVM_RES_HI i.val) = b.t - a.t ∧ e.ivmState i.val = 0 ∧
      e.bit (Reg.PG_EVT_RAW (Page.IVM i.val)) 0 = true ∧ MemSame s.dev e))

/-! ## Vector memory and its ledger (R214–R237) -/

/-- R218–R227: the channels of vector memory. A refresh pays or adds to the debt of its pseudo-channel within 4 and closes its banks; an idle row closes; a temperature is kept
with the status of each channel; a parity error counts a replay, whose end clears the count; corrected and uncorrectable errors are counted; the zero-fill leaves every byte 0.
Readings of the model: log entry 48. -/
def Obligations.MemoryChannels : Prop :=
  (∀ (s : State) (n : Fin 32) (banks : List (Fin 48)), s.dev.mchState n.val = 1 →
    Completes (.refreshDue n 0 banks) s (fun e => (e.mchCtx n.val).debt0 = min 4 ((s.dev.mchCtx n.val).debt0 + 1 - banks.length) ∧
      (∀ b ∈ banks, Tab.get (fun _ => 0) e.rows (bankKey n.val 0 b.val) = 0) ∧ RegsBut (· = Reg.MCH_REFDEBT n.val) s.dev e ∧ MemSame s.dev e)) ∧
  (∀ (s : State) (n : Fin 32) (pc : Fin 2) (b : Fin 48), Completes (.rowIdleClose n pc b) s (fun e =>
    Tab.get (fun _ => 0) e.rows (bankKey n.val pc.val b.val) = 0 ∧ e.regs = s.dev.regs ∧ MemSame s.dev e)) ∧
  (∀ (s : State) (k : Fin 2) (t : BitVec 8), Completes (.stackTempRead k t) s (fun e => e.fld Reg.MEM_TEMP (8 * k.val) 8 = t.toNat ∧
    (∀ j < 16, e.bit (Reg.MCH_STATUS (16 * k.val + j)) 8 = decide (85 < signed 8 t.toNat)) ∧ MemSame s.dev e)) ∧
  (∀ (s : State) (n : Fin 32) (pc : Fin 2), s.dev.mchState n.val = 1 →
    Completes (.memParityError n pc) s (fun e => e.replays n.val pc.val = min 3 (s.dev.replays n.val pc.val + 1) ∧
      e.bit (Reg.PG_EVT_RAW (Page.MCH n.val)) 2 = true ∧
      RegsBut (fun a => a = Reg.MCH_REPLAY n.val ∨ a = Reg.PG_EVT_RAW (Page.MCH n.val)) s.dev e ∧ MemSame s.dev e)) ∧
  (∀ (s : State) (n : Fin 32) (pc : Fin 2) (a : BitVec 36), memAddr a = true → s.dev.mchState n.val = 1 → s.dev.replays n.val pc.val ≠ 0 →
    Completes (.memReplayDone n pc none a) s (fun e => e.replays n.val pc.val = 0 ∧ e.regs = s.dev.regs ∧ MemSame s.dev e)) ∧
  (∀ (s : State) (a : BitVec 36) (i : Fin 16) (n pc : Nat), memAddr a = true → n = mchOf a.toNat → pc = pcOf a.toNat → s.dev.mchState n = 1 → s.dev.replays n pc = 3 →
    ∀ (n' : Fin 32) (pc' : Fin 2), n'.val = n → pc'.val = pc →
    Completes (.memReplayDone n' pc' (some (.fetch i)) a) s (fun e => e.replays n pc = 0 ∧ e.bit (Reg.PG_EVT_RAW (Page.MCH n)) 3 = true ∧
      e.bit (Reg.PG_EVT_RAW (Page.MCH n)) 1 = true ∧ (e.strOf i.val).fetchBad = (s.dev.strOf i.val).fetchBad ++ [a.toNat / 8] ∧ MemSame s.dev e)) ∧
  (∀ (s : State) (a : BitVec 36) (syn : BitVec 8) (late : Bool), memAddr a = true → s.dev.fld Reg.MEM_CE_CNT 0 32 < 2 ^ 32 - 1 →
    Completes (.memCeWriteback a syn late) s (fun e => e.regN Reg.MEM_CE_CNT = s.dev.regN Reg.MEM_CE_CNT + 1 ∧
      e.bit (Reg.PG_EVT_RAW (Page.MCH (mchOf a.toNat))) 0 = true ∧ MemSame s.dev e)) ∧
  (∀ (s : State) (a : BitVec 36) (syn : BitVec 8), memAddr a = true → s.dev.fld Reg.MEM_CTRL 16 8 ≠ 0 → s.dev.mchState (mchOf a.toNat) = 1 →
    Completes (.memScrubRead a .bad syn) s (fun e => e.memUE a.toNat 8 = true ∧ e.bit (Reg.PG_EVT_RAW (Page.MCH (mchOf a.toNat))) 1 = true ∧ MemSame s.dev e)) ∧
  (∀ (s : State) (okA okB : Bool), s.dev.bit Reg.MEM_STATUS 0 = true →
    Completes (.memZeroFillDone okA okB) s (fun e => (∀ a, memByte e.mem a = 0) ∧ e.bit Reg.MEM_STATUS 0 = false ∧ e.bit Reg.MEM_STATUS 8 = okA ∧
      e.bit Reg.MEM_STATUS 9 = okB))

/-- R228–R232, R237: the bandwidth ledger. An accepted command is pending until it completes; admission completes within the limit of both stacks, a refusal gives its code in
LDG_RESULT, a withdrawal clears the admissions it names; a reserved DMA share is a fault of code 0x02.
Readings of the model: log entry 49. -/
def Obligations.LedgerCommands : Prop :=
  (∀ (s : State) (q : Requester) (m : Nat), s.dev.admitsWrite q Reg.LDG_CMD = true → s.dev.bit Reg.LDG_RESULT 31 = false → m = s.dev.fld Reg.LDG_REQ 0 16 →
    (s.dev.admitRefusal m = none →
      Completes (.ledgerAdmit q) s (fun e => e.reg Reg.LDG_RESULT = s.dev.reg Reg.LDG_RESULT ||| 0x80000000 ∧ e.ldg = { s.dev.ldg with cmd := some (true, m) } ∧
        RegsBut (· = Reg.LDG_RESULT) s.dev e ∧ MemSame s.dev e)) ∧
    (∀ r, s.dev.admitRefusal m = some r →
      Completes (.ledgerAdmit q) s (fun e => e.regN Reg.LDG_RESULT = r ∧ e.bit (Reg.PG_EVT_RAW Page.LDG) 1 = true ∧ e.ldg.cmd = none ∧
        RegsBut (fun a => a = Reg.LDG_RESULT ∨ a = Reg.PG_EVT_RAW Page.LDG) s.dev e ∧ MemSame s.dev e)) ∧
    ((∀ j < 16, natBit m j = true → s.dev.halted j = true ∨ s.dev.strState j = 2) →
      Completes (.ledgerWithdraw q) s (fun e => e.reg Reg.LDG_RESULT = s.dev.reg Reg.LDG_RESULT ||| 0x80000000 ∧ e.ldg = { s.dev.ldg with cmd := some (false, m) } ∧
        RegsBut (· = Reg.LDG_RESULT) s.dev e ∧ MemSame s.dev e))) ∧
  (∀ (s : State) (m : Nat), s.dev.ldg.cmd = some (true, m) → s.dev.admitRefusal m = none → (∀ k < 2, s.dev.sumWith m k ≤ ldgLimit) →
    Completes .ledgerCommandDone s (fun e => (∀ j < 16, e.admitted j = (natBit m j || s.dev.admitted j)) ∧ e.reg Reg.LDG_RESULT = 0 ∧ e.ldg.cmd = none ∧
      e.bit (Reg.PG_EVT_RAW Page.LDG) 0 = true ∧ MemSame s.dev e)) ∧
  (∀ (s : State) (m : Nat), s.dev.ldg.cmd = some (false, m) →
    Completes .ledgerCommandDone s (fun e => (∀ j < 16, e.admitted j = (s.dev.admitted j && !natBit m j)) ∧ e.reg Reg.LDG_RESULT = 0 ∧ e.ldg.cmd = none ∧
      e.bit (Reg.PG_EVT_RAW Page.LDG) 0 = true ∧ MemSame s.dev e)) ∧
  (∀ (s : State) (q : Requester) (v : Word), s.dev.admitsWrite q Reg.LDG_DMA = true →
    (v.toNat % 2 ^ 16 ≤ s.dev.dmaShare 0 → v.toNat / 2 ^ 16 ≤ s.dev.dmaShare 1 → v.toNat % 2 ^ 16 ≤ 1600 → v.toNat / 2 ^ 16 ≤ 1600 →
      Completes (.ldgDmaWrite q v) s (fun e => e.reg Reg.LDG_DMA = v ∧ RegsBut (· = Reg.LDG_DMA) s.dev e ∧ OnlyRegs s.dev e)) ∧
    (1600 < v.toNat % 2 ^ 16 →
      Completes (.ldgDmaWrite q v) s (fun e => e.reg (Reg.PG_FAULT_CODE Page.LDG) = 2 ∧ e.reg Reg.LDG_DMA = s.dev.reg Reg.LDG_DMA ∧ MemSame s.dev e)))

/-! ## Calibration (R240–R256) -/

/-- R244, R245, R248, R250: commands of the calibration engine. FULL and VERIFY borrow the meters that can be lent and gather, or wait for a meter; TRIMS computes at once; COMMIT
waits for the commit; ABORT and DISCARD end with outcome 0x05; a command in a state that does not accept it is a fault of code 0x01.
Readings of the model: log entries 50 and 53. -/
def Obligations.CalibrationCommands : Prop :=
  ∀ (s : State) (q : Requester), s.dev.admitsWrite q Reg.CAL_CMD = true →
    (s.dev.calState = 0 → s.dev.lendable ≠ [] →
      Completes (.calFull q) s (fun e => e.calState = 2 ∧ e.calKind = 1 ∧ e.cal.sel = s.dev.calSel ∧ (∀ i ∈ s.dev.lendable, e.ivmState i = 4) ∧
        MemSame s.dev e)) ∧
    (s.dev.calState = 0 → s.dev.lendable = [] →
      Completes (.calFull q) s (fun e => e.calState = 1 ∧ e.calKind = 1 ∧ e.cal.sel = s.dev.calSel ∧ MemSame s.dev e)) ∧
    (s.dev.calState = 0 → s.dev.lendable ≠ [] →
      Completes (.calVerify q) s (fun e => e.calState = 2 ∧ e.calKind = 2 ∧ e.cal.sel = s.dev.calSel ∧ MemSame s.dev e)) ∧
    (s.dev.calState = 0 →
      Completes (.calTrims q) s (fun e => e.calState = 3 ∧ e.calKind = 3 ∧ e.cal.sel = s.dev.calSel ∧
        e.reg Reg.CAL_COUNT = 0 ∧ e.reg Reg.CAL_FAILCH = 0 ∧ (∀ j < 8, e.reg (Reg.CAL_KEPT j) = 0) ∧
        RegsBut (fun a => a = Reg.CAL_STATUS ∨ a = Reg.PG_STATUS Page.CAL ∨ a = Reg.CAL_COUNT ∨ a = Reg.CAL_FAILCH ∨ ∃ j < 8, a = Reg.CAL_KEPT j) s.dev e ∧
        MemSame s.dev e)) ∧
    (s.dev.calState = 4 →
      Completes (.calCommit q) s (fun e => e.calState = 5 ∧ e.cal = s.dev.cal ∧
        RegsBut (fun a => a = Reg.CAL_STATUS ∨ a = Reg.PG_STATUS Page.CAL) s.dev e ∧ MemSame s.dev e)) ∧
    (s.dev.calState ≠ 4 →
      Completes (.calCommit q) s (fun e => e.reg (Reg.PG_FAULT_CODE Page.CAL) = 1 ∧ e.calState = s.dev.calState ∧ e.cal = s.dev.cal ∧ MemSame s.dev e)) ∧
    ((s.dev.calState = 1 ∨ s.dev.calState = 2 ∨ s.dev.calState = 3 ∨ s.dev.calState = 6) → s.dev.cal.required = false → s.dev.cal.trigPeriod = false →
      s.dev.cal.trigTemp = false → s.dev.pwrState ≠ 5 →
      Completes (.calAbort q) s (fun e => e.calState = 0 ∧ e.reg Reg.CAL_RESULT = 5 ∧ e.bit (Reg.PG_EVT_RAW Page.CAL) 2 = true ∧ MemSame s.dev e)) ∧
    ((s.dev.calState = 4 ∨ s.dev.calState = 5) → s.dev.cal.required = false → s.dev.cal.trigPeriod = false →
      s.dev.cal.trigTemp = false → s.dev.pwrState ≠ 5 →
      Completes (.calDiscard q) s (fun e => e.calState = 0 ∧ e.reg Reg.CAL_RESULT = 5 ∧ e.bit (Reg.PG_EVT_RAW Page.CAL) 2 = true ∧ MemSame s.dev e))

/-- R244–R248: the steps of a run. A trigger during a run is remembered; a run with no meter for 10 ms ends with outcome 0x02; gathering goes over to computing; a TRIMS run in which
every TRIM is in range is staged, or goes on to its commit; a run restarts after a frequency change; the commit switches the bank and counts.
Readings of the model: log entries 52, 53, 114 and 116. -/
def Obligations.CalibrationRuns : Prop :=
  (∀ s : State, s.dev.bit Reg.CAL_CTRL 1 = true → s.dev.cal.perDone = false → s.dev.regN Reg.CAL_COMMITS ≠ 0 → s.dev.calState ≠ 0 →
    Completes .calPeriodTrigger s (fun e => e.cal.perDone = true ∧ e.cal.trigPeriod = true ∧ e.calState = s.dev.calState ∧
      (s.dev.quiet = true → e.cal = { s.dev.cal with perDone := true, trigPeriod := true } ∧ e.regs = s.dev.regs ∧ MemSame s.dev e))) ∧
  (∀ s : State, (s.dev.calState = 1 ∨ s.dev.calState = 2 ∧ ∀ i < 32, s.dev.ivmState i ≠ 4) → s.dev.cal.required = false → s.dev.cal.trigPeriod = false → s.dev.cal.trigTemp = false → s.dev.pwrState ≠ 5 →
    Completes .calNoMeterTimeout s (fun e => e.calState = 0 ∧ e.reg Reg.CAL_RESULT = 2 ∧ e.bit (Reg.PG_EVT_RAW Page.CAL) 2 = true ∧ MemSame s.dev e)) ∧
  (∀ (s : State) (offs : VerifyMeas), s.dev.calState = 2 → s.dev.calKind ≠ 2 → s.dev.pwrState ≠ 5 →
    Completes (.calGatherDone offs) s (fun e => e.calState = 3 ∧ e.cal = s.dev.cal ∧ MemSame s.dev e)) ∧
  (∀ s : State, s.dev.calState = 3 → s.dev.calKind = 3 → s.dev.cal.required = false → s.dev.cal.atOnce = false → s.dev.pwrState ≠ 5 →
    (∀ n < 256, natBit s.dev.cal.sel n = true → s.dev.edgesUE n = false ∧ ∀ t, chanTab s.dev.calTabs n = some t → (s.dev.trimFrom n t).bad = false) →
    Completes (.calComputeDone [] [] []) s (fun e => e.calState = (if s.dev.cal.ctrl.bit 3 then 5 else 4) ∧ e.reg Reg.CAL_RESULT = 0 ∧
      e.bit (Reg.PG_EVT_RAW Page.CAL) 0 = true ∧ e.calTabs = s.dev.calTabs ∧ e.trims = s.dev.trims ∧ MemSame s.dev e)) ∧
  (∀ s : State, s.dev.calState = 6 → s.dev.fld Reg.CLK_STATUS 0 3 = 7 → s.dev.lendable ≠ [] →
    Completes .calRestartWaitExpiry s (fun e => e.calState = 2 ∧ (∀ i ∈ s.dev.lendable, e.ivmState i = 4) ∧
      (s.dev.quiet = true → MemSame s.dev e))) ∧
  (∀ s : State, s.dev.commitDue (fun _ => false) = true → s.dev.pwrState ≠ 5 →
    Completes .calCommitApply s (fun e => e.calBank = !s.dev.calBank ∧ e.regN Reg.CAL_COMMITS = (s.dev.regN Reg.CAL_COMMITS + 1) % 2 ^ 32 ∧
      e.bit (Reg.PG_EVT_RAW Page.CAL) 1 = true ∧ MemSame s.dev e))

/-- R247, R249, R251, R253, R384: held launches, table errors and the records of MRAM. A hold that expires gives its launch a slot; an uncorrectable error in the staged set rejects it
with outcome 0x03, one in the active set is a cause of the safe state; a completed record is the newest one; a deferred record takes the tables then active.
Readings of the model: log entries 8 and 51. -/
def Obligations.CalibrationRecords : Prop :=
  (∀ (s : State) (i : Fin 16) (h : Nat × Nat), s.dev.cal.held.find? (fun x => x.1 = i.val) = some h →
    Completes (.calHoldExpiry i) s (fun e => e.cal.held = s.dev.cal.held.filter (fun x => x.1 ≠ i.val) ∧ (e.strOf i.val).launchT = e.launchSlot ∧
      e.bit Reg.CAL_STATUS 4 = !e.cal.held.isEmpty ∧ (s.dev.quiet = true → RegsBut (· = Reg.CAL_STATUS) s.dev e ∧ MemSame s.dev e))) ∧
  (∀ (s : State) (bank : Bool) (x : Ecc), x ≠ .bad → s.dev.pwrState ≠ 5 →
    Completes (.calTableScrub bank x) s (fun e => e.cal = s.dev.cal ∧ e.regs = s.dev.regs ∧ OnlyRegs s.dev e)) ∧
  (∀ s : State, s.dev.calKind ≠ 2 → 2 ≤ s.dev.calState → s.dev.calState ≤ 5 → s.dev.cal.required = false → s.dev.cal.trigPeriod = false → s.dev.cal.trigTemp = false →
    s.dev.pwrState ≠ 5 →
    Completes (.calTableScrub (!s.dev.calBank) .bad) s (fun e => e.calState = 0 ∧ e.reg Reg.CAL_RESULT = 3 ∧ MemSame s.dev e)) ∧
  (∀ s : State, s.dev.pwrState ≠ 5 →
    Completes (.calTableScrub s.dev.calBank .bad) s (fun e => e.bit Reg.SAFE_CAUSE 10 = true ∧ e.bit (Reg.PG_EVT_RAW Page.CAL) 4 = true)) ∧
  (∀ (s : State) (t : CalTabs) (tj : Nat), s.dev.cal.writing = some (t, tj) → s.dev.bit Reg.MGMT_STATUS 0 = true →
    Completes .calMramWriteDone s (fun e => e.cal.writing = none ∧ e.calNewest.map (·.tabs) = some t ∧ e.regs = s.dev.regs ∧ MemSame s.dev e)) ∧
  (∀ (s : State) (t : Nat), s.dev.cal.deferred = true → s.dev.cal.lastRec = some t →
    Completes .calRecordDeferredWrite s (fun e => e.cal.writing = some (s.dev.calTabs, s.dev.fld Reg.CAL_TJ 0 16) ∧ e.cal.deferred = false ∧
      (s.dev.quiet = true → e.regs = s.dev.regs ∧ MemSame s.dev e)))

/-! ## Dispatcher, cores and interrupts (R258–R285) -/

/-- R266–R268, R273, R274: tasks outside the cores. SUBMIT makes an IDLE task WAITING with its DEP, or READY at the end of its list; an illegal submit is a fault; a decrement is taken
or owed; CANCEL makes a task IDLE with a record, or marks a RUNNING one; a hook writes its data to the task it names; a delay list counts.
Readings of the model: log entry 55. -/
def Obligations.TaskCommands : Prop :=
  (∀ (s : State) (q : Requester) (t : BitVec 12), s.dev.admitsWrite q Reg.DISP_CMD = true → s.dev.taskUE t.toNat = false →
    (s.dev.taskState t.toNat = 0 → s.dev.fld (tdAddr t.toNat 0x0C) 0 16 ≠ 0 → s.dev.fld (tdAddr t.toNat 4) 16 7 = 0 → 0 < s.dev.fld (tdAddr t.toNat 0) 0 16 →
      Completes (.dispSubmit q t .good) s (fun e => e.taskState t.toNat = 1 ∧ e.fld (tdAddr t.toNat 4) 0 16 = s.dev.fld (tdAddr t.toNat 0) 0 16 ∧
        e.last = ⟨0, false⟩ ∧ RegsBut (· = tdAddr t.toNat 4) s.dev e ∧ MemSame s.dev e)) ∧
    (s.dev.taskState t.toNat = 0 → s.dev.fld (tdAddr t.toNat 0x0C) 0 16 ≠ 0 → s.dev.fld (tdAddr t.toNat 0) 0 16 = 0 →
      s.dev.fld (tdAddr t.toNat 0x30) 0 24 = 0 → s.dev.taskOrd t.toNat = false →
      Completes (.dispSubmit q t .good) s (fun e => e.taskState t.toNat = 3 ∧ e.disp.ready = s.dev.disp.ready ++ [t.toNat] ∧
        RegsBut (· = tdAddr t.toNat 4) s.dev e ∧ MemSame s.dev e)) ∧
    (s.dev.taskState t.toNat ≠ 0 →
      Completes (.dispSubmit q t .good) s (fun e => e.reg (Reg.PG_FAULT_CODE Page.DISP) = 3 ∧ e.regN Reg.DISP_LASTERR = 3 * 2 ^ 24 + t.toNat ∧
        e.bit (Reg.PG_EVT_RAW Page.DISP) 3 = true ∧ e.taskState t.toNat = s.dev.taskState t.toNat ∧ MemSame s.dev e)) ∧
    (s.dev.taskState t.toNat = 1 → 1 < s.dev.fld (tdAddr t.toNat 4) 0 16 →
      Completes (.dispDec q t .good) s (fun e => e.fld (tdAddr t.toNat 4) 0 16 = s.dev.fld (tdAddr t.toNat 4) 0 16 - 1 ∧ e.taskState t.toNat = 1 ∧
        RegsBut (· = tdAddr t.toNat 4) s.dev e ∧ MemSame s.dev e)) ∧
    (s.dev.taskState t.toNat ≠ 1 → s.dev.fld (tdAddr t.toNat 4) 16 7 < 127 →
      Completes (.dispDec q t .good) s (fun e => e.fld (tdAddr t.toNat 4) 16 7 = s.dev.fld (tdAddr t.toNat 4) 16 7 + 1 ∧
        RegsBut (· = tdAddr t.toNat 4) s.dev e ∧ MemSame s.dev e)) ∧
    (s.dev.taskState t.toNat = 1 → s.dev.evbuf.length < 256 →
      Completes (.dispCancel q t .good) s (fun e => e.taskState t.toNat = 0 ∧ e.bit (Reg.PG_EVT_RAW Page.DISP) 0 = true ∧ MemSame s.dev e ∧
        ∃ r, e.evbuf = s.dev.evbuf ++ [r] ∧ r.type = 0x16 ∧ r.code = 0x11000 + t.toNat)) ∧
    (∀ k < 16, s.dev.taskState t.toNat = 5 → (s.dev.coreOf k).running = some t.toNat →
      Completes (.dispCancel q t .good) s (fun e => (e.coreOf k).cancelled = true ∧ (e.coreOf k).running = some t.toNat ∧ e.regs = s.dev.regs ∧
        MemSame s.dev e))) ∧
  (∀ (s : State) (h v i : Nat) (rest : List (Nat × Nat)), s.dev.hooks = (h, v) :: rest → h < 128 → s.dev.bit (Reg.DISP_HOOK h) 31 = true →
    i = (s.dev.fld (Reg.DISP_HOOK h) 0 12 + s.dev.fld (Reg.DISP_HOOK h) 16 4) % 4096 → s.dev.taskUE i = false → s.dev.taskState i ≠ 1 →
    s.dev.fld (tdAddr i 4) 16 7 < 127 →
    Completes (.hookFire .good) s (fun e => e.hooks = rest ∧ e.reg (tdAddr i 0x38) = BitVec.ofNat 32 v ∧
      e.fld (tdAddr i 4) 16 7 = s.dev.fld (tdAddr i 4) 16 7 + 1 ∧
      RegsBut (fun a => a = Reg.DISP_HOOK h ∨ a = tdAddr i 4 ∨ a = tdAddr i 0x38) s.dev e ∧ MemSame s.dev e)) ∧
  (∀ (s : State) (h v : Nat) (rest : List (Nat × Nat)), s.dev.hooks = (h, v) :: rest → s.dev.bit (Reg.DISP_HOOK h) 31 = false →
    Completes (.hookFire .good) s (fun e => e.hooks = rest ∧ e.regs = s.dev.regs ∧ MemSame s.dev e)) ∧
  (∀ (s : State) (l : Fin 4), s.dev.dozing = false → s.dev.disp.delayed = [] →
    Completes (.delayListTick l) s (fun e => e.regN (Reg.DISP_TCNT l.val) = (s.dev.regN (Reg.DISP_TCNT l.val) + 1) % 2 ^ 32 ∧
      (s.dev.quiet = true → e.hooks = (if l.val = 0 then s.dev.hooks else s.dev.hooks ++ [(96 + l.val, e.regN (Reg.DISP_TCNT l.val))]) ∧
        RegsBut (· = Reg.DISP_TCNT l.val) s.dev e ∧ MemSame s.dev e))) ∧
  (∀ (s : State) (q : Requester) (l : Fin 4) (v : Word), s.dev.admitsWrite q (Reg.DISP_TICK l.val) = true →
    Completes (.dispTickWrite q l v) s (fun e => e.reg (Reg.DISP_TICK l.val) = v ∧ RegsBut (· = Reg.DISP_TICK l.val) s.dev e ∧ OnlyRegs s.dev e))

/-- R257–R259, R261–R263, R269, R270: tasks on the cores. A task placed is SLOTTED in the core that the rule gives; TAKE answers the slotted task and makes it RUNNING; DONE stores the result and
makes an unordered task without reload IDLE; RUN releases and resets a core; WFI and waking change its sleep; its timer follows the compare. ADDI writes the sum;
AMOADD.W acts on SRAM in one step and is an access fault elsewhere; ECALL and an interrupt enter the handler in machine mode. -/
def Obligations.CoreCommands : Prop :=
  (∀ (s : State) (i k : Nat), s.dev.nextPlacement = some (i, k) → s.dev.taskUE i = false →
    Completes (.taskPlace none) s (fun e => e.taskState i = 4 ∧ (e.coreOf k).slot = some i ∧ e.disp.ready = s.dev.disp.ready.filter (· ≠ i) ∧
      e.disp.lastCore = k ∧ RegsBut (· = tdAddr i 4) s.dev e ∧ MemSame s.dev e)) ∧
  (∀ (s : State) (k : Fin 16) (i : Nat), i < 4096 → (s.dev.coreOf k.val).running = none → (s.dev.coreOf k.val).slot = some i → s.dev.taskUE i = false →
    Completes (.ncpTake k) s (fun e => e.last = ⟨BitVec.ofNat 32 (2 ^ 31 + i), false⟩ ∧ e.taskState i = 5 ∧ (e.coreOf k.val).running = some i ∧
      (e.coreOf k.val).slot = none ∧ e.reg (Reg.NCP_ENTRY k.val) = s.dev.reg (tdAddr i 8) ∧ MemSame s.dev e)) ∧
  (∀ (s : State) (k : Fin 16) (i : Nat) (v : Word), i < 4096 → (s.dev.coreOf k.val).running = some i → (s.dev.coreOf k.val).cancelled = false →
    s.dev.taskUE i = false → s.dev.taskOrd i = false → s.dev.bit (tdAddr i 0) 31 = false → (∀ j < 4, s.dev.bit (tdAddr i (0x20 + 4 * j)) 31 = false) →
    Completes (.ncpDone k v) s (fun e => e.reg (tdAddr i 0x3C) = v ∧ e.taskState i = 0 ∧ (e.coreOf k.val).running = none ∧ e.last = ⟨0, false⟩ ∧
      MemSame s.dev e)) ∧
  (∀ (s : State) (q : Requester) (f : Fin 64) (v : Word), s.dev.admitsWrite q (Reg.DISP_FLOW f.val) = true → v.get 16 8 ≤ 64 →
    Completes (.dispFlowWrite q f v) s (fun e => e.reg (Reg.DISP_FLOW f.val) = Word.merge 0xFFFF0000 v (s.dev.reg (Reg.DISP_FLOW f.val)) ∧ e.last = ⟨0, false⟩ ∧
      MemSame s.dev e)) ∧
  (∀ (s : State) (q : Requester) (k : Fin 16), s.dev.admitsWrite q (Reg.DISP_CORE k.val) = true →
    (s.dev.bit (Reg.DISP_CORE k.val) 0 = false → s.dev.coresMay = true →
      Completes (.dispCoreRun q k true) s (fun e => e.bit (Reg.DISP_CORE k.val) 0 = true ∧ (e.coreOf k.val).cpu = Newt.reset (s.dev.reg Reg.DISP_RVEC) ∧
        (e.coreOf k.val).hold = false ∧ (e.coreOf k.val).asleep = false ∧ RegsBut (· = Reg.DISP_CORE k.val) s.dev e ∧ MemSame s.dev e)) ∧
    (s.dev.bit (Reg.DISP_CORE k.val) 0 = false → s.dev.coresMay = false →
      Completes (.dispCoreRun q k true) s (fun e => e.bit (Reg.DISP_CORE k.val) 0 = true ∧ (e.coreOf k.val).hold = true ∧
        RegsBut (· = Reg.DISP_CORE k.val) s.dev e ∧ MemSame s.dev e)) ∧
    (∀ i < 4096, s.dev.bit (Reg.DISP_CORE k.val) 0 = true → (s.dev.coreOf k.val).running = none → (s.dev.coreOf k.val).slot = some i →
      Completes (.dispCoreRun q k false) s (fun e => e.bit (Reg.DISP_CORE k.val) 0 = false ∧ (e.coreOf k.val).slot = none ∧ e.taskState i = 3 ∧
        e.disp.ready = i :: s.dev.disp.ready ∧ (e.coreOf k.val).cpu = Newt.reset 0 ∧
        RegsBut (fun a => a = Reg.DISP_CORE k.val ∨ a = tdAddr i 4 ∨ 0x1000000 + 0x1000 * k.val ≤ a ∧ a < 0x1000000 + 0x1000 * (k.val + 1)) s.dev e ∧
        MemSame s.dev e))) ∧
  (∀ (s : State) (k : Fin 16), s.dev.coreAwake k.val = true → s.dev.bit (Reg.NCP_CTL k.val) 0 = true →
    Completes (.coreWfi k) s (fun e => (e.coreOf k.val).asleep = true ∧ e.coreAwake k.val = false ∧ e.regs = s.dev.regs ∧ MemSame s.dev e)) ∧
  (∀ (s : State) (k : Fin 16), s.dev.coreUp k.val = true → (s.dev.coreOf k.val).asleep = true →
    ((s.dev.coreOf k.val).slot.isSome = true ∨ s.dev.timerPend k.val = true ∨ s.dev.wakeLine k.val = true ∨ s.dev.irqs k.val ≠ 0) →
    Completes (.coreWake k false) s (fun e => e.coreAwake k.val = true ∧ e.regs = s.dev.regs ∧ MemSame s.dev e)) ∧
  (∀ (s : State) (k : Fin 16), s.dev.coreUp k.val = true → (s.dev.coreOf k.val).asleep = true → s.dev.timeRuns = true →
    Completes (.coreWake k true) s (fun e => e.coreAwake k.val = true ∧ s.dev.reg64 (Reg.NCP_TCMP_LO k.val) (Reg.NCP_TCMP_HI k.val) ≤ e.timeNs ∧
      (s.dev.quiet = true → e.regs = s.dev.regs ∧ MemSame s.dev e))) ∧
  (∀ (s : State) (k : Fin 16), s.dev.timeRuns = true →
    Completes (.coreTimerCompare k) s (fun e => e.timerPend k.val = true ∧ natBit (e.mip k.val) 7 = true ∧
      s.dev.reg64 (Reg.NCP_TCMP_LO k.val) (Reg.NCP_TCMP_HI k.val) ≤ e.timeNs ∧ (s.dev.quiet = true → e.regs = s.dev.regs ∧ MemSame s.dev e))) ∧
  (∀ (d : Device) (k : Nat), d.coreAwake k = false → d.coreClock k = d) ∧
  (∀ (d : Device) (k rd rs len : Nat) (imm : Int) (e : Ecc), rd < 32 → rs < 32 → -2048 ≤ imm → imm < 2048 →
    d.rvExec k (rvEncI 0x13 0 rd rs imm) len e = d.corePut k rd ((d.cpu k).rx rs + rvWord imm) ((d.cpu k).pc + BitVec.ofNat 32 len)) ∧
  (∀ (d : Device) (k rd rs rt : Nat) (a : Word) (e : Ecc), rd < 32 → rs < 32 → rt < 32 → a = (d.cpu k).rx rs →
    (∀ p, a.toNat % 4 = 0 → d.corePlace k a.toNat 4 = .sram p → e = .good → d.sramUE p 4 = false → (d.cpu k).pmpOk (d.cpu k).dataUser a.toNat 4 0 = true →
      (d.cpu k).pmpOk (d.cpu k).dataUser a.toNat 4 1 = true →
      d.rvExec k (0x202F + rd * 2 ^ 7 + rs * 2 ^ 15 + rt * 2 ^ 20) 4 e =
        (d.sramStore k p 4 (BitVec.ofNat 32 (memGet d.sram p 4) + (d.cpu k).rx rt).toNat).corePut k rd (BitVec.ofNat 32 (memGet d.sram p 4)) ((d.cpu k).pc + 4)) ∧
    (onSram (d.corePlace k a.toNat 4) = false → d.rvExec k (0x202F + rd * 2 ^ 7 + rs * 2 ^ 15 + rt * 2 ^ 20) 4 e = (d, some (7, a.toNat)))) ∧
  (∀ (d : Device) (k : Nat) (e : Ecc) (c : Newt), c = (d.coreRetire k 0x73 4 e).cpu k →
    c.pc = (d.cpu k).csrOf 0x305 &&& ~~~(3 : Word) ∧ c.csrOf 0x341 = (d.cpu k).pc ∧ c.csrOf 0x342 = (if (d.cpu k).user then 8 else 11) ∧ c.user = false ∧ c.x = (d.cpu k).x) ∧
  (∀ (d : Device) (k : Nat) (c : Newt), d.coreAwake k = true → d.irqs k ≠ 0 → ((d.cpu k).user = true ∨ ((d.cpu k).csrOf 0x300).bit 3 = true) → c = (d.coreClock k).cpu k →
    c.csrOf 0x341 = (d.cpu k).pc ∧ c.csrOf 0x342 = BitVec.ofNat 32 (2 ^ 31 + coreIrq (d.irqs k)) ∧ c.user = false ∧ c.wait = false ∧ c.x = (d.cpu k).x)

/-- R277, R278, R281: the interrupt controller. A request that rises makes its source pending unless PRIO is 0; a software trigger does so for IDs 256–511 and is a fault for others; a source that
is pending and not active is offered to a target that is eligible.
Readings of the model: log entry 54. -/
def Obligations.InterruptCommands : Prop :=
  (∀ (s : State) (n : BitVec 9), s.dev.srcReq n.toNat = true → s.dev.intc.seen.contains n.toNat = false → s.dev.srcPrio n.toNat ≠ 0 → noSource n.toNat = false →
    Completes (.intcRequestEdge n) s (fun e => natBit e.intc.pend n.toNat = true ∧ e.intc.seen.contains n.toNat = true ∧ e.regs = s.dev.regs ∧
      MemSame s.dev e)) ∧
  (∀ (s : State) (q : Requester) (id : BitVec 10), s.dev.admitsWrite q Reg.INTC_SWTRIG = true →
    (256 ≤ id.toNat → id.toNat ≤ 511 → s.dev.srcPrio id.toNat ≠ 0 →
      Completes (.intcSwtrig q id) s (fun e => natBit e.intc.pend id.toNat = true ∧ e.regs = s.dev.regs ∧ MemSame s.dev e)) ∧
    (id.toNat < 256 ∨ 511 < id.toNat →
      Completes (.intcSwtrig q id) s (fun e => e.reg (Reg.PG_FAULT_CODE Page.INTC_CTL) = 2 ∧ e.bit (Reg.PG_STATUS Page.INTC_CTL) 2 = true ∧ MemSame s.dev e))) ∧
  (∀ (s : State) (n : BitVec 9) (t : Nat), s.dev.wantsOffer n.toNat = true → t < 17 → s.dev.tgtEligible n.toNat t = true →
    Completes (.intcOffer n) s (fun e => (∃ u, e.srcOffer n.toNat = some u ∧ s.dev.tgtEligible n.toNat u = true) ∧ e.regs = s.dev.regs ∧ MemSame s.dev e))

/-- R279: a claim takes the source of the highest priority offered to its target, the lowest ID of equals: it becomes active there, stops being pending, and its ID is the answer. With
nothing offered the answer is 1,023 where an offer has been withdrawn since the last claim, and 0 else. A completion ends an active source of its target; any other is ignored with
fault code 0x01. -/
def Obligations.ClaimsAndCompletions : Prop :=
  ∀ (s : State) (q : Requester) (t : Fin 17), s.dev.intcInv →
    (∀ n < 1024, s.dev.admitsRead q (Reg.INTC_CLAIM t.val) = true → (n, t.val) ∈ s.dev.intc.offers →
      (∀ m ∈ s.dev.intc.offers, m.2 = t.val → s.dev.srcPrio m.1 < s.dev.srcPrio n ∨ (s.dev.srcPrio m.1 = s.dev.srcPrio n ∧ n ≤ m.1)) →
      Completes (.intcClaim q t) s (fun e => e.last = ⟨BitVec.ofNat 32 n, false⟩ ∧ e.intc.active.contains (n, t.val) = true ∧ natBit e.intc.pend n = false ∧
        natBit e.intc.withdrawn t.val = false ∧ e.regs = s.dev.regs ∧ MemSame s.dev e)) ∧
    (s.dev.admitsRead q (Reg.INTC_CLAIM t.val) = true → (∀ m ∈ s.dev.intc.offers, m.2 ≠ t.val) →
      Completes (.intcClaim q t) s (fun e => e.last = ⟨if natBit s.dev.intc.withdrawn t.val then 1023 else 0, false⟩ ∧ e.intc.active = s.dev.intc.active ∧
        natBit e.intc.withdrawn t.val = false ∧ e.regs = s.dev.regs ∧ MemSame s.dev e)) ∧
    (∀ id : BitVec 10, s.dev.admitsWrite q (Reg.INTC_CLAIM t.val) = true → s.dev.intc.active.contains (id.toNat, t.val) = true →
      Completes (.intcComplete q t id) s (fun e => e.srcActive id.toNat = false ∧ e.last = ⟨0, false⟩ ∧ e.regs = s.dev.regs ∧ MemSame s.dev e)) ∧
    (∀ id : BitVec 10, s.dev.admitsWrite q (Reg.INTC_CLAIM t.val) = true → s.dev.intc.active.contains (id.toNat, t.val) = false →
      Completes (.intcComplete q t id) s (fun e => e.reg (Reg.PG_FAULT_CODE Page.INTC_CTL) = 1 ∧ e.bit (Reg.PG_STATUS Page.INTC_CTL) 2 = true ∧
        e.intc.active = s.dev.intc.active ∧ RegsBut (fun a => a = Reg.PG_FAULT_CODE Page.INTC_CTL ∨ a = Reg.PG_STATUS Page.INTC_CTL) s.dev e ∧ MemSame s.dev e))
/-! ## Links, packets, DMA and the event ring (R286–R309) -/

/-- R289, R291, R319: training. In DETECT training sets start TRAIN; the second agreeing mask in a row moves to CONFIG; TS2 whose logical numbers match moves to ACTIVE on the mask;
a mask that differs starts the agreement again; a timeout returns to DETECT; in DETECT the sets are repeated on the enabled lanes, where the lanes work; a lost lane takes a Viaduct
port to DETECT from TRAIN, CONFIG or ACTIVE, and starts a retrain of Trestle while others are left; a lost lane that answers is added by a retrain.
Readings of the model: log entries 59 and 117. -/
def Obligations.LinkTraining : Prop :=
  (∀ (s : State) (k : Link) (lanes mask inv : BitVec 16) (ts2 wake fits : Bool), s.dev.laneUp (linkNo k) = true → s.dev.lst (linkNo k) = 0 →
    lanes.toNat &&& s.dev.laneEn (linkNo k) ≠ 0 →
    Completes (.trainingSetReceived k lanes mask ts2 wake inv fits) s (fun e => e.lst (linkNo k) = 1 ∧ MemSame s.dev e ∧
      (k ≠ .trestle → e.regs = s.dev.regs))) ∧
  (∀ (s : State) (k : Link) (lanes mask inv : BitVec 16) (ts2 wake fits : Bool), s.dev.laneUp (linkNo k) = true → s.dev.lst (linkNo k) = 1 →
    s.dev.proposal (linkNo k) lanes.toNat = mask.toNat → mask ≠ 0 →
    Completes (.trainingSetReceived k lanes mask ts2 wake inv fits) s (fun e =>
      e.lst (linkNo k) = (if (s.dev.linkOf (linkNo k)).agree = 0 then 1 else 2) ∧ (e.linkOf (linkNo k)).mine = mask.toNat ∧ MemSame s.dev e)) ∧
  (∀ (s : State) (k : Link) (lanes mask inv : BitVec 16) (ts2 wake fits : Bool), s.dev.laneUp (linkNo k) = true → s.dev.lst (linkNo k) = 1 →
    s.dev.proposal (linkNo k) lanes.toNat ≠ mask.toNat →
    Completes (.trainingSetReceived k lanes mask ts2 wake inv fits) s (fun e => e.lst (linkNo k) = 1 ∧ (e.linkOf (linkNo k)).agree = 0 ∧ MemSame s.dev e)) ∧
  (∀ (s : State) (lanes mask inv : BitVec 16) (wake : Bool), s.dev.laneUp 0 = true → s.dev.lst 0 = 2 →
    lanes.toNat &&& (s.dev.linkOf 0).mine = (s.dev.linkOf 0).mine → s.dev.trs.unacked = [] → s.dev.trs.dozeWait = false →
    Completes (.trainingSetReceived .trestle lanes mask true wake inv true) s (fun e => e.lst 0 = 3 ∧ (e.linkOf 0).active = (s.dev.linkOf 0).mine ∧
      e.fld Reg.TRS_STATUS 16 16 = (s.dev.linkOf 0).mine % 2 ^ 16 ∧ e.fld Reg.TRS_STATUS 8 5 = popCount (s.dev.linkOf 0).mine 16 % 32 ∧
      e.bit (Reg.PG_EVT_RAW Page.TRS) 0 = true ∧ MemSame s.dev e)) ∧
  (∀ (s : State) (k : Link) (lanes mask inv : BitVec 16) (wake : Bool), s.dev.laneUp (linkNo k) = true → s.dev.lst (linkNo k) = 2 → k ≠ .trestle →
    lanes.toNat &&& (s.dev.linkOf (linkNo k)).mine = (s.dev.linkOf (linkNo k)).mine →
    Completes (.trainingSetReceived k lanes mask true wake inv true) s (fun e => e.lst (linkNo k) = 3 ∧
      (e.linkOf (linkNo k)).active = (s.dev.linkOf (linkNo k)).mine ∧ MemSame s.dev e)) ∧
  (∀ (s : State) (k : Link), s.dev.lst (linkNo k) = 1 ∨ s.dev.lst (linkNo k) = 2 ∨ s.dev.lst (linkNo k) = 4 → s.dev.hostStill = true →
    (k = .twin → s.dev.twin.waiting = []) →
    Completes (.trainingTimeout k) s (fun e => e.lst (linkNo k) = 0 ∧ (e.linkOf (linkNo k)).active = 0 ∧ MemSame s.dev e)) ∧
  (∀ (s : State) (k : Link), s.dev.lst (linkNo k) = 0 → (s.dev.laneUp (linkNo k) = true →
    Completes (.detectRetry k) s (fun e =>
      e.out = ((List.range 16).filter (fun i => natBit (s.dev.laneEn (linkNo k)) i)).map (fun i =>
        .train ⟨linkNo k, i, false, s.dev.fld Reg.CHIP_STRAP 0 6, 0xFFFF, false, false, 0xFF⟩) ∧ e.regs = s.dev.regs ∧ e.links = s.dev.links ∧ MemSame s.dev e)) ∧
    (s.dev.laneUp (linkNo k) = false → Completes (.detectRetry k) s (fun e => e.out = [] ∧ e.regs = s.dev.regs ∧ e.links = s.dev.links ∧ MemSame s.dev e))) ∧
  (∀ (s : State) (k : Link) (lane : Fin 16), k = .up ∨ k = .down → lane.val < 2 → 1 ≤ s.dev.lst (linkNo k) → s.dev.lst (linkNo k) ≤ 3 → s.dev.hostStill = true →
    Completes (.laneLoss k lane) s (fun e => e.lst (linkNo k) = 0 ∧ (e.linkOf (linkNo k)).active = 0 ∧
      e.fld Reg.VIA_ERR 0 16 = min 0xFFFF (s.dev.fld Reg.VIA_ERR 0 16 + 1) ∧ MemSame s.dev e)) ∧
  (∀ (s : State) (lane : Fin 16) (c : LinkCtx), c = s.dev.linkOf 0 → natBit c.active lane.val = true → natBit c.lost lane.val = false →
    (c.lst = 3 ∨ c.lst = 4) → c.active &&& natSetBit c.lost lane.val < c.active → s.dev.hostStill = true →
    Completes (.laneLoss .trestle lane) s (fun e => e.lst 0 = 4 ∧ natBit (e.linkOf 0).lost lane.val = true ∧ e.bit (Reg.TRS_LST lane.val) 3 = true ∧
      e.bit (Reg.TRS_LST lane.val) 1 = false ∧ e.bit (Reg.PG_EVT_RAW Page.TRS) (16 + lane.val) = true ∧
      e.fld Reg.TRS_STATUS 16 16 = (c.active - (c.active &&& natSetBit c.lost lane.val)) % 2 ^ 16 ∧
      e.fld Reg.TRS_STATUS 8 5 = popCount (c.active - (c.active &&& natSetBit c.lost lane.val)) 16 % 32 ∧ MemSame s.dev e)) ∧
  (∀ (s : State) (lane : Fin 16), s.dev.laneUp 3 = true → s.dev.lst 3 = 3 → natBit (s.dev.linkOf 3).lost lane.val = true →
    Completes (.laneReaddRetry .twin lane true) s (fun e => e.lst 3 = 4 ∧ natBit (e.linkOf 3).join lane.val = true ∧ e.bit Reg.TWN_STATUS 12 = false ∧ MemSame s.dev e)) ∧
  (∀ (s : State) (lane : Fin 16), s.dev.laneUp 0 = true → s.dev.lst 0 = 3 → s.dev.bit Reg.TRS_CTRL 16 = true → natBit (s.dev.linkOf 0).lost lane.val = true →
    Completes (.laneReaddRetry .trestle lane true) s (fun e => e.lst 0 = 4 ∧ natBit (e.linkOf 0).join lane.val = true ∧ MemSame s.dev e) ∧
    Completes (.laneReaddRetry .trestle lane false) s (fun e => e.lst 0 = 3 ∧
      e.out = [.train ⟨0, lane.val, false, s.dev.fld Reg.CHIP_STRAP 0 6, 2 ^ lane.val ||| (s.dev.linkOf 0).active, false, false, 0xFF⟩] ∧ MemSame s.dev e ∧
      Tab.get (fun _ => 0) (e.linkOf 0).retries lane.val = Tab.get (fun _ => 0) (s.dev.linkOf 0).retries lane.val + 1))

/-- R290, R294, R300, R308: the Trestle registers. A retrain applies held equalisation on the lanes that train; outside ACTIVE it is a fault of code 0x01; TRS_TEST enters TEST with no lane active, 0 leaves
it, and a value that it does not take is a fault of code 0x02; a coefficient is held with EQPEND; a restart clears ERR of the queue.
Readings of the model: log entries 59 and 117. -/
def Obligations.TrestleRegisters : Prop :=
  ∀ (s : State) (q : Requester), s.dev.admitsWrite q Reg.TRS_CMD = true →
    (s.dev.lst 0 = 3 → Completes (.trsRetrain q) s (fun e => e.lst 0 = 4 ∧ e.fld Reg.TRS_STATUS 0 3 = 4 ∧ 
      (∀ i < 16, e.bit (Reg.TRS_LST i) 5 = (s.dev.bit (Reg.TRS_LST i) 5 && !natBit (s.dev.linkOf 0).locked i)) ∧
      RegsBut (fun a => a = Reg.TRS_STATUS ∨ a = Reg.PG_EVT_RAW Page.TRS ∨ ∃ i < 16, a = Reg.TRS_LST i) s.dev e ∧ MemSame s.dev e)) ∧
    (s.dev.lst 0 ≠ 3 → Completes (.trsRetrain q) s (fun e => e.links = s.dev.links ∧ e.reg (Reg.PG_FAULT_CODE Page.TRS) = 1 ∧
      RegsBut (fun a => a = Reg.PG_FAULT_CODE Page.TRS ∨ a = Reg.PG_STATUS Page.TRS) s.dev e ∧ MemSame s.dev e)) ∧
    (∀ n : Fin 2, Completes (.dqRestart q n) s (fun e => e.bit (Reg.TRS_DQ_STAT n.val) 8 = false ∧ e.links = s.dev.links ∧ MemSame s.dev e)) ∧
    (∀ v : Word, v.get 0 2 < 3 → v.get 4 3 ≤ 4 → (v.get 0 2 = 2 → v.get 4 3 = 0) → v &&& 0xFFFF0073 ≠ 0 →
      Completes (.trsTestWrite q v) s (fun e => e.lst 0 = 6 ∧ e.reg Reg.TRS_TEST = v &&& 0xFFFF0073 ∧ (e.linkOf 0).active = 0 ∧
        e.fld Reg.TRS_STATUS 8 5 = 0 ∧ e.fld Reg.TRS_STATUS 16 16 = 0 ∧ MemSame s.dev e)) ∧
    (∀ v : Word, v &&& 0xFFFF0073 = 0 → s.dev.lst 0 = 6 →
      Completes (.trsTestWrite q v) s (fun e => e.lst 0 = 0 ∧ e.reg Reg.TRS_TEST = 0 ∧ MemSame s.dev e)) ∧
    (∀ v : Word, v.get 0 2 = 3 ∨ 4 < v.get 4 3 ∨ (v.get 0 2 = 2 ∧ v.get 4 3 ≠ 0) →
      Completes (.trsTestWrite q v) s (fun e => e.links = s.dev.links ∧ e.reg (Reg.PG_FAULT_CODE Page.TRS) = 2 ∧ e.reg Reg.TRS_TEST = s.dev.reg Reg.TRS_TEST ∧
        MemSame s.dev e)) ∧
    (∀ (i : Fin 16) (v : Word), v.get 24 6 ≤ 24 → v.get 16 6 ≤ 12 → v.get 8 6 ≤ 31 →
      Completes (.trsLeqWrite q i v) s (fun e => e.reg (Reg.TRS_LEQ i.val) = v &&& 0x3F3F3F00 ∧ e.bit (Reg.TRS_LST i.val) 5 = true ∧
        RegsBut (fun a => a = Reg.TRS_LEQ i.val ∨ a = Reg.TRS_LST i.val) s.dev e ∧ OnlyRegs s.dev e)) ∧
    (∀ (i : Fin 16) (v : Word), 24 < v.get 24 6 ∨ 12 < v.get 16 6 ∨ 31 < v.get 8 6 →
      Completes (.trsLeqWrite q i v) s (fun e => e.reg (Reg.TRS_LEQ i.val) = s.dev.reg (Reg.TRS_LEQ i.val) ∧ e.reg (Reg.PG_FAULT_CODE Page.TRS) = 2 ∧
        OnlyRegs s.dev e))

/-- R295–R298: packets. In ACTIVE a data packet with the next SEQ is performed and SEQ advances; a read is answered with one completion of as many words; writes are performed in order;
an address above the map or a length that R295 does not admit is answered with CPLE, or discarded; a bad packet is answered with NAK and a duplicate with ACK. ACK frees the replay
buffer, NAK and the replay timeout send what is left again, CREDIT gives credit, and the timers send ACK and CREDIT. DOZE_REQ is refused while DMA works, and is answered once no
posted packet waits. While the twin journal is full, accesses of the host wait and posted credits are withheld (R399). Packets leave while VIO is in range (R432).
Readings of the model: log entries 58 and 118. -/
def Obligations.TrestlePackets : Prop :=
  ∀ s : State, s.dev.lst 0 = 3 →
    (∀ (seq : BitVec 12) (tag : BitVec 8) (len : BitVec 7) (ecc : List (BitVec 6 × Ecc)) (addr : BitVec 64), seq.toNat = s.dev.trs.rxSeq →
      addr.toNat < 0x1000000 → 0 < len.toNat → len.toNat ≤ 64 →
      (s.dev.twin.waiting ≠ [] → Completes (.rrd seq tag ⟨len, ecc⟩ addr) s (fun e => e.trs.rxSeq = (s.dev.trs.rxSeq + 1) % 4096 ∧ e.regs = s.dev.regs ∧
        e.twin.waiting = s.dev.twin.waiting ++ [.read tag.toNat addr.toNat len.toNat (ecc.map (fun x => (x.1.toNat, x.2)))] ∧ MemSame s.dev e)) ∧
      (s.dev.twin.waiting = [] → Completes (.rrd seq tag ⟨len, ecc⟩ addr) s (fun e => e.trs.rxSeq = (s.dev.trs.rxSeq + 1) % 4096 ∧ e.trs.grantN = (s.dev.trs.grantN + 1) % 256 ∧
        e.trs.grantH = s.dev.trs.grantH ∧
        ∃ p ∈ e.trs.unacked ++ e.trs.txq, p.type = 3 ∧ p.tag = tag.toNat ∧ p.payload.length = len.toNat))) ∧
    (∀ (seq : BitVec 12) (tag : BitVec 8) (len : BitVec 7) (ecc : List (BitVec 6 × Ecc)) (addr : BitVec 64), seq.toNat = s.dev.trs.rxSeq →
      0x1000000 ≤ addr.toNat ∨ len.toNat = 0 ∨ 64 < len.toNat →
      Completes (.rrd seq tag ⟨len, ecc⟩ addr) s (fun e => e.trs.rxSeq = (s.dev.trs.rxSeq + 1) % 4096 ∧
        e.fld Reg.TRS_CRCERR 16 16 = min 0xFFFF (s.dev.fld Reg.TRS_CRCERR 16 16 + 1) ∧ MemSame s.dev e ∧
        ∃ p ∈ e.trs.unacked ++ e.trs.txq, p.type = 4 ∧ p.tag = tag.toNat ∧ p.status = 2)) ∧
    (∀ (seq : BitVec 12) (tag : BitVec 8) (addr : BitVec 64) (v : Word) (r : Wrote), seq.toNat = s.dev.trs.rxSeq → addr.toNat < 0x1000000 → s.dev.hostWaits = false →
      r = (s.dev.tookPosted 1).writeAt 0 addr.toNat v.toNat → r.dev.ttime = s.dev.ttime → r.dev.ivmq = s.dev.ivmq → r.dev.disp.bad = s.dev.disp.bad →
      Completes (.rwr seq tag addr [v]) s (fun e => e.regs = r.dev.regs ∧ e.str = r.dev.str ∧ e.mem = r.dev.mem)) ∧
    (∀ (seq : BitVec 12) (tag : BitVec 8) (addr : BitVec 64) (v : Word), seq.toNat = s.dev.trs.rxSeq → addr.toNat < 0x1000000 → s.dev.hostWaits = true →
      Completes (.rwr seq tag addr [v]) s (fun e => e.trs.rxSeq = (s.dev.trs.rxSeq + 1) % 4096 ∧ e.twin.waiting = s.dev.twin.waiting ++ [.write addr.toNat v.toNat] ∧
        e.regs = s.dev.regs ∧ MemSame s.dev e)) ∧
    (∀ (seq : BitVec 12) (tag : BitVec 8) (addr : BitVec 64) (data : List Word), seq.toNat = s.dev.trs.rxSeq → data.length ≤ 127 →
      0x1000000 ≤ addr.toNat ∨ data = [] ∨ 64 < data.length →
      Completes (.rwr seq tag addr data) s (fun e => e.trs.rxSeq = (s.dev.trs.rxSeq + 1) % 4096 ∧
        e.fld Reg.TRS_CRCERR 16 16 = min 0xFFFF (s.dev.fld Reg.TRS_CRCERR 16 16 + 1) ∧ RegsBut (· = Reg.TRS_CRCERR) s.dev e ∧ e.str = s.dev.str ∧ MemSame s.dev e)) ∧
    (∀ seq : BitVec 12, Completes (.badDataPacket seq .corrupt) s (fun e =>
      Sent s.dev e [.lnk ⟨2, (s.dev.trs.rxSeq + 4095) % 4096, 0, 0, 0⟩] ∧ e.trs = s.dev.trs ∧
      e.fld Reg.TRS_CRCERR 0 16 = min 0xFFFF (s.dev.fld Reg.TRS_CRCERR 0 16 + 1) ∧ RegsBut (· = Reg.TRS_CRCERR) s.dev e ∧ MemSame s.dev e)) ∧
    (∀ (seq : BitVec 12) (cls : Fin 3) (tag : BitVec 8) (len : BitVec 7), seq.toNat = s.dev.trs.rxSeq →
      (cls = 1 → Completes (.badDataPacket seq (.reserved cls tag len)) s (fun e => e.trs.rxSeq = (s.dev.trs.rxSeq + 1) % 4096 ∧
        e.trs.grantN = (s.dev.trs.grantN + 1) % 256 ∧
        e.fld Reg.TRS_CRCERR 16 16 = min 0xFFFF (s.dev.fld Reg.TRS_CRCERR 16 16 + 1) ∧ MemSame s.dev e ∧
        ∃ p ∈ e.trs.unacked ++ e.trs.txq, p.type = 4 ∧ p.tag = tag.toNat ∧ p.status = 2)) ∧
      (cls ≠ 1 → Completes (.badDataPacket seq (.reserved cls tag len)) s (fun e => e.trs.rxSeq = (s.dev.trs.rxSeq + 1) % 4096 ∧
        e.trs.grantH = (if cls = 0 then (s.dev.trs.grantH + 1) % 256 else s.dev.trs.grantH) ∧
        e.trs.grantU = (if cls = 0 then (s.dev.trs.grantU + ceilDiv len.toNat 16) % 65536 else s.dev.trs.grantU) ∧
        e.fld Reg.TRS_CRCERR 16 16 = min 0xFFFF (s.dev.fld Reg.TRS_CRCERR 16 16 + 1) ∧ RegsBut (· = Reg.TRS_CRCERR) s.dev e ∧ MemSame s.dev e))) ∧
    (∀ (seq : BitVec 12) (cls : Fin 3) (tag : BitVec 8) (len : BitVec 7), seq.toNat = (s.dev.trs.rxSeq + 4095) % 4096 → s.dev.trs.rxSeq < 4096 →
      Completes (.badDataPacket seq (.reserved cls tag len)) s (fun e => Sent s.dev e [.lnk ⟨1, (s.dev.trs.rxSeq + 4095) % 4096, 0, 0, 0⟩] ∧ e.trs = { s.dev.trs with ackDue := 0 } ∧ e.regs = s.dev.regs ∧ MemSame s.dev e)) ∧
    (∀ (seq : BitVec 12) (a b : List DataPkt) (p : DataPkt), s.dev.trs.unacked = a ++ p :: b → p.seq = seq.toNat → (∀ x ∈ a, x.seq ≠ seq.toNat) →
      Completes (.ack seq) s (fun e => (∃ more, e.trs.unacked = b ++ more) ∧ e.trs.futile = 0 ∧ e.trs.rxSeq = s.dev.trs.rxSeq ∧ MemSame s.dev e)) ∧
    (∀ seq : BitVec 12, (∀ x ∈ s.dev.trs.unacked, x.seq ≠ seq.toNat) → s.dev.trs.unacked ≠ [] → s.dev.trs.futile < 3 →
      (s.dev.trs.dozeWait = false → Completes (.nak seq) s (fun e => Sent s.dev e (s.dev.trs.unacked.map .pkt) ∧ e.trs = { s.dev.trs with futile := s.dev.trs.futile + 1 } ∧
        e.fld Reg.TRS_REPLAY 0 16 = min 0xFFFF (s.dev.fld Reg.TRS_REPLAY 0 16 + 1) ∧ e.bit (Reg.PG_EVT_RAW Page.TRS) 2 = true ∧ MemSame s.dev e)) ∧
      Completes .replayTimeout s (fun e => Sent s.dev e (s.dev.trs.unacked.map .pkt) ∧ e.trs = { s.dev.trs with futile := s.dev.trs.futile + 1 } ∧
        e.fld Reg.TRS_REPLAY 0 16 = min 0xFFFF (s.dev.fld Reg.TRS_REPLAY 0 16 + 1) ∧ e.bit (Reg.PG_EVT_RAW Page.TRS) 2 = true ∧ MemSame s.dev e)) ∧
    (s.dev.trs.unacked ≠ [] → s.dev.trs.futile = 3 →
      Completes .replayTimeout s (fun e => e.lst 0 = 4 ∧ e.trs.futile = 0 ∧ e.fld Reg.TRS_REPLAY 16 16 = min 0xFFFF (s.dev.fld Reg.TRS_REPLAY 16 16 + 1) ∧
        MemSame s.dev e)) ∧
    (∀ (cls : Fin 3) (hdr : BitVec 8) (units : BitVec 16), Completes (.credit cls hdr units) s (fun e => (e.creditOf cls.val).hdr = hdr.toNat ∧
      (e.creditOf cls.val).units = units.toNat ∧ (e.creditOf cls.val).known = true ∧ e.trs.rxSeq = s.dev.trs.rxSeq ∧ MemSame s.dev e)) ∧
    (s.dev.trs.ackDue ≠ 0 → Completes .ackTimer s (fun e => Sent s.dev e [.lnk ⟨1, (s.dev.trs.rxSeq + 4095) % 4096, 0, 0, 0⟩] ∧
      e.trs = { s.dev.trs with ackDue := 0 } ∧ e.regs = s.dev.regs ∧ MemSame s.dev e)) ∧
    (s.dev.trs.grantDue = true → journalSize ≤ s.dev.twin.journal.length →
      Completes .creditReturnTimer s (fun e => Sent s.dev e [.lnk ⟨3, 0, 1, s.dev.trs.grantN, 0⟩] ∧ e.trs = s.dev.trs ∧ e.regs = s.dev.regs ∧
        MemSame s.dev e)) ∧
    (s.dev.trs.grantDue = true → s.dev.twin.journal.length < journalSize →
      Completes .creditReturnTimer s (fun e => Sent s.dev e [.lnk ⟨3, 0, 0, s.dev.trs.grantH, s.dev.trs.grantU⟩, .lnk ⟨3, 0, 1, s.dev.trs.grantN, 0⟩] ∧
        e.trs = { s.dev.trs with grantDue := false } ∧ e.regs = s.dev.regs ∧ MemSame s.dev e)) ∧
    (s.dev.dmaBusy 0 = true ∨ s.dev.dmaBusy 1 = true ∨ s.dev.trs.mrds ≠ [] →
      Completes .dozeReq s (fun e => Sent s.dev e [.lnk ⟨6, 0, 0, 0, 0⟩] ∧ e.lst 0 = 3 ∧ e.regs = s.dev.regs ∧ MemSame s.dev e)) ∧
    (s.dev.dmaBusy 0 = false → s.dev.dmaBusy 1 = false → s.dev.trs.mrds = [] → s.dev.evqRoom = false → s.dev.evq.owed = 0 →
      ((∀ p ∈ s.dev.trs.txq, pktClass p.type ≠ 0) →
        Completes .dozeReq s (fun e => e.lst 0 = 5 ∧ (s.dev.vioIn = true → .lnk ⟨5, 0, 0, 0, 0⟩ ∈ e.out) ∧ MemSame s.dev e)) ∧
      ((∃ p ∈ s.dev.trs.txq, pktClass p.type = 0) →
        Completes .dozeReq s (fun e => e.lst 0 = 3 ∧ e.trs = { s.dev.trs with dozeWait := true } ∧ e.out = [] ∧ MemSame s.dev e)))

/-- R298–R301, R308: DMA. A doorbell posts descriptors; a fetched descriptor with a reserved field or a range that is not allowed ends with its code; one that may go runs; a finished
one, once its status has been written, raises DMA_DONE and moves HEAD on round the ring, and one with an error stops its queue; a read that times out, or that the host refuses, ends its descriptor; data
that answers no read is counted; a disable with no descriptor in progress zeroes HEAD and TAIL.
Readings of the model: log entries 56 and 57. -/
def Obligations.DmaQueues : Prop :=
  (∀ (s : State) (q : Requester) (n : Fin 2) (tail : BitVec 16), s.dev.admitsWrite q (Reg.TRS_DQ_TAIL n.val) = true →
    (s.dev.dmaOf n.val).closing = none → Completes (.dmaDoorbell q n tail) s (fun e => e.fld (Reg.TRS_DQ_TAIL n.val) 0 16 = tail.toNat ∧
      e.reg (Reg.TRS_DQ_HEAD n.val) = s.dev.reg (Reg.TRS_DQ_HEAD n.val) ∧ MemSame s.dev e)) ∧
  (∀ (s : State) (n : Fin 2) (c : DmaCtx), c = s.dev.dmaOf n.val → s.dev.dmaBusy n.val = true → c.desc ≠ [] → c.run = false → c.code = none →
    ((c.word 5).get 16 14 ≠ 0 → Completes (.dmaDescriptorFetched n) s (fun e => (e.dmaOf n.val).code = some 6 ∧ (e.dmaOf n.val).run = true ∧
      e.regs = s.dev.regs ∧ MemSame s.dev e)) ∧
    ((c.word 5).get 16 14 = 0 → c.len % 4 ≠ 0 ∨ c.len < 4 ∨ c.vec % 4 ≠ 0 ∨ c.host % 4 ≠ 0 ∨ memEnd < c.vec + c.len →
      Completes (.dmaDescriptorFetched n) s (fun e => (e.dmaOf n.val).code = some 1 ∧ (e.dmaOf n.val).run = true ∧ e.regs = s.dev.regs ∧ MemSame s.dev e)) ∧
    ((c.word 5).get 16 14 = 0 → c.len % 4 = 0 → 4 ≤ c.len → c.vec % 4 = 0 → c.host % 4 = 0 → c.vec + c.len ≤ memEnd → stackOf c.vec = stackOf (c.vec + c.len - 1) →
      s.dev.memThere c.vec c.len = true → s.dev.lst 0 ≠ 3 →
      Completes (.dmaDescriptorFetched n) s (fun e => e.dmaOf n.val = { c with run := true } ∧ e.regs = s.dev.regs ∧ MemSame s.dev e))) ∧
  (∀ (s : State) (n : Fin 2) (code : Nat), (s.dev.dmaOf n.val).code = some code → (s.dev.dmaOf n.val).disable = false → code < 256 →
    (s.dev.dmaOf n.val).closing = none → s.dev.regN (Reg.TRS_DQ_HEAD n.val) + 1 < 2 ^ 16 → s.dev.trs.txq = [] → s.dev.evqGo = true →
    Completes (.dmaDescriptorDone n) s (fun e => e.bit (Reg.PG_EVT_RAW Page.TRS) 3 = true ∧
      e.regN (Reg.TRS_DQ_HEAD n.val) = (if s.dev.regN (Reg.TRS_DQ_HEAD n.val) + 1 = s.dev.regN (Reg.TRS_DQ_SIZE n.val) then 0 else s.dev.regN (Reg.TRS_DQ_HEAD n.val) + 1) ∧
      (code ≠ 0 → e.bit (Reg.TRS_DQ_STAT n.val) 8 = true ∧ e.fld (Reg.TRS_DQ_STAT n.val) 0 8 = code ∧ e.bit (Reg.PG_EVT_RAW Page.TRS) 4 = true) ∧
      e.dmaOf n.val = DmaCtx.reset ∧ MemSame s.dev e)) ∧
  (∀ (s : State) (n : Fin 2) (code : Nat), (s.dev.dmaOf n.val).code = some code → (s.dev.dmaOf n.val).closing = none → s.dev.lst 0 ≠ 3 →
    Completes (.dmaDescriptorDone n) s (fun e =>
      e.dmaOf n.val = { s.dev.dmaOf n.val with closing := some (s.dev.trs.txq.countP (fun p => decide (pktClass p.type = 0)) + 2) } ∧ e.regs = s.dev.regs ∧
      MemSame s.dev e)) ∧
  (∀ (s : State) (tag : BitVec 8) (m : Mrd), s.dev.trs.mrds.find? (fun x => x.tag = tag.toNat) = some m → (s.dev.dmaOf m.queue).code = none → s.dev.lst 0 ≠ 3 →
    Completes (.mrdTimeout tag) s (fun e => (e.dmaOf m.queue).code = some 5 ∧ (∀ x ∈ e.trs.mrds, x.queue ≠ m.queue) ∧ e.regs = s.dev.regs ∧ MemSame s.dev e)) ∧
  (∀ (s : State) (seq : BitVec 12) (tag : BitVec 8) (st : BitVec 4) (m : Mrd), s.dev.lst 0 = 3 → seq.toNat = s.dev.trs.rxSeq →
    s.dev.trs.mrds.find? (fun x => x.tag = tag.toNat) = some m → (s.dev.dmaOf m.queue).code = none → (s.dev.dmaOf m.queue).closing = none →
    Completes (.cple seq tag st) s (fun e => e.trs.rxSeq = (s.dev.trs.rxSeq + 1) % 4096 ∧ (e.dmaOf m.queue).code = some 4 ∧ MemSame s.dev e)) ∧
  (∀ (s : State) (seq : BitVec 12) (tag : BitVec 8) (data : List Word), s.dev.lst 0 = 3 → seq.toNat = s.dev.trs.rxSeq → data.length ≤ 127 →
    (∀ m ∈ s.dev.trs.mrds, m.tag ≠ tag.toNat) →
    Completes (.cpl seq tag data) s (fun e => e.fld Reg.TRS_CRCERR 16 16 = min 0xFFFF (s.dev.fld Reg.TRS_CRCERR 16 16 + 1) ∧
      RegsBut (· = Reg.TRS_CRCERR) s.dev e ∧ MemSame s.dev e)) ∧
  (∀ (s : State) (seq : BitVec 12) (tag : BitVec 8) (data : List Word) (m : Mrd), s.dev.lst 0 = 3 → seq.toNat = s.dev.trs.rxSeq → data.length ≤ 127 →
    s.dev.trs.mrds.find? (fun x => x.tag = tag.toNat && x.len = data.length) = some m → m.fetch = true →
    Completes (.cpl seq tag data) s (fun e => (e.dmaOf m.queue).desc = data ∧ (∀ x ∈ e.trs.mrds, x.tag ≠ tag.toNat) ∧ e.regs = s.dev.regs ∧ MemSame s.dev e)) ∧
  (∀ (s : State) (q : Requester) (n : Fin 2), s.dev.admitsWrite q (Reg.TRS_DQ_CTRL n.val) = true → s.dev.bit (Reg.TRS_DQ_CTRL n.val) 31 = true →
    (s.dev.dmaBusy n.val = false → Completes (.dqDisable q n) s (fun e => e.bit (Reg.TRS_DQ_CTRL n.val) 31 = false ∧ e.reg (Reg.TRS_DQ_HEAD n.val) = 0 ∧
      e.reg (Reg.TRS_DQ_TAIL n.val) = 0 ∧ MemSame s.dev e)) ∧
    (s.dev.dmaBusy n.val = true → Completes (.dqDisable q n) s (fun e => e.bit (Reg.TRS_DQ_CTRL n.val) 31 = false ∧ (e.dmaOf n.val).disable = true ∧
      e.reg (Reg.TRS_DQ_HEAD n.val) = s.dev.reg (Reg.TRS_DQ_HEAD n.val) ∧ MemSame s.dev e)))

/-- R303, R304, R306: the event ring and the watchdog. A pending record goes to its slot of the ring in two packets and PROD counts it, as soon as both
can leave; in the DOZE link state it wakes the link; an enable starts an empty ring with PHASE 1; EVQ_CONS takes a
count that has been produced, and no other; at its age the oldest unnotified record is notified; the watchdog's period, kick and expiry. -/
def Obligations.EventRing : Prop :=
  (∀ (s : State) (r : EvRec) (rest : List EvRec), s.dev.evbuf = r :: rest → s.dev.evlost = 0 → s.dev.evqRoom = true → s.dev.evqGo = true →
    s.dev.bit Reg.EVQ_CTRL 16 = false → s.dev.regN Reg.EVQ_PROD < 2 ^ 32 - 1 → s.dev.trs.dq = [] → (∀ n < 2, s.dev.bit (Reg.TRS_DQ_CTRL n) 31 = false) →
    (∀ n < 2, s.dev.dmaBusy n = false) →
    Completes .eventRecordWrite s (fun e => e.evbuf = rest ∧ e.regN Reg.EVQ_PROD = s.dev.regN Reg.EVQ_PROD + 1 ∧ e.bit Reg.EVQ_STATUS 1 = true ∧
      e.evq.owed = s.dev.evq.owed + 1 ∧
      (∃ p ∈ e.trs.unacked ++ e.trs.txq, p.type = 6 ∧ p.payload = (recWords r (s.dev.bit Reg.EVQ_STATUS 0)).take 7 ∧
        p.addr = s.dev.reg64 Reg.EVQ_BASE_LO Reg.EVQ_BASE_HI + 32 * (s.dev.regN Reg.EVQ_PROD % s.dev.evqSize)) ∧
      (∃ p ∈ e.trs.unacked ++ e.trs.txq, p.type = 6 ∧ p.payload = (recWords r (s.dev.bit Reg.EVQ_STATUS 0)).drop 7 ∧
        p.addr = s.dev.reg64 Reg.EVQ_BASE_LO Reg.EVQ_BASE_HI + 32 * (s.dev.regN Reg.EVQ_PROD % s.dev.evqSize) + 0x1C) ∧ MemSame s.dev e)) ∧
  (∀ s : State, s.dev.evbuf ≠ [] → s.dev.evqRoom = true → s.dev.lst 0 = 5 →
    Completes .eventRecordWrite s (fun e => e.lst 0 = 4 ∧ (∃ more, e.evbuf = s.dev.evbuf ++ more) ∧ e.reg Reg.EVQ_PROD = s.dev.reg Reg.EVQ_PROD ∧ MemSame s.dev e)) ∧
  (∀ s : State, s.dev.evbuf = [] ∨ s.dev.evqRoom = false ∨ (s.dev.lst 0 ≠ 5 ∧ s.dev.evqGo = false) →
    Completes .eventRecordWrite s (fun e => e.evbuf = s.dev.evbuf ∧ e.regs = s.dev.regs ∧ MemSame s.dev e)) ∧
  (∀ (s : State) (q : Requester), s.dev.admitsWrite q Reg.EVQ_CTRL = true → s.dev.bit Reg.EVQ_CTRL 31 = false →
    Completes (.evqEnable q) s (fun e => e.bit Reg.EVQ_CTRL 31 = true ∧ e.reg Reg.EVQ_PROD = 0 ∧ e.reg Reg.EVQ_CONS = 0 ∧ e.fld Reg.EVQ_STATUS 0 3 = 1 ∧
      e.evq = EvqCtx.reset ∧ e.evbuf = s.dev.evbuf ∧ MemSame s.dev e)) ∧
  (∀ (s : State) (q : Requester) (v : Word), s.dev.admitsWrite q Reg.EVQ_CONS = true →
    ((v - s.dev.reg Reg.EVQ_CONS).toNat ≤ (s.dev.reg Reg.EVQ_PROD - s.dev.reg Reg.EVQ_CONS).toNat →
      Completes (.evqConsWrite q v) s (fun e => e.reg Reg.EVQ_CONS = v ∧ e.reg Reg.EVQ_PROD = s.dev.reg Reg.EVQ_PROD ∧ e.evbuf = s.dev.evbuf ∧ MemSame s.dev e)) ∧
    ((s.dev.reg Reg.EVQ_PROD - s.dev.reg Reg.EVQ_CONS).toNat < (v - s.dev.reg Reg.EVQ_CONS).toNat →
      Completes (.evqConsWrite q v) s (fun e => e.reg Reg.EVQ_CONS = s.dev.reg Reg.EVQ_CONS ∧ e.reg (Reg.PG_FAULT_CODE Page.EVQ) = 2 ∧ OnlyRegs s.dev e))) ∧
  (∀ s : State, s.dev.fld Reg.EVQ_MOD 0 16 ≠ 0 → s.dev.evq.owed ≠ 0 → s.dev.lst 0 = 3 → s.dev.bit Reg.EVQ_CTRL 16 = true →
    s.dev.evq.oldest + s.dev.fld Reg.EVQ_MOD 0 16 * usTicks ≤ s.dev.ttime →
    Completes .evqAgeExpiry s (fun e => e.evq = EvqCtx.reset ∧ e.bit Reg.EVQ_STATUS 1 = false ∧
      (∃ p ∈ e.trs.unacked ++ e.trs.txq, p.type = 7 ∧ p.vec = s.dev.fld Reg.EVQ_CTRL 0 16 % 256) ∧ MemSame s.dev e)) ∧
  (∀ (s : State) (q : Requester) (v : Word), s.dev.admitsWrite q Reg.TRS_WDOG = true →
    Completes (.wdogWrite q v) s (fun e => e.regN Reg.TRS_WDOG = v.toNat % 2 ^ 24 ∧ e.trs = { s.dev.trs with kick := s.dev.ttime } ∧ e.wdExpired = false ∧
      RegsBut (· = Reg.TRS_WDOG) s.dev e ∧ MemSame s.dev e)) ∧
  (∀ (s : State) (q : Requester) (v : Word), s.dev.admitsWrite q Reg.TRS_WDKICK = true →
    (v.get 0 8 = 0xA5 → Completes (.wdogKick q v) s (fun e => e.trs = { s.dev.trs with kick := s.dev.ttime } ∧ e.regs = s.dev.regs ∧ MemSame s.dev e)) ∧
    (v.get 0 8 ≠ 0xA5 → Completes (.wdogKick q v) s (fun e => e.trs = s.dev.trs ∧ e.reg (Reg.PG_FAULT_CODE Page.TRS) = 2 ∧ OnlyRegs s.dev e))) ∧
  (∀ s : State, s.dev.regN Reg.TRS_WDOG ≠ 0 → s.dev.wdExpired = false →
    Completes .wdogExpiry s (fun e => e.wdExpired = true ∧ e.bit (Reg.PG_EVT_RAW Page.TRS) 8 = true ∧ e.bit Reg.SAFE_CAUSE 8 = true))

/-! ## Tester time, the chain and its quorum (R310–R340) -/

/-- R310, R313, R316, R317, R326, R328, R332, R337, R340: tester time. The count wraps to 0 with the next epoch; an armed device that is step-safe takes the time of SETTIME, or its
pending correction, at the SYNC edge, and one that is not refuses; 100 ms without an edge lapse; the master's commands; a strobe is armed, pulses, falls and stops.
Readings of the model: log entry 62. -/
def Obligations.TesterTime : Prop :=
  (∀ s : State, s.dev.timeRuns = true → s.dev.ttime ≤ 2 ^ 64 → s.dev.evbuf.length < 256 →
    Completes .ttimeWrap s (fun e => e.ttime = 0 ∧ e.reg Reg.TIME_EPOCH = s.dev.reg Reg.TIME_EPOCH + 1 ∧ e.bit (Reg.PG_EVT_RAW Page.TIME) 0 = true ∧
      (s.dev.quiet = true → MemSame s.dev e) ∧ ∃ r l, e.evbuf = s.dev.evbuf ++ r :: l ∧ r.type = 0x15 ∧ r.code = (s.dev.regN Reg.TIME_EPOCH + 1) % 2 ^ 32)) ∧
  (∀ (s : State) (t : BitVec 64) (v ep : Nat), s.dev.bit Reg.VIA_STATUS 12 = true → (s.dev.reach t.toNat).stepSafe = true → s.dev.via.setReq = false →
    s.dev.via.load = some (v, ep) → s.dev.via.apply = false → s.dev.isMaster = true → v < 2 ^ 64 → ep < 2 ^ 32 →
    Completes (.syncEdge t) s (fun e => e.ttime = v ∧ e.regN Reg.TIME_EPOCH = ep ∧ e.tstate = 2 ∧ e.bit Reg.VIA_STATUS 12 = false ∧ e.via.load = none ∧
      (s.dev.quiet = true → MemSame s.dev e))) ∧
  (∀ (s : State) (t : BitVec 64) (v ep : Nat), s.dev.bit Reg.VIA_STATUS 12 = true → (s.dev.reach t.toNat).stepSafe = true → s.dev.via.setReq = false →
    s.dev.via.load = some (v, ep) → s.dev.via.apply = false → s.dev.isMaster = false → ep < 2 ^ 32 →
    Completes (.syncEdge t) s (fun e => e.ttime = (BitVec.ofNat 64 v + (s.dev.reg Reg.VIA_SKEW).signExtend 64).toNat ∧ e.regN Reg.TIME_EPOCH = ep ∧
      e.tstate = (if s.dev.bit Reg.VIA_STATUS 11 then 2 else 1) ∧ e.bit Reg.VIA_STATUS 12 = false ∧ e.via.load = none ∧ (s.dev.quiet = true → MemSame s.dev e))) ∧
  (∀ (s : State) (t : BitVec 64) (c : Int), s.dev.bit Reg.VIA_STATUS 12 = true → (s.dev.reach t.toNat).stepSafe = true → s.dev.via.setReq = false →
    s.dev.via.load = none → s.dev.via.apply = true → s.dev.via.pendC = some c →
    Completes (.syncEdge t) s (fun e => e.reg Reg.VIA_SKEW = s.dev.reg Reg.VIA_SKEW + BitVec.ofInt 32 c ∧ e.bit Reg.VIA_STATUS 11 = true ∧
      e.tstate = (if s.dev.tstate = 0 then 0 else 2) ∧
      e.via.pendC = none ∧ e.via.apply = false ∧ (s.dev.quiet = true → MemSame s.dev e))) ∧
  (∀ (s : State) (t : BitVec 64), s.dev.bit Reg.VIA_STATUS 12 = true → (s.dev.reach t.toNat).stepSafe = false → s.dev.via.setReq = false →
    Completes (.syncEdge t) s (fun e => e.ttime = (s.dev.reach t.toNat).ttime ∧ e.tstate = 0 ∧ e.fld Reg.VIA_STATUS 4 3 = 3 ∧
      e.bit (Reg.PG_EVT_RAW Page.VIA) 6 = true ∧ e.bit Reg.VIA_STATUS 12 = false ∧ e.reg Reg.TIME_EPOCH = s.dev.reg Reg.TIME_EPOCH ∧ (s.dev.quiet = true → MemSame s.dev e))) ∧
  (∀ s : State, s.dev.bit Reg.VIA_STATUS 12 = true →
    Completes .syncArmLapse s (fun e => e.bit Reg.VIA_STATUS 12 = false ∧ e.via.load = none ∧ e.via.apply = false ∧ e.tstate = s.dev.tstate ∧ (s.dev.quiet = true → MemSame s.dev e))) ∧
  (∀ (s : State) (q : Requester), s.dev.admitsWrite q Reg.VIA_CMD = true → s.dev.isMaster = true → s.dev.dnAct = true →
    (s.dev.via.setReq = false → s.dev.via.load = none →
      Completes (.viaSettime q) s (fun e => e.via = { s.dev.via with setReq := true } ∧ e.regs = s.dev.regs ∧ e.out = [] ∧ MemSame s.dev e)) ∧
    (s.dev.via.calRun = false →
      Completes (.viaSkewcal q) s (fun e => e.via.calRun = true ∧ Sent s.dev e [.via 1 (viaWords ⟨8, 0, 0xFF, s.dev.via.fseq, 0, 0, 0⟩)] ∧
        e.regs = s.dev.regs ∧ MemSame s.dev e)) ∧
    (s.dev.via.apply = false →
      Completes (.viaApply q) s (fun e => Sent s.dev e [.via 1 (viaWords ⟨9, 0, 0xFF, s.dev.via.fseq, 0, 0, 0⟩)] ∧ e.regs = s.dev.regs ∧ MemSame s.dev e)) ∧
    (∀ (t n : Nat), t = s.dev.reg64 Reg.VIA_QT_LO Reg.VIA_QT_HI → s.dev.ahead t = some n → 10 * usTicks ≤ n → s.dev.quorumAhead = false →
      Completes (.viaQannounce q) s (fun e => Sent s.dev e [.via 1 (viaWords ⟨10, 0, 0xFF, s.dev.via.fseq, t, 0, 0⟩)] ∧ e.via.qt = some t ∧
        e.regN Reg.VIA_QSTAT = t / 2 ^ 12 % 2 ^ 16 ∧ RegsBut (· = Reg.VIA_QSTAT) s.dev e ∧ MemSame s.dev e))) ∧
  (∀ (s : State) (q : Requester), s.dev.admitsWrite q Reg.VIA_CMD = true → s.dev.isMaster = false → ∀ c : Instr,
    (c = .viaSettime q ∨ c = .viaSkewcal q ∨ c = .viaApply q ∨ c = .viaQannounce q) →
    Completes c s (fun e => e.reg (Reg.PG_FAULT_CODE Page.VIA) = 1 ∧ e.via = s.dev.via ∧ OnlyRegs s.dev e)) ∧
  (∀ (s : State) (q : Requester), s.dev.admitsWrite q Reg.VIA_CMD = true →
    Completes (.viaRetrain q) s (fun e => e.lst 1 = 0 ∧ e.lst 2 = 0 ∧ e.upAct = false ∧ e.dnAct = false ∧ MemSame s.dev e)) ∧
  (∀ (s : State) (q : Requester) (v : Word), s.dev.admitsWrite q Reg.VIA_SKEW = true →
    Completes (.viaSkewWrite q v) s (fun e => e.reg Reg.VIA_SKEW = v ∧ e.bit Reg.VIA_STATUS 11 = true ∧
      RegsBut (fun a => a = Reg.VIA_SKEW ∨ a = Reg.VIA_STATUS) s.dev e ∧ OnlyRegs s.dev e))

/-- R320, R321, R323, R325–R328, R331, R332: frames of the chain. ADDR gives the address and goes on, or END goes up; SETTIME and APPLY arm; TIME is forwarded; DREQ is answered;
SKEWCAL starts the exchanges, DRESP counts one, SKEWSUM gives the sum; QANNOUNCE records the tag; a bad frame is counted; the master originates TIME and a slave DREQ. Stamps are
TTIME at the ball, and each frame leaves as its eight dwords with their CRC.
Readings of the model: log entry 64. -/
def Obligations.ChainFrames : Prop :=
  (∀ s : State, s.dev.upAct = true → s.dev.isMaster = false →
    (∀ p : BitVec 32, p.toNat < 63 → s.dev.dnAct = true →
      Completes (.addr p) s (fun e => e.viaAddr = p.toNat ∧ Sent s.dev e [.via 1 (viaWords ⟨1, p.toNat, p.toNat + 1, s.dev.via.fseq, 0, 0, p.toNat + 1⟩)] ∧
        RegsBut (· = Reg.VIA_STATUS) s.dev e ∧ MemSame s.dev e)) ∧
    (∀ p : BitVec 32, p.toNat < 64 → s.dev.dnAct = false →
      Completes (.addr p) s (fun e => e.viaAddr = p.toNat ∧ Sent s.dev e [.via 0 (viaWords ⟨2, p.toNat, 0, s.dev.via.fseq, 0, 0, p.toNat⟩)] ∧
        RegsBut (· = Reg.VIA_STATUS) s.dev e ∧ MemSame s.dev e)) ∧
    (∀ (t : BitVec 64) (ep : BitVec 32), s.dev.dnAct = true →
      Completes (.settime t ep) s (fun e => Sent s.dev e [.via 1 (viaWords ⟨3, 0, 0xFF, s.dev.via.fseq, t.toNat, 0, ep.toNat⟩)] ∧ e.via.load = some (t.toNat, ep.toNat) ∧
        e.bit Reg.VIA_STATUS 12 = true ∧ e.ttime = s.dev.ttime ∧ RegsBut (· = Reg.VIA_STATUS) s.dev e ∧ MemSame s.dev e)) ∧
    (∀ (ts corr arr dep : BitVec 64) (src : BitVec 8), s.dev.dnAct = true → s.dev.bit Reg.VIA_CTRL 2 = true → s.dev.bit Reg.VIA_CTRL 3 = false →
      Completes (.time ts corr src arr dep) s (fun e =>
        SentFirst s.dev e [.via 1 (viaWords ⟨4, src.toNat, 0xFF, s.dev.via.fseq, ts.toNat,
          (corr.toNat + (s.dev.stampThen arr dep - s.dev.stampAt arr)) % 2 ^ 64, 0⟩)] ∧
        (s.dev.quiet = true → e.regs = s.dev.regs ∧ MemSame s.dev e))) ∧
    (∀ (ts corr arr dep : BitVec 64) (src : BitVec 8), s.dev.dnAct = true → s.dev.bit Reg.VIA_CTRL 2 = false → s.dev.bit Reg.VIA_CTRL 3 = false →
      Completes (.time ts corr src arr dep) s (fun e =>
        SentFirst s.dev e [.via 1 (viaWords ⟨4, s.dev.viaAddr, 0xFF, s.dev.via.fseq, s.dev.stampThen arr dep % 2 ^ 64, 0, 0⟩)] ∧
        (s.dev.quiet = true → e.regs = s.dev.regs ∧ MemSame s.dev e))) ∧
    (∀ (ts corr arr dep : BitVec 64) (src : BitVec 8) (r : Int), s.dev.bit Reg.VIA_CTRL 3 = true → s.dev.via.resid = [] → (s.dev.tstate = 1 ∨ s.dev.tstate = 2) →
      r = (BitVec.ofNat 64 (s.dev.stampAt arr) - ts - corr - BitVec.ofNat 64 (s.dev.fld (if s.dev.bit Reg.VIA_CTRL 2 then Reg.VIA_PATHDLY else Reg.VIA_LINKDLY) 0 24)).toInt →
      (s.dev.fld Reg.VIA_TOL 0 16 : Int) < r.natAbs →
      Completes (.time ts corr src arr dep) s (fun e => e.tstate = 0 ∧ e.fld Reg.VIA_STATUS 4 3 = 4 ∧ e.bit (Reg.PG_EVT_RAW Page.VIA) 3 = true ∧
        e.reg Reg.VIA_RESID = BitVec.ofInt 32 r ∧ (s.dev.quiet = true → MemSame s.dev e))) ∧
    (∀ c : BitVec 32, ∀ path : BitVec 64, s.dev.via.calRun = true → s.dev.via.o = none →
      Completes (.skewsum c path) s (fun e => e.via = { s.dev.via with sumIn := some (c.toInt, path.toNat) } ∧ e.regs = s.dev.regs ∧ MemSame s.dev e)) ∧
    (∀ (c : BitVec 32) (path : BitVec 64) (o : Int), s.dev.via.calRun = true → s.dev.via.o = some o → s.dev.viaAddr ≠ 1 →
      Completes (.skewsum c path) s (fun e => e.via.pendC = some (c.toInt - o) ∧ e.via.calRun = false ∧
        e.regN Reg.VIA_PATHDLY = (path.toNat + s.dev.fld Reg.VIA_LINKDLY 0 24) % 2 ^ 24 ∧ RegsBut (· = Reg.VIA_PATHDLY) s.dev e ∧ MemSame s.dev e)) ∧
    Completes .skewcal s (fun e => e.via.calRun = true ∧ e.via.exch = 0 ∧ e.via.sumRT = 0 ∧ e.via.sumD = 0 ∧ e.via.o = none ∧ e.regs = s.dev.regs ∧
      Sent s.dev e (if s.dev.dnAct then [.via 1 (viaWords ⟨8, 0, 0xFF, s.dev.via.fseq, 0, 0, 0⟩)] else []) ∧ MemSame s.dev e) ∧
    (∀ (ts arr : BitVec 64) (diff : BitVec 32) (t1 : Nat), s.dev.via.t1 = some t1 → s.dev.via.exch < 4095 →
      Completes (.dresp ts diff arr) s (fun e => e.via.t1 = none ∧ e.via.exch = s.dev.via.exch + 1 ∧
        e.via.sumRT = s.dev.via.sumRT + ((s.dev.stampAt arr : Int) - t1 - diff.toInt) ∧ e.via.sumD = s.dev.via.sumD + ((t1 : Int) - (ts.toNat - diff.toInt)) ∧
        (s.dev.quiet = true → e.regs = s.dev.regs ∧ MemSame s.dev e))) ∧
    (s.dev.via.pendC.isSome = true →
      Completes .apply s (fun e => e.via.apply = true ∧ e.bit Reg.VIA_STATUS 12 = true ∧ e.via.pendC = s.dev.via.pendC ∧
        RegsBut (· = Reg.VIA_STATUS) s.dev e ∧ MemSame s.dev e)) ∧
    (∀ t : BitVec 64, Completes (.qannounce t) s (fun e => e.regN Reg.VIA_QSTAT = t.toNat / 2 ^ 12 % 2 ^ 16 ∧ e.via.qt = some t.toNat ∧ e.via.verdict = none ∧
      RegsBut (· = Reg.VIA_QSTAT) s.dev e ∧ MemSame s.dev e)) ∧
    (∀ t : BitVec 64, s.dev.via.calRun = true → s.dev.via.exch < 4096 → s.dev.via.o = none →
      Completes (.skewExchangeTick t) s (fun e => e.via.t1 = some (s.dev.stampAt t) ∧
        SentFirst s.dev e [.via 0 (viaWords ⟨5, s.dev.viaAddr, (s.dev.viaAddr + 63) % 64, s.dev.via.fseq, s.dev.stampAt t % 2 ^ 64, 0, s.dev.via.exch⟩)] ∧
        (s.dev.quiet = true → e.regs = s.dev.regs ∧ MemSame s.dev e)))) ∧
  (∀ s : State, s.dev.dnAct = true →
    (∀ arr dep : BitVec 64,
      Completes (.dreq arr dep) s (fun e =>
        SentFirst s.dev e [.via 1 (viaWords ⟨6, s.dev.viaAddr, s.dev.viaAddr + 1, s.dev.via.fseq, s.dev.stampThen arr dep % 2 ^ 64, 0,
          (s.dev.stampThen arr dep - s.dev.stampAt arr) % 2 ^ 32⟩)] ∧
        (s.dev.quiet = true → e.regs = s.dev.regs ∧ MemSame s.dev e))) ∧
    (∀ addr : BitVec 6, s.dev.isMaster = true → s.dev.via.addressing = true →
      Completes (.endFrame false addr) s (fun e => e.fld Reg.VIA_STATUS 24 7 = addr.toNat + 1 ∧ e.via.addressing = false ∧
        RegsBut (· = Reg.VIA_STATUS) s.dev e ∧ MemSame s.dev e)) ∧
    (∀ addr : BitVec 6, s.dev.isMaster = true →
      Completes (.endFrame true addr) s (fun e => e.bit (Reg.PG_EVT_RAW Page.VIA) 2 = true ∧ e.via = { s.dev.via with calRun := false } ∧ MemSame s.dev e)) ∧
    (∀ dep : BitVec 64, s.dev.isMaster = true → s.dev.fld Reg.VIA_TPER 0 16 ≠ 0 →
      Completes (.timeFrameOriginate dep) s (fun e =>
        SentFirst s.dev e [.via 1 (viaWords ⟨4, s.dev.viaAddr, 0xFF, s.dev.via.fseq, s.dev.stampAt dep % 2 ^ 64, 0, 0⟩)] ∧
        (s.dev.quiet = true → e.regs = s.dev.regs ∧ MemSame s.dev e)))) ∧
  (∀ s : State, Completes .badFrame s (fun e => e.fld Reg.VIA_ERR 16 16 = min 0xFFFF (s.dev.fld Reg.VIA_ERR 16 16 + 1) ∧
    e.bit (Reg.PG_EVT_RAW Page.VIA) 5 = true ∧ RegsBut (fun a => a = Reg.VIA_ERR ∨ a = Reg.PG_EVT_RAW Page.VIA) s.dev e ∧ OnlyRegs s.dev e))

/-- R333–R335: the quorum. At T − 2 µs the device forms its report; a report from below is merged and passed on; the master says GO where no device said NOGO and the count is the one
expected; a verdict is recorded and passed down, and with NOGO no quorum stream starts; without GO at T − 100 ns none starts. A set whose two copies differ,
or of another tag, is not accepted. -/
def Obligations.Quorum : Prop :=
  (∀ (s : State) (t : Nat), s.dev.via.qt = some t → s.dev.via.qDone = false → s.dev.quorumStreams = [] → s.dev.via.report = none →
    s.dev.dnAct = false → s.dev.isMaster = false → s.dev.upAct = true →
    Completes .quorumReadiness s (fun e => e.via.qDone = true ∧ e.via.nogo = false ∧ SentFirst s.dev e [.sig 0 ⟨false, s.dev.fld Reg.VIA_QSTAT 0 16, false, 0, 0⟩] ∧
      (s.dev.quiet = true → e.regs = s.dev.regs ∧ MemSame s.dev e))) ∧
  (∀ (s : State) (t : Nat), s.dev.via.qt = some t → s.dev.via.qDone = false → s.dev.quorumStreams ≠ [] → s.dev.tstate ≠ 2 → s.dev.via.report = none →
    (s.dev.dnAct = true ∨ s.dev.isMaster = true) →
    Completes .quorumReadiness s (fun e => e.via.qDone = true ∧ e.via.nogo = true ∧ e.via.part = true ∧ SentFirst s.dev e [] ∧
      (s.dev.quiet = true → e.regs = s.dev.regs ∧ MemSame s.dev e))) ∧
  (∀ (s : State) (tag : BitVec 16) (nogo : Bool) (count : BitVec 7) (addr : BitVec 6), s.dev.dnAct = true → tag.toNat = s.dev.fld Reg.VIA_QSTAT 0 16 →
    s.dev.via.qt.isSome = true → s.dev.via.qDone = false →
    Completes (.ready ⟨tag, true⟩ nogo count addr) s (fun e => e.via = { s.dev.via with report := some ⟨false, tag.toNat, nogo, count.toNat, addr.toNat⟩ } ∧ e.out = [] ∧
      e.regs = s.dev.regs ∧ MemSame s.dev e)) ∧
  (∀ (s : State) (tag : BitVec 16) (nogo : Bool) (count : BitVec 7) (addr : BitVec 6), s.dev.dnAct = true → tag.toNat = s.dev.fld Reg.VIA_QSTAT 0 16 →
    s.dev.via.qt.isSome = true → s.dev.via.qDone = true → s.dev.isMaster = false → s.dev.upAct = true → s.dev.via.part = true → s.dev.via.nogo = true →
    Completes (.ready ⟨tag, true⟩ nogo count addr) s (fun e => e.via = s.dev.via ∧ e.regs = s.dev.regs ∧ MemSame s.dev e ∧
      Sent s.dev e [.sig 0 ⟨false, tag.toNat, true, (count.toNat + 1) % 128, if nogo then addr.toNat else s.dev.viaAddr⟩])) ∧
  (∀ (s : State) (tag : SigTag) (nogo : Bool) (count : BitVec 7) (addr : BitVec 6), tag.same = false ∨ tag.tag.toNat ≠ s.dev.fld Reg.VIA_QSTAT 0 16 →
    Completes (.ready tag nogo count addr) s (fun e => e.via = s.dev.via ∧ e.out = [] ∧ e.regs = s.dev.regs ∧ MemSame s.dev e)) ∧
  (∀ (s : State) (t : Nat) (r : ViaSig), s.dev.via.qt = some t → s.dev.isMaster = true → s.dev.via.verdict = none → s.dev.via.qDone = true →
    s.dev.via.report = some r → s.dev.dnAct = true → r.count < 128 → r.addr < 64 →
    (r.flag = false → (s.dev.fld Reg.VIA_QEXP 0 7 = 0 ∨ r.count = s.dev.fld Reg.VIA_QEXP 0 7) →
      Completes .quorumDecide s (fun e => e.via = { s.dev.via with verdict := some true } ∧ SentFirst s.dev e [.sig 1 ⟨true, s.dev.fld Reg.VIA_QSTAT 0 16, true, 0, 0⟩] ∧
        e.fld Reg.VIA_QSTAT 23 7 = r.count ∧ e.bit Reg.VIA_QSTAT 31 = true ∧ e.bit Reg.VIA_QSTAT 30 = true ∧ e.bit (Reg.PG_EVT_RAW Page.VIA) 4 = true ∧
        (s.dev.quiet = true → MemSame s.dev e))) ∧
    (r.flag = true → s.dev.quorumStreams = [] →
      Completes .quorumDecide s (fun e => e.via = { s.dev.via with verdict := some false } ∧ SentFirst s.dev e [.sig 1 ⟨true, s.dev.fld Reg.VIA_QSTAT 0 16, false, 0, 0⟩] ∧
        e.fld Reg.VIA_QSTAT 16 6 = r.addr ∧ e.bit Reg.VIA_QSTAT 22 = true ∧ e.bit Reg.VIA_QSTAT 31 = true ∧ e.bit Reg.VIA_QSTAT 30 = false ∧
        (s.dev.quiet = true → MemSame s.dev e)))) ∧
  (∀ (s : State) (tag : BitVec 16), s.dev.upAct = true → s.dev.isMaster = false → tag.toNat = s.dev.fld Reg.VIA_QSTAT 0 16 → s.dev.verdictLate = false →
    Completes (.verdict ⟨tag, true⟩ true) s (fun e => e.via = { s.dev.via with verdict := some true } ∧ e.bit Reg.VIA_QSTAT 31 = true ∧ e.bit Reg.VIA_QSTAT 30 = true ∧
      Sent s.dev e (if s.dev.dnAct then [.sig 1 ⟨true, tag.toNat, true, 0, 0⟩] else []) ∧ e.str = s.dev.str ∧
      RegsBut (fun a => a = Reg.VIA_QSTAT ∨ a = Reg.PG_EVT_RAW Page.VIA) s.dev e ∧ MemSame s.dev e) ∧
    (∀ i : Fin 16, s.dev.quorumStreams = [i.val] →
      Completes (.verdict ⟨tag, true⟩ false) s (fun e => e.strState i.val = 0 ∧ e.bit (Reg.PG_EVT_RAW (Page.STR i.val)) 5 = true ∧ e.bit Reg.VIA_QSTAT 30 = false ∧
        MemSame s.dev e))) ∧
  (∀ (s : State) (tag : SigTag) (go : Bool), tag.same = false ∨ tag.tag.toNat ≠ s.dev.fld Reg.VIA_QSTAT 0 16 →
    Completes (.verdict tag go) s (fun e => e.via = s.dev.via ∧ e.out = [] ∧ e.regs = s.dev.regs ∧ MemSame s.dev e)) ∧
  (∀ (s : State) (t : Nat) (i : Fin 16), s.dev.via.qt = some t → s.dev.via.verdict = none → s.dev.quorumStreams = [i.val] →
    Completes .verdictDeadline s (fun e => e.strState i.val = 0 ∧ e.bit (Reg.PG_EVT_RAW (Page.STR i.val)) 5 = true ∧ e.via.verdict = some false ∧
      (s.dev.quiet = true → MemSame s.dev e))) ∧
  (∀ (s : State) (t : Nat), s.dev.via.qt = some t → s.dev.via.verdict = some true → Completes .verdictDeadline s (fun e => e.via = s.dev.via ∧ e.regs = s.dev.regs ∧ e.str = s.dev.str ∧ MemSame s.dev e))

/-- R337: strobes. EN from 0 to 1 with a period of at least 4 × (W + 1) ns arms the strobe at its first time, at least 1 µs ahead; a shorter period is a fault of code 0x02; a periodic strobe starts at its
first time at least 1 µs ahead; a pulse raises the line; the end of its width lowers it and, of a single strobe, clears EN; EN = 0 leaves no pulse to come. -/
def Obligations.Strobes : Prop :=
  ∀ (s : State) (k : Fin 4),
    (∀ (q : Requester) (v : Word) (n : Nat), s.dev.admitsWrite q (Reg.TSTR_CTRL k.val) = true → s.dev.bit (Reg.TSTR_CTRL k.val) 31 = false → v.bit 30 = false →
      s.dev.regN (Reg.TSTR_PER k.val) * 1280 ≥ (4 * (max 1 (v.get 0 8) + 1) + 4) * nsTicks → s.dev.ahead (s.dev.strobeT k.val) = some n → usTicks ≤ n →
      Completes (.tstrEnable q k v) s (fun e => e.bit (Reg.TSTR_CTRL k.val) 31 = true ∧ e.fld (Reg.TSTR_CTRL k.val) 0 8 = v.get 0 8 ∧
        e.strobeOf k.val = { s.dev.strobeOf k.val with next := some (s.dev.ttime + n) } ∧ RegsBut (· = Reg.TSTR_CTRL k.val) s.dev e ∧ MemSame s.dev e)) ∧
    (∀ (q : Requester) (v : Word), s.dev.admitsWrite q (Reg.TSTR_CTRL k.val) = true → s.dev.bit (Reg.TSTR_CTRL k.val) 31 = false → v.bit 30 = true →
      s.dev.regN (Reg.TSTR_PER k.val) * 1280 ≥ (4 * (max 1 (v.get 0 8) + 1) + 4) * nsTicks →
      Completes (.tstrEnable q k v) s (fun e => e.bit (Reg.TSTR_CTRL k.val) 31 = true ∧
        e.strobeOf k.val = { s.dev.strobeOf k.val with next := some (s.dev.strobeNext k.val (s.dev.ttime + usTicks)) } ∧
        RegsBut (· = Reg.TSTR_CTRL k.val) s.dev e ∧ MemSame s.dev e)) ∧
    (∀ (q : Requester) (v : Word), s.dev.admitsWrite q (Reg.TSTR_CTRL k.val) = true → s.dev.bit (Reg.TSTR_CTRL k.val) 31 = false →
      s.dev.regN (Reg.TSTR_PER k.val) * 1280 < (4 * (max 1 (v.get 0 8) + 1) + 4) * nsTicks →
      Completes (.tstrEnable q k v) s (fun e => e.reg (Reg.TSTR_CTRL k.val) = s.dev.reg (Reg.TSTR_CTRL k.val) ∧ e.reg (Reg.PG_FAULT_CODE Page.TIME) = 2 ∧
        e.strobe = s.dev.strobe ∧ MemSame s.dev e)) ∧
    (∀ q : Requester, s.dev.admitsWrite q (Reg.TSTR_CTRL k.val) = true → s.dev.bit (Reg.TSTR_CTRL k.val) 31 = true →
      Completes (.tstrDisable q k) s (fun e => e.bit (Reg.TSTR_CTRL k.val) 31 = false ∧ e.strobeOf k.val = { s.dev.strobeOf k.val with next := none } ∧
        RegsBut (· = Reg.TSTR_CTRL k.val) s.dev e ∧ MemSame s.dev e)) ∧
    (∀ t : Nat, (s.dev.strobeOf k.val).next = some t → s.dev.strobeMuted k.val = false →
      Completes (.tstrobePulse k) s (fun e => (e.strobeOf k.val).high = true ∧ (e.strobeOf k.val).fall = some (t + s.dev.strobeW k.val * 4 * nsTicks) ∧
        (e.strobeOf k.val).next = (if s.dev.bit (Reg.TSTR_CTRL k.val) 30 then some (t + max 1 (s.dev.strobePer k.val)) else none) ∧
        e.reg (Reg.TSTR_CTRL k.val) = s.dev.reg (Reg.TSTR_CTRL k.val) ∧
        (s.dev.quiet = true → (∀ i < 32, s.dev.ivmState i ≠ 2 ∧ s.dev.ivmState i ≠ 3) → e.regs = s.dev.regs ∧ MemSame s.dev e))) ∧
    (∀ t : Nat, (s.dev.strobeOf k.val).fall = some t →
      Completes (.tstrobePulseEnd k) s (fun e => e.strobeOf k.val = { s.dev.strobeOf k.val with high := false, fall := none } ∧
        e.bit (Reg.TSTR_CTRL k.val) 31 = (s.dev.bit (Reg.TSTR_CTRL k.val) 31 && (s.dev.strobeOf k.val).next.isSome) ∧
        (s.dev.quiet = true → RegsBut (· = Reg.TSTR_CTRL k.val) s.dev e ∧ MemSame s.dev e)))

/-! ## Supplies, guards, sensors and the safe state (R341–R361, R380) -/

/-- R342–R344, R346, R348–R350, R380: monitors. A sample shows in SUP_NOW; the second one in a row below the warning level begins an excursion, and below the minimum arrives as cause
SUPPLY; below its reset level VAUX acts as power-on reset, and any other rail resets the regions, with cause POWERON; the regions come up again; a guard whose last N samples hold K outside the window is OUT, one with K inside is IN; latched bits clear at the period and by writes; the sensors
report, and above 110 °C cause TEMP arrives.
Readings of the model: log entries 16, 18 and 136. -/
def Obligations.SupplyGuardSensors : Prop :=
  (∀ (s : State) (r : Fin 8) (mv : BitVec 12), (s.dev.supOf r.val).prev = none → (s.dev.supOf r.val).exc = none →
    Completes (.supplySample r mv) s (fun e => e.reg (Reg.SUP_NOW r.val) = mv.zeroExtend 32 ∧ (e.supOf r.val).prev = some mv.toNat ∧ (e.supOf r.val).exc = none ∧
      RegsBut (fun a => a = Reg.SUP_NOW r.val ∨ a = Reg.SUP_EXTR r.val) s.dev e ∧ MemSame s.dev e)) ∧
  (∀ (s : State) (r : Fin 8) (mv : BitVec 12) (v : Nat), (s.dev.supOf r.val).prev = some v → (s.dev.supOf r.val).exc = none →
    v < s.dev.fld (Reg.SUP_THR r.val) 0 12 → mv.toNat < s.dev.fld (Reg.SUP_THR r.val) 0 12 → supMin.getD r.val 0 ≤ v → supMin.getD r.val 0 ≤ mv.toNat →
    Completes (.supplySample r mv) s (fun e => e.bit Reg.SUP_STATUS r.val = true ∧ e.bit (Reg.PG_EVT_RAW Page.SUP) r.val = true ∧
      (e.supOf r.val).exc = some ⟨(s.dev.supOf r.val).lastT, 1, min v mv.toNat, 1⟩ ∧ e.reg Reg.SAFE_CAUSE = s.dev.reg Reg.SAFE_CAUSE ∧
      (s.dev.quiet = true → MemSame s.dev e))) ∧
  (∀ (s : State) (r : Fin 8) (mv : BitVec 12) (v : Nat), (s.dev.supOf r.val).prev = some v → v < supMin.getD r.val 0 → mv.toNat < supMin.getD r.val 0 →
    supReset.getD r.val 0 ≤ v → s.dev.bit Reg.SUP_STATUS (16 + r.val) = false → s.dev.fld Reg.SAFE_STATUS 29 2 ≠ 3 →
    Completes (.supplySample r mv) s (fun e => e.bit Reg.SUP_STATUS (16 + r.val) = true ∧ e.bit (Reg.PG_EVT_RAW Page.SUP) (8 + r.val) = true ∧
      e.bit Reg.SAFE_CAUSE 4 = true ∧ e.fld Reg.SAFE_STATUS 29 2 = 1)) ∧
  (∀ (s : State) (r : Fin 8) (mv : BitVec 12) (v : Nat), (s.dev.supOf r.val).prev = some v → v < supReset.getD r.val 0 → mv.toNat < supReset.getD r.val 0 →
    (r.val = 7 → Completes (.supplySample r mv) s (fun e => e.regs = Device.reset.regs ∧ e.key.blown = s.dev.key.blown)) ∧
    (r.val ≠ 7 → s.dev.regionReset = false → Completes (.supplySample r mv) s (fun e => e.regionReset = true ∧ e.bit Reg.SAFE_CAUSE 0 = true))) ∧
  (∀ s : State, s.dev.regionReset = true → s.dev.fld Reg.SUP_STATUS 16 8 = 0 → s.dev.kawake = true →
    Completes .regionRebringup s (fun e => e.regionReset = false ∧ e.stage = 6 ∧ e.key.steps = 0 ∧ e.bit Reg.MEM_STATUS 0 = true ∧ MemSame s.dev e)) ∧
  (∀ (s : State) (i : Fin 32) (x : GuardVolts) (n code : Nat) (here : Bool × Bool) (last : List (Bool × Bool)), s.dev.bit (Reg.GRD_CFG i.val) 31 = true → code = guardCode x →
    here = (decide (code < s.dev.fld (Reg.GRD_THR i.val) 0 12 ∨ s.dev.fld (Reg.GRD_THR i.val) 16 12 < code),
      decide (s.dev.fld (Reg.GRD_THR i.val) 0 12 + s.dev.fld (Reg.GRD_HYST i.val) 0 8 ≤ code ∧
        code + s.dev.fld (Reg.GRD_HYST i.val) 0 8 ≤ s.dev.fld (Reg.GRD_THR i.val) 16 12)) →
    n = s.dev.fld (Reg.GRD_CFG i.val) 8 6 + 1 → last = (here :: (Tab.get (fun _ => GrdCtx.reset) s.dev.grd i.val).samples).take n → last.length = n →
    (s.dev.fld (Reg.GRD_STATE i.val) 30 2 ≠ 3 → s.dev.fld (Reg.GRD_CFG i.val) 0 6 + 1 ≤ last.countP (fun c => c.1) →
      Completes (.guardSample i x) s (fun e => e.fld (Reg.GRD_STATE i.val) 30 2 = 3 ∧ e.fld (Reg.GRD_STATE i.val) 0 12 = code ∧
        e.bit Reg.GRD_LATCH i.val = true ∧ e.bit (Reg.PG_EVT_RAW Page.GRD) i.val = true)) ∧
    (last.countP (fun c => c.1) < s.dev.fld (Reg.GRD_CFG i.val) 0 6 + 1 → s.dev.fld (Reg.GRD_CFG i.val) 0 6 + 1 ≤ last.countP (fun c => c.2) →
      Completes (.guardSample i x) s (fun e => e.fld (Reg.GRD_STATE i.val) 30 2 = 2 ∧ e.fld (Reg.GRD_STATE i.val) 0 12 = code ∧
        e.bit Reg.GRD_LATCH i.val = s.dev.bit Reg.GRD_LATCH i.val))) ∧
  (∀ (s : State) (i : Fin 32) (x : GuardVolts), s.dev.bit (Reg.GRD_CFG i.val) 31 = false →
    Completes (.guardSample i x) s (fun e => e.regs = s.dev.regs ∧ e.grd = s.dev.grd ∧ MemSame s.dev e)) ∧
  (∀ s : State, s.dev.fld Reg.GRD_LPER 0 24 ≠ 0 →
    Completes .guardLatchPeriod s (fun e => (∀ i < 32, e.bit Reg.GRD_LATCH i =
      (s.dev.bit Reg.GRD_LATCH i && !decide (s.dev.fld (Reg.GRD_CFG i) 27 2 = 2 ∧ s.dev.fld (Reg.GRD_STATE i) 30 2 = 2))) ∧ (s.dev.quiet = true → MemSame s.dev e))) ∧
  (∀ (s : State) (q : Requester) (v : Word), s.dev.admitsWrite q Reg.GRD_LATCH = true →
    Completes (.grdLatchClear q v) s (fun e => (∀ i < 32, e.bit Reg.GRD_LATCH i = (s.dev.bit Reg.GRD_LATCH i && (!v.bit i ||
      decide (s.dev.fld (Reg.GRD_STATE i) 30 2 = 1 ∨ s.dev.fld (Reg.GRD_STATE i) 30 2 = 3)))) ∧ OnlyRegs s.dev e)) ∧
  (∀ (s : State) (ts : List (BitVec 12)), okSensors ts = true →
    Completes (.sensorReading ts) s (fun e => (∀ j < 20, e.fld (Reg.SNS_T j) 0 12 = (ts.getD j 0).toNat) ∧
      ((∃ x ∈ ts, (440 : Int) < x.toInt) → e.bit Reg.SNS_STATUS 1 = true ∧
        (s.dev.bit Reg.SNS_STATUS 1 = false → e.bit (Reg.PG_EVT_RAW Page.SNS) 1 = true ∧ e.bit Reg.SAFE_CAUSE 5 = true)) ∧
      ((∀ x ∈ ts, x.toInt ≤ 440) → e.bit Reg.SNS_STATUS 1 = false)))

/-- R355–R358, R361: the safe state. A cause sets its bit and, from NORMAL, its number, the state SAFE and every pier's SAFE bit, with no stream left running; a write of 1 clears a
cause whose condition no longer holds; the two keys in order from one requester, with no cause left, begin the exit, a wrong key is a fault; the exit returns to NORMAL.
Readings of the model: log entries 31 and 65. -/
def Obligations.SafeState : Prop :=
  (∀ (s : State) (b : Fin 14), s.dev.fld Reg.SAFE_STATUS 29 2 = 0 → s.dev.role ≠ 5 → s.dev.calState ≠ 5 → s.dev.regN Reg.SAFE_ENTRIES < 2 ^ 32 - 1 →
    Completes (.safeEntry b) s (fun e => (∀ k < 14, k ≠ 3 → e.bit Reg.SAFE_CAUSE k = (s.dev.bit Reg.SAFE_CAUSE k || decide (k = b.val))) ∧
      ((∀ i < 16, s.dev.playing i = false) → e.reg Reg.SAFE_CAUSE = s.dev.reg Reg.SAFE_CAUSE ||| BitVec.ofNat 32 (2 ^ b.val)) ∧ e.fld Reg.SAFE_STATUS 29 2 = 1 ∧
      e.bit Reg.SAFE_STATUS 31 = true ∧ e.fld Reg.SAFE_STATUS 0 8 = b.val ∧ e.regN Reg.SAFE_ENTRIES = s.dev.regN Reg.SAFE_ENTRIES + 1 ∧
      e.bit (Reg.PG_EVT_RAW Page.SAFE) 0 = true ∧ (b.val ≠ 6 → b.val ≠ 12 → e.bit Reg.SAFE_STATUS 28 = true) ∧ (∀ p < 16, e.bit (Reg.PIER_STATUS p) 3 = true) ∧
      (∀ i < 16, e.halted i = true) ∧ e.trigout = [])) ∧
  (∀ (s : State) (b : Fin 14), b.val ≠ 6 → s.dev.fld Reg.SAFE_STATUS 29 2 ≠ 0 → s.dev.fld Reg.SAFE_STATUS 29 2 ≠ 3 → s.dev.calState ≠ 5 →
    Completes (.safeEntry b) s (fun e => e.reg Reg.SAFE_CAUSE = s.dev.reg Reg.SAFE_CAUSE ||| BitVec.ofNat 32 (2 ^ b.val) ∧ e.fld Reg.SAFE_STATUS 29 2 = 1 ∧
      e.reg Reg.SAFE_ENTRIES = s.dev.reg Reg.SAFE_ENTRIES ∧ e.bit (Reg.PG_EVT_RAW Page.SAFE) 0 = true)) ∧
  (∀ (s : State) (q : Requester), s.dev.admitsWrite q Reg.SAFE_CMD = true → Completes (.safeCmdEnter q) s (fun e => e.bit Reg.SAFE_CAUSE 13 = true ∧ e.bit Reg.SAFE_STATUS 28 = true)) ∧
  (∀ s : State, s.dev.normal = true → Completes .safeNExternalLow s (fun e => e.bit Reg.SAFE_CAUSE 6 = true ∧ e.bit (Reg.PG_EVT_RAW Page.SAFE) 0 = true)) ∧
  (∀ s : State, s.dev.normal = false → Completes .safeNExternalLow s (fun e => e.regs = s.dev.regs ∧ MemSame s.dev e)) ∧
  (∀ (s : State) (q : Requester) (v : Word), s.dev.admitsWrite q Reg.SAFE_CAUSE = true →
    Completes (.safeCauseClear q v) s (fun e => (∀ b < 14, e.bit Reg.SAFE_CAUSE b = (s.dev.bit Reg.SAFE_CAUSE b && (!v.bit b || s.dev.causeHolds b))) ∧
      e.fld Reg.SAFE_STATUS 29 2 = s.dev.fld Reg.SAFE_STATUS 29 2 ∧ RegsBut (fun a => a = Reg.SAFE_CAUSE ∨ a = Reg.SAFE_STREAMS) s.dev e ∧ OnlyRegs s.dev e)) ∧
  (∀ (s : State) (q : Requester), s.dev.admitsWrite q Reg.SAFE_KEY = true → s.dev.fld Reg.SAFE_STATUS 29 2 = 1 →
    (s.dev.keyReq = none → Completes (.safeKeyWrite q 0x45584954) s (fun e => e.bit Reg.SAFE_STATUS 27 = true ∧ e.keyReq = some (reqNo q, s.dev.ttime) ∧
      RegsBut (· = Reg.SAFE_STATUS) s.dev e ∧ MemSame s.dev e)) ∧
    (∀ v : Word, s.dev.keyReq = none → v ≠ 0x45584954 →
      Completes (.safeKeyWrite q v) s (fun e => e.reg (Reg.PG_FAULT_CODE Page.SAFE) = 2 ∧ e.keyReq = none ∧ e.fld Reg.SAFE_STATUS 29 2 = 1 ∧ OnlyRegs s.dev e)) ∧
    (∀ t : Nat, s.dev.keyReq = some (reqNo q, t) → s.dev.ttime ≤ t + 1000 * usTicks → s.dev.fld Reg.SAFE_CAUSE 0 14 = 0 →
      Completes (.safeKeyWrite q 0xBAA7B6AB) s (fun e => e.fld Reg.SAFE_STATUS 29 2 = 2 ∧ e.bit Reg.SAFE_STATUS 28 = false ∧ e.bit Reg.SAFE_STATUS 27 = false ∧
        e.keyReq = none ∧ RegsBut (· = Reg.SAFE_STATUS) s.dev e ∧ MemSame s.dev e)) ∧
    (∀ t : Nat, s.dev.keyReq = some (reqNo q, t) → s.dev.ttime ≤ t + 1000 * usTicks → s.dev.fld Reg.SAFE_CAUSE 0 14 ≠ 0 →
      Completes (.safeKeyWrite q 0xBAA7B6AB) s (fun e => e.fld Reg.SAFE_STATUS 29 2 = 1 ∧ e.reg (Reg.PG_FAULT_CODE Page.SAFE) = 3 ∧ e.keyReq = none ∧ MemSame s.dev e)) ∧
    (∀ (k : Nat × Nat) (v : Word), s.dev.keyReq = some k → k.1 ≠ reqNo q ∨ v ≠ 0xBAA7B6AB ∨ k.2 + 1000 * usTicks < s.dev.ttime →
      Completes (.safeKeyWrite q v) s (fun e => e.fld Reg.SAFE_STATUS 29 2 = 1 ∧ e.reg (Reg.PG_FAULT_CODE Page.SAFE) = 2 ∧ e.keyReq = none ∧ MemSame s.dev e))) ∧
  (∀ s : State, s.dev.fld Reg.SAFE_STATUS 29 2 = 2 → (s.dev.role = 0 ∨ s.dev.role = 2 ∨ s.dev.role = 3) →
    Completes .safeExit s (fun e => e.normal = true ∧ e.bit Reg.SAFE_STATUS 31 = false ∧ e.bit (Reg.PG_EVT_RAW Page.SAFE) 2 = true ∧
      (∀ p < 16, e.bit (Reg.PIER_STATUS p) 3 = false ∧ e.bit (Reg.PIER_STATUS p) 2 = true) ∧ MemSame s.dev e)) ∧
  (∀ s : State, s.dev.fld Reg.SAFE_STATUS 29 2 ≠ 2 → Completes .safeExit s (fun e => e.regs = s.dev.regs ∧ MemSame s.dev e))

/-! ## Keystone (R363–R389, R433, R442, R443) -/

/-- R364–R369, R373, R385, R386, R433: reset, bring-up and restarts. Reset keeps what does not depend on power; the ROM latches the straps and takes the image of the boot-select record,
or falls back to the link, or stops; the firmware starts in slot 0; its steps are counted, and the last one starts the device in READY; a warm restart counts with its reason, and the
firmware starts in a slot that is still whole; a confirmation that does not come falls back.
Readings of the model: log entries 72, 74, 126 and 137. -/
def Obligations.BringUp : Prop :=
  (∀ s : State, Completes .resetAssert s (fun e => e.regs = Device.reset.regs ∧ e.str = [] ∧ e.log = s.dev.log ∧ e.key.blown = s.dev.key.blown ∧ e.ttime = 0 ∧
    e.cal.rec0 = s.dev.cal.rec0 ∧ e.cal.rec1 = s.dev.cal.rec1 ∧ e.tap = s.dev.tap ∧ ∀ a, memByte e.mem a = memByte Device.reset.mem a)) ∧
  (∀ (s : State) (b : BitVec 6) (m t : Bool), s.dev.stage = 1 →
    Completes (.bringupStart b m t true true) s (fun e => e.stage = 4 ∧ e.regN Reg.CHIP_STRAP = b.toNat + (if m then 64 else 0) + (if t then 128 else 0) ∧
      e.isMaster = m ∧ e.bit Reg.TWN_CTRL 0 = t ∧ e.bit Reg.TWN_STATUS 8 = b.getLsbD 0 ∧ e.reg Reg.FUSE_CFG0 = s.dev.fuse 80 ∧ e.reg Reg.FUSE_PLOCK = s.dev.fuse 81 ∧ MemSame s.dev e)) ∧
  (∀ (s : State) (b : BitVec 6) (m t key : Bool), s.dev.stage = 1 →
    Completes (.bringupStart b m t false key) s (fun e => e.stage = 4 ∧ e.bit (Reg.PG_EVT_RAW Page.FUSE) 0 = true ∧ e.bit Reg.SAFE_CAUSE 9 = true)) ∧
  (∀ (s : State) (board a b : List Word) (d : Device), s.dev.stage = 4 → s.dev.key.slot0 = none → s.dev.railsIn = true →
    d = s.dev.modKey (fun k => { k with board := board, imgA := a, imgB := b }) →
    Completes (.romImageLoaded true board a b) s (fun e => e.key.slot0 = d.bootChoice ∧ e.key.board = board ∧ e.key.imgA = a ∧ e.key.imgB = b ∧ MemSame s.dev e ∧
      e.stage = (if d.bootChoice.isSome then 4 else if s.dev.bit Reg.FUSE_CFG0 4 then 0x0E else 5) ∧
      e.fld Reg.MGMT_STATUS 16 2 = (match d.bootChoice with | some x => x.image % 4 | none => if s.dev.bit Reg.FUSE_CFG0 4 then 3 else 2))) ∧
  (∀ (s : State) (b : Bundle) (h0 h1 : SlotHash), s.dev.kawake = false → s.dev.key.target = none → s.dev.key.slot0 = some b → (s.dev.stage = 4 ∨ s.dev.stage = 5) →
    Completes (.firmwareStart h0 h1) s (fun e => e.stage = 6 ∧ e.kawake = true ∧ e.kslot = 0 ∧ e.regN Reg.MGMT_FWSVN = b.svn ∧ e.bit Reg.MEM_STATUS 0 = true ∧
      e.key.steps = 0 ∧ MemSame s.dev e)) ∧
  (∀ (s : State) (b : Bundle) (h0 h1 : SlotHash), h0 ≠ .other → s.dev.kawake = false → s.dev.key.target = some 0 → s.dev.key.slot0 = some b → s.dev.key.posts = [] →
    Completes (.firmwareStart h0 h1) s (fun e => e.kawake = true ∧ e.kslot = 0 ∧ e.key.target = none ∧ e.regN Reg.MGMT_FWSVN = b.svn ∧ e.stage = s.dev.stage ∧
      MemSame s.dev e)) ∧
  (∀ s : State, s.dev.stage = 6 → s.dev.kawake = true → natBit s.dev.key.steps 1 = false → s.dev.regionReset = false → s.dev.running ≠ none → s.dev.bit Reg.MEM_STATUS 0 = false →
    Completes (.bringupStepDone 1) s (fun e => natBit e.key.steps 1 = true ∧ e.stage = 6 ∧ e.regs = s.dev.regs ∧ MemSame s.dev e)) ∧
  (∀ s : State, s.dev.stage = 6 → s.dev.kawake = true → s.dev.key.steps = 31 → s.dev.cal.required = false → s.dev.regionReset = false → s.dev.pwr.held = none →
    (∀ b, s.dev.running = some b → b.settings = []) → s.dev.regN Reg.FUSE_PLOCK % 256 = 0 →
    Completes .bringupComplete s (fun e => e.stage = 7 ∧ e.pwrState = 0 ∧ e.ttime = 0 ∧ e.fld Reg.PWR_AWAKE_P 0 16 = 0xFFFF - s.dev.fld Reg.PWR_PGATE 0 16)) ∧
  (∀ (s : State) (q : Requester), s.dev.admitsWrite q Reg.MGMT_CMD = true → s.dev.kawake = true → 4 ≤ s.dev.stage → s.dev.key.posts = [] →
    Completes (.mgmtKrestart q) s (fun e => e.kawake = false ∧ e.fld Reg.MGMT_RESTARTS 0 8 = 1 ∧ e.key.target = some s.dev.kslot ∧
      e.bit (Reg.PG_EVT_RAW Page.MGMT) 2 = true ∧ MemSame s.dev e)) ∧
  (∀ s : State, s.dev.kawake = true → 4 ≤ s.dev.stage → s.dev.key.posts = [] →
    Completes .keystoneSramUe s (fun e => (s.dev.logRoom = true → ∃ x ∈ e.log, x.code = 0x0061) ∧ e.kawake = false ∧ e.fld Reg.MGMT_RESTARTS 0 8 = 5 ∧ e.key.target = some s.dev.kslot ∧ MemSame s.dev e) ∧
    Completes .firmwareRestartRequest s (fun e => e.kawake = false ∧ e.fld Reg.MGMT_RESTARTS 0 8 = 6 ∧ e.key.target = some s.dev.kslot ∧ MemSame s.dev e) ∧
    (s.dev.confPend = false →
      Completes .keystoneWdogExpiry s (fun e => e.kawake = false ∧ e.fld Reg.MGMT_RESTARTS 0 8 = 2 ∧ e.key.target = some s.dev.kslot ∧ MemSame s.dev e)) ∧
    (∀ t old, s.dev.key.confirm = some (t, old) → s.dev.confPend = true →
      Completes .fwConfirmTimeout s (fun e => e.kawake = false ∧ e.confPend = false ∧ e.fld Reg.MGMT_RESTARTS 0 8 = 4 ∧ e.key.target = some old ∧
        e.bit (Reg.PG_EVT_RAW Page.MGMT) 1 = true ∧ (s.dev.quiet = true → MemSame s.dev e))))

/-- R376, R377, R387–R389, R442, R443: the mailboxes and the test port. A POST makes a mailbox busy and queues its request, a POST while busy is a fault on the host; an ABORT takes the
request back; SETPTR, WRITE and READ move the pointer; a boundary instruction selects its register and enters the safe state with cause SW; FCLR clears a fault that may be cleared.
Readings of the model: log entries 68 and 76. -/
def Obligations.KeystonePorts : Prop :=
  (∀ (s : State) (q : Requester), s.dev.admitsWrite q Reg.MGMT_MBCMD = true →
    (s.dev.mbState 0 ≠ 1 → s.dev.mbServed = false → Completes (.mbPost q) s (fun e => e.mbState 0 = 1 ∧ e.key.posts = s.dev.key.posts ++ [0] ∧
      RegsBut (· = Reg.MGMT_MBSTAT) s.dev e ∧ MemSame s.dev e)) ∧
    (s.dev.mbState 0 ≠ 1 → s.dev.mbServed = true → s.dev.key.posts = [] → s.dev.key.updating = none → s.dev.mbRefusal 0 = none →
      Completes (.mbPost q) s (fun e => e.mbState 0 = 1 ∧ e.key.posts = [0] ∧ RegsBut (· = Reg.MGMT_MBSTAT) s.dev e ∧ MemSame s.dev e)) ∧
    (∀ st, s.dev.mbState 0 ≠ 1 → s.dev.mbServed = true → s.dev.key.posts = [] → s.dev.key.updating = none → s.dev.mbRefusal 0 = some st →
      Completes (.mbPost q) s (fun e => Answered s.dev e 0 st [] ∧ e.bit (Reg.PG_EVT_RAW Page.MGMT) 0 = true ∧ MemSame s.dev e)) ∧
    (s.dev.mbState 0 = 1 → Completes (.mbPost q) s (fun e => e.key = s.dev.key ∧ e.reg (Reg.PG_FAULT_CODE Page.MGMT) = 1 ∧ OnlyRegs s.dev e)) ∧
    (s.dev.key.posts = [0] → Completes (.mbAbort q) s (fun e => e.mbState 0 = 0 ∧ e.key.posts = [] ∧ RegsBut (· = Reg.MGMT_MBSTAT) s.dev e ∧ MemSame s.dev e))) ∧
  (∀ s : State, s.dev.tap.ir = 0x10 →
    (∀ p : BitVec 9, Completes (.jtagMboxSetptr p) s (fun e => e.key = { s.dev.key with jtag := { s.dev.key.jtag with ptr := p.toNat } } ∧ e.regs = s.dev.regs ∧
      e.tap = { s.dev.tap with dr := (Tab.get (fun _ => (0 : Word)) s.dev.key.jtag.buf p.toNat).toNat + s.dev.key.jtag.st * 2 ^ 32 } ∧ MemSame s.dev e)) ∧
    (∀ v : Word, s.dev.key.jtag.ptr < 256 → Completes (.jtagMboxWrite v) s (fun e => e.key.jtag.ptr = s.dev.key.jtag.ptr + 1 ∧
      Tab.get (fun _ => (0 : Word)) e.key.jtag.buf s.dev.key.jtag.ptr = v ∧ e.regs = s.dev.regs ∧ MemSame s.dev e)) ∧
    Completes .jtagMboxRead s (fun e => e.key.jtag = { s.dev.key.jtag with ptr := (s.dev.key.jtag.ptr + 1) % 512 } ∧ e.regs = s.dev.regs ∧ MemSame s.dev e ∧
      e.out = [.reply 1 [Tab.get (fun _ => (0 : Word)) s.dev.key.jtag.buf (s.dev.key.jtag.ptr % 512), BitVec.ofNat 32 s.dev.key.jtag.st]]) ∧
    (s.dev.key.jtag.st ≠ 1 → s.dev.mbServed = false ∨ s.dev.key.posts = [] ∧ s.dev.key.updating = none ∧ s.dev.mbRefusal 1 = none →
      Completes .jtagMboxPost s (fun e => e.key.jtag.st = 1 ∧ e.key.posts = s.dev.key.posts ++ [1] ∧ e.regs = s.dev.regs ∧ MemSame s.dev e)) ∧
    (s.dev.key.jtag.st = 1 → Completes .jtagMboxPost s (fun e => e.key = s.dev.key ∧ e.regs = s.dev.regs ∧ MemSame s.dev e))) ∧
  (∀ s : State,
    (∀ p : BitVec 9, Completes (.bpSetptr p) s (fun e => e.key = { s.dev.key with bport := { s.dev.key.bport with ptr := p.toNat } } ∧ e.regs = s.dev.regs ∧
      MemSame s.dev e)) ∧
    (∀ v : Word, s.dev.key.bport.ptr < 256 → Completes (.bpWrite [v]) s (fun e => e.key.bport.ptr = s.dev.key.bport.ptr + 1 ∧
      Tab.get (fun _ => (0 : Word)) e.key.bport.buf s.dev.key.bport.ptr = v ∧ e.regs = s.dev.regs ∧ MemSame s.dev e)) ∧
    (∀ v : Word, 256 ≤ s.dev.key.bport.ptr → Completes (.bpWrite [v]) s (fun e => e.key = s.dev.key ∧ e.regs = s.dev.regs ∧ MemSame s.dev e)) ∧
    (s.dev.key.bport.st ≠ 1 → s.dev.mbServed = false ∨ s.dev.key.posts = [] ∧ s.dev.key.updating = none ∧ s.dev.mbRefusal 2 = none →
      Completes .bpPost s (fun e => e.key.bport.st = 1 ∧ e.key.posts = s.dev.key.posts ++ [2] ∧ e.regs = s.dev.regs ∧ MemSame s.dev e)) ∧
    (s.dev.key.bport.st = 1 → Completes .bpPost s (fun e => e.key = s.dev.key ∧ e.regs = s.dev.regs ∧ MemSame s.dev e)) ∧
    Completes .bpStatus s (fun e => e.out = [.bytes 2 [s.dev.key.bport.st]] ∧ e.key = s.dev.key ∧ e.regs = s.dev.regs ∧ MemSame s.dev e) ∧
    (∀ n : Nat, Completes (.bpRead n) s (fun e => e.key.bport = { s.dev.key.bport with ptr := (s.dev.key.bport.ptr + n) % 512 } ∧ e.regs = s.dev.regs ∧
      (∃ bs : List Nat, bs.length = 4 * n ∧ e.out = [.bytes 2 bs]) ∧ MemSame s.dev e))) ∧
  (∀ s : State,
    Completes .extest s (fun e => e.tap = ⟨0, s.dev.tap.bsr, s.dev.tap.bsr, true⟩ ∧ e.bit Reg.SAFE_CAUSE 13 = true ∧ e.normal = false) ∧
    Completes .extestPulse s (fun e => e.tap = ⟨5, s.dev.tap.bsr, s.dev.tap.bsr, true⟩ ∧ e.bit Reg.SAFE_CAUSE 13 = true ∧ e.normal = false) ∧
    Completes .extestTrain s (fun e => e.tap = ⟨6, s.dev.tap.bsr, s.dev.tap.bsr, true⟩ ∧ e.bit Reg.SAFE_CAUSE 13 = true ∧ e.normal = false) ∧
    Completes .clamp s (fun e => e.tap = ⟨3, s.dev.tap.bsr, 0, true⟩ ∧ e.bit Reg.SAFE_CAUSE 13 = true ∧ e.normal = false) ∧
    Completes .highz s (fun e => e.tap = ⟨4, s.dev.tap.bsr, 0, true⟩ ∧ e.bit Reg.SAFE_CAUSE 13 = true ∧ e.normal = false) ∧
    Completes .idcode s (fun e => e.tap = ⟨2, s.dev.tap.bsr, 0x1F2569CB, false⟩ ∧ e.regs = s.dev.regs ∧ BallsAfter s.dev e ∧ MemSame s.dev e) ∧
    Completes .mbox s (fun e => e.tap = ⟨0x10, s.dev.tap.bsr, s.dev.tapDr 0x10, false⟩ ∧ e.regs = s.dev.regs ∧ BallsAfter s.dev e ∧ MemSame s.dev e) ∧
    (∀ x : BitVec 8, listedIr x.toNat = false → (x = 0xFF ∨ s.dev.bit Reg.FUSE_CFG0 3 = false) →
      Completes (.bypass x) s (fun e => e.tap = ⟨0xFF, s.dev.tap.bsr, 0, false⟩ ∧ e.regs = s.dev.regs ∧ BallsAfter s.dev e ∧ MemSame s.dev e))) ∧
  (∀ (s : State) (x : BitVec 8), listedIr x.toNat = false → x ≠ 0xFF → s.dev.bit Reg.FUSE_CFG0 3 = true →
    Completes (.bypass x) s (fun e => e.tap.ir = 0xFF ∧ e.bit Reg.SAFE_CAUSE 9 = true ∧
      e.fld (Reg.PG_FAULT_CODE Page.FUSE) 0 8 = (if s.dev.secHeld then s.dev.fld (Reg.PG_FAULT_CODE Page.FUSE) 0 8 else 2))) ∧
  (∀ s : State, Completes (.samplePreload none) s (fun e => e.tap.ir = 1 ∧ e.tap.bsr = e.tap.dr ∧ e.regs = s.dev.regs ∧ BallsAfter s.dev e ∧ MemSame s.dev e)) ∧
  (∀ (s : State) (v : Nat), Completes (.samplePreload (some v)) s (fun e => e.tap = ⟨1, v, v, false⟩ ∧ e.regs = s.dev.regs ∧ BallsAfter s.dev e ∧ MemSame s.dev e)) ∧
  (∀ (s : State) (q : Requester), s.dev.admitsWrite q Reg.FUSE_CMD = true →
    ((s.dev.fld (Reg.PG_FAULT_CODE Page.FUSE) 0 8 = 2 ∨ s.dev.fld (Reg.PG_FAULT_CODE Page.FUSE) 0 8 = 3) →
      Completes (.fuseFclr q) s (fun e => e.reg (Reg.PG_FAULT_CODE Page.FUSE) = 0 ∧ e.bit (Reg.PG_STATUS Page.FUSE) 2 = false ∧ OnlyRegs s.dev e)) ∧
    ((s.dev.fld (Reg.PG_FAULT_CODE Page.FUSE) 0 8 = 1 ∨ s.dev.fld (Reg.PG_FAULT_CODE Page.FUSE) 0 8 = 4) →
      Completes (.fuseFclr q) s (fun e => e.reg (Reg.PG_FAULT_CODE Page.FUSE) = s.dev.reg (Reg.PG_FAULT_CODE Page.FUSE) ∧ OnlyRegs s.dev e)))

/-- R368, R373, R375, R377–R379, R385–R387: requests that are carried out. Each is answered once with its STATUS and payload, and the mailbox is DONE; KRESTART restarts Keystone after
its answer; UPDATE_STAGE is answered when the image has been programmed.
Readings of the model: log entries 69, 70, 122 and 138. -/
def Obligations.KeystoneRequests : Prop :=
  ∀ (s : State) (o : Nat), o ≤ 2 →
    (s.dev.carries o 0x01 = true → Completes .getInfo s (fun e => Answered s.dev e o 0 [s.dev.reg Reg.FUSE_DEVID_LO, s.dev.reg Reg.FUSE_DEVID_HI,
      BitVec.ofNat 32 s.dev.stage, BitVec.ofNat 32 (s.dev.fld Reg.MGMT_STATUS 16 2), s.dev.reg Reg.MGMT_FWSVN, s.dev.reg Reg.FUSE_ARB] ∧ MemSame s.dev e)) ∧
    (s.dev.carries o 0x02 = true → Completes .logRead s (fun e => Answered s.dev e o 0
      (((s.dev.log.filter (fun x => decide (s.dev.reqWord o 4 ≤ x.lseq))).take 15).flatMap (·.words)) ∧ e.log = s.dev.log ∧ MemSame s.dev e)) ∧
    (s.dev.carries o 0x03 = true → Completes .sensors s (fun e => Answered s.dev e o 0
      ((List.range 20).map (fun j => s.dev.reg (Reg.SNS_T j)) ++ (List.range 8).map (fun r => s.dev.reg (Reg.SUP_NOW r))) ∧ MemSame s.dev e)) ∧
    (s.dev.carries o 0x04 = true → s.dev.fld (Reg.PG_FAULT_CODE Page.FUSE) 0 8 = 1 ∨ s.dev.fld (Reg.PG_FAULT_CODE Page.FUSE) 0 8 = 4 →
      Completes .attest s (fun e => Answered s.dev e o 2 [] ∧ MemSame s.dev e)) ∧
    (s.dev.carries o 0x04 = true → s.dev.fld (Reg.PG_FAULT_CODE Page.FUSE) 0 8 ≠ 1 → s.dev.fld (Reg.PG_FAULT_CODE Page.FUSE) 0 8 ≠ 4 →
      Completes .attest s (fun e => Answered s.dev e o 0 (s.dev.attest o).2 ∧ e.rspWord o 4 = 0x52545441 ∧ e.rspWord o 6 = s.dev.reg Reg.FUSE_DEVID_LO ∧ MemSame s.dev e)) ∧
    (s.dev.carries o 0x05 = true → Completes .getCert s (fun e => Answered s.dev e o 0 certificate ∧ MemSame s.dev e)) ∧
    (∀ b, s.dev.carries o 0x12 = true → s.dev.running = some b → Completes .fwConfirm s (fun e => Answered s.dev e o 0 [] ∧ e.confPend = false ∧ e.key.confirm = none ∧
      e.bootSel = decide (b.image = 1) ∧ MemSame s.dev e)) ∧
    (s.dev.carries o 0x20 = true → s.dev.fuseRefused (s.dev.reqWord o 4) (BitVec.ofNat 32 (s.dev.reqWord o 5)) = true →
      ∀ stuck, Completes (.fuseProgram stuck) s (fun e => Answered s.dev e o 2 [] ∧ e.key.blown = s.dev.key.blown ∧ MemSame s.dev e)) ∧
    (s.dev.carries o 0x20 = true → s.dev.fuseRefused (s.dev.reqWord o 4) (BitVec.ofNat 32 (s.dev.reqWord o 5)) = false →
      Completes (.fuseProgram 0) s (fun e => Answered s.dev e o 0 [] ∧
        e.fuse (s.dev.reqWord o 4) = s.dev.fuse (s.dev.reqWord o 4) ||| BitVec.ofNat 32 (s.dev.reqWord o 5) ∧ MemSame s.dev e)) ∧
    (s.dev.carries o 0x13 = true → Completes (.arbCommit 0) s (fun e => Answered s.dev e o 0 [] ∧
      (∀ k < 8, e.fuse (64 + k) = s.dev.fuse (64 + k) ||| BitVec.ofNat 32 (2 ^ min 32 (min (s.dev.regN Reg.MGMT_FWSVN) 256 - 32 * k) - 1)) ∧ MemSame s.dev e)) ∧
    (s.dev.carries o 0x13 = true → (∀ k < 8, BitVec.ofNat 32 (2 ^ min 32 (min (s.dev.regN Reg.MGMT_FWSVN) 256 - 32 * k) - 1) &&& ~~~s.dev.fuse (64 + k) = 0) →
      ∀ stuck, Completes (.arbCommit stuck) s (fun e => Answered s.dev e o 0 [] ∧ e.key.blown = s.dev.key.blown ∧ MemSame s.dev e)) ∧
    (s.dev.carries o 0x21 = true → s.dev.kawake = true → 4 ≤ s.dev.stage → Completes .krestart s (fun e => Answered s.dev e o 0 [] ∧ e.kawake = false ∧ e.fld Reg.MGMT_RESTARTS 0 8 = 1 ∧
      e.key.target = some s.dev.kslot ∧ MemSame s.dev e)) ∧
    (s.dev.carries o 0x30 = true → s.dev.reqWord o 4 ≠ s.dev.key.link.length →
      Completes .bootLoad s (fun e => Answered s.dev e o 5 [] ∧ e.key.link = [] ∧ e.key.slot0 = none ∧ MemSame s.dev e)) ∧
    (s.dev.carries o 0x30 = true → s.dev.reqWord o 4 = s.dev.key.link.length → s.dev.key.link.length + (s.dev.reqWord o 1 - 4) < 20 →
      Completes .bootLoad s (fun e => Answered s.dev e o 0 [] ∧ e.key.link = s.dev.key.link ++ s.dev.bootBytes o ∧ e.key.slot0 = s.dev.key.slot0 ∧
        MemSame s.dev e)) ∧
    (s.dev.carries o 0x10 = true → Completes .updateStage s (fun e => e.key.slot0 = s.dev.key.slot0 ∧ MemSame s.dev e ∧
      match (s.dev.updateStage o).2 with
      | none => e.key.updating.isSome = true ∧ e.key.staged = false ∧ e.key.posts = [o] ∧ e.regs = s.dev.regs
      | some r => Answered s.dev e o r.1 [] ∧ e.key.updating = none)) ∧
    (s.dev.carries o 0x10 = true → s.dev.memThere (s.dev.reqWord o 4 + s.dev.reqWord o 5 * 2 ^ 32) (s.dev.reqWord o 6) = false →
      Completes .updateStage s (fun e => Answered s.dev e o 5 [] ∧ e.key.updating = none ∧ MemSame s.dev e)) ∧
    (∀ ws, s.dev.key.updating = some ws → s.dev.key.posts = [0] → s.dev.reqWord 0 0 % 65536 = 0x10 →
      Completes (.updateStageDone true) s (fun e => Answered s.dev e 0 0 [] ∧ e.key.staged = true ∧ e.key.updating = none ∧ e.idleBundle.words = ws ∧ MemSame s.dev e) ∧
      Completes (.updateStageDone false) s (fun e => Answered s.dev e 0 7 [] ∧ e.key.staged = false ∧ e.key.updating = none ∧ e.idleBundle.words = [] ∧ MemSame s.dev e)) ∧
    (s.dev.carries o 0x11 = true → 3600 < s.dev.reqWord o 4 → Completes .fwSwitch s (fun e => Answered s.dev e o 2 [] ∧ e.kawake = s.dev.kawake ∧ MemSame s.dev e)) ∧
    (∀ b, s.dev.carries o 0x11 = true → s.dev.kawake = true → 4 ≤ s.dev.stage → s.dev.reqWord o 4 ≤ 3600 → s.dev.lstate = 0 → b = s.dev.idleBundle →
      Completes .fwSwitch s (fun e =>
        if s.dev.key.staged = true ∧ s.dev.bundleCheckAll b = none ∧ s.dev.vendOk b.vend = true then
          Answered s.dev e o 0 [] ∧ e.kawake = false ∧ e.confPend = true ∧ e.fld Reg.MGMT_RESTARTS 0 8 = 3 ∧ e.key.target = some (1 - s.dev.kslot) ∧
            e.slotOf (1 - s.dev.kslot) = some b
        else Answered s.dev e o 5 [] ∧ e.kawake = s.dev.kawake ∧ e.key.slot0 = s.dev.key.slot0 ∧ e.key.slot1 = s.dev.key.slot1 ∧ MemSame s.dev e))

/-! ## Twin pairs (R396–R407) -/

/-- R396, R397, R402, R404, R405, R407: roles of a pair. HELLO settles the roles: one device becomes SYNCING with cause TWIN, the other ACTIVE; a synced standby with AUTO takes over on
FAIL and on the heartbeat timeout, with TWIN_ACT_N low; at the end of SETTLE the cause is cleared; a swap is asked for on the active device and starts with every stream halted; the hash
check is started by the active device and ends with a comparison.
Readings of the model: log entries 80, 81, 121 and 140. -/
def Obligations.TwinRoles : Prop :=
  (∀ (s : State) (j : BitVec 32) (role : BitVec 3) (side pref syn : Bool), okRole role = true → s.dev.twinHears = true → s.dev.twin.hello = true → s.dev.role = 1 →
    s.dev.winsRole role.toNat pref = false →
    Completes (.twinHello j role side pref syn) s (fun e => e.role = 2 ∧ e.bit Reg.SAFE_CAUSE 12 = true ∧ e.bit Reg.TWN_STATUS 10 = true ∧ e.twin.hello = false)) ∧
  (∀ (s : State) (j : BitVec 32) (role : BitVec 3) (side pref syn : Bool), okRole role = true → s.dev.twinHears = true → s.dev.twin.hello = true → s.dev.role = 1 →
    s.dev.winsRole role.toNat pref = true →
    Completes (.twinHello j role side pref syn) s (fun e => e.role = 5 ∧ e.bit Reg.TWN_STATUS 10 = false ∧ e.twin.journal = [] ∧ e.twin.hello = false ∧
      e.reg Reg.SAFE_CAUSE = s.dev.reg Reg.SAFE_CAUSE ∧ MemSame s.dev e)) ∧
  (∀ (s : State) (j : BitVec 32) (side pref syn : Bool), s.dev.twinHears = true → s.dev.twin.hello = false → s.dev.role = 5 →
    Completes (.twinHello j 3 side pref syn) s (fun e => e.bit Reg.TWN_STATUS 11 = syn ∧ e.role = 5 ∧ e.reg Reg.TWN_JACK = j ∧ MemSame s.dev e)) ∧
  (∀ (s : State) (j : BitVec 32), s.dev.twinHears = true → s.dev.canTakeover = true →
    Completes (.twinFail j) s (fun e => e.role = 4 ∧ e.bit Reg.TWN_STATUS 10 = false ∧ e.bit (Reg.PG_EVT_RAW Page.TWN) 0 = true ∧
      e.twin.settle = some (s.dev.ttime + max 1 (s.dev.fld Reg.TWN_TIMING 16 16) * 100 * nsTicks) ∧ MemSame s.dev e)) ∧
  (∀ (s : State) (j : BitVec 32), s.dev.twinHears = true → s.dev.role ≠ 0 → s.dev.role ≠ 5 → s.dev.canTakeover = false →
    Completes (.twinFail j) s (fun e => e.regs = s.dev.regs ∧ e.twin = { s.dev.twin with lastRx := s.dev.ttime } ∧ MemSame s.dev e)) ∧
  (∀ s : State, s.dev.canTakeover = true →
    Completes .twinHbTimeout s (fun e => e.role = 4 ∧ e.bit Reg.TWN_STATUS 10 = false ∧ e.bit (Reg.PG_EVT_RAW Page.TWN) 2 = true ∧ e.twin.settle.isSome = true ∧
      (s.dev.quiet = true → MemSame s.dev e))) ∧
  (∀ s : State, s.dev.canTakeover = false → Completes .twinHbTimeout s (fun e => e.regs = s.dev.regs ∧ e.twin = s.dev.twin ∧ MemSame s.dev e)) ∧
  (∀ (s : State) (t : Nat), s.dev.twin.settle = some t → s.dev.twin.waiting = [] → s.dev.fld Reg.SAFE_CAUSE 0 14 = 2 ^ 12 →
    Completes .twinSettleDone s (fun e => e.fld Reg.SAFE_CAUSE 0 14 = 0 ∧ e.fld Reg.SAFE_STATUS 29 2 = 2 ∧ e.bit Reg.SAFE_STATUS 28 = false ∧ e.role = s.dev.role ∧
      e.twin.settle = none ∧ (s.dev.quiet = true → MemSame s.dev e))) ∧
  (∀ (s : State) (t : Nat), s.dev.twin.settle = some t → s.dev.twin.waiting = [] → s.dev.fld Reg.SAFE_CAUSE 0 12 ≠ 0 → s.dev.twinLive = false → s.dev.normal = false →
    Completes .twinSettleDone s (fun e => e.role = 1 ∧ e.bit Reg.SAFE_CAUSE 12 = false ∧ e.twin.settle = none ∧ (s.dev.quiet = true → MemSame s.dev e))) ∧
  (∀ (s : State) (q : Requester), s.dev.admitsWrite q Reg.TWN_CMD = true →
    (s.dev.role = 5 → s.dev.bit Reg.TWN_STATUS 11 = true → Completes (.twnSwap q) s (fun e => e.twin = { s.dev.twin with swapReq := true } ∧ e.regs = s.dev.regs ∧ MemSame s.dev e)) ∧
    (s.dev.role ≠ 5 ∨ s.dev.bit Reg.TWN_STATUS 11 = false →
      Completes (.twnSwap q) s (fun e => e.twin = s.dev.twin ∧ e.reg (Reg.PG_FAULT_CODE Page.TWN) = 1 ∧ OnlyRegs s.dev e)) ∧
    (s.dev.role = 5 → Completes (.twnHashchk q) s (fun e => e.bit Reg.TWN_HSTAT 29 = true ∧ e.bit Reg.TWN_HSTAT 30 = false ∧ e.bit Reg.TWN_HSTAT 31 = false ∧
      e.twin.own.isSome = true ∧ e.twin.other = none ∧ (s.dev.vioIn = true → e.out.length = 2) ∧ MemSame s.dev e ∧
      (s.dev.hashClean = true → RegsBut (· = Reg.TWN_HSTAT) s.dev e ∧
        e.twin.own = some (s.dev.twinDigest (s.dev.hashSpans.map (fun i => (i, s.dev.spanDigest i))))))) ∧
    (s.dev.role ≠ 5 → Completes (.twnHashchk q) s (fun e => e.reg (Reg.PG_FAULT_CODE Page.TWN) = 1 ∧ OnlyRegs s.dev e))) ∧
  (∀ s : State, s.dev.twin.swapReq = true → s.dev.twin.waiting = [] → s.dev.role = 5 → (∀ i < 16, s.dev.halted i = true) →
    Completes .twinSwapStart s (fun e => e.role = 3 ∧ e.bit Reg.TWN_STATUS 10 = true ∧ e.bit Reg.TWN_STATUS 11 = false ∧ e.twin.swapReq = false ∧ e.twin.pend = [] ∧
      e.bit Reg.SAFE_CAUSE 12 = true ∧
      (s.dev.vioIn = true → ∃ l, e.out = .twin (twinWords ⟨6, 0, s.dev.regN Reg.TWN_JSEQ, 0⟩) :: l))) ∧
  (∀ (s : State) (j : BitVec 32), s.dev.twinHears = true → s.dev.role = 3 →
    Completes (.twinSwapFrame j) s (fun e => e.role = 4 ∧ e.twin.pend = [] ∧ e.twin.swapped = true ∧ e.bit Reg.TWN_STATUS 10 = false ∧ MemSame s.dev e)) ∧
  (∀ (s : State) (a : Nat), s.dev.bit Reg.TWN_HSTAT 29 = true → s.dev.twin.own = some a → s.dev.twin.other = some a →
    Completes .twinHashDone s (fun e => e.bit Reg.TWN_HSTAT 29 = false ∧ e.bit Reg.TWN_HSTAT 31 = true ∧ e.bit Reg.TWN_HSTAT 30 = true ∧ e.bit Reg.TWN_HSTAT 28 = true ∧
      e.bit (Reg.PG_EVT_RAW Page.TWN) 3 = true ∧ RegsBut (fun x => x = Reg.TWN_HSTAT ∨ x = Reg.PG_EVT_RAW Page.TWN) s.dev e ∧ MemSame s.dev e)) ∧
  (∀ (s : State) (a b : Nat), s.dev.bit Reg.TWN_HSTAT 29 = true → s.dev.twin.own = some a → s.dev.twin.other = some b → a ≠ b →
    Completes .twinHashDone s (fun e => e.bit Reg.TWN_HSTAT 29 = false ∧ e.bit Reg.TWN_HSTAT 31 = true ∧ e.bit Reg.TWN_HSTAT 28 = false ∧
      e.bit Reg.TWN_HSTAT 30 = s.dev.bit Reg.TWN_HSTAT 30 ∧ e.bit (Reg.PG_EVT_RAW Page.TWN) 3 = true ∧ MemSame s.dev e))

/-- R394, R398–R402, R404: frames and the journal. A host write to a mirrored register takes the next JSEQ and leaves as a WRITE frame on the active device, and is turned away on a
standby; a standby applies WRITE frames in JSEQ order, records launches as pending, and loads SNAP frames; a checkpoint clears the pending launch of its burst; an HB acknowledges
what it names; a frame of a bad CRC is discarded; an HB leaves after 1 µs; halves of digests are kept and joined.
Readings of the model: log entries 79, 82, 84, 121 and 141. -/
def Obligations.TwinFrames : Prop :=
  (∀ (s : State) (i : Fin 16) (v : Word) (j : Nat), s.dev.role = 5 → s.dev.hostWaits = false → s.dev.admitsRead .host (Reg.STR_FLAGS i.val) = true → s.dev.reg (Reg.PG_LOCK (Page.STR i.val)) = 0 →
    (s.dev.strOf i.val).eng = .running → j = (s.dev.regN Reg.TWN_JSEQ + 1) % 2 ^ 32 →
    Completes (.strFlagsSet .host i v) s (fun e => e.reg (Reg.STR_FLAGS i.val) = s.dev.reg (Reg.STR_FLAGS i.val) ||| v ∧ e.regN Reg.TWN_JSEQ = j ∧
      e.twin.journal = s.dev.twin.journal ++ [⟨1, Reg.STR_FLAGS i.val, j, v.toNat⟩] ∧ Sent s.dev e [.twin (twinWords ⟨1, Reg.STR_FLAGS i.val, j, v.toNat⟩)] ∧
      RegsBut (fun x => x = Reg.STR_FLAGS i.val ∨ x = Reg.TWN_JSEQ) s.dev e ∧ MemSame s.dev e)) ∧
  (∀ (s : State) (i : Fin 16) (v : Word), s.dev.role = 2 ∨ s.dev.role = 3 → s.dev.hostWaits = false →
    Completes (.strFlagsSet .host i v) s (fun e => e.fld Reg.TWN_DIRREJ 0 16 = min 0xFFFF (s.dev.fld Reg.TWN_DIRREJ 0 16 + 1) ∧ e.last = ⟨0, true⟩ ∧
      RegsBut (· = Reg.TWN_DIRREJ) s.dev e ∧ OnlyRegs s.dev e)) ∧
  (∀ (s : State) (a : BitVec 24) (j : BitVec 32) (v : Word) (r : Wrote), s.dev.twinHears = true → s.dev.role = 2 ∨ s.dev.role = 3 → j = s.dev.reg Reg.TWN_JACK + 1 →
    ¬ (0x40000 ≤ a.toNat ∧ a.toNat < 0x50000 ∧ a.toNat % 0x1000 = 0x48) →
    r = Device.targetWrite ((Device.twinHeard { s.dev with out := [] } j.toNat).setRegN Reg.TWN_JACK j.toNat) 18 a.toNat v.toNat →
    r.dev.ttime = s.dev.ttime → r.dev.ivmq = s.dev.ivmq → r.dev.disp.bad = s.dev.disp.bad →
    Completes (.twinWrite a j v) s (fun e => e.regs = r.dev.regs ∧ e.mem = r.dev.mem ∧ e.str = r.dev.str)) ∧
  (∀ (s : State) (i : Fin 16) (j : BitVec 32) (v : Word), s.dev.twinHears = true → s.dev.role = 2 ∨ s.dev.role = 3 → j = s.dev.reg Reg.TWN_JACK + 1 → v.bit 0 = true →
    s.dev.regN (Reg.STR_BURST_ID i.val) < 0xFFFFFFFE →
    Completes (.twinWrite (BitVec.ofNat 24 (Reg.STR_CMD i.val)) j v) s (fun e => e.reg Reg.TWN_JACK = j ∧
      Tab.get (fun _ => none) e.twin.pend i.val = some ⟨.immediate, s.dev.protects i.val, s.dev.regN (Reg.STR_BURST_ID i.val) + 1⟩ ∧ e.str = s.dev.str ∧
      RegsBut (· = Reg.TWN_JACK) s.dev e ∧ MemSame s.dev e)) ∧
  (∀ (s : State) (a : BitVec 24) (j : BitVec 32) (v : Word), s.dev.twinHears = true → s.dev.role = 2 ∨ s.dev.role = 3 → j ≠ s.dev.reg Reg.TWN_JACK + 1 →
    Completes (.twinWrite a j v) s (fun e => e.regs = s.dev.regs ∧ e.twin = { s.dev.twin with lastRx := s.dev.ttime } ∧ MemSame s.dev e)) ∧
  (∀ (s : State) (a : BitVec 24) (j : BitVec 32) (v : Word), s.dev.twinHears = true → s.dev.role = 3 → s.dev.twin.syncLeft = 0 → 0x200000 ≤ a.toNat → a.toNat < 0x600000 →
    Completes (.twinSnap a j [v]) s (fun e => e.reg a.toNat = v ∧ RegsBut (· = a.toNat) s.dev e ∧ e.role = 3 ∧ MemSame s.dev e)) ∧
  (∀ (s : State) (a : BitVec 24) (j : BitVec 32) (v : Word), s.dev.twinHears = true → s.dev.role = 2 → s.dev.twin.syncLeft = 1 → 0x200000 ≤ a.toNat → a.toNat < 0x600000 →
    Completes (.twinSnap a j [v]) s (fun e => e.reg a.toNat = v ∧ e.role = 3 ∧ e.bit Reg.TWN_STATUS 11 = true ∧ e.reg Reg.TWN_JACK = j ∧ e.twin.syncLeft = 0 ∧ MemSame s.dev e)) ∧
  (∀ (s : State) (i : Fin 16) (j : BitVec 32) (st : BitVec 16) (id : BitVec 32) (p : PendLaunch), s.dev.twinHears = true → s.dev.role = 3 →
    Tab.get (fun _ => none) s.dev.twin.pend i.val = some p →
    Completes (.twinCheckpoint j 1 i st id) s (fun e => e.reg (Reg.STR_BURST_ID i.val) = id ∧
      Tab.get (fun _ => none) e.twin.pend i.val = (if p.burst = id.toNat ∨ p.burst = nextBurst id.toNat then none else some p) ∧ RegsBut (· = Reg.STR_BURST_ID i.val) s.dev e ∧ MemSame s.dev e)) ∧
  (∀ (s : State) (j : BitVec 32), s.dev.twinHears = true → s.dev.role = 5 →
    Completes (.twinHb (some j)) s (fun e => e.reg Reg.TWN_JACK = j ∧ e.twin.lastRx = s.dev.ttime ∧ RegsBut (· = Reg.TWN_JACK) s.dev e ∧ MemSame s.dev e ∧
      (∀ f, f ∈ e.twin.journal ↔ f ∈ s.dev.twin.journal ∧ 0 < (BitVec.ofNat 32 f.jseq - j).toInt))) ∧
  (∀ (s : State) (j : BitVec 32), s.dev.twinHears = true → s.dev.role ≠ 5 → s.dev.role ≠ 0 →
    Completes (.twinHb (some j)) s (fun e => e.twin = { s.dev.twin with lastRx := s.dev.ttime } ∧ e.regs = s.dev.regs ∧ MemSame s.dev e)) ∧
  (∀ (s : State) (j : BitVec 32), s.dev.twinLive = false ∨ s.dev.role = 0 → Completes (.twinHb (some j)) s (fun e => e.twin = s.dev.twin ∧ e.regs = s.dev.regs ∧ MemSame s.dev e)) ∧
  (∀ s : State, Completes (.twinHb none) s (fun e => e.twin = s.dev.twin ∧ e.regs = s.dev.regs ∧ MemSame s.dev e)) ∧
  (∀ s : State, s.dev.twinLive = true → s.dev.role ≠ 0 →
    Completes .twinHbSend s (fun e =>
      SentFirst s.dev e [.twin (twinWords ⟨3, 0, if s.dev.role = 2 ∨ s.dev.role = 3 then s.dev.regN Reg.TWN_JACK else s.dev.regN Reg.TWN_JSEQ, 0⟩)] ∧
      (s.dev.quiet = true → e.twin = { s.dev.twin with lastTx := e.ttime } ∧ e.regs = s.dev.regs ∧ MemSame s.dev e))) ∧
  (∀ (s : State) (j : BitVec 32) (half : BitVec 128) (kind : Bool) (span : BitVec 16), s.dev.twinHears = true → s.dev.role = 3 →
    Completes (.twinHash j half false kind span) s (fun e => e.twin = { s.dev.twin with lastRx := s.dev.ttime, half := half.toNat } ∧ e.regs = s.dev.regs ∧ MemSame s.dev e) ∧
    Completes (.twinHash j half true true span) s (fun e => (∃ h, e.twin.spans = s.dev.twin.spans ++ [(span.toNat, h)]) ∧ e.regs = s.dev.regs ∧ MemSame s.dev e))

/-! ## The queue, reset and the whole machine -/

/-- A step takes the command at the front of the queue and runs it with the rest of the queue; with an empty queue (log entry 5) time passes and the cores run. -/
def Obligations.StepRunsTheFront : Prop :=
  (∀ (s : State) (c : Instr) (rest : List Instr), s.pending = c :: rest → step s = exec c { s with pending := rest }) ∧
  (∀ s : State, s.pending = [] → ∃ t, step s = .next t ∧ t.pending = []) ∧
  (∀ s : State, s.pending = [] → (∀ k < 16, s.dev.coreAwake k = false) → s.dev.disp.sramCe = 0 → s.dev.lst 0 ≠ 6 →
    (s.dev.timeRuns = false → ∃ t, step s = .next t ∧ t.dev.regs = s.dev.regs ∧ t.dev.ttime = s.dev.ttime ∧ MemSame s.dev t.dev) ∧
    (s.dev.timeRuns = true → s.dev.pwrState ≠ 2 → s.dev.pwrState ≠ 3 → s.dev.ttime + 1280 < 2 ^ 64 →
      ∃ t, step s = .next t ∧ t.dev.ttime = s.dev.ttime + 1280 ∧ (s.dev.quiet = true → t.dev.regs = s.dev.regs ∧ MemSame s.dev t.dev)))

/-- Every command whose operands are well formed runs to its end in every state, and leaves the queue as it was; any other one stops by name. No command is refused.
Readings of the model: log entry 12. -/
def Obligations.CommandsComplete : Prop :=
  ∀ (s : State) (c : Instr),
    (c.wellFormed = true → ∃ t, exec c s = .next t ∧ t.pending = s.pending) ∧ (c.wellFormed = false → exec c s = .fault .illFormed)

/-- R12, R355, R361, R364, R366, R396, R418: what reset leaves. The device is SAFE with cause POWERON, at stage 0x01, PWR_STATE WAKING, every stream HALTED and every link in DETECT; no
command waits, the windows hold 0, and the tables are in canonical form.
Readings of the model: log entries 6, 8 and 9. -/
def Obligations.ResetState : Prop :=
  State.reset.pending = [] ∧ State.reset.dev.reg Reg.SAFE_CAUSE = 1 ∧ State.reset.dev.fld Reg.SAFE_STATUS 29 2 = 1 ∧ State.reset.dev.bit Reg.SAFE_STATUS 31 = true ∧
  State.reset.dev.stage = 1 ∧ State.reset.dev.pwrState = 5 ∧ State.reset.dev.role = 0 ∧ State.reset.dev.kawake = false ∧ State.reset.dev.timeRuns = false ∧
  (∀ i : Fin 16, State.reset.dev.strState i.val = 0 ∧ State.reset.dev.bit (Reg.PIER_STATUS i.val) 3 = true) ∧ (∀ k : Fin 4, State.reset.dev.lst k.val = 0) ∧
  (∀ a, 0x200000 ≤ a → a < 0x700000 → State.reset.dev.reg a = 0) ∧ State.reset.dev.canon = true ∧ Memory.wf State.reset.dev.mem = true ∧ State.reset.dev.intcInv

/-- R277, R281: after every step, of whatever state, the interrupt controller has followed its requests and targets: no request that it has seen is unasserted, no source of PRIO 0 is
pending, and no source is offered to a target that may not take it (its group, its enable, its threshold, or its sleep). -/
def Obligations.InterruptsFollow : Prop :=
  ∀ s t : State, step s = .next t → t.dev.intcInv
end

