-- ==== Sys2Proof/Laws/State.lean ====
section
/-! SUPPORT. What each named update leaves of every field of the device: one lemma per field and update, so that no proof unfolds a record update. -/

namespace Sys2Proof.Machine

variable (d : Device)

/-! ### setReg -/

@[simp] theorem Device.setReg_applied (a : Nat) (v : Word) : (d.setReg a v).applied = d.applied := rfl
@[simp] theorem Device.setReg_trimB (a : Nat) (v : Word) : (d.setReg a v).trimB = d.trimB := rfl
@[simp] theorem Device.setReg_trimA (a : Nat) (v : Word) : (d.setReg a v).trimA = d.trimA := rfl
@[simp] theorem Device.setReg_poison (a : Nat) (v : Word) : (d.setReg a v).poison = d.poison := rfl
@[simp] theorem Device.setReg_mem (a : Nat) (v : Word) : (d.setReg a v).mem = d.mem := rfl
@[simp] theorem Device.setReg_mpoison (a : Nat) (v : Word) : (d.setReg a v).mpoison = d.mpoison := rfl
@[simp] theorem Device.setReg_sram (a : Nat) (v : Word) : (d.setReg a v).sram = d.sram := rfl
@[simp] theorem Device.setReg_ttime (a : Nat) (v : Word) : (d.setReg a v).ttime = d.ttime := rfl
@[simp] theorem Device.setReg_wlatch (a : Nat) (v : Word) : (d.setReg a v).wlatch = d.wlatch := rfl
@[simp] theorem Device.setReg_rlatch (a : Nat) (v : Word) : (d.setReg a v).rlatch = d.rlatch := rfl
@[simp] theorem Device.setReg_elatch (a : Nat) (v : Word) : (d.setReg a v).elatch = d.elatch := rfl
@[simp] theorem Device.setReg_last (a : Nat) (v : Word) : (d.setReg a v).last = d.last := rfl
@[simp] theorem Device.setReg_out (a : Nat) (v : Word) : (d.setReg a v).out = d.out := rfl
@[simp] theorem Device.setReg_free (a : Nat) (v : Word) : (d.setReg a v).free = d.free := rfl
@[simp] theorem Device.setReg_evbuf (a : Nat) (v : Word) : (d.setReg a v).evbuf = d.evbuf := rfl
@[simp] theorem Device.setReg_evlost (a : Nat) (v : Word) : (d.setReg a v).evlost = d.evlost := rfl
@[simp] theorem Device.setReg_hooks (a : Nat) (v : Word) : (d.setReg a v).hooks = d.hooks := rfl
@[simp] theorem Device.setReg_log (a : Nat) (v : Word) : (d.setReg a v).log = d.log := rfl
@[simp] theorem Device.setReg_logDropped (a : Nat) (v : Word) : (d.setReg a v).logDropped = d.logDropped := rfl
@[simp] theorem Device.setReg_logSec (a : Nat) (v : Word) : (d.setReg a v).logSec = d.logSec := rfl
@[simp] theorem Device.setReg_logCnt (a : Nat) (v : Word) : (d.setReg a v).logCnt = d.logCnt := rfl
@[simp] theorem Device.setReg_chan (a : Nat) (v : Word) : (d.setReg a v).chan = d.chan := rfl
@[simp] theorem Device.setReg_peb (a : Nat) (v : Word) : (d.setReg a v).peb = d.peb := rfl
@[simp] theorem Device.setReg_str (a : Nat) (v : Word) : (d.setReg a v).str = d.str := rfl
@[simp] theorem Device.setReg_cap (a : Nat) (v : Word) : (d.setReg a v).cap = d.cap := rfl
@[simp] theorem Device.setReg_trg (a : Nat) (v : Word) : (d.setReg a v).trg = d.trg := rfl
@[simp] theorem Device.setReg_trigout (a : Nat) (v : Word) : (d.setReg a v).trigout = d.trigout := rfl
@[simp] theorem Device.setReg_cal (a : Nat) (v : Word) : (d.setReg a v).cal = d.cal := rfl
@[simp] theorem Device.setReg_strobe (a : Nat) (v : Word) : (d.setReg a v).strobe = d.strobe := rfl
@[simp] theorem Device.setReg_grd (a : Nat) (v : Word) : (d.setReg a v).grd = d.grd := rfl
@[simp] theorem Device.setReg_goHold (a : Nat) (v : Word) : (d.setReg a v).goHold = d.goHold := rfl
@[simp] theorem Device.setReg_sup (a : Nat) (v : Word) : (d.setReg a v).sup = d.sup := rfl
@[simp] theorem Device.setReg_regionReset (a : Nat) (v : Word) : (d.setReg a v).regionReset = d.regionReset := rfl
@[simp] theorem Device.setReg_wdExpired (a : Nat) (v : Word) : (d.setReg a v).wdExpired = d.wdExpired := rfl
@[simp] theorem Device.setReg_safeAt (a : Nat) (v : Word) : (d.setReg a v).safeAt = d.safeAt := rfl
@[simp] theorem Device.setReg_keyReq (a : Nat) (v : Word) : (d.setReg a v).keyReq = d.keyReq := rfl
@[simp] theorem Device.setReg_twin (a : Nat) (v : Word) : (d.setReg a v).twin = d.twin := rfl
@[simp] theorem Device.setReg_ucs (a : Nat) (v : Word) : (d.setReg a v).ucs = d.ucs := rfl
@[simp] theorem Device.setReg_ivm (a : Nat) (v : Word) : (d.setReg a v).ivm = d.ivm := rfl
@[simp] theorem Device.setReg_tsCe (a : Nat) (v : Word) : (d.setReg a v).tsCe = d.tsCe := rfl
@[simp] theorem Device.setReg_ivmq (a : Nat) (v : Word) : (d.setReg a v).ivmq = d.ivmq := rfl
@[simp] theorem Device.setReg_taglatch (a : Nat) (v : Word) : (d.setReg a v).taglatch = d.taglatch := rfl
@[simp] theorem Device.setReg_rows (a : Nat) (v : Word) : (d.setReg a v).rows = d.rows := rfl
@[simp] theorem Device.setReg_mch (a : Nat) (v : Word) : (d.setReg a v).mch = d.mch := rfl
@[simp] theorem Device.setReg_ldg (a : Nat) (v : Word) : (d.setReg a v).ldg = d.ldg := rfl
@[simp] theorem Device.setReg_disp (a : Nat) (v : Word) : (d.setReg a v).disp = d.disp := rfl
@[simp] theorem Device.setReg_intc (a : Nat) (v : Word) : (d.setReg a v).intc = d.intc := rfl
@[simp] theorem Device.setReg_links (a : Nat) (v : Word) : (d.setReg a v).links = d.links := rfl
@[simp] theorem Device.setReg_trs (a : Nat) (v : Word) : (d.setReg a v).trs = d.trs := rfl
@[simp] theorem Device.setReg_evq (a : Nat) (v : Word) : (d.setReg a v).evq = d.evq := rfl
@[simp] theorem Device.setReg_via (a : Nat) (v : Word) : (d.setReg a v).via = d.via := rfl
@[simp] theorem Device.setReg_pwr (a : Nat) (v : Word) : (d.setReg a v).pwr = d.pwr := rfl
@[simp] theorem Device.setReg_key (a : Nat) (v : Word) : (d.setReg a v).key = d.key := rfl
@[simp] theorem Device.setReg_tap (a : Nat) (v : Word) : (d.setReg a v).tap = d.tap := rfl

/-! ### setApp -/

@[simp] theorem Device.setApp_regs (a : Nat) (v : Word) : (d.setApp a v).regs = d.regs := rfl
@[simp] theorem Device.setApp_trimB (a : Nat) (v : Word) : (d.setApp a v).trimB = d.trimB := rfl
@[simp] theorem Device.setApp_trimA (a : Nat) (v : Word) : (d.setApp a v).trimA = d.trimA := rfl
@[simp] theorem Device.setApp_poison (a : Nat) (v : Word) : (d.setApp a v).poison = d.poison := rfl
@[simp] theorem Device.setApp_mem (a : Nat) (v : Word) : (d.setApp a v).mem = d.mem := rfl
@[simp] theorem Device.setApp_mpoison (a : Nat) (v : Word) : (d.setApp a v).mpoison = d.mpoison := rfl
@[simp] theorem Device.setApp_sram (a : Nat) (v : Word) : (d.setApp a v).sram = d.sram := rfl
@[simp] theorem Device.setApp_ttime (a : Nat) (v : Word) : (d.setApp a v).ttime = d.ttime := rfl
@[simp] theorem Device.setApp_wlatch (a : Nat) (v : Word) : (d.setApp a v).wlatch = d.wlatch := rfl
@[simp] theorem Device.setApp_rlatch (a : Nat) (v : Word) : (d.setApp a v).rlatch = d.rlatch := rfl
@[simp] theorem Device.setApp_elatch (a : Nat) (v : Word) : (d.setApp a v).elatch = d.elatch := rfl
@[simp] theorem Device.setApp_last (a : Nat) (v : Word) : (d.setApp a v).last = d.last := rfl
@[simp] theorem Device.setApp_out (a : Nat) (v : Word) : (d.setApp a v).out = d.out := rfl
@[simp] theorem Device.setApp_free (a : Nat) (v : Word) : (d.setApp a v).free = d.free := rfl
@[simp] theorem Device.setApp_evbuf (a : Nat) (v : Word) : (d.setApp a v).evbuf = d.evbuf := rfl
@[simp] theorem Device.setApp_evlost (a : Nat) (v : Word) : (d.setApp a v).evlost = d.evlost := rfl
@[simp] theorem Device.setApp_hooks (a : Nat) (v : Word) : (d.setApp a v).hooks = d.hooks := rfl
@[simp] theorem Device.setApp_log (a : Nat) (v : Word) : (d.setApp a v).log = d.log := rfl
@[simp] theorem Device.setApp_logDropped (a : Nat) (v : Word) : (d.setApp a v).logDropped = d.logDropped := rfl
@[simp] theorem Device.setApp_logSec (a : Nat) (v : Word) : (d.setApp a v).logSec = d.logSec := rfl
@[simp] theorem Device.setApp_logCnt (a : Nat) (v : Word) : (d.setApp a v).logCnt = d.logCnt := rfl
@[simp] theorem Device.setApp_chan (a : Nat) (v : Word) : (d.setApp a v).chan = d.chan := rfl
@[simp] theorem Device.setApp_peb (a : Nat) (v : Word) : (d.setApp a v).peb = d.peb := rfl
@[simp] theorem Device.setApp_str (a : Nat) (v : Word) : (d.setApp a v).str = d.str := rfl
@[simp] theorem Device.setApp_cap (a : Nat) (v : Word) : (d.setApp a v).cap = d.cap := rfl
@[simp] theorem Device.setApp_trg (a : Nat) (v : Word) : (d.setApp a v).trg = d.trg := rfl
@[simp] theorem Device.setApp_trigout (a : Nat) (v : Word) : (d.setApp a v).trigout = d.trigout := rfl
@[simp] theorem Device.setApp_cal (a : Nat) (v : Word) : (d.setApp a v).cal = d.cal := rfl
@[simp] theorem Device.setApp_strobe (a : Nat) (v : Word) : (d.setApp a v).strobe = d.strobe := rfl
@[simp] theorem Device.setApp_grd (a : Nat) (v : Word) : (d.setApp a v).grd = d.grd := rfl
@[simp] theorem Device.setApp_goHold (a : Nat) (v : Word) : (d.setApp a v).goHold = d.goHold := rfl
@[simp] theorem Device.setApp_sup (a : Nat) (v : Word) : (d.setApp a v).sup = d.sup := rfl
@[simp] theorem Device.setApp_regionReset (a : Nat) (v : Word) : (d.setApp a v).regionReset = d.regionReset := rfl
@[simp] theorem Device.setApp_wdExpired (a : Nat) (v : Word) : (d.setApp a v).wdExpired = d.wdExpired := rfl
@[simp] theorem Device.setApp_safeAt (a : Nat) (v : Word) : (d.setApp a v).safeAt = d.safeAt := rfl
@[simp] theorem Device.setApp_keyReq (a : Nat) (v : Word) : (d.setApp a v).keyReq = d.keyReq := rfl
@[simp] theorem Device.setApp_twin (a : Nat) (v : Word) : (d.setApp a v).twin = d.twin := rfl
@[simp] theorem Device.setApp_ucs (a : Nat) (v : Word) : (d.setApp a v).ucs = d.ucs := rfl
@[simp] theorem Device.setApp_ivm (a : Nat) (v : Word) : (d.setApp a v).ivm = d.ivm := rfl
@[simp] theorem Device.setApp_tsCe (a : Nat) (v : Word) : (d.setApp a v).tsCe = d.tsCe := rfl
@[simp] theorem Device.setApp_ivmq (a : Nat) (v : Word) : (d.setApp a v).ivmq = d.ivmq := rfl
@[simp] theorem Device.setApp_taglatch (a : Nat) (v : Word) : (d.setApp a v).taglatch = d.taglatch := rfl
@[simp] theorem Device.setApp_rows (a : Nat) (v : Word) : (d.setApp a v).rows = d.rows := rfl
@[simp] theorem Device.setApp_mch (a : Nat) (v : Word) : (d.setApp a v).mch = d.mch := rfl
@[simp] theorem Device.setApp_ldg (a : Nat) (v : Word) : (d.setApp a v).ldg = d.ldg := rfl
@[simp] theorem Device.setApp_disp (a : Nat) (v : Word) : (d.setApp a v).disp = d.disp := rfl
@[simp] theorem Device.setApp_intc (a : Nat) (v : Word) : (d.setApp a v).intc = d.intc := rfl
@[simp] theorem Device.setApp_links (a : Nat) (v : Word) : (d.setApp a v).links = d.links := rfl
@[simp] theorem Device.setApp_trs (a : Nat) (v : Word) : (d.setApp a v).trs = d.trs := rfl
@[simp] theorem Device.setApp_evq (a : Nat) (v : Word) : (d.setApp a v).evq = d.evq := rfl
@[simp] theorem Device.setApp_via (a : Nat) (v : Word) : (d.setApp a v).via = d.via := rfl
@[simp] theorem Device.setApp_pwr (a : Nat) (v : Word) : (d.setApp a v).pwr = d.pwr := rfl
@[simp] theorem Device.setApp_key (a : Nat) (v : Word) : (d.setApp a v).key = d.key := rfl
@[simp] theorem Device.setApp_tap (a : Nat) (v : Word) : (d.setApp a v).tap = d.tap := rfl

/-! ### memStore -/

@[simp] theorem Device.memStore_regs (a n v : Nat) : (d.memStore a n v).regs = d.regs := rfl
@[simp] theorem Device.memStore_applied (a n v : Nat) : (d.memStore a n v).applied = d.applied := rfl
@[simp] theorem Device.memStore_trimB (a n v : Nat) : (d.memStore a n v).trimB = d.trimB := rfl
@[simp] theorem Device.memStore_trimA (a n v : Nat) : (d.memStore a n v).trimA = d.trimA := rfl
@[simp] theorem Device.memStore_poison (a n v : Nat) : (d.memStore a n v).poison = d.poison := rfl
@[simp] theorem Device.memStore_sram (a n v : Nat) : (d.memStore a n v).sram = d.sram := rfl
@[simp] theorem Device.memStore_ttime (a n v : Nat) : (d.memStore a n v).ttime = d.ttime := rfl
@[simp] theorem Device.memStore_wlatch (a n v : Nat) : (d.memStore a n v).wlatch = d.wlatch := rfl
@[simp] theorem Device.memStore_rlatch (a n v : Nat) : (d.memStore a n v).rlatch = d.rlatch := rfl
@[simp] theorem Device.memStore_elatch (a n v : Nat) : (d.memStore a n v).elatch = d.elatch := rfl
@[simp] theorem Device.memStore_last (a n v : Nat) : (d.memStore a n v).last = d.last := rfl
@[simp] theorem Device.memStore_out (a n v : Nat) : (d.memStore a n v).out = d.out := rfl
@[simp] theorem Device.memStore_free (a n v : Nat) : (d.memStore a n v).free = d.free := rfl
@[simp] theorem Device.memStore_evbuf (a n v : Nat) : (d.memStore a n v).evbuf = d.evbuf := rfl
@[simp] theorem Device.memStore_evlost (a n v : Nat) : (d.memStore a n v).evlost = d.evlost := rfl
@[simp] theorem Device.memStore_hooks (a n v : Nat) : (d.memStore a n v).hooks = d.hooks := rfl
@[simp] theorem Device.memStore_log (a n v : Nat) : (d.memStore a n v).log = d.log := rfl
@[simp] theorem Device.memStore_logDropped (a n v : Nat) : (d.memStore a n v).logDropped = d.logDropped := rfl
@[simp] theorem Device.memStore_logSec (a n v : Nat) : (d.memStore a n v).logSec = d.logSec := rfl
@[simp] theorem Device.memStore_logCnt (a n v : Nat) : (d.memStore a n v).logCnt = d.logCnt := rfl
@[simp] theorem Device.memStore_chan (a n v : Nat) : (d.memStore a n v).chan = d.chan := rfl
@[simp] theorem Device.memStore_peb (a n v : Nat) : (d.memStore a n v).peb = d.peb := rfl
@[simp] theorem Device.memStore_str (a n v : Nat) : (d.memStore a n v).str = d.str := rfl
@[simp] theorem Device.memStore_cap (a n v : Nat) : (d.memStore a n v).cap = d.cap := rfl
@[simp] theorem Device.memStore_trg (a n v : Nat) : (d.memStore a n v).trg = d.trg := rfl
@[simp] theorem Device.memStore_trigout (a n v : Nat) : (d.memStore a n v).trigout = d.trigout := rfl
@[simp] theorem Device.memStore_cal (a n v : Nat) : (d.memStore a n v).cal = d.cal := rfl
@[simp] theorem Device.memStore_strobe (a n v : Nat) : (d.memStore a n v).strobe = d.strobe := rfl
@[simp] theorem Device.memStore_grd (a n v : Nat) : (d.memStore a n v).grd = d.grd := rfl
@[simp] theorem Device.memStore_goHold (a n v : Nat) : (d.memStore a n v).goHold = d.goHold := rfl
@[simp] theorem Device.memStore_sup (a n v : Nat) : (d.memStore a n v).sup = d.sup := rfl
@[simp] theorem Device.memStore_regionReset (a n v : Nat) : (d.memStore a n v).regionReset = d.regionReset := rfl
@[simp] theorem Device.memStore_wdExpired (a n v : Nat) : (d.memStore a n v).wdExpired = d.wdExpired := rfl
@[simp] theorem Device.memStore_safeAt (a n v : Nat) : (d.memStore a n v).safeAt = d.safeAt := rfl
@[simp] theorem Device.memStore_keyReq (a n v : Nat) : (d.memStore a n v).keyReq = d.keyReq := rfl
@[simp] theorem Device.memStore_twin (a n v : Nat) : (d.memStore a n v).twin = d.twin := rfl
@[simp] theorem Device.memStore_ucs (a n v : Nat) : (d.memStore a n v).ucs = d.ucs := rfl
@[simp] theorem Device.memStore_ivm (a n v : Nat) : (d.memStore a n v).ivm = d.ivm := rfl
@[simp] theorem Device.memStore_tsCe (a n v : Nat) : (d.memStore a n v).tsCe = d.tsCe := rfl
@[simp] theorem Device.memStore_ivmq (a n v : Nat) : (d.memStore a n v).ivmq = d.ivmq := rfl
@[simp] theorem Device.memStore_taglatch (a n v : Nat) : (d.memStore a n v).taglatch = d.taglatch := rfl
@[simp] theorem Device.memStore_rows (a n v : Nat) : (d.memStore a n v).rows = d.rows := rfl
@[simp] theorem Device.memStore_mch (a n v : Nat) : (d.memStore a n v).mch = d.mch := rfl
@[simp] theorem Device.memStore_ldg (a n v : Nat) : (d.memStore a n v).ldg = d.ldg := rfl
@[simp] theorem Device.memStore_disp (a n v : Nat) : (d.memStore a n v).disp = d.disp := rfl
@[simp] theorem Device.memStore_intc (a n v : Nat) : (d.memStore a n v).intc = d.intc := rfl
@[simp] theorem Device.memStore_links (a n v : Nat) : (d.memStore a n v).links = d.links := rfl
@[simp] theorem Device.memStore_trs (a n v : Nat) : (d.memStore a n v).trs = d.trs := rfl
@[simp] theorem Device.memStore_evq (a n v : Nat) : (d.memStore a n v).evq = d.evq := rfl
@[simp] theorem Device.memStore_via (a n v : Nat) : (d.memStore a n v).via = d.via := rfl
@[simp] theorem Device.memStore_pwr (a n v : Nat) : (d.memStore a n v).pwr = d.pwr := rfl
@[simp] theorem Device.memStore_key (a n v : Nat) : (d.memStore a n v).key = d.key := rfl
@[simp] theorem Device.memStore_tap (a n v : Nat) : (d.memStore a n v).tap = d.tap := rfl

/-! ### setWinUE -/

@[simp] theorem Device.setWinUE_regs (a : Nat) (b : Bool) : (d.setWinUE a b).regs = d.regs := rfl
@[simp] theorem Device.setWinUE_applied (a : Nat) (b : Bool) : (d.setWinUE a b).applied = d.applied := rfl
@[simp] theorem Device.setWinUE_trimB (a : Nat) (b : Bool) : (d.setWinUE a b).trimB = d.trimB := rfl
@[simp] theorem Device.setWinUE_trimA (a : Nat) (b : Bool) : (d.setWinUE a b).trimA = d.trimA := rfl
@[simp] theorem Device.setWinUE_mem (a : Nat) (b : Bool) : (d.setWinUE a b).mem = d.mem := rfl
@[simp] theorem Device.setWinUE_mpoison (a : Nat) (b : Bool) : (d.setWinUE a b).mpoison = d.mpoison := rfl
@[simp] theorem Device.setWinUE_sram (a : Nat) (b : Bool) : (d.setWinUE a b).sram = d.sram := rfl
@[simp] theorem Device.setWinUE_ttime (a : Nat) (b : Bool) : (d.setWinUE a b).ttime = d.ttime := rfl
@[simp] theorem Device.setWinUE_wlatch (a : Nat) (b : Bool) : (d.setWinUE a b).wlatch = d.wlatch := rfl
@[simp] theorem Device.setWinUE_rlatch (a : Nat) (b : Bool) : (d.setWinUE a b).rlatch = d.rlatch := rfl
@[simp] theorem Device.setWinUE_elatch (a : Nat) (b : Bool) : (d.setWinUE a b).elatch = d.elatch := rfl
@[simp] theorem Device.setWinUE_last (a : Nat) (b : Bool) : (d.setWinUE a b).last = d.last := rfl
@[simp] theorem Device.setWinUE_out (a : Nat) (b : Bool) : (d.setWinUE a b).out = d.out := rfl
@[simp] theorem Device.setWinUE_free (a : Nat) (b : Bool) : (d.setWinUE a b).free = d.free := rfl
@[simp] theorem Device.setWinUE_evbuf (a : Nat) (b : Bool) : (d.setWinUE a b).evbuf = d.evbuf := rfl
@[simp] theorem Device.setWinUE_evlost (a : Nat) (b : Bool) : (d.setWinUE a b).evlost = d.evlost := rfl
@[simp] theorem Device.setWinUE_hooks (a : Nat) (b : Bool) : (d.setWinUE a b).hooks = d.hooks := rfl
@[simp] theorem Device.setWinUE_log (a : Nat) (b : Bool) : (d.setWinUE a b).log = d.log := rfl
@[simp] theorem Device.setWinUE_logDropped (a : Nat) (b : Bool) : (d.setWinUE a b).logDropped = d.logDropped := rfl
@[simp] theorem Device.setWinUE_logSec (a : Nat) (b : Bool) : (d.setWinUE a b).logSec = d.logSec := rfl
@[simp] theorem Device.setWinUE_logCnt (a : Nat) (b : Bool) : (d.setWinUE a b).logCnt = d.logCnt := rfl
@[simp] theorem Device.setWinUE_chan (a : Nat) (b : Bool) : (d.setWinUE a b).chan = d.chan := rfl
@[simp] theorem Device.setWinUE_peb (a : Nat) (b : Bool) : (d.setWinUE a b).peb = d.peb := rfl
@[simp] theorem Device.setWinUE_str (a : Nat) (b : Bool) : (d.setWinUE a b).str = d.str := rfl
@[simp] theorem Device.setWinUE_cap (a : Nat) (b : Bool) : (d.setWinUE a b).cap = d.cap := rfl
@[simp] theorem Device.setWinUE_trg (a : Nat) (b : Bool) : (d.setWinUE a b).trg = d.trg := rfl
@[simp] theorem Device.setWinUE_trigout (a : Nat) (b : Bool) : (d.setWinUE a b).trigout = d.trigout := rfl
@[simp] theorem Device.setWinUE_cal (a : Nat) (b : Bool) : (d.setWinUE a b).cal = d.cal := rfl
@[simp] theorem Device.setWinUE_strobe (a : Nat) (b : Bool) : (d.setWinUE a b).strobe = d.strobe := rfl
@[simp] theorem Device.setWinUE_grd (a : Nat) (b : Bool) : (d.setWinUE a b).grd = d.grd := rfl
@[simp] theorem Device.setWinUE_goHold (a : Nat) (b : Bool) : (d.setWinUE a b).goHold = d.goHold := rfl
@[simp] theorem Device.setWinUE_sup (a : Nat) (b : Bool) : (d.setWinUE a b).sup = d.sup := rfl
@[simp] theorem Device.setWinUE_regionReset (a : Nat) (b : Bool) : (d.setWinUE a b).regionReset = d.regionReset := rfl
@[simp] theorem Device.setWinUE_wdExpired (a : Nat) (b : Bool) : (d.setWinUE a b).wdExpired = d.wdExpired := rfl
@[simp] theorem Device.setWinUE_safeAt (a : Nat) (b : Bool) : (d.setWinUE a b).safeAt = d.safeAt := rfl
@[simp] theorem Device.setWinUE_keyReq (a : Nat) (b : Bool) : (d.setWinUE a b).keyReq = d.keyReq := rfl
@[simp] theorem Device.setWinUE_twin (a : Nat) (b : Bool) : (d.setWinUE a b).twin = d.twin := rfl
@[simp] theorem Device.setWinUE_ucs (a : Nat) (b : Bool) : (d.setWinUE a b).ucs = d.ucs := rfl
@[simp] theorem Device.setWinUE_ivm (a : Nat) (b : Bool) : (d.setWinUE a b).ivm = d.ivm := rfl
@[simp] theorem Device.setWinUE_tsCe (a : Nat) (b : Bool) : (d.setWinUE a b).tsCe = d.tsCe := rfl
@[simp] theorem Device.setWinUE_ivmq (a : Nat) (b : Bool) : (d.setWinUE a b).ivmq = d.ivmq := rfl
@[simp] theorem Device.setWinUE_taglatch (a : Nat) (b : Bool) : (d.setWinUE a b).taglatch = d.taglatch := rfl
@[simp] theorem Device.setWinUE_rows (a : Nat) (b : Bool) : (d.setWinUE a b).rows = d.rows := rfl
@[simp] theorem Device.setWinUE_mch (a : Nat) (b : Bool) : (d.setWinUE a b).mch = d.mch := rfl
@[simp] theorem Device.setWinUE_ldg (a : Nat) (b : Bool) : (d.setWinUE a b).ldg = d.ldg := rfl
@[simp] theorem Device.setWinUE_disp (a : Nat) (b : Bool) : (d.setWinUE a b).disp = d.disp := rfl
@[simp] theorem Device.setWinUE_intc (a : Nat) (b : Bool) : (d.setWinUE a b).intc = d.intc := rfl
@[simp] theorem Device.setWinUE_links (a : Nat) (b : Bool) : (d.setWinUE a b).links = d.links := rfl
@[simp] theorem Device.setWinUE_trs (a : Nat) (b : Bool) : (d.setWinUE a b).trs = d.trs := rfl
@[simp] theorem Device.setWinUE_evq (a : Nat) (b : Bool) : (d.setWinUE a b).evq = d.evq := rfl
@[simp] theorem Device.setWinUE_via (a : Nat) (b : Bool) : (d.setWinUE a b).via = d.via := rfl
@[simp] theorem Device.setWinUE_pwr (a : Nat) (b : Bool) : (d.setWinUE a b).pwr = d.pwr := rfl
@[simp] theorem Device.setWinUE_key (a : Nat) (b : Bool) : (d.setWinUE a b).key = d.key := rfl
@[simp] theorem Device.setWinUE_tap (a : Nat) (b : Bool) : (d.setWinUE a b).tap = d.tap := rfl

/-! ### setChan -/

@[simp] theorem Device.setChan_regs (n : Nat) (c : ChanCtx) : (d.setChan n c).regs = d.regs := rfl
@[simp] theorem Device.setChan_applied (n : Nat) (c : ChanCtx) : (d.setChan n c).applied = d.applied := rfl
@[simp] theorem Device.setChan_trimB (n : Nat) (c : ChanCtx) : (d.setChan n c).trimB = d.trimB := rfl
@[simp] theorem Device.setChan_trimA (n : Nat) (c : ChanCtx) : (d.setChan n c).trimA = d.trimA := rfl
@[simp] theorem Device.setChan_poison (n : Nat) (c : ChanCtx) : (d.setChan n c).poison = d.poison := rfl
@[simp] theorem Device.setChan_mem (n : Nat) (c : ChanCtx) : (d.setChan n c).mem = d.mem := rfl
@[simp] theorem Device.setChan_mpoison (n : Nat) (c : ChanCtx) : (d.setChan n c).mpoison = d.mpoison := rfl
@[simp] theorem Device.setChan_sram (n : Nat) (c : ChanCtx) : (d.setChan n c).sram = d.sram := rfl
@[simp] theorem Device.setChan_ttime (n : Nat) (c : ChanCtx) : (d.setChan n c).ttime = d.ttime := rfl
@[simp] theorem Device.setChan_wlatch (n : Nat) (c : ChanCtx) : (d.setChan n c).wlatch = d.wlatch := rfl
@[simp] theorem Device.setChan_rlatch (n : Nat) (c : ChanCtx) : (d.setChan n c).rlatch = d.rlatch := rfl
@[simp] theorem Device.setChan_elatch (n : Nat) (c : ChanCtx) : (d.setChan n c).elatch = d.elatch := rfl
@[simp] theorem Device.setChan_last (n : Nat) (c : ChanCtx) : (d.setChan n c).last = d.last := rfl
@[simp] theorem Device.setChan_out (n : Nat) (c : ChanCtx) : (d.setChan n c).out = d.out := rfl
@[simp] theorem Device.setChan_free (n : Nat) (c : ChanCtx) : (d.setChan n c).free = d.free := rfl
@[simp] theorem Device.setChan_evbuf (n : Nat) (c : ChanCtx) : (d.setChan n c).evbuf = d.evbuf := rfl
@[simp] theorem Device.setChan_evlost (n : Nat) (c : ChanCtx) : (d.setChan n c).evlost = d.evlost := rfl
@[simp] theorem Device.setChan_hooks (n : Nat) (c : ChanCtx) : (d.setChan n c).hooks = d.hooks := rfl
@[simp] theorem Device.setChan_log (n : Nat) (c : ChanCtx) : (d.setChan n c).log = d.log := rfl
@[simp] theorem Device.setChan_logDropped (n : Nat) (c : ChanCtx) : (d.setChan n c).logDropped = d.logDropped := rfl
@[simp] theorem Device.setChan_logSec (n : Nat) (c : ChanCtx) : (d.setChan n c).logSec = d.logSec := rfl
@[simp] theorem Device.setChan_logCnt (n : Nat) (c : ChanCtx) : (d.setChan n c).logCnt = d.logCnt := rfl
@[simp] theorem Device.setChan_peb (n : Nat) (c : ChanCtx) : (d.setChan n c).peb = d.peb := rfl
@[simp] theorem Device.setChan_str (n : Nat) (c : ChanCtx) : (d.setChan n c).str = d.str := rfl
@[simp] theorem Device.setChan_cap (n : Nat) (c : ChanCtx) : (d.setChan n c).cap = d.cap := rfl
@[simp] theorem Device.setChan_trg (n : Nat) (c : ChanCtx) : (d.setChan n c).trg = d.trg := rfl
@[simp] theorem Device.setChan_trigout (n : Nat) (c : ChanCtx) : (d.setChan n c).trigout = d.trigout := rfl
@[simp] theorem Device.setChan_cal (n : Nat) (c : ChanCtx) : (d.setChan n c).cal = d.cal := rfl
@[simp] theorem Device.setChan_strobe (n : Nat) (c : ChanCtx) : (d.setChan n c).strobe = d.strobe := rfl
@[simp] theorem Device.setChan_grd (n : Nat) (c : ChanCtx) : (d.setChan n c).grd = d.grd := rfl
@[simp] theorem Device.setChan_goHold (n : Nat) (c : ChanCtx) : (d.setChan n c).goHold = d.goHold := rfl
@[simp] theorem Device.setChan_sup (n : Nat) (c : ChanCtx) : (d.setChan n c).sup = d.sup := rfl
@[simp] theorem Device.setChan_regionReset (n : Nat) (c : ChanCtx) : (d.setChan n c).regionReset = d.regionReset := rfl
@[simp] theorem Device.setChan_wdExpired (n : Nat) (c : ChanCtx) : (d.setChan n c).wdExpired = d.wdExpired := rfl
@[simp] theorem Device.setChan_safeAt (n : Nat) (c : ChanCtx) : (d.setChan n c).safeAt = d.safeAt := rfl
@[simp] theorem Device.setChan_keyReq (n : Nat) (c : ChanCtx) : (d.setChan n c).keyReq = d.keyReq := rfl
@[simp] theorem Device.setChan_twin (n : Nat) (c : ChanCtx) : (d.setChan n c).twin = d.twin := rfl
@[simp] theorem Device.setChan_ucs (n : Nat) (c : ChanCtx) : (d.setChan n c).ucs = d.ucs := rfl
@[simp] theorem Device.setChan_ivm (n : Nat) (c : ChanCtx) : (d.setChan n c).ivm = d.ivm := rfl
@[simp] theorem Device.setChan_tsCe (n : Nat) (c : ChanCtx) : (d.setChan n c).tsCe = d.tsCe := rfl
@[simp] theorem Device.setChan_ivmq (n : Nat) (c : ChanCtx) : (d.setChan n c).ivmq = d.ivmq := rfl
@[simp] theorem Device.setChan_taglatch (n : Nat) (c : ChanCtx) : (d.setChan n c).taglatch = d.taglatch := rfl
@[simp] theorem Device.setChan_rows (n : Nat) (c : ChanCtx) : (d.setChan n c).rows = d.rows := rfl
@[simp] theorem Device.setChan_mch (n : Nat) (c : ChanCtx) : (d.setChan n c).mch = d.mch := rfl
@[simp] theorem Device.setChan_ldg (n : Nat) (c : ChanCtx) : (d.setChan n c).ldg = d.ldg := rfl
@[simp] theorem Device.setChan_disp (n : Nat) (c : ChanCtx) : (d.setChan n c).disp = d.disp := rfl
@[simp] theorem Device.setChan_intc (n : Nat) (c : ChanCtx) : (d.setChan n c).intc = d.intc := rfl
@[simp] theorem Device.setChan_links (n : Nat) (c : ChanCtx) : (d.setChan n c).links = d.links := rfl
@[simp] theorem Device.setChan_trs (n : Nat) (c : ChanCtx) : (d.setChan n c).trs = d.trs := rfl
@[simp] theorem Device.setChan_evq (n : Nat) (c : ChanCtx) : (d.setChan n c).evq = d.evq := rfl
@[simp] theorem Device.setChan_via (n : Nat) (c : ChanCtx) : (d.setChan n c).via = d.via := rfl
@[simp] theorem Device.setChan_pwr (n : Nat) (c : ChanCtx) : (d.setChan n c).pwr = d.pwr := rfl
@[simp] theorem Device.setChan_key (n : Nat) (c : ChanCtx) : (d.setChan n c).key = d.key := rfl
@[simp] theorem Device.setChan_tap (n : Nat) (c : ChanCtx) : (d.setChan n c).tap = d.tap := rfl

/-! ### setPeb -/

@[simp] theorem Device.setPeb_regs (n : Nat) (c : PebPort) : (d.setPeb n c).regs = d.regs := rfl
@[simp] theorem Device.setPeb_applied (n : Nat) (c : PebPort) : (d.setPeb n c).applied = d.applied := rfl
@[simp] theorem Device.setPeb_trimB (n : Nat) (c : PebPort) : (d.setPeb n c).trimB = d.trimB := rfl
@[simp] theorem Device.setPeb_trimA (n : Nat) (c : PebPort) : (d.setPeb n c).trimA = d.trimA := rfl
@[simp] theorem Device.setPeb_poison (n : Nat) (c : PebPort) : (d.setPeb n c).poison = d.poison := rfl
@[simp] theorem Device.setPeb_mem (n : Nat) (c : PebPort) : (d.setPeb n c).mem = d.mem := rfl
@[simp] theorem Device.setPeb_mpoison (n : Nat) (c : PebPort) : (d.setPeb n c).mpoison = d.mpoison := rfl
@[simp] theorem Device.setPeb_sram (n : Nat) (c : PebPort) : (d.setPeb n c).sram = d.sram := rfl
@[simp] theorem Device.setPeb_ttime (n : Nat) (c : PebPort) : (d.setPeb n c).ttime = d.ttime := rfl
@[simp] theorem Device.setPeb_wlatch (n : Nat) (c : PebPort) : (d.setPeb n c).wlatch = d.wlatch := rfl
@[simp] theorem Device.setPeb_rlatch (n : Nat) (c : PebPort) : (d.setPeb n c).rlatch = d.rlatch := rfl
@[simp] theorem Device.setPeb_elatch (n : Nat) (c : PebPort) : (d.setPeb n c).elatch = d.elatch := rfl
@[simp] theorem Device.setPeb_last (n : Nat) (c : PebPort) : (d.setPeb n c).last = d.last := rfl
@[simp] theorem Device.setPeb_out (n : Nat) (c : PebPort) : (d.setPeb n c).out = d.out := rfl
@[simp] theorem Device.setPeb_free (n : Nat) (c : PebPort) : (d.setPeb n c).free = d.free := rfl
@[simp] theorem Device.setPeb_evbuf (n : Nat) (c : PebPort) : (d.setPeb n c).evbuf = d.evbuf := rfl
@[simp] theorem Device.setPeb_evlost (n : Nat) (c : PebPort) : (d.setPeb n c).evlost = d.evlost := rfl
@[simp] theorem Device.setPeb_hooks (n : Nat) (c : PebPort) : (d.setPeb n c).hooks = d.hooks := rfl
@[simp] theorem Device.setPeb_log (n : Nat) (c : PebPort) : (d.setPeb n c).log = d.log := rfl
@[simp] theorem Device.setPeb_logDropped (n : Nat) (c : PebPort) : (d.setPeb n c).logDropped = d.logDropped := rfl
@[simp] theorem Device.setPeb_logSec (n : Nat) (c : PebPort) : (d.setPeb n c).logSec = d.logSec := rfl
@[simp] theorem Device.setPeb_logCnt (n : Nat) (c : PebPort) : (d.setPeb n c).logCnt = d.logCnt := rfl
@[simp] theorem Device.setPeb_chan (n : Nat) (c : PebPort) : (d.setPeb n c).chan = d.chan := rfl
@[simp] theorem Device.setPeb_str (n : Nat) (c : PebPort) : (d.setPeb n c).str = d.str := rfl
@[simp] theorem Device.setPeb_cap (n : Nat) (c : PebPort) : (d.setPeb n c).cap = d.cap := rfl
@[simp] theorem Device.setPeb_trg (n : Nat) (c : PebPort) : (d.setPeb n c).trg = d.trg := rfl
@[simp] theorem Device.setPeb_trigout (n : Nat) (c : PebPort) : (d.setPeb n c).trigout = d.trigout := rfl
@[simp] theorem Device.setPeb_cal (n : Nat) (c : PebPort) : (d.setPeb n c).cal = d.cal := rfl
@[simp] theorem Device.setPeb_strobe (n : Nat) (c : PebPort) : (d.setPeb n c).strobe = d.strobe := rfl
@[simp] theorem Device.setPeb_grd (n : Nat) (c : PebPort) : (d.setPeb n c).grd = d.grd := rfl
@[simp] theorem Device.setPeb_goHold (n : Nat) (c : PebPort) : (d.setPeb n c).goHold = d.goHold := rfl
@[simp] theorem Device.setPeb_sup (n : Nat) (c : PebPort) : (d.setPeb n c).sup = d.sup := rfl
@[simp] theorem Device.setPeb_regionReset (n : Nat) (c : PebPort) : (d.setPeb n c).regionReset = d.regionReset := rfl
@[simp] theorem Device.setPeb_wdExpired (n : Nat) (c : PebPort) : (d.setPeb n c).wdExpired = d.wdExpired := rfl
@[simp] theorem Device.setPeb_safeAt (n : Nat) (c : PebPort) : (d.setPeb n c).safeAt = d.safeAt := rfl
@[simp] theorem Device.setPeb_keyReq (n : Nat) (c : PebPort) : (d.setPeb n c).keyReq = d.keyReq := rfl
@[simp] theorem Device.setPeb_twin (n : Nat) (c : PebPort) : (d.setPeb n c).twin = d.twin := rfl
@[simp] theorem Device.setPeb_ucs (n : Nat) (c : PebPort) : (d.setPeb n c).ucs = d.ucs := rfl
@[simp] theorem Device.setPeb_ivm (n : Nat) (c : PebPort) : (d.setPeb n c).ivm = d.ivm := rfl
@[simp] theorem Device.setPeb_tsCe (n : Nat) (c : PebPort) : (d.setPeb n c).tsCe = d.tsCe := rfl
@[simp] theorem Device.setPeb_ivmq (n : Nat) (c : PebPort) : (d.setPeb n c).ivmq = d.ivmq := rfl
@[simp] theorem Device.setPeb_taglatch (n : Nat) (c : PebPort) : (d.setPeb n c).taglatch = d.taglatch := rfl
@[simp] theorem Device.setPeb_rows (n : Nat) (c : PebPort) : (d.setPeb n c).rows = d.rows := rfl
@[simp] theorem Device.setPeb_mch (n : Nat) (c : PebPort) : (d.setPeb n c).mch = d.mch := rfl
@[simp] theorem Device.setPeb_ldg (n : Nat) (c : PebPort) : (d.setPeb n c).ldg = d.ldg := rfl
@[simp] theorem Device.setPeb_disp (n : Nat) (c : PebPort) : (d.setPeb n c).disp = d.disp := rfl
@[simp] theorem Device.setPeb_intc (n : Nat) (c : PebPort) : (d.setPeb n c).intc = d.intc := rfl
@[simp] theorem Device.setPeb_links (n : Nat) (c : PebPort) : (d.setPeb n c).links = d.links := rfl
@[simp] theorem Device.setPeb_trs (n : Nat) (c : PebPort) : (d.setPeb n c).trs = d.trs := rfl
@[simp] theorem Device.setPeb_evq (n : Nat) (c : PebPort) : (d.setPeb n c).evq = d.evq := rfl
@[simp] theorem Device.setPeb_via (n : Nat) (c : PebPort) : (d.setPeb n c).via = d.via := rfl
@[simp] theorem Device.setPeb_pwr (n : Nat) (c : PebPort) : (d.setPeb n c).pwr = d.pwr := rfl
@[simp] theorem Device.setPeb_key (n : Nat) (c : PebPort) : (d.setPeb n c).key = d.key := rfl
@[simp] theorem Device.setPeb_tap (n : Nat) (c : PebPort) : (d.setPeb n c).tap = d.tap := rfl

/-! ### setStr -/

@[simp] theorem Device.setStr_regs (n : Nat) (c : StrCtx) : (d.setStr n c).regs = d.regs := rfl
@[simp] theorem Device.setStr_applied (n : Nat) (c : StrCtx) : (d.setStr n c).applied = d.applied := rfl
@[simp] theorem Device.setStr_trimB (n : Nat) (c : StrCtx) : (d.setStr n c).trimB = d.trimB := rfl
@[simp] theorem Device.setStr_trimA (n : Nat) (c : StrCtx) : (d.setStr n c).trimA = d.trimA := rfl
@[simp] theorem Device.setStr_poison (n : Nat) (c : StrCtx) : (d.setStr n c).poison = d.poison := rfl
@[simp] theorem Device.setStr_mem (n : Nat) (c : StrCtx) : (d.setStr n c).mem = d.mem := rfl
@[simp] theorem Device.setStr_mpoison (n : Nat) (c : StrCtx) : (d.setStr n c).mpoison = d.mpoison := rfl
@[simp] theorem Device.setStr_sram (n : Nat) (c : StrCtx) : (d.setStr n c).sram = d.sram := rfl
@[simp] theorem Device.setStr_ttime (n : Nat) (c : StrCtx) : (d.setStr n c).ttime = d.ttime := rfl
@[simp] theorem Device.setStr_wlatch (n : Nat) (c : StrCtx) : (d.setStr n c).wlatch = d.wlatch := rfl
@[simp] theorem Device.setStr_rlatch (n : Nat) (c : StrCtx) : (d.setStr n c).rlatch = d.rlatch := rfl
@[simp] theorem Device.setStr_elatch (n : Nat) (c : StrCtx) : (d.setStr n c).elatch = d.elatch := rfl
@[simp] theorem Device.setStr_last (n : Nat) (c : StrCtx) : (d.setStr n c).last = d.last := rfl
@[simp] theorem Device.setStr_out (n : Nat) (c : StrCtx) : (d.setStr n c).out = d.out := rfl
@[simp] theorem Device.setStr_free (n : Nat) (c : StrCtx) : (d.setStr n c).free = d.free := rfl
@[simp] theorem Device.setStr_evbuf (n : Nat) (c : StrCtx) : (d.setStr n c).evbuf = d.evbuf := rfl
@[simp] theorem Device.setStr_evlost (n : Nat) (c : StrCtx) : (d.setStr n c).evlost = d.evlost := rfl
@[simp] theorem Device.setStr_hooks (n : Nat) (c : StrCtx) : (d.setStr n c).hooks = d.hooks := rfl
@[simp] theorem Device.setStr_log (n : Nat) (c : StrCtx) : (d.setStr n c).log = d.log := rfl
@[simp] theorem Device.setStr_logDropped (n : Nat) (c : StrCtx) : (d.setStr n c).logDropped = d.logDropped := rfl
@[simp] theorem Device.setStr_logSec (n : Nat) (c : StrCtx) : (d.setStr n c).logSec = d.logSec := rfl
@[simp] theorem Device.setStr_logCnt (n : Nat) (c : StrCtx) : (d.setStr n c).logCnt = d.logCnt := rfl
@[simp] theorem Device.setStr_chan (n : Nat) (c : StrCtx) : (d.setStr n c).chan = d.chan := rfl
@[simp] theorem Device.setStr_peb (n : Nat) (c : StrCtx) : (d.setStr n c).peb = d.peb := rfl
@[simp] theorem Device.setStr_cap (n : Nat) (c : StrCtx) : (d.setStr n c).cap = d.cap := rfl
@[simp] theorem Device.setStr_trg (n : Nat) (c : StrCtx) : (d.setStr n c).trg = d.trg := rfl
@[simp] theorem Device.setStr_trigout (n : Nat) (c : StrCtx) : (d.setStr n c).trigout = d.trigout := rfl
@[simp] theorem Device.setStr_cal (n : Nat) (c : StrCtx) : (d.setStr n c).cal = d.cal := rfl
@[simp] theorem Device.setStr_strobe (n : Nat) (c : StrCtx) : (d.setStr n c).strobe = d.strobe := rfl
@[simp] theorem Device.setStr_grd (n : Nat) (c : StrCtx) : (d.setStr n c).grd = d.grd := rfl
@[simp] theorem Device.setStr_goHold (n : Nat) (c : StrCtx) : (d.setStr n c).goHold = d.goHold := rfl
@[simp] theorem Device.setStr_sup (n : Nat) (c : StrCtx) : (d.setStr n c).sup = d.sup := rfl
@[simp] theorem Device.setStr_regionReset (n : Nat) (c : StrCtx) : (d.setStr n c).regionReset = d.regionReset := rfl
@[simp] theorem Device.setStr_wdExpired (n : Nat) (c : StrCtx) : (d.setStr n c).wdExpired = d.wdExpired := rfl
@[simp] theorem Device.setStr_safeAt (n : Nat) (c : StrCtx) : (d.setStr n c).safeAt = d.safeAt := rfl
@[simp] theorem Device.setStr_keyReq (n : Nat) (c : StrCtx) : (d.setStr n c).keyReq = d.keyReq := rfl
@[simp] theorem Device.setStr_twin (n : Nat) (c : StrCtx) : (d.setStr n c).twin = d.twin := rfl
@[simp] theorem Device.setStr_ucs (n : Nat) (c : StrCtx) : (d.setStr n c).ucs = d.ucs := rfl
@[simp] theorem Device.setStr_ivm (n : Nat) (c : StrCtx) : (d.setStr n c).ivm = d.ivm := rfl
@[simp] theorem Device.setStr_tsCe (n : Nat) (c : StrCtx) : (d.setStr n c).tsCe = d.tsCe := rfl
@[simp] theorem Device.setStr_ivmq (n : Nat) (c : StrCtx) : (d.setStr n c).ivmq = d.ivmq := rfl
@[simp] theorem Device.setStr_taglatch (n : Nat) (c : StrCtx) : (d.setStr n c).taglatch = d.taglatch := rfl
@[simp] theorem Device.setStr_rows (n : Nat) (c : StrCtx) : (d.setStr n c).rows = d.rows := rfl
@[simp] theorem Device.setStr_mch (n : Nat) (c : StrCtx) : (d.setStr n c).mch = d.mch := rfl
@[simp] theorem Device.setStr_ldg (n : Nat) (c : StrCtx) : (d.setStr n c).ldg = d.ldg := rfl
@[simp] theorem Device.setStr_disp (n : Nat) (c : StrCtx) : (d.setStr n c).disp = d.disp := rfl
@[simp] theorem Device.setStr_intc (n : Nat) (c : StrCtx) : (d.setStr n c).intc = d.intc := rfl
@[simp] theorem Device.setStr_links (n : Nat) (c : StrCtx) : (d.setStr n c).links = d.links := rfl
@[simp] theorem Device.setStr_trs (n : Nat) (c : StrCtx) : (d.setStr n c).trs = d.trs := rfl
@[simp] theorem Device.setStr_evq (n : Nat) (c : StrCtx) : (d.setStr n c).evq = d.evq := rfl
@[simp] theorem Device.setStr_via (n : Nat) (c : StrCtx) : (d.setStr n c).via = d.via := rfl
@[simp] theorem Device.setStr_pwr (n : Nat) (c : StrCtx) : (d.setStr n c).pwr = d.pwr := rfl
@[simp] theorem Device.setStr_key (n : Nat) (c : StrCtx) : (d.setStr n c).key = d.key := rfl
@[simp] theorem Device.setStr_tap (n : Nat) (c : StrCtx) : (d.setStr n c).tap = d.tap := rfl

/-! ### setCap -/

@[simp] theorem Device.setCap_regs (n : Nat) (c : CapCtx) : (d.setCap n c).regs = d.regs := rfl
@[simp] theorem Device.setCap_applied (n : Nat) (c : CapCtx) : (d.setCap n c).applied = d.applied := rfl
@[simp] theorem Device.setCap_trimB (n : Nat) (c : CapCtx) : (d.setCap n c).trimB = d.trimB := rfl
@[simp] theorem Device.setCap_trimA (n : Nat) (c : CapCtx) : (d.setCap n c).trimA = d.trimA := rfl
@[simp] theorem Device.setCap_poison (n : Nat) (c : CapCtx) : (d.setCap n c).poison = d.poison := rfl
@[simp] theorem Device.setCap_mem (n : Nat) (c : CapCtx) : (d.setCap n c).mem = d.mem := rfl
@[simp] theorem Device.setCap_mpoison (n : Nat) (c : CapCtx) : (d.setCap n c).mpoison = d.mpoison := rfl
@[simp] theorem Device.setCap_sram (n : Nat) (c : CapCtx) : (d.setCap n c).sram = d.sram := rfl
@[simp] theorem Device.setCap_ttime (n : Nat) (c : CapCtx) : (d.setCap n c).ttime = d.ttime := rfl
@[simp] theorem Device.setCap_wlatch (n : Nat) (c : CapCtx) : (d.setCap n c).wlatch = d.wlatch := rfl
@[simp] theorem Device.setCap_rlatch (n : Nat) (c : CapCtx) : (d.setCap n c).rlatch = d.rlatch := rfl
@[simp] theorem Device.setCap_elatch (n : Nat) (c : CapCtx) : (d.setCap n c).elatch = d.elatch := rfl
@[simp] theorem Device.setCap_last (n : Nat) (c : CapCtx) : (d.setCap n c).last = d.last := rfl
@[simp] theorem Device.setCap_out (n : Nat) (c : CapCtx) : (d.setCap n c).out = d.out := rfl
@[simp] theorem Device.setCap_free (n : Nat) (c : CapCtx) : (d.setCap n c).free = d.free := rfl
@[simp] theorem Device.setCap_evbuf (n : Nat) (c : CapCtx) : (d.setCap n c).evbuf = d.evbuf := rfl
@[simp] theorem Device.setCap_evlost (n : Nat) (c : CapCtx) : (d.setCap n c).evlost = d.evlost := rfl
@[simp] theorem Device.setCap_hooks (n : Nat) (c : CapCtx) : (d.setCap n c).hooks = d.hooks := rfl
@[simp] theorem Device.setCap_log (n : Nat) (c : CapCtx) : (d.setCap n c).log = d.log := rfl
@[simp] theorem Device.setCap_logDropped (n : Nat) (c : CapCtx) : (d.setCap n c).logDropped = d.logDropped := rfl
@[simp] theorem Device.setCap_logSec (n : Nat) (c : CapCtx) : (d.setCap n c).logSec = d.logSec := rfl
@[simp] theorem Device.setCap_logCnt (n : Nat) (c : CapCtx) : (d.setCap n c).logCnt = d.logCnt := rfl
@[simp] theorem Device.setCap_chan (n : Nat) (c : CapCtx) : (d.setCap n c).chan = d.chan := rfl
@[simp] theorem Device.setCap_peb (n : Nat) (c : CapCtx) : (d.setCap n c).peb = d.peb := rfl
@[simp] theorem Device.setCap_str (n : Nat) (c : CapCtx) : (d.setCap n c).str = d.str := rfl
@[simp] theorem Device.setCap_trg (n : Nat) (c : CapCtx) : (d.setCap n c).trg = d.trg := rfl
@[simp] theorem Device.setCap_trigout (n : Nat) (c : CapCtx) : (d.setCap n c).trigout = d.trigout := rfl
@[simp] theorem Device.setCap_cal (n : Nat) (c : CapCtx) : (d.setCap n c).cal = d.cal := rfl
@[simp] theorem Device.setCap_strobe (n : Nat) (c : CapCtx) : (d.setCap n c).strobe = d.strobe := rfl
@[simp] theorem Device.setCap_grd (n : Nat) (c : CapCtx) : (d.setCap n c).grd = d.grd := rfl
@[simp] theorem Device.setCap_goHold (n : Nat) (c : CapCtx) : (d.setCap n c).goHold = d.goHold := rfl
@[simp] theorem Device.setCap_sup (n : Nat) (c : CapCtx) : (d.setCap n c).sup = d.sup := rfl
@[simp] theorem Device.setCap_regionReset (n : Nat) (c : CapCtx) : (d.setCap n c).regionReset = d.regionReset := rfl
@[simp] theorem Device.setCap_wdExpired (n : Nat) (c : CapCtx) : (d.setCap n c).wdExpired = d.wdExpired := rfl
@[simp] theorem Device.setCap_safeAt (n : Nat) (c : CapCtx) : (d.setCap n c).safeAt = d.safeAt := rfl
@[simp] theorem Device.setCap_keyReq (n : Nat) (c : CapCtx) : (d.setCap n c).keyReq = d.keyReq := rfl
@[simp] theorem Device.setCap_twin (n : Nat) (c : CapCtx) : (d.setCap n c).twin = d.twin := rfl
@[simp] theorem Device.setCap_ucs (n : Nat) (c : CapCtx) : (d.setCap n c).ucs = d.ucs := rfl
@[simp] theorem Device.setCap_ivm (n : Nat) (c : CapCtx) : (d.setCap n c).ivm = d.ivm := rfl
@[simp] theorem Device.setCap_tsCe (n : Nat) (c : CapCtx) : (d.setCap n c).tsCe = d.tsCe := rfl
@[simp] theorem Device.setCap_ivmq (n : Nat) (c : CapCtx) : (d.setCap n c).ivmq = d.ivmq := rfl
@[simp] theorem Device.setCap_taglatch (n : Nat) (c : CapCtx) : (d.setCap n c).taglatch = d.taglatch := rfl
@[simp] theorem Device.setCap_rows (n : Nat) (c : CapCtx) : (d.setCap n c).rows = d.rows := rfl
@[simp] theorem Device.setCap_mch (n : Nat) (c : CapCtx) : (d.setCap n c).mch = d.mch := rfl
@[simp] theorem Device.setCap_ldg (n : Nat) (c : CapCtx) : (d.setCap n c).ldg = d.ldg := rfl
@[simp] theorem Device.setCap_disp (n : Nat) (c : CapCtx) : (d.setCap n c).disp = d.disp := rfl
@[simp] theorem Device.setCap_intc (n : Nat) (c : CapCtx) : (d.setCap n c).intc = d.intc := rfl
@[simp] theorem Device.setCap_links (n : Nat) (c : CapCtx) : (d.setCap n c).links = d.links := rfl
@[simp] theorem Device.setCap_trs (n : Nat) (c : CapCtx) : (d.setCap n c).trs = d.trs := rfl
@[simp] theorem Device.setCap_evq (n : Nat) (c : CapCtx) : (d.setCap n c).evq = d.evq := rfl
@[simp] theorem Device.setCap_via (n : Nat) (c : CapCtx) : (d.setCap n c).via = d.via := rfl
@[simp] theorem Device.setCap_pwr (n : Nat) (c : CapCtx) : (d.setCap n c).pwr = d.pwr := rfl
@[simp] theorem Device.setCap_key (n : Nat) (c : CapCtx) : (d.setCap n c).key = d.key := rfl
@[simp] theorem Device.setCap_tap (n : Nat) (c : CapCtx) : (d.setCap n c).tap = d.tap := rfl

/-! ### setTrg -/

@[simp] theorem Device.setTrg_regs (n : Nat) (c : TrgCtx) : (d.setTrg n c).regs = d.regs := rfl
@[simp] theorem Device.setTrg_applied (n : Nat) (c : TrgCtx) : (d.setTrg n c).applied = d.applied := rfl
@[simp] theorem Device.setTrg_trimB (n : Nat) (c : TrgCtx) : (d.setTrg n c).trimB = d.trimB := rfl
@[simp] theorem Device.setTrg_trimA (n : Nat) (c : TrgCtx) : (d.setTrg n c).trimA = d.trimA := rfl
@[simp] theorem Device.setTrg_poison (n : Nat) (c : TrgCtx) : (d.setTrg n c).poison = d.poison := rfl
@[simp] theorem Device.setTrg_mem (n : Nat) (c : TrgCtx) : (d.setTrg n c).mem = d.mem := rfl
@[simp] theorem Device.setTrg_mpoison (n : Nat) (c : TrgCtx) : (d.setTrg n c).mpoison = d.mpoison := rfl
@[simp] theorem Device.setTrg_sram (n : Nat) (c : TrgCtx) : (d.setTrg n c).sram = d.sram := rfl
@[simp] theorem Device.setTrg_ttime (n : Nat) (c : TrgCtx) : (d.setTrg n c).ttime = d.ttime := rfl
@[simp] theorem Device.setTrg_wlatch (n : Nat) (c : TrgCtx) : (d.setTrg n c).wlatch = d.wlatch := rfl
@[simp] theorem Device.setTrg_rlatch (n : Nat) (c : TrgCtx) : (d.setTrg n c).rlatch = d.rlatch := rfl
@[simp] theorem Device.setTrg_elatch (n : Nat) (c : TrgCtx) : (d.setTrg n c).elatch = d.elatch := rfl
@[simp] theorem Device.setTrg_last (n : Nat) (c : TrgCtx) : (d.setTrg n c).last = d.last := rfl
@[simp] theorem Device.setTrg_out (n : Nat) (c : TrgCtx) : (d.setTrg n c).out = d.out := rfl
@[simp] theorem Device.setTrg_free (n : Nat) (c : TrgCtx) : (d.setTrg n c).free = d.free := rfl
@[simp] theorem Device.setTrg_evbuf (n : Nat) (c : TrgCtx) : (d.setTrg n c).evbuf = d.evbuf := rfl
@[simp] theorem Device.setTrg_evlost (n : Nat) (c : TrgCtx) : (d.setTrg n c).evlost = d.evlost := rfl
@[simp] theorem Device.setTrg_hooks (n : Nat) (c : TrgCtx) : (d.setTrg n c).hooks = d.hooks := rfl
@[simp] theorem Device.setTrg_log (n : Nat) (c : TrgCtx) : (d.setTrg n c).log = d.log := rfl
@[simp] theorem Device.setTrg_logDropped (n : Nat) (c : TrgCtx) : (d.setTrg n c).logDropped = d.logDropped := rfl
@[simp] theorem Device.setTrg_logSec (n : Nat) (c : TrgCtx) : (d.setTrg n c).logSec = d.logSec := rfl
@[simp] theorem Device.setTrg_logCnt (n : Nat) (c : TrgCtx) : (d.setTrg n c).logCnt = d.logCnt := rfl
@[simp] theorem Device.setTrg_chan (n : Nat) (c : TrgCtx) : (d.setTrg n c).chan = d.chan := rfl
@[simp] theorem Device.setTrg_peb (n : Nat) (c : TrgCtx) : (d.setTrg n c).peb = d.peb := rfl
@[simp] theorem Device.setTrg_str (n : Nat) (c : TrgCtx) : (d.setTrg n c).str = d.str := rfl
@[simp] theorem Device.setTrg_cap (n : Nat) (c : TrgCtx) : (d.setTrg n c).cap = d.cap := rfl
@[simp] theorem Device.setTrg_trigout (n : Nat) (c : TrgCtx) : (d.setTrg n c).trigout = d.trigout := rfl
@[simp] theorem Device.setTrg_cal (n : Nat) (c : TrgCtx) : (d.setTrg n c).cal = d.cal := rfl
@[simp] theorem Device.setTrg_strobe (n : Nat) (c : TrgCtx) : (d.setTrg n c).strobe = d.strobe := rfl
@[simp] theorem Device.setTrg_grd (n : Nat) (c : TrgCtx) : (d.setTrg n c).grd = d.grd := rfl
@[simp] theorem Device.setTrg_goHold (n : Nat) (c : TrgCtx) : (d.setTrg n c).goHold = d.goHold := rfl
@[simp] theorem Device.setTrg_sup (n : Nat) (c : TrgCtx) : (d.setTrg n c).sup = d.sup := rfl
@[simp] theorem Device.setTrg_regionReset (n : Nat) (c : TrgCtx) : (d.setTrg n c).regionReset = d.regionReset := rfl
@[simp] theorem Device.setTrg_wdExpired (n : Nat) (c : TrgCtx) : (d.setTrg n c).wdExpired = d.wdExpired := rfl
@[simp] theorem Device.setTrg_safeAt (n : Nat) (c : TrgCtx) : (d.setTrg n c).safeAt = d.safeAt := rfl
@[simp] theorem Device.setTrg_keyReq (n : Nat) (c : TrgCtx) : (d.setTrg n c).keyReq = d.keyReq := rfl
@[simp] theorem Device.setTrg_twin (n : Nat) (c : TrgCtx) : (d.setTrg n c).twin = d.twin := rfl
@[simp] theorem Device.setTrg_ucs (n : Nat) (c : TrgCtx) : (d.setTrg n c).ucs = d.ucs := rfl
@[simp] theorem Device.setTrg_ivm (n : Nat) (c : TrgCtx) : (d.setTrg n c).ivm = d.ivm := rfl
@[simp] theorem Device.setTrg_tsCe (n : Nat) (c : TrgCtx) : (d.setTrg n c).tsCe = d.tsCe := rfl
@[simp] theorem Device.setTrg_ivmq (n : Nat) (c : TrgCtx) : (d.setTrg n c).ivmq = d.ivmq := rfl
@[simp] theorem Device.setTrg_taglatch (n : Nat) (c : TrgCtx) : (d.setTrg n c).taglatch = d.taglatch := rfl
@[simp] theorem Device.setTrg_rows (n : Nat) (c : TrgCtx) : (d.setTrg n c).rows = d.rows := rfl
@[simp] theorem Device.setTrg_mch (n : Nat) (c : TrgCtx) : (d.setTrg n c).mch = d.mch := rfl
@[simp] theorem Device.setTrg_ldg (n : Nat) (c : TrgCtx) : (d.setTrg n c).ldg = d.ldg := rfl
@[simp] theorem Device.setTrg_disp (n : Nat) (c : TrgCtx) : (d.setTrg n c).disp = d.disp := rfl
@[simp] theorem Device.setTrg_intc (n : Nat) (c : TrgCtx) : (d.setTrg n c).intc = d.intc := rfl
@[simp] theorem Device.setTrg_links (n : Nat) (c : TrgCtx) : (d.setTrg n c).links = d.links := rfl
@[simp] theorem Device.setTrg_trs (n : Nat) (c : TrgCtx) : (d.setTrg n c).trs = d.trs := rfl
@[simp] theorem Device.setTrg_evq (n : Nat) (c : TrgCtx) : (d.setTrg n c).evq = d.evq := rfl
@[simp] theorem Device.setTrg_via (n : Nat) (c : TrgCtx) : (d.setTrg n c).via = d.via := rfl
@[simp] theorem Device.setTrg_pwr (n : Nat) (c : TrgCtx) : (d.setTrg n c).pwr = d.pwr := rfl
@[simp] theorem Device.setTrg_key (n : Nat) (c : TrgCtx) : (d.setTrg n c).key = d.key := rfl
@[simp] theorem Device.setTrg_tap (n : Nat) (c : TrgCtx) : (d.setTrg n c).tap = d.tap := rfl

/-! ### modIntc -/

@[simp] theorem Device.modIntc_regs (f : IntcCtx → IntcCtx) : (d.modIntc f).regs = d.regs := rfl
@[simp] theorem Device.modIntc_applied (f : IntcCtx → IntcCtx) : (d.modIntc f).applied = d.applied := rfl
@[simp] theorem Device.modIntc_trimB (f : IntcCtx → IntcCtx) : (d.modIntc f).trimB = d.trimB := rfl
@[simp] theorem Device.modIntc_trimA (f : IntcCtx → IntcCtx) : (d.modIntc f).trimA = d.trimA := rfl
@[simp] theorem Device.modIntc_poison (f : IntcCtx → IntcCtx) : (d.modIntc f).poison = d.poison := rfl
@[simp] theorem Device.modIntc_mem (f : IntcCtx → IntcCtx) : (d.modIntc f).mem = d.mem := rfl
@[simp] theorem Device.modIntc_mpoison (f : IntcCtx → IntcCtx) : (d.modIntc f).mpoison = d.mpoison := rfl
@[simp] theorem Device.modIntc_sram (f : IntcCtx → IntcCtx) : (d.modIntc f).sram = d.sram := rfl
@[simp] theorem Device.modIntc_ttime (f : IntcCtx → IntcCtx) : (d.modIntc f).ttime = d.ttime := rfl
@[simp] theorem Device.modIntc_wlatch (f : IntcCtx → IntcCtx) : (d.modIntc f).wlatch = d.wlatch := rfl
@[simp] theorem Device.modIntc_rlatch (f : IntcCtx → IntcCtx) : (d.modIntc f).rlatch = d.rlatch := rfl
@[simp] theorem Device.modIntc_elatch (f : IntcCtx → IntcCtx) : (d.modIntc f).elatch = d.elatch := rfl
@[simp] theorem Device.modIntc_last (f : IntcCtx → IntcCtx) : (d.modIntc f).last = d.last := rfl
@[simp] theorem Device.modIntc_out (f : IntcCtx → IntcCtx) : (d.modIntc f).out = d.out := rfl
@[simp] theorem Device.modIntc_free (f : IntcCtx → IntcCtx) : (d.modIntc f).free = d.free := rfl
@[simp] theorem Device.modIntc_evbuf (f : IntcCtx → IntcCtx) : (d.modIntc f).evbuf = d.evbuf := rfl
@[simp] theorem Device.modIntc_evlost (f : IntcCtx → IntcCtx) : (d.modIntc f).evlost = d.evlost := rfl
@[simp] theorem Device.modIntc_hooks (f : IntcCtx → IntcCtx) : (d.modIntc f).hooks = d.hooks := rfl
@[simp] theorem Device.modIntc_log (f : IntcCtx → IntcCtx) : (d.modIntc f).log = d.log := rfl
@[simp] theorem Device.modIntc_logDropped (f : IntcCtx → IntcCtx) : (d.modIntc f).logDropped = d.logDropped := rfl
@[simp] theorem Device.modIntc_logSec (f : IntcCtx → IntcCtx) : (d.modIntc f).logSec = d.logSec := rfl
@[simp] theorem Device.modIntc_logCnt (f : IntcCtx → IntcCtx) : (d.modIntc f).logCnt = d.logCnt := rfl
@[simp] theorem Device.modIntc_chan (f : IntcCtx → IntcCtx) : (d.modIntc f).chan = d.chan := rfl
@[simp] theorem Device.modIntc_peb (f : IntcCtx → IntcCtx) : (d.modIntc f).peb = d.peb := rfl
@[simp] theorem Device.modIntc_str (f : IntcCtx → IntcCtx) : (d.modIntc f).str = d.str := rfl
@[simp] theorem Device.modIntc_cap (f : IntcCtx → IntcCtx) : (d.modIntc f).cap = d.cap := rfl
@[simp] theorem Device.modIntc_trg (f : IntcCtx → IntcCtx) : (d.modIntc f).trg = d.trg := rfl
@[simp] theorem Device.modIntc_trigout (f : IntcCtx → IntcCtx) : (d.modIntc f).trigout = d.trigout := rfl
@[simp] theorem Device.modIntc_cal (f : IntcCtx → IntcCtx) : (d.modIntc f).cal = d.cal := rfl
@[simp] theorem Device.modIntc_strobe (f : IntcCtx → IntcCtx) : (d.modIntc f).strobe = d.strobe := rfl
@[simp] theorem Device.modIntc_grd (f : IntcCtx → IntcCtx) : (d.modIntc f).grd = d.grd := rfl
@[simp] theorem Device.modIntc_goHold (f : IntcCtx → IntcCtx) : (d.modIntc f).goHold = d.goHold := rfl
@[simp] theorem Device.modIntc_sup (f : IntcCtx → IntcCtx) : (d.modIntc f).sup = d.sup := rfl
@[simp] theorem Device.modIntc_regionReset (f : IntcCtx → IntcCtx) : (d.modIntc f).regionReset = d.regionReset := rfl
@[simp] theorem Device.modIntc_wdExpired (f : IntcCtx → IntcCtx) : (d.modIntc f).wdExpired = d.wdExpired := rfl
@[simp] theorem Device.modIntc_safeAt (f : IntcCtx → IntcCtx) : (d.modIntc f).safeAt = d.safeAt := rfl
@[simp] theorem Device.modIntc_keyReq (f : IntcCtx → IntcCtx) : (d.modIntc f).keyReq = d.keyReq := rfl
@[simp] theorem Device.modIntc_twin (f : IntcCtx → IntcCtx) : (d.modIntc f).twin = d.twin := rfl
@[simp] theorem Device.modIntc_ucs (f : IntcCtx → IntcCtx) : (d.modIntc f).ucs = d.ucs := rfl
@[simp] theorem Device.modIntc_ivm (f : IntcCtx → IntcCtx) : (d.modIntc f).ivm = d.ivm := rfl
@[simp] theorem Device.modIntc_tsCe (f : IntcCtx → IntcCtx) : (d.modIntc f).tsCe = d.tsCe := rfl
@[simp] theorem Device.modIntc_ivmq (f : IntcCtx → IntcCtx) : (d.modIntc f).ivmq = d.ivmq := rfl
@[simp] theorem Device.modIntc_taglatch (f : IntcCtx → IntcCtx) : (d.modIntc f).taglatch = d.taglatch := rfl
@[simp] theorem Device.modIntc_rows (f : IntcCtx → IntcCtx) : (d.modIntc f).rows = d.rows := rfl
@[simp] theorem Device.modIntc_mch (f : IntcCtx → IntcCtx) : (d.modIntc f).mch = d.mch := rfl
@[simp] theorem Device.modIntc_ldg (f : IntcCtx → IntcCtx) : (d.modIntc f).ldg = d.ldg := rfl
@[simp] theorem Device.modIntc_disp (f : IntcCtx → IntcCtx) : (d.modIntc f).disp = d.disp := rfl
@[simp] theorem Device.modIntc_links (f : IntcCtx → IntcCtx) : (d.modIntc f).links = d.links := rfl
@[simp] theorem Device.modIntc_trs (f : IntcCtx → IntcCtx) : (d.modIntc f).trs = d.trs := rfl
@[simp] theorem Device.modIntc_evq (f : IntcCtx → IntcCtx) : (d.modIntc f).evq = d.evq := rfl
@[simp] theorem Device.modIntc_via (f : IntcCtx → IntcCtx) : (d.modIntc f).via = d.via := rfl
@[simp] theorem Device.modIntc_pwr (f : IntcCtx → IntcCtx) : (d.modIntc f).pwr = d.pwr := rfl
@[simp] theorem Device.modIntc_key (f : IntcCtx → IntcCtx) : (d.modIntc f).key = d.key := rfl
@[simp] theorem Device.modIntc_tap (f : IntcCtx → IntcCtx) : (d.modIntc f).tap = d.tap := rfl

/-! ### modDisp -/

@[simp] theorem Device.modDisp_regs (f : DispCtx → DispCtx) : (d.modDisp f).regs = d.regs := rfl
@[simp] theorem Device.modDisp_applied (f : DispCtx → DispCtx) : (d.modDisp f).applied = d.applied := rfl
@[simp] theorem Device.modDisp_trimB (f : DispCtx → DispCtx) : (d.modDisp f).trimB = d.trimB := rfl
@[simp] theorem Device.modDisp_trimA (f : DispCtx → DispCtx) : (d.modDisp f).trimA = d.trimA := rfl
@[simp] theorem Device.modDisp_poison (f : DispCtx → DispCtx) : (d.modDisp f).poison = d.poison := rfl
@[simp] theorem Device.modDisp_mem (f : DispCtx → DispCtx) : (d.modDisp f).mem = d.mem := rfl
@[simp] theorem Device.modDisp_mpoison (f : DispCtx → DispCtx) : (d.modDisp f).mpoison = d.mpoison := rfl
@[simp] theorem Device.modDisp_sram (f : DispCtx → DispCtx) : (d.modDisp f).sram = d.sram := rfl
@[simp] theorem Device.modDisp_ttime (f : DispCtx → DispCtx) : (d.modDisp f).ttime = d.ttime := rfl
@[simp] theorem Device.modDisp_wlatch (f : DispCtx → DispCtx) : (d.modDisp f).wlatch = d.wlatch := rfl
@[simp] theorem Device.modDisp_rlatch (f : DispCtx → DispCtx) : (d.modDisp f).rlatch = d.rlatch := rfl
@[simp] theorem Device.modDisp_elatch (f : DispCtx → DispCtx) : (d.modDisp f).elatch = d.elatch := rfl
@[simp] theorem Device.modDisp_last (f : DispCtx → DispCtx) : (d.modDisp f).last = d.last := rfl
@[simp] theorem Device.modDisp_out (f : DispCtx → DispCtx) : (d.modDisp f).out = d.out := rfl
@[simp] theorem Device.modDisp_free (f : DispCtx → DispCtx) : (d.modDisp f).free = d.free := rfl
@[simp] theorem Device.modDisp_evbuf (f : DispCtx → DispCtx) : (d.modDisp f).evbuf = d.evbuf := rfl
@[simp] theorem Device.modDisp_evlost (f : DispCtx → DispCtx) : (d.modDisp f).evlost = d.evlost := rfl
@[simp] theorem Device.modDisp_hooks (f : DispCtx → DispCtx) : (d.modDisp f).hooks = d.hooks := rfl
@[simp] theorem Device.modDisp_log (f : DispCtx → DispCtx) : (d.modDisp f).log = d.log := rfl
@[simp] theorem Device.modDisp_logDropped (f : DispCtx → DispCtx) : (d.modDisp f).logDropped = d.logDropped := rfl
@[simp] theorem Device.modDisp_logSec (f : DispCtx → DispCtx) : (d.modDisp f).logSec = d.logSec := rfl
@[simp] theorem Device.modDisp_logCnt (f : DispCtx → DispCtx) : (d.modDisp f).logCnt = d.logCnt := rfl
@[simp] theorem Device.modDisp_chan (f : DispCtx → DispCtx) : (d.modDisp f).chan = d.chan := rfl
@[simp] theorem Device.modDisp_peb (f : DispCtx → DispCtx) : (d.modDisp f).peb = d.peb := rfl
@[simp] theorem Device.modDisp_str (f : DispCtx → DispCtx) : (d.modDisp f).str = d.str := rfl
@[simp] theorem Device.modDisp_cap (f : DispCtx → DispCtx) : (d.modDisp f).cap = d.cap := rfl
@[simp] theorem Device.modDisp_trg (f : DispCtx → DispCtx) : (d.modDisp f).trg = d.trg := rfl
@[simp] theorem Device.modDisp_trigout (f : DispCtx → DispCtx) : (d.modDisp f).trigout = d.trigout := rfl
@[simp] theorem Device.modDisp_cal (f : DispCtx → DispCtx) : (d.modDisp f).cal = d.cal := rfl
@[simp] theorem Device.modDisp_strobe (f : DispCtx → DispCtx) : (d.modDisp f).strobe = d.strobe := rfl
@[simp] theorem Device.modDisp_grd (f : DispCtx → DispCtx) : (d.modDisp f).grd = d.grd := rfl
@[simp] theorem Device.modDisp_goHold (f : DispCtx → DispCtx) : (d.modDisp f).goHold = d.goHold := rfl
@[simp] theorem Device.modDisp_sup (f : DispCtx → DispCtx) : (d.modDisp f).sup = d.sup := rfl
@[simp] theorem Device.modDisp_regionReset (f : DispCtx → DispCtx) : (d.modDisp f).regionReset = d.regionReset := rfl
@[simp] theorem Device.modDisp_wdExpired (f : DispCtx → DispCtx) : (d.modDisp f).wdExpired = d.wdExpired := rfl
@[simp] theorem Device.modDisp_safeAt (f : DispCtx → DispCtx) : (d.modDisp f).safeAt = d.safeAt := rfl
@[simp] theorem Device.modDisp_keyReq (f : DispCtx → DispCtx) : (d.modDisp f).keyReq = d.keyReq := rfl
@[simp] theorem Device.modDisp_twin (f : DispCtx → DispCtx) : (d.modDisp f).twin = d.twin := rfl
@[simp] theorem Device.modDisp_ucs (f : DispCtx → DispCtx) : (d.modDisp f).ucs = d.ucs := rfl
@[simp] theorem Device.modDisp_ivm (f : DispCtx → DispCtx) : (d.modDisp f).ivm = d.ivm := rfl
@[simp] theorem Device.modDisp_tsCe (f : DispCtx → DispCtx) : (d.modDisp f).tsCe = d.tsCe := rfl
@[simp] theorem Device.modDisp_ivmq (f : DispCtx → DispCtx) : (d.modDisp f).ivmq = d.ivmq := rfl
@[simp] theorem Device.modDisp_taglatch (f : DispCtx → DispCtx) : (d.modDisp f).taglatch = d.taglatch := rfl
@[simp] theorem Device.modDisp_rows (f : DispCtx → DispCtx) : (d.modDisp f).rows = d.rows := rfl
@[simp] theorem Device.modDisp_mch (f : DispCtx → DispCtx) : (d.modDisp f).mch = d.mch := rfl
@[simp] theorem Device.modDisp_ldg (f : DispCtx → DispCtx) : (d.modDisp f).ldg = d.ldg := rfl
@[simp] theorem Device.modDisp_intc (f : DispCtx → DispCtx) : (d.modDisp f).intc = d.intc := rfl
@[simp] theorem Device.modDisp_links (f : DispCtx → DispCtx) : (d.modDisp f).links = d.links := rfl
@[simp] theorem Device.modDisp_trs (f : DispCtx → DispCtx) : (d.modDisp f).trs = d.trs := rfl
@[simp] theorem Device.modDisp_evq (f : DispCtx → DispCtx) : (d.modDisp f).evq = d.evq := rfl
@[simp] theorem Device.modDisp_via (f : DispCtx → DispCtx) : (d.modDisp f).via = d.via := rfl
@[simp] theorem Device.modDisp_pwr (f : DispCtx → DispCtx) : (d.modDisp f).pwr = d.pwr := rfl
@[simp] theorem Device.modDisp_key (f : DispCtx → DispCtx) : (d.modDisp f).key = d.key := rfl
@[simp] theorem Device.modDisp_tap (f : DispCtx → DispCtx) : (d.modDisp f).tap = d.tap := rfl

/-! ### modTrs -/

@[simp] theorem Device.modTrs_regs (f : TrsCtx → TrsCtx) : (d.modTrs f).regs = d.regs := rfl
@[simp] theorem Device.modTrs_applied (f : TrsCtx → TrsCtx) : (d.modTrs f).applied = d.applied := rfl
@[simp] theorem Device.modTrs_trimB (f : TrsCtx → TrsCtx) : (d.modTrs f).trimB = d.trimB := rfl
@[simp] theorem Device.modTrs_trimA (f : TrsCtx → TrsCtx) : (d.modTrs f).trimA = d.trimA := rfl
@[simp] theorem Device.modTrs_poison (f : TrsCtx → TrsCtx) : (d.modTrs f).poison = d.poison := rfl
@[simp] theorem Device.modTrs_mem (f : TrsCtx → TrsCtx) : (d.modTrs f).mem = d.mem := rfl
@[simp] theorem Device.modTrs_mpoison (f : TrsCtx → TrsCtx) : (d.modTrs f).mpoison = d.mpoison := rfl
@[simp] theorem Device.modTrs_sram (f : TrsCtx → TrsCtx) : (d.modTrs f).sram = d.sram := rfl
@[simp] theorem Device.modTrs_ttime (f : TrsCtx → TrsCtx) : (d.modTrs f).ttime = d.ttime := rfl
@[simp] theorem Device.modTrs_wlatch (f : TrsCtx → TrsCtx) : (d.modTrs f).wlatch = d.wlatch := rfl
@[simp] theorem Device.modTrs_rlatch (f : TrsCtx → TrsCtx) : (d.modTrs f).rlatch = d.rlatch := rfl
@[simp] theorem Device.modTrs_elatch (f : TrsCtx → TrsCtx) : (d.modTrs f).elatch = d.elatch := rfl
@[simp] theorem Device.modTrs_last (f : TrsCtx → TrsCtx) : (d.modTrs f).last = d.last := rfl
@[simp] theorem Device.modTrs_out (f : TrsCtx → TrsCtx) : (d.modTrs f).out = d.out := rfl
@[simp] theorem Device.modTrs_free (f : TrsCtx → TrsCtx) : (d.modTrs f).free = d.free := rfl
@[simp] theorem Device.modTrs_evbuf (f : TrsCtx → TrsCtx) : (d.modTrs f).evbuf = d.evbuf := rfl
@[simp] theorem Device.modTrs_evlost (f : TrsCtx → TrsCtx) : (d.modTrs f).evlost = d.evlost := rfl
@[simp] theorem Device.modTrs_hooks (f : TrsCtx → TrsCtx) : (d.modTrs f).hooks = d.hooks := rfl
@[simp] theorem Device.modTrs_log (f : TrsCtx → TrsCtx) : (d.modTrs f).log = d.log := rfl
@[simp] theorem Device.modTrs_logDropped (f : TrsCtx → TrsCtx) : (d.modTrs f).logDropped = d.logDropped := rfl
@[simp] theorem Device.modTrs_logSec (f : TrsCtx → TrsCtx) : (d.modTrs f).logSec = d.logSec := rfl
@[simp] theorem Device.modTrs_logCnt (f : TrsCtx → TrsCtx) : (d.modTrs f).logCnt = d.logCnt := rfl
@[simp] theorem Device.modTrs_chan (f : TrsCtx → TrsCtx) : (d.modTrs f).chan = d.chan := rfl
@[simp] theorem Device.modTrs_peb (f : TrsCtx → TrsCtx) : (d.modTrs f).peb = d.peb := rfl
@[simp] theorem Device.modTrs_str (f : TrsCtx → TrsCtx) : (d.modTrs f).str = d.str := rfl
@[simp] theorem Device.modTrs_cap (f : TrsCtx → TrsCtx) : (d.modTrs f).cap = d.cap := rfl
@[simp] theorem Device.modTrs_trg (f : TrsCtx → TrsCtx) : (d.modTrs f).trg = d.trg := rfl
@[simp] theorem Device.modTrs_trigout (f : TrsCtx → TrsCtx) : (d.modTrs f).trigout = d.trigout := rfl
@[simp] theorem Device.modTrs_cal (f : TrsCtx → TrsCtx) : (d.modTrs f).cal = d.cal := rfl
@[simp] theorem Device.modTrs_strobe (f : TrsCtx → TrsCtx) : (d.modTrs f).strobe = d.strobe := rfl
@[simp] theorem Device.modTrs_grd (f : TrsCtx → TrsCtx) : (d.modTrs f).grd = d.grd := rfl
@[simp] theorem Device.modTrs_goHold (f : TrsCtx → TrsCtx) : (d.modTrs f).goHold = d.goHold := rfl
@[simp] theorem Device.modTrs_sup (f : TrsCtx → TrsCtx) : (d.modTrs f).sup = d.sup := rfl
@[simp] theorem Device.modTrs_regionReset (f : TrsCtx → TrsCtx) : (d.modTrs f).regionReset = d.regionReset := rfl
@[simp] theorem Device.modTrs_wdExpired (f : TrsCtx → TrsCtx) : (d.modTrs f).wdExpired = d.wdExpired := rfl
@[simp] theorem Device.modTrs_safeAt (f : TrsCtx → TrsCtx) : (d.modTrs f).safeAt = d.safeAt := rfl
@[simp] theorem Device.modTrs_keyReq (f : TrsCtx → TrsCtx) : (d.modTrs f).keyReq = d.keyReq := rfl
@[simp] theorem Device.modTrs_twin (f : TrsCtx → TrsCtx) : (d.modTrs f).twin = d.twin := rfl
@[simp] theorem Device.modTrs_ucs (f : TrsCtx → TrsCtx) : (d.modTrs f).ucs = d.ucs := rfl
@[simp] theorem Device.modTrs_ivm (f : TrsCtx → TrsCtx) : (d.modTrs f).ivm = d.ivm := rfl
@[simp] theorem Device.modTrs_tsCe (f : TrsCtx → TrsCtx) : (d.modTrs f).tsCe = d.tsCe := rfl
@[simp] theorem Device.modTrs_ivmq (f : TrsCtx → TrsCtx) : (d.modTrs f).ivmq = d.ivmq := rfl
@[simp] theorem Device.modTrs_taglatch (f : TrsCtx → TrsCtx) : (d.modTrs f).taglatch = d.taglatch := rfl
@[simp] theorem Device.modTrs_rows (f : TrsCtx → TrsCtx) : (d.modTrs f).rows = d.rows := rfl
@[simp] theorem Device.modTrs_mch (f : TrsCtx → TrsCtx) : (d.modTrs f).mch = d.mch := rfl
@[simp] theorem Device.modTrs_ldg (f : TrsCtx → TrsCtx) : (d.modTrs f).ldg = d.ldg := rfl
@[simp] theorem Device.modTrs_disp (f : TrsCtx → TrsCtx) : (d.modTrs f).disp = d.disp := rfl
@[simp] theorem Device.modTrs_intc (f : TrsCtx → TrsCtx) : (d.modTrs f).intc = d.intc := rfl
@[simp] theorem Device.modTrs_links (f : TrsCtx → TrsCtx) : (d.modTrs f).links = d.links := rfl
@[simp] theorem Device.modTrs_evq (f : TrsCtx → TrsCtx) : (d.modTrs f).evq = d.evq := rfl
@[simp] theorem Device.modTrs_via (f : TrsCtx → TrsCtx) : (d.modTrs f).via = d.via := rfl
@[simp] theorem Device.modTrs_pwr (f : TrsCtx → TrsCtx) : (d.modTrs f).pwr = d.pwr := rfl
@[simp] theorem Device.modTrs_key (f : TrsCtx → TrsCtx) : (d.modTrs f).key = d.key := rfl
@[simp] theorem Device.modTrs_tap (f : TrsCtx → TrsCtx) : (d.modTrs f).tap = d.tap := rfl

/-! ### modKey -/

@[simp] theorem Device.modKey_regs (f : KeyCtx → KeyCtx) : (d.modKey f).regs = d.regs := rfl
@[simp] theorem Device.modKey_applied (f : KeyCtx → KeyCtx) : (d.modKey f).applied = d.applied := rfl
@[simp] theorem Device.modKey_trimB (f : KeyCtx → KeyCtx) : (d.modKey f).trimB = d.trimB := rfl
@[simp] theorem Device.modKey_trimA (f : KeyCtx → KeyCtx) : (d.modKey f).trimA = d.trimA := rfl
@[simp] theorem Device.modKey_poison (f : KeyCtx → KeyCtx) : (d.modKey f).poison = d.poison := rfl
@[simp] theorem Device.modKey_mem (f : KeyCtx → KeyCtx) : (d.modKey f).mem = d.mem := rfl
@[simp] theorem Device.modKey_mpoison (f : KeyCtx → KeyCtx) : (d.modKey f).mpoison = d.mpoison := rfl
@[simp] theorem Device.modKey_sram (f : KeyCtx → KeyCtx) : (d.modKey f).sram = d.sram := rfl
@[simp] theorem Device.modKey_ttime (f : KeyCtx → KeyCtx) : (d.modKey f).ttime = d.ttime := rfl
@[simp] theorem Device.modKey_wlatch (f : KeyCtx → KeyCtx) : (d.modKey f).wlatch = d.wlatch := rfl
@[simp] theorem Device.modKey_rlatch (f : KeyCtx → KeyCtx) : (d.modKey f).rlatch = d.rlatch := rfl
@[simp] theorem Device.modKey_elatch (f : KeyCtx → KeyCtx) : (d.modKey f).elatch = d.elatch := rfl
@[simp] theorem Device.modKey_last (f : KeyCtx → KeyCtx) : (d.modKey f).last = d.last := rfl
@[simp] theorem Device.modKey_out (f : KeyCtx → KeyCtx) : (d.modKey f).out = d.out := rfl
@[simp] theorem Device.modKey_free (f : KeyCtx → KeyCtx) : (d.modKey f).free = d.free := rfl
@[simp] theorem Device.modKey_evbuf (f : KeyCtx → KeyCtx) : (d.modKey f).evbuf = d.evbuf := rfl
@[simp] theorem Device.modKey_evlost (f : KeyCtx → KeyCtx) : (d.modKey f).evlost = d.evlost := rfl
@[simp] theorem Device.modKey_hooks (f : KeyCtx → KeyCtx) : (d.modKey f).hooks = d.hooks := rfl
@[simp] theorem Device.modKey_log (f : KeyCtx → KeyCtx) : (d.modKey f).log = d.log := rfl
@[simp] theorem Device.modKey_logDropped (f : KeyCtx → KeyCtx) : (d.modKey f).logDropped = d.logDropped := rfl
@[simp] theorem Device.modKey_logSec (f : KeyCtx → KeyCtx) : (d.modKey f).logSec = d.logSec := rfl
@[simp] theorem Device.modKey_logCnt (f : KeyCtx → KeyCtx) : (d.modKey f).logCnt = d.logCnt := rfl
@[simp] theorem Device.modKey_chan (f : KeyCtx → KeyCtx) : (d.modKey f).chan = d.chan := rfl
@[simp] theorem Device.modKey_peb (f : KeyCtx → KeyCtx) : (d.modKey f).peb = d.peb := rfl
@[simp] theorem Device.modKey_str (f : KeyCtx → KeyCtx) : (d.modKey f).str = d.str := rfl
@[simp] theorem Device.modKey_cap (f : KeyCtx → KeyCtx) : (d.modKey f).cap = d.cap := rfl
@[simp] theorem Device.modKey_trg (f : KeyCtx → KeyCtx) : (d.modKey f).trg = d.trg := rfl
@[simp] theorem Device.modKey_trigout (f : KeyCtx → KeyCtx) : (d.modKey f).trigout = d.trigout := rfl
@[simp] theorem Device.modKey_cal (f : KeyCtx → KeyCtx) : (d.modKey f).cal = d.cal := rfl
@[simp] theorem Device.modKey_strobe (f : KeyCtx → KeyCtx) : (d.modKey f).strobe = d.strobe := rfl
@[simp] theorem Device.modKey_grd (f : KeyCtx → KeyCtx) : (d.modKey f).grd = d.grd := rfl
@[simp] theorem Device.modKey_goHold (f : KeyCtx → KeyCtx) : (d.modKey f).goHold = d.goHold := rfl
@[simp] theorem Device.modKey_sup (f : KeyCtx → KeyCtx) : (d.modKey f).sup = d.sup := rfl
@[simp] theorem Device.modKey_regionReset (f : KeyCtx → KeyCtx) : (d.modKey f).regionReset = d.regionReset := rfl
@[simp] theorem Device.modKey_wdExpired (f : KeyCtx → KeyCtx) : (d.modKey f).wdExpired = d.wdExpired := rfl
@[simp] theorem Device.modKey_safeAt (f : KeyCtx → KeyCtx) : (d.modKey f).safeAt = d.safeAt := rfl
@[simp] theorem Device.modKey_keyReq (f : KeyCtx → KeyCtx) : (d.modKey f).keyReq = d.keyReq := rfl
@[simp] theorem Device.modKey_twin (f : KeyCtx → KeyCtx) : (d.modKey f).twin = d.twin := rfl
@[simp] theorem Device.modKey_ucs (f : KeyCtx → KeyCtx) : (d.modKey f).ucs = d.ucs := rfl
@[simp] theorem Device.modKey_ivm (f : KeyCtx → KeyCtx) : (d.modKey f).ivm = d.ivm := rfl
@[simp] theorem Device.modKey_tsCe (f : KeyCtx → KeyCtx) : (d.modKey f).tsCe = d.tsCe := rfl
@[simp] theorem Device.modKey_ivmq (f : KeyCtx → KeyCtx) : (d.modKey f).ivmq = d.ivmq := rfl
@[simp] theorem Device.modKey_taglatch (f : KeyCtx → KeyCtx) : (d.modKey f).taglatch = d.taglatch := rfl
@[simp] theorem Device.modKey_rows (f : KeyCtx → KeyCtx) : (d.modKey f).rows = d.rows := rfl
@[simp] theorem Device.modKey_mch (f : KeyCtx → KeyCtx) : (d.modKey f).mch = d.mch := rfl
@[simp] theorem Device.modKey_ldg (f : KeyCtx → KeyCtx) : (d.modKey f).ldg = d.ldg := rfl
@[simp] theorem Device.modKey_disp (f : KeyCtx → KeyCtx) : (d.modKey f).disp = d.disp := rfl
@[simp] theorem Device.modKey_intc (f : KeyCtx → KeyCtx) : (d.modKey f).intc = d.intc := rfl
@[simp] theorem Device.modKey_links (f : KeyCtx → KeyCtx) : (d.modKey f).links = d.links := rfl
@[simp] theorem Device.modKey_trs (f : KeyCtx → KeyCtx) : (d.modKey f).trs = d.trs := rfl
@[simp] theorem Device.modKey_evq (f : KeyCtx → KeyCtx) : (d.modKey f).evq = d.evq := rfl
@[simp] theorem Device.modKey_via (f : KeyCtx → KeyCtx) : (d.modKey f).via = d.via := rfl
@[simp] theorem Device.modKey_pwr (f : KeyCtx → KeyCtx) : (d.modKey f).pwr = d.pwr := rfl
@[simp] theorem Device.modKey_tap (f : KeyCtx → KeyCtx) : (d.modKey f).tap = d.tap := rfl

/-! ### modTwin -/

@[simp] theorem Device.modTwin_regs (f : TwinCtx → TwinCtx) : (d.modTwin f).regs = d.regs := rfl
@[simp] theorem Device.modTwin_applied (f : TwinCtx → TwinCtx) : (d.modTwin f).applied = d.applied := rfl
@[simp] theorem Device.modTwin_trimB (f : TwinCtx → TwinCtx) : (d.modTwin f).trimB = d.trimB := rfl
@[simp] theorem Device.modTwin_trimA (f : TwinCtx → TwinCtx) : (d.modTwin f).trimA = d.trimA := rfl
@[simp] theorem Device.modTwin_poison (f : TwinCtx → TwinCtx) : (d.modTwin f).poison = d.poison := rfl
@[simp] theorem Device.modTwin_mem (f : TwinCtx → TwinCtx) : (d.modTwin f).mem = d.mem := rfl
@[simp] theorem Device.modTwin_mpoison (f : TwinCtx → TwinCtx) : (d.modTwin f).mpoison = d.mpoison := rfl
@[simp] theorem Device.modTwin_sram (f : TwinCtx → TwinCtx) : (d.modTwin f).sram = d.sram := rfl
@[simp] theorem Device.modTwin_ttime (f : TwinCtx → TwinCtx) : (d.modTwin f).ttime = d.ttime := rfl
@[simp] theorem Device.modTwin_wlatch (f : TwinCtx → TwinCtx) : (d.modTwin f).wlatch = d.wlatch := rfl
@[simp] theorem Device.modTwin_rlatch (f : TwinCtx → TwinCtx) : (d.modTwin f).rlatch = d.rlatch := rfl
@[simp] theorem Device.modTwin_elatch (f : TwinCtx → TwinCtx) : (d.modTwin f).elatch = d.elatch := rfl
@[simp] theorem Device.modTwin_last (f : TwinCtx → TwinCtx) : (d.modTwin f).last = d.last := rfl
@[simp] theorem Device.modTwin_out (f : TwinCtx → TwinCtx) : (d.modTwin f).out = d.out := rfl
@[simp] theorem Device.modTwin_free (f : TwinCtx → TwinCtx) : (d.modTwin f).free = d.free := rfl
@[simp] theorem Device.modTwin_evbuf (f : TwinCtx → TwinCtx) : (d.modTwin f).evbuf = d.evbuf := rfl
@[simp] theorem Device.modTwin_evlost (f : TwinCtx → TwinCtx) : (d.modTwin f).evlost = d.evlost := rfl
@[simp] theorem Device.modTwin_hooks (f : TwinCtx → TwinCtx) : (d.modTwin f).hooks = d.hooks := rfl
@[simp] theorem Device.modTwin_log (f : TwinCtx → TwinCtx) : (d.modTwin f).log = d.log := rfl
@[simp] theorem Device.modTwin_logDropped (f : TwinCtx → TwinCtx) : (d.modTwin f).logDropped = d.logDropped := rfl
@[simp] theorem Device.modTwin_logSec (f : TwinCtx → TwinCtx) : (d.modTwin f).logSec = d.logSec := rfl
@[simp] theorem Device.modTwin_logCnt (f : TwinCtx → TwinCtx) : (d.modTwin f).logCnt = d.logCnt := rfl
@[simp] theorem Device.modTwin_chan (f : TwinCtx → TwinCtx) : (d.modTwin f).chan = d.chan := rfl
@[simp] theorem Device.modTwin_peb (f : TwinCtx → TwinCtx) : (d.modTwin f).peb = d.peb := rfl
@[simp] theorem Device.modTwin_str (f : TwinCtx → TwinCtx) : (d.modTwin f).str = d.str := rfl
@[simp] theorem Device.modTwin_cap (f : TwinCtx → TwinCtx) : (d.modTwin f).cap = d.cap := rfl
@[simp] theorem Device.modTwin_trg (f : TwinCtx → TwinCtx) : (d.modTwin f).trg = d.trg := rfl
@[simp] theorem Device.modTwin_trigout (f : TwinCtx → TwinCtx) : (d.modTwin f).trigout = d.trigout := rfl
@[simp] theorem Device.modTwin_cal (f : TwinCtx → TwinCtx) : (d.modTwin f).cal = d.cal := rfl
@[simp] theorem Device.modTwin_strobe (f : TwinCtx → TwinCtx) : (d.modTwin f).strobe = d.strobe := rfl
@[simp] theorem Device.modTwin_grd (f : TwinCtx → TwinCtx) : (d.modTwin f).grd = d.grd := rfl
@[simp] theorem Device.modTwin_goHold (f : TwinCtx → TwinCtx) : (d.modTwin f).goHold = d.goHold := rfl
@[simp] theorem Device.modTwin_sup (f : TwinCtx → TwinCtx) : (d.modTwin f).sup = d.sup := rfl
@[simp] theorem Device.modTwin_regionReset (f : TwinCtx → TwinCtx) : (d.modTwin f).regionReset = d.regionReset := rfl
@[simp] theorem Device.modTwin_wdExpired (f : TwinCtx → TwinCtx) : (d.modTwin f).wdExpired = d.wdExpired := rfl
@[simp] theorem Device.modTwin_safeAt (f : TwinCtx → TwinCtx) : (d.modTwin f).safeAt = d.safeAt := rfl
@[simp] theorem Device.modTwin_keyReq (f : TwinCtx → TwinCtx) : (d.modTwin f).keyReq = d.keyReq := rfl
@[simp] theorem Device.modTwin_ucs (f : TwinCtx → TwinCtx) : (d.modTwin f).ucs = d.ucs := rfl
@[simp] theorem Device.modTwin_ivm (f : TwinCtx → TwinCtx) : (d.modTwin f).ivm = d.ivm := rfl
@[simp] theorem Device.modTwin_tsCe (f : TwinCtx → TwinCtx) : (d.modTwin f).tsCe = d.tsCe := rfl
@[simp] theorem Device.modTwin_ivmq (f : TwinCtx → TwinCtx) : (d.modTwin f).ivmq = d.ivmq := rfl
@[simp] theorem Device.modTwin_taglatch (f : TwinCtx → TwinCtx) : (d.modTwin f).taglatch = d.taglatch := rfl
@[simp] theorem Device.modTwin_rows (f : TwinCtx → TwinCtx) : (d.modTwin f).rows = d.rows := rfl
@[simp] theorem Device.modTwin_mch (f : TwinCtx → TwinCtx) : (d.modTwin f).mch = d.mch := rfl
@[simp] theorem Device.modTwin_ldg (f : TwinCtx → TwinCtx) : (d.modTwin f).ldg = d.ldg := rfl
@[simp] theorem Device.modTwin_disp (f : TwinCtx → TwinCtx) : (d.modTwin f).disp = d.disp := rfl
@[simp] theorem Device.modTwin_intc (f : TwinCtx → TwinCtx) : (d.modTwin f).intc = d.intc := rfl
@[simp] theorem Device.modTwin_links (f : TwinCtx → TwinCtx) : (d.modTwin f).links = d.links := rfl
@[simp] theorem Device.modTwin_trs (f : TwinCtx → TwinCtx) : (d.modTwin f).trs = d.trs := rfl
@[simp] theorem Device.modTwin_evq (f : TwinCtx → TwinCtx) : (d.modTwin f).evq = d.evq := rfl
@[simp] theorem Device.modTwin_via (f : TwinCtx → TwinCtx) : (d.modTwin f).via = d.via := rfl
@[simp] theorem Device.modTwin_pwr (f : TwinCtx → TwinCtx) : (d.modTwin f).pwr = d.pwr := rfl
@[simp] theorem Device.modTwin_key (f : TwinCtx → TwinCtx) : (d.modTwin f).key = d.key := rfl
@[simp] theorem Device.modTwin_tap (f : TwinCtx → TwinCtx) : (d.modTwin f).tap = d.tap := rfl

/-! ### modCal -/

@[simp] theorem Device.modCal_regs (f : CalCtx → CalCtx) : (d.modCal f).regs = d.regs := rfl
@[simp] theorem Device.modCal_applied (f : CalCtx → CalCtx) : (d.modCal f).applied = d.applied := rfl
@[simp] theorem Device.modCal_trimB (f : CalCtx → CalCtx) : (d.modCal f).trimB = d.trimB := rfl
@[simp] theorem Device.modCal_trimA (f : CalCtx → CalCtx) : (d.modCal f).trimA = d.trimA := rfl
@[simp] theorem Device.modCal_poison (f : CalCtx → CalCtx) : (d.modCal f).poison = d.poison := rfl
@[simp] theorem Device.modCal_mem (f : CalCtx → CalCtx) : (d.modCal f).mem = d.mem := rfl
@[simp] theorem Device.modCal_mpoison (f : CalCtx → CalCtx) : (d.modCal f).mpoison = d.mpoison := rfl
@[simp] theorem Device.modCal_sram (f : CalCtx → CalCtx) : (d.modCal f).sram = d.sram := rfl
@[simp] theorem Device.modCal_ttime (f : CalCtx → CalCtx) : (d.modCal f).ttime = d.ttime := rfl
@[simp] theorem Device.modCal_wlatch (f : CalCtx → CalCtx) : (d.modCal f).wlatch = d.wlatch := rfl
@[simp] theorem Device.modCal_rlatch (f : CalCtx → CalCtx) : (d.modCal f).rlatch = d.rlatch := rfl
@[simp] theorem Device.modCal_elatch (f : CalCtx → CalCtx) : (d.modCal f).elatch = d.elatch := rfl
@[simp] theorem Device.modCal_last (f : CalCtx → CalCtx) : (d.modCal f).last = d.last := rfl
@[simp] theorem Device.modCal_out (f : CalCtx → CalCtx) : (d.modCal f).out = d.out := rfl
@[simp] theorem Device.modCal_free (f : CalCtx → CalCtx) : (d.modCal f).free = d.free := rfl
@[simp] theorem Device.modCal_evbuf (f : CalCtx → CalCtx) : (d.modCal f).evbuf = d.evbuf := rfl
@[simp] theorem Device.modCal_evlost (f : CalCtx → CalCtx) : (d.modCal f).evlost = d.evlost := rfl
@[simp] theorem Device.modCal_hooks (f : CalCtx → CalCtx) : (d.modCal f).hooks = d.hooks := rfl
@[simp] theorem Device.modCal_log (f : CalCtx → CalCtx) : (d.modCal f).log = d.log := rfl
@[simp] theorem Device.modCal_logDropped (f : CalCtx → CalCtx) : (d.modCal f).logDropped = d.logDropped := rfl
@[simp] theorem Device.modCal_logSec (f : CalCtx → CalCtx) : (d.modCal f).logSec = d.logSec := rfl
@[simp] theorem Device.modCal_logCnt (f : CalCtx → CalCtx) : (d.modCal f).logCnt = d.logCnt := rfl
@[simp] theorem Device.modCal_chan (f : CalCtx → CalCtx) : (d.modCal f).chan = d.chan := rfl
@[simp] theorem Device.modCal_peb (f : CalCtx → CalCtx) : (d.modCal f).peb = d.peb := rfl
@[simp] theorem Device.modCal_str (f : CalCtx → CalCtx) : (d.modCal f).str = d.str := rfl
@[simp] theorem Device.modCal_cap (f : CalCtx → CalCtx) : (d.modCal f).cap = d.cap := rfl
@[simp] theorem Device.modCal_trg (f : CalCtx → CalCtx) : (d.modCal f).trg = d.trg := rfl
@[simp] theorem Device.modCal_trigout (f : CalCtx → CalCtx) : (d.modCal f).trigout = d.trigout := rfl
@[simp] theorem Device.modCal_strobe (f : CalCtx → CalCtx) : (d.modCal f).strobe = d.strobe := rfl
@[simp] theorem Device.modCal_grd (f : CalCtx → CalCtx) : (d.modCal f).grd = d.grd := rfl
@[simp] theorem Device.modCal_goHold (f : CalCtx → CalCtx) : (d.modCal f).goHold = d.goHold := rfl
@[simp] theorem Device.modCal_sup (f : CalCtx → CalCtx) : (d.modCal f).sup = d.sup := rfl
@[simp] theorem Device.modCal_regionReset (f : CalCtx → CalCtx) : (d.modCal f).regionReset = d.regionReset := rfl
@[simp] theorem Device.modCal_wdExpired (f : CalCtx → CalCtx) : (d.modCal f).wdExpired = d.wdExpired := rfl
@[simp] theorem Device.modCal_safeAt (f : CalCtx → CalCtx) : (d.modCal f).safeAt = d.safeAt := rfl
@[simp] theorem Device.modCal_keyReq (f : CalCtx → CalCtx) : (d.modCal f).keyReq = d.keyReq := rfl
@[simp] theorem Device.modCal_twin (f : CalCtx → CalCtx) : (d.modCal f).twin = d.twin := rfl
@[simp] theorem Device.modCal_ucs (f : CalCtx → CalCtx) : (d.modCal f).ucs = d.ucs := rfl
@[simp] theorem Device.modCal_ivm (f : CalCtx → CalCtx) : (d.modCal f).ivm = d.ivm := rfl
@[simp] theorem Device.modCal_tsCe (f : CalCtx → CalCtx) : (d.modCal f).tsCe = d.tsCe := rfl
@[simp] theorem Device.modCal_ivmq (f : CalCtx → CalCtx) : (d.modCal f).ivmq = d.ivmq := rfl
@[simp] theorem Device.modCal_taglatch (f : CalCtx → CalCtx) : (d.modCal f).taglatch = d.taglatch := rfl
@[simp] theorem Device.modCal_rows (f : CalCtx → CalCtx) : (d.modCal f).rows = d.rows := rfl
@[simp] theorem Device.modCal_mch (f : CalCtx → CalCtx) : (d.modCal f).mch = d.mch := rfl
@[simp] theorem Device.modCal_ldg (f : CalCtx → CalCtx) : (d.modCal f).ldg = d.ldg := rfl
@[simp] theorem Device.modCal_disp (f : CalCtx → CalCtx) : (d.modCal f).disp = d.disp := rfl
@[simp] theorem Device.modCal_intc (f : CalCtx → CalCtx) : (d.modCal f).intc = d.intc := rfl
@[simp] theorem Device.modCal_links (f : CalCtx → CalCtx) : (d.modCal f).links = d.links := rfl
@[simp] theorem Device.modCal_trs (f : CalCtx → CalCtx) : (d.modCal f).trs = d.trs := rfl
@[simp] theorem Device.modCal_evq (f : CalCtx → CalCtx) : (d.modCal f).evq = d.evq := rfl
@[simp] theorem Device.modCal_via (f : CalCtx → CalCtx) : (d.modCal f).via = d.via := rfl
@[simp] theorem Device.modCal_pwr (f : CalCtx → CalCtx) : (d.modCal f).pwr = d.pwr := rfl
@[simp] theorem Device.modCal_key (f : CalCtx → CalCtx) : (d.modCal f).key = d.key := rfl
@[simp] theorem Device.modCal_tap (f : CalCtx → CalCtx) : (d.modCal f).tap = d.tap := rfl

/-! ### send -/

@[simp] theorem Device.send_regs (o : Out) : (d.send o).regs = d.regs := rfl
@[simp] theorem Device.send_applied (o : Out) : (d.send o).applied = d.applied := rfl
@[simp] theorem Device.send_trimB (o : Out) : (d.send o).trimB = d.trimB := rfl
@[simp] theorem Device.send_trimA (o : Out) : (d.send o).trimA = d.trimA := rfl
@[simp] theorem Device.send_poison (o : Out) : (d.send o).poison = d.poison := rfl
@[simp] theorem Device.send_mem (o : Out) : (d.send o).mem = d.mem := rfl
@[simp] theorem Device.send_mpoison (o : Out) : (d.send o).mpoison = d.mpoison := rfl
@[simp] theorem Device.send_sram (o : Out) : (d.send o).sram = d.sram := rfl
@[simp] theorem Device.send_ttime (o : Out) : (d.send o).ttime = d.ttime := rfl
@[simp] theorem Device.send_wlatch (o : Out) : (d.send o).wlatch = d.wlatch := rfl
@[simp] theorem Device.send_rlatch (o : Out) : (d.send o).rlatch = d.rlatch := rfl
@[simp] theorem Device.send_elatch (o : Out) : (d.send o).elatch = d.elatch := rfl
@[simp] theorem Device.send_last (o : Out) : (d.send o).last = d.last := rfl
@[simp] theorem Device.send_free (o : Out) : (d.send o).free = d.free := rfl
@[simp] theorem Device.send_evbuf (o : Out) : (d.send o).evbuf = d.evbuf := rfl
@[simp] theorem Device.send_evlost (o : Out) : (d.send o).evlost = d.evlost := rfl
@[simp] theorem Device.send_hooks (o : Out) : (d.send o).hooks = d.hooks := rfl
@[simp] theorem Device.send_log (o : Out) : (d.send o).log = d.log := rfl
@[simp] theorem Device.send_logDropped (o : Out) : (d.send o).logDropped = d.logDropped := rfl
@[simp] theorem Device.send_logSec (o : Out) : (d.send o).logSec = d.logSec := rfl
@[simp] theorem Device.send_logCnt (o : Out) : (d.send o).logCnt = d.logCnt := rfl
@[simp] theorem Device.send_chan (o : Out) : (d.send o).chan = d.chan := rfl
@[simp] theorem Device.send_peb (o : Out) : (d.send o).peb = d.peb := rfl
@[simp] theorem Device.send_str (o : Out) : (d.send o).str = d.str := rfl
@[simp] theorem Device.send_cap (o : Out) : (d.send o).cap = d.cap := rfl
@[simp] theorem Device.send_trg (o : Out) : (d.send o).trg = d.trg := rfl
@[simp] theorem Device.send_trigout (o : Out) : (d.send o).trigout = d.trigout := rfl
@[simp] theorem Device.send_cal (o : Out) : (d.send o).cal = d.cal := rfl
@[simp] theorem Device.send_strobe (o : Out) : (d.send o).strobe = d.strobe := rfl
@[simp] theorem Device.send_grd (o : Out) : (d.send o).grd = d.grd := rfl
@[simp] theorem Device.send_goHold (o : Out) : (d.send o).goHold = d.goHold := rfl
@[simp] theorem Device.send_sup (o : Out) : (d.send o).sup = d.sup := rfl
@[simp] theorem Device.send_regionReset (o : Out) : (d.send o).regionReset = d.regionReset := rfl
@[simp] theorem Device.send_wdExpired (o : Out) : (d.send o).wdExpired = d.wdExpired := rfl
@[simp] theorem Device.send_safeAt (o : Out) : (d.send o).safeAt = d.safeAt := rfl
@[simp] theorem Device.send_keyReq (o : Out) : (d.send o).keyReq = d.keyReq := rfl
@[simp] theorem Device.send_twin (o : Out) : (d.send o).twin = d.twin := rfl
@[simp] theorem Device.send_ucs (o : Out) : (d.send o).ucs = d.ucs := rfl
@[simp] theorem Device.send_ivm (o : Out) : (d.send o).ivm = d.ivm := rfl
@[simp] theorem Device.send_tsCe (o : Out) : (d.send o).tsCe = d.tsCe := rfl
@[simp] theorem Device.send_ivmq (o : Out) : (d.send o).ivmq = d.ivmq := rfl
@[simp] theorem Device.send_taglatch (o : Out) : (d.send o).taglatch = d.taglatch := rfl
@[simp] theorem Device.send_rows (o : Out) : (d.send o).rows = d.rows := rfl
@[simp] theorem Device.send_mch (o : Out) : (d.send o).mch = d.mch := rfl
@[simp] theorem Device.send_ldg (o : Out) : (d.send o).ldg = d.ldg := rfl
@[simp] theorem Device.send_disp (o : Out) : (d.send o).disp = d.disp := rfl
@[simp] theorem Device.send_intc (o : Out) : (d.send o).intc = d.intc := rfl
@[simp] theorem Device.send_links (o : Out) : (d.send o).links = d.links := rfl
@[simp] theorem Device.send_trs (o : Out) : (d.send o).trs = d.trs := rfl
@[simp] theorem Device.send_evq (o : Out) : (d.send o).evq = d.evq := rfl
@[simp] theorem Device.send_via (o : Out) : (d.send o).via = d.via := rfl
@[simp] theorem Device.send_pwr (o : Out) : (d.send o).pwr = d.pwr := rfl
@[simp] theorem Device.send_key (o : Out) : (d.send o).key = d.key := rfl
@[simp] theorem Device.send_tap (o : Out) : (d.send o).tap = d.tap := rfl

/-! ### hook -/

@[simp] theorem Device.hook_regs (h v : Nat) : (d.hook h v).regs = d.regs := rfl
@[simp] theorem Device.hook_applied (h v : Nat) : (d.hook h v).applied = d.applied := rfl
@[simp] theorem Device.hook_trimB (h v : Nat) : (d.hook h v).trimB = d.trimB := rfl
@[simp] theorem Device.hook_trimA (h v : Nat) : (d.hook h v).trimA = d.trimA := rfl
@[simp] theorem Device.hook_poison (h v : Nat) : (d.hook h v).poison = d.poison := rfl
@[simp] theorem Device.hook_mem (h v : Nat) : (d.hook h v).mem = d.mem := rfl
@[simp] theorem Device.hook_mpoison (h v : Nat) : (d.hook h v).mpoison = d.mpoison := rfl
@[simp] theorem Device.hook_sram (h v : Nat) : (d.hook h v).sram = d.sram := rfl
@[simp] theorem Device.hook_ttime (h v : Nat) : (d.hook h v).ttime = d.ttime := rfl
@[simp] theorem Device.hook_wlatch (h v : Nat) : (d.hook h v).wlatch = d.wlatch := rfl
@[simp] theorem Device.hook_rlatch (h v : Nat) : (d.hook h v).rlatch = d.rlatch := rfl
@[simp] theorem Device.hook_elatch (h v : Nat) : (d.hook h v).elatch = d.elatch := rfl
@[simp] theorem Device.hook_last (h v : Nat) : (d.hook h v).last = d.last := rfl
@[simp] theorem Device.hook_out (h v : Nat) : (d.hook h v).out = d.out := rfl
@[simp] theorem Device.hook_free (h v : Nat) : (d.hook h v).free = d.free := rfl
@[simp] theorem Device.hook_evbuf (h v : Nat) : (d.hook h v).evbuf = d.evbuf := rfl
@[simp] theorem Device.hook_evlost (h v : Nat) : (d.hook h v).evlost = d.evlost := rfl
@[simp] theorem Device.hook_log (h v : Nat) : (d.hook h v).log = d.log := rfl
@[simp] theorem Device.hook_logDropped (h v : Nat) : (d.hook h v).logDropped = d.logDropped := rfl
@[simp] theorem Device.hook_logSec (h v : Nat) : (d.hook h v).logSec = d.logSec := rfl
@[simp] theorem Device.hook_logCnt (h v : Nat) : (d.hook h v).logCnt = d.logCnt := rfl
@[simp] theorem Device.hook_chan (h v : Nat) : (d.hook h v).chan = d.chan := rfl
@[simp] theorem Device.hook_peb (h v : Nat) : (d.hook h v).peb = d.peb := rfl
@[simp] theorem Device.hook_str (h v : Nat) : (d.hook h v).str = d.str := rfl
@[simp] theorem Device.hook_cap (h v : Nat) : (d.hook h v).cap = d.cap := rfl
@[simp] theorem Device.hook_trg (h v : Nat) : (d.hook h v).trg = d.trg := rfl
@[simp] theorem Device.hook_trigout (h v : Nat) : (d.hook h v).trigout = d.trigout := rfl
@[simp] theorem Device.hook_cal (h v : Nat) : (d.hook h v).cal = d.cal := rfl
@[simp] theorem Device.hook_strobe (h v : Nat) : (d.hook h v).strobe = d.strobe := rfl
@[simp] theorem Device.hook_grd (h v : Nat) : (d.hook h v).grd = d.grd := rfl
@[simp] theorem Device.hook_goHold (h v : Nat) : (d.hook h v).goHold = d.goHold := rfl
@[simp] theorem Device.hook_sup (h v : Nat) : (d.hook h v).sup = d.sup := rfl
@[simp] theorem Device.hook_regionReset (h v : Nat) : (d.hook h v).regionReset = d.regionReset := rfl
@[simp] theorem Device.hook_wdExpired (h v : Nat) : (d.hook h v).wdExpired = d.wdExpired := rfl
@[simp] theorem Device.hook_safeAt (h v : Nat) : (d.hook h v).safeAt = d.safeAt := rfl
@[simp] theorem Device.hook_keyReq (h v : Nat) : (d.hook h v).keyReq = d.keyReq := rfl
@[simp] theorem Device.hook_twin (h v : Nat) : (d.hook h v).twin = d.twin := rfl
@[simp] theorem Device.hook_ucs (h v : Nat) : (d.hook h v).ucs = d.ucs := rfl
@[simp] theorem Device.hook_ivm (h v : Nat) : (d.hook h v).ivm = d.ivm := rfl
@[simp] theorem Device.hook_tsCe (h v : Nat) : (d.hook h v).tsCe = d.tsCe := rfl
@[simp] theorem Device.hook_ivmq (h v : Nat) : (d.hook h v).ivmq = d.ivmq := rfl
@[simp] theorem Device.hook_taglatch (h v : Nat) : (d.hook h v).taglatch = d.taglatch := rfl
@[simp] theorem Device.hook_rows (h v : Nat) : (d.hook h v).rows = d.rows := rfl
@[simp] theorem Device.hook_mch (h v : Nat) : (d.hook h v).mch = d.mch := rfl
@[simp] theorem Device.hook_ldg (h v : Nat) : (d.hook h v).ldg = d.ldg := rfl
@[simp] theorem Device.hook_disp (h v : Nat) : (d.hook h v).disp = d.disp := rfl
@[simp] theorem Device.hook_intc (h v : Nat) : (d.hook h v).intc = d.intc := rfl
@[simp] theorem Device.hook_links (h v : Nat) : (d.hook h v).links = d.links := rfl
@[simp] theorem Device.hook_trs (h v : Nat) : (d.hook h v).trs = d.trs := rfl
@[simp] theorem Device.hook_evq (h v : Nat) : (d.hook h v).evq = d.evq := rfl
@[simp] theorem Device.hook_via (h v : Nat) : (d.hook h v).via = d.via := rfl
@[simp] theorem Device.hook_pwr (h v : Nat) : (d.hook h v).pwr = d.pwr := rfl
@[simp] theorem Device.hook_key (h v : Nat) : (d.hook h v).key = d.key := rfl
@[simp] theorem Device.hook_tap (h v : Nat) : (d.hook h v).tap = d.tap := rfl

end Sys2Proof.Machine
end

