-- ==== Sys2Proof/Laws/Tab.lean ====
section
/-! SUPPORT. The laws of the sparse table: reading after a change, and the canonical form. -/

namespace Sys2Proof

variable {α : Type} {dflt : Nat → α}

/-! ## Reading -/

theorem Tab.get_put_same (t : Tab α) (k : Nat) (v : α) : Tab.get dflt (Tab.put t k v) k = v := by
  induction t with
  | nil => simp [Tab.put, Tab.get]
  | cons e t ih =>
    obtain ⟨k', v'⟩ := e
    simp only [Tab.put]
    split
    · simp [Tab.get]
    · split
      · simp [Tab.get]
      · next h => simp [Tab.get, h, ih]

theorem Tab.get_put_other (t : Tab α) {k j : Nat} (v : α) (h : j ≠ k) : Tab.get dflt (Tab.put t k v) j = Tab.get dflt t j := by
  induction t with
  | nil => simp [Tab.put, Tab.get, h]
  | cons e t ih =>
    obtain ⟨k', v'⟩ := e
    simp only [Tab.put]
    split
    · simp [Tab.get, h]
    · split
      · next h1 => subst h1; simp [Tab.get, h]
      · simp [Tab.get, ih]

theorem Tab.get_erase_same (t : Tab α) (k : Nat) : Tab.get dflt (Tab.erase t k) k = dflt k := by
  induction t with
  | nil => rfl
  | cons e t ih =>
    obtain ⟨k', v'⟩ := e
    simp only [Tab.erase]
    split
    · exact ih
    · next h => simp [Tab.get, h, ih]

theorem Tab.get_erase_other (t : Tab α) {k j : Nat} (h : j ≠ k) : Tab.get dflt (Tab.erase t k) j = Tab.get dflt t j := by
  induction t with
  | nil => rfl
  | cons e t ih =>
    obtain ⟨k', v'⟩ := e
    simp only [Tab.erase]
    split
    · next h1 => subst h1; simp [Tab.get, h, ih]
    · simp [Tab.get, ih]

/-- A value that has been set is read back. -/
@[simp] theorem Tab.get_set_same [DecidableEq α] (t : Tab α) (k : Nat) (v : α) : Tab.get dflt (Tab.set dflt t k v) k = v := by
  unfold Tab.set
  split
  · next h => rw [Tab.get_erase_same, h]
  · exact Tab.get_put_same t k v

/-- Setting one key leaves every other key as it was. -/
theorem Tab.get_set_other [DecidableEq α] (t : Tab α) {k j : Nat} (v : α) (h : j ≠ k) :
    Tab.get dflt (Tab.set dflt t k v) j = Tab.get dflt t j := by
  unfold Tab.set
  split
  · exact Tab.get_erase_other t h
  · exact Tab.get_put_other t v h

/-- What a table holds after a value has been set. -/
theorem Tab.get_set [DecidableEq α] (t : Tab α) (k j : Nat) (v : α) :
    Tab.get dflt (Tab.set dflt t k v) j = if j = k then v else Tab.get dflt t j := by
  split
  · next h => subst h; simp
  · next h => exact Tab.get_set_other t v h

/-- Dropped keys return to their defaults; the others stay. -/
theorem Tab.get_drop (p : Nat → Bool) (t : Tab α) (j : Nat) :
    Tab.get dflt (Tab.drop p t) j = if p j then dflt j else Tab.get dflt t j := by
  induction t with
  | nil => simp [Tab.drop, Tab.get]
  | cons e t ih =>
    obtain ⟨k, v⟩ := e
    unfold Tab.drop at ih ⊢
    by_cases hk : p k
    · simp only [List.filter, hk, Bool.not_true, Tab.get]
      rw [ih]
      by_cases hj : j = k
      · subst hj; simp [hk]
      · simp [hj]
    · simp only [List.filter, hk, Bool.not_false, Tab.get]
      by_cases hj : j = k
      · subst hj; simp [hk]
      · simp [hj, ih]

@[simp] theorem Tab.get_nil (k : Nat) : Tab.get dflt [] k = dflt k := rfl

/-! ## The canonical form -/

/-- The canonical form, as a statement about the list: keys rise, and no entry is a default. -/
theorem Tab.wf_iff [DecidableEq α] (t : Tab α) :
    Tab.wf dflt t = true ↔ t.Pairwise (fun a b => a.1 < b.1) ∧ ∀ e ∈ t, e.2 ≠ dflt e.1 := by
  induction t with
  | nil => simp [Tab.wf]
  | cons e t ih =>
    obtain ⟨k, v⟩ := e
    cases t with
    | nil => simp [Tab.wf]
    | cons e' t =>
      obtain ⟨k', v'⟩ := e'
      simp only [Tab.wf, Bool.and_eq_true, decide_eq_true_eq, ih]
      constructor
      · rintro ⟨⟨hv, hk⟩, hp, hd⟩
        refine ⟨List.pairwise_cons.2 ⟨?_, hp⟩, ?_⟩
        · intro a ha
          rcases List.mem_cons.1 ha with rfl | ha
          · exact hk
          · exact lt_trans hk ((List.pairwise_cons.1 hp).1 a ha)
        · intro e he
          rcases List.mem_cons.1 he with rfl | he
          · exact hv
          · exact hd e he
      · rintro ⟨hp, hd⟩
        have hp' := List.pairwise_cons.1 hp
        exact ⟨⟨hd (k, v) (by simp), hp'.1 (k', v') (by simp)⟩, hp'.2, fun e he => hd e (List.mem_cons_of_mem _ he)⟩

theorem Tab.mem_erase {t : Tab α} {k : Nat} {e : Nat × α} : e ∈ Tab.erase t k ↔ e ∈ t ∧ e.1 ≠ k := by
  induction t with
  | nil => simp [Tab.erase]
  | cons e' t ih =>
    obtain ⟨k', v'⟩ := e'
    simp only [Tab.erase]
    split
    · next h =>
      subst h
      rw [ih, List.mem_cons]
      constructor
      · rintro ⟨h1, h2⟩; exact ⟨Or.inr h1, h2⟩
      · rintro ⟨rfl | h1, h2⟩
        · exact absurd rfl h2
        · exact ⟨h1, h2⟩
    · next h =>
      rw [List.mem_cons, List.mem_cons, ih]
      constructor
      · rintro (rfl | ⟨h1, h2⟩)
        · exact ⟨Or.inl rfl, fun hh => h hh.symm⟩
        · exact ⟨Or.inr h1, h2⟩
      · rintro ⟨rfl | h1, h2⟩
        · exact Or.inl rfl
        · exact Or.inr ⟨h1, h2⟩

theorem Tab.erase_sublist (t : Tab α) (k : Nat) : List.Sublist (Tab.erase t k) t := by
  induction t with
  | nil => exact List.Sublist.slnil
  | cons e t ih =>
    obtain ⟨k', v'⟩ := e
    simp only [Tab.erase]
    split
    · exact List.Sublist.cons _ ih
    · exact List.Sublist.cons_cons _ ih

theorem Tab.mem_put {t : Tab α} {k : Nat} {v : α} {e : Nat × α} (h : e ∈ Tab.put t k v) : e = (k, v) ∨ e ∈ t := by
  induction t with
  | nil => simpa [Tab.put] using h
  | cons e' t ih =>
    obtain ⟨k', v'⟩ := e'
    simp only [Tab.put] at h
    split at h
    · rcases List.mem_cons.1 h with h | h
      · exact Or.inl h
      · exact Or.inr h
    · split at h
      · rcases List.mem_cons.1 h with h | h
        · exact Or.inl h
        · exact Or.inr (List.mem_cons_of_mem _ h)
      · rcases List.mem_cons.1 h with h | h
        · exact Or.inr (h ▸ List.mem_cons_self)
        · rcases ih h with h | h
          · exact Or.inl h
          · exact Or.inr (List.mem_cons_of_mem _ h)

theorem Tab.put_sorted {t : Tab α} (k : Nat) (v : α) (h : t.Pairwise (fun a b => a.1 < b.1)) :
    (Tab.put t k v).Pairwise (fun a b => a.1 < b.1) := by
  induction t with
  | nil => simp [Tab.put]
  | cons e t ih =>
    obtain ⟨k', v'⟩ := e
    have hp := List.pairwise_cons.1 h
    simp only [Tab.put]
    split
    · next hk =>
      refine List.pairwise_cons.2 ⟨?_, h⟩
      intro a ha
      rcases List.mem_cons.1 ha with rfl | ha
      · exact hk
      · exact lt_trans hk (hp.1 a ha)
    · split
      · next hk => subst hk; exact List.pairwise_cons.2 ⟨hp.1, hp.2⟩
      · next h1 h2 =>
        refine List.pairwise_cons.2 ⟨?_, ih hp.2⟩
        intro a ha
        rcases Tab.mem_put ha with rfl | ha
        · exact lt_of_le_of_ne (not_lt.1 h1) (fun hh => h2 hh.symm)
        · exact hp.1 a ha

/-- Setting a value keeps the canonical form. -/
theorem Tab.set_wf [DecidableEq α] {t : Tab α} (k : Nat) (v : α) (h : Tab.wf dflt t = true) : Tab.wf dflt (Tab.set dflt t k v) = true := by
  rw [Tab.wf_iff] at h ⊢
  unfold Tab.set
  split
  · exact ⟨h.1.sublist (Tab.erase_sublist t k), fun e he => h.2 e (Tab.mem_erase.1 he).1⟩
  · next hv =>
    refine ⟨Tab.put_sorted k v h.1, fun e he => ?_⟩
    rcases Tab.mem_put he with rfl | he
    · exact hv
    · exact h.2 e he

/-- Dropping keys keeps the canonical form. -/
theorem Tab.drop_wf [DecidableEq α] {t : Tab α} (p : Nat → Bool) (h : Tab.wf dflt t = true) : Tab.wf dflt (Tab.drop p t) = true := by
  rw [Tab.wf_iff] at h ⊢
  exact ⟨h.1.sublist List.filter_sublist, fun e he => h.2 e (List.mem_filter.1 he).1⟩

@[simp] theorem Tab.wf_nil [DecidableEq α] : Tab.wf dflt ([] : Tab α) = true := rfl

end Sys2Proof
end

