-- ==== Sys2Proof/Laws/Ops.lean ====
section
/-! SUPPORT. What each shared operation does: registers and fields, vector memory, page events, the end of a command. -/

namespace Sys2Proof.Machine

variable (d : Device)

/-! ## Registers -/

@[simp] theorem Device.reg_setReg (a b : Nat) (v : Word) : (d.setReg a v).reg b = if b = a then v else d.reg b :=
  Tab.get_set d.regs a b v

@[simp] theorem Device.setRegN_eq (a v : Nat) : d.setRegN a v = d.setReg a (BitVec.ofNat 32 v) := rfl
@[simp] theorem Device.setFld_eq (a lo n v : Nat) : d.setFld a lo n v = d.setReg a ((d.reg a).put lo n v) := rfl
@[simp] theorem Device.setBit_eq (a i : Nat) (b : Bool) : d.setBit a i b = d.setReg a ((d.reg a).putBit i b) := rfl
@[simp] theorem Device.regN_eq (a : Nat) : d.regN a = (d.reg a).toNat := rfl
@[simp] theorem Device.fld_eq (a lo n : Nat) : d.fld a lo n = (d.reg a).get lo n := rfl
@[simp] theorem Device.bit_eq (a i : Nat) : d.bit a i = (d.reg a).bit i := rfl
@[simp] theorem Device.event_eq (p b : Nat) :
    d.event p b = d.setReg (Reg.PG_EVT_RAW p) ((d.reg (Reg.PG_EVT_RAW p)).putBit b true) := rfl
@[simp] theorem Device.addSat_eq (a lo n k : Nat) :
    d.addSat a lo n k = d.setReg a ((d.reg a).put lo n (satAdd n ((d.reg a).get lo n) k)) := rfl

@[simp] theorem Device.reg_setApp (a b : Nat) (v : Word) : (d.setApp a v).reg b = d.reg b := rfl
@[simp] theorem Device.reg_memStore (a n v b : Nat) : (d.memStore a n v).reg b = d.reg b := rfl
@[simp] theorem Device.reg_setWinUE (a b : Nat) (v : Bool) : (d.setWinUE a v).reg b = d.reg b := rfl
@[simp] theorem Device.reg_setChan (n b : Nat) (c : ChanCtx) : (d.setChan n c).reg b = d.reg b := rfl
@[simp] theorem Device.reg_setPeb (n b : Nat) (c : PebPort) : (d.setPeb n c).reg b = d.reg b := rfl
@[simp] theorem Device.reg_setStr (n b : Nat) (c : StrCtx) : (d.setStr n c).reg b = d.reg b := rfl
@[simp] theorem Device.reg_setCap (n b : Nat) (c : CapCtx) : (d.setCap n c).reg b = d.reg b := rfl
@[simp] theorem Device.reg_setTrg (n b : Nat) (c : TrgCtx) : (d.setTrg n c).reg b = d.reg b := rfl
@[simp] theorem Device.reg_modIntc (b : Nat) (f : IntcCtx → IntcCtx) : (d.modIntc f).reg b = d.reg b := rfl
@[simp] theorem Device.reg_modDisp (b : Nat) (f : DispCtx → DispCtx) : (d.modDisp f).reg b = d.reg b := rfl
@[simp] theorem Device.reg_modTrs (b : Nat) (f : TrsCtx → TrsCtx) : (d.modTrs f).reg b = d.reg b := rfl
@[simp] theorem Device.reg_modKey (b : Nat) (f : KeyCtx → KeyCtx) : (d.modKey f).reg b = d.reg b := rfl
@[simp] theorem Device.reg_modTwin (b : Nat) (f : TwinCtx → TwinCtx) : (d.modTwin f).reg b = d.reg b := rfl
@[simp] theorem Device.reg_modCal (b : Nat) (f : CalCtx → CalCtx) : (d.modCal f).reg b = d.reg b := rfl
@[simp] theorem Device.reg_send (o : Out) (b : Nat) : (d.send o).reg b = d.reg b := rfl
@[simp] theorem Device.reg_hook (h v b : Nat) : (d.hook h v).reg b = d.reg b := rfl

/-- A device's registers depend on its register table alone. -/
theorem Device.reg_congr {d e : Device} (h : e.regs = d.regs) (a : Nat) : e.reg a = d.reg a := by
  unfold Device.reg; rw [h]

/-! ## Contexts -/

@[simp] theorem Device.strOf_setStr (s j : Nat) (c : StrCtx) : (d.setStr s c).strOf j = if j = s then c else d.strOf j :=
  Tab.get_set d.str s j c
@[simp] theorem Device.strOf_setReg (a j : Nat) (v : Word) : (d.setReg a v).strOf j = d.strOf j := rfl
@[simp] theorem Device.chanOf_setChan (s j : Nat) (c : ChanCtx) : (d.setChan s c).chanOf j = if j = s then c else d.chanOf j :=
  Tab.get_set d.chan s j c
@[simp] theorem Device.pebOf_setPeb (s j : Nat) (c : PebPort) : (d.setPeb s c).pebOf j = if j = s then c else d.pebOf j :=
  Tab.get_set d.peb s j c
@[simp] theorem Device.capOf_setCap (s j : Nat) (c : CapCtx) : (d.setCap s c).capOf j = if j = s then c else d.capOf j :=
  Tab.get_set d.cap s j c
@[simp] theorem Device.trgOf_setTrg (s j : Nat) (c : TrgCtx) : (d.setTrg s c).trgOf j = if j = s then c else d.trgOf j :=
  Tab.get_set d.trg s j c

/-! ## Vector memory -/

/-- A store changes the bytes it covers and no other. -/
theorem memByte_memPut (m : List Host.Cell) (a v n b : Nat) :
    memByte (memPut m a v n) b = if a ≤ b ∧ b < a + n then BitVec.ofNat 8 (v / 256 ^ (b - a)) else memByte m b := by
  induction n generalizing m a v with
  | zero => simp [memPut]
  | succ n ih =>
    rw [memPut, ih]
    unfold memByte memSetByte
    rw [Tab.get_set]
    by_cases h : b = a
    · subst h
      have h2 : b ≤ b ∧ b < b + (n + 1) := by omega
      simp [h2]
    · by_cases h2 : a + 1 ≤ b ∧ b < a + 1 + n
      · have h3 : a ≤ b ∧ b < a + (n + 1) := by omega
        have h4 : b - a = (b - (a + 1)) + 1 := by omega
        rw [if_pos h2, if_pos h3, h4, pow_succ, Nat.mul_comm, ← Nat.div_div_eq_div_mul]
      · have h3 : ¬(a ≤ b ∧ b < a + (n + 1)) := by omega
        rw [if_neg h2, if_neg h3, if_neg h]

/-- A store outside a byte leaves it. -/
theorem memByte_memPut_outside (m : List Host.Cell) {a v n b : Nat} (h : b < a ∨ a + n ≤ b) : memByte (memPut m a v n) b = memByte m b := by
  rw [memByte_memPut, if_neg (by omega)]

/-- A store keeps the canonical form of memory. -/
theorem memPut_wf {m : List Host.Cell} (a v n : Nat) (h : Tab.wf memDefault m = true) : Tab.wf memDefault (memPut m a v n) = true := by
  induction n generalizing m a v with
  | zero => exact h
  | succ n ih => exact ih _ _ (Tab.set_wf _ _ h)

/-! ## The end of a command -/

theorem foldl_keep {β γ : Type} (P : β → Prop) (f : β → γ → β) (hf : ∀ b c, P b → P (f b c)) (l : List γ) (b : β) (h : P b) :
    P (l.foldl f b) := by
  induction l generalizing b with
  | nil => exact h
  | cons c l ih => exact ih _ (hf b c h)

theorem Device.withdraw_eq (n : Nat) : ∃ c, d.withdraw n = { d with intc := c } := by
  unfold Device.withdraw
  split
  · exact ⟨_, rfl⟩
  · exact ⟨d.intc, rfl⟩

/-- The end of a command changes the interrupt controller's context alone. -/
theorem Device.settle_eq : ∃ c, d.settle = { d with intc := c } := by
  have key : ∀ (l : List Nat) (f : Device → Nat → Device), (∀ e n, ∃ c, f e n = { e with intc := c }) →
      ∀ e : Device, (∃ c, e = { d with intc := c }) → ∃ c, l.foldl f e = { d with intc := c } := by
    intro l f hf e he
    refine foldl_keep (fun e => ∃ c, e = { d with intc := c }) f ?_ l e he
    rintro b n ⟨c, rfl⟩
    obtain ⟨c', h⟩ := hf { d with intc := c } n
    exact ⟨c', h⟩
  unfold Device.settle
  split
  · exact ⟨d.intc, rfl⟩
  · unfold Device.intcSync
    refine key _ _ ?_ _ (key _ _ ?_ _ ⟨_, rfl⟩)
    · intro e n
      split
      · split
        · exact ⟨e.intc, rfl⟩
        · exact e.withdraw_eq n
      · exact ⟨e.intc, rfl⟩
    · intro e n; exact ⟨_, rfl⟩

/-- A command that moves no time, hands no event to a meter and meets no unreadable descriptor leaves nothing to catch up with. -/
theorem Device.caughtUp_still {d₀ d : Device} (ht : d.ttime = d₀.ttime) (hq : d.ivmq = d₀.ivmq) (hb : d.disp.bad = d₀.disp.bad) :
    d₀.caughtUp d = d := by
  simp [Device.caughtUp, ht, hq, hb]

/-- A device operation that leaves nothing to catch up with is the whole effect of its command but for the interrupt controller's context. -/
theorem State.run_still (s : State) (f : Device → Device) (ht : (f { s.dev with out := [] }).ttime = s.dev.ttime)
    (hq : (f { s.dev with out := [] }).ivmq = s.dev.ivmq) (hb : (f { s.dev with out := [] }).disp.bad = s.dev.disp.bad) :
    s.run f = .next { s with dev := (f { s.dev with out := [] }).settle } := by
  unfold State.run
  rw [Device.caughtUp_still ht hq hb]

@[simp] theorem Device.settle_ivmq : d.settle.ivmq = d.ivmq := by obtain ⟨c, h⟩ := d.settle_eq; rw [h]

@[simp] theorem Device.settle_reg (a : Nat) : d.settle.reg a = d.reg a := by
  obtain ⟨c, h⟩ := d.settle_eq; rw [h]; rfl

@[simp] theorem Device.settle_regs : d.settle.regs = d.regs := by obtain ⟨c, h⟩ := d.settle_eq; rw [h]
@[simp] theorem Device.settle_applied : d.settle.applied = d.applied := by obtain ⟨c, h⟩ := d.settle_eq; rw [h]
@[simp] theorem Device.settle_trimB : d.settle.trimB = d.trimB := by obtain ⟨c, h⟩ := d.settle_eq; rw [h]
@[simp] theorem Device.settle_trimA : d.settle.trimA = d.trimA := by obtain ⟨c, h⟩ := d.settle_eq; rw [h]
@[simp] theorem Device.settle_poison : d.settle.poison = d.poison := by obtain ⟨c, h⟩ := d.settle_eq; rw [h]
@[simp] theorem Device.settle_mem : d.settle.mem = d.mem := by obtain ⟨c, h⟩ := d.settle_eq; rw [h]
@[simp] theorem Device.settle_mpoison : d.settle.mpoison = d.mpoison := by obtain ⟨c, h⟩ := d.settle_eq; rw [h]
@[simp] theorem Device.settle_ttime : d.settle.ttime = d.ttime := by obtain ⟨c, h⟩ := d.settle_eq; rw [h]
@[simp] theorem Device.settle_wlatch : d.settle.wlatch = d.wlatch := by obtain ⟨c, h⟩ := d.settle_eq; rw [h]
@[simp] theorem Device.settle_rlatch : d.settle.rlatch = d.rlatch := by obtain ⟨c, h⟩ := d.settle_eq; rw [h]
@[simp] theorem Device.settle_last : d.settle.last = d.last := by obtain ⟨c, h⟩ := d.settle_eq; rw [h]
@[simp] theorem Device.settle_out : d.settle.out = d.out := by obtain ⟨c, h⟩ := d.settle_eq; rw [h]
@[simp] theorem Device.settle_free : d.settle.free = d.free := by obtain ⟨c, h⟩ := d.settle_eq; rw [h]
@[simp] theorem Device.settle_evbuf : d.settle.evbuf = d.evbuf := by obtain ⟨c, h⟩ := d.settle_eq; rw [h]
@[simp] theorem Device.settle_evlost : d.settle.evlost = d.evlost := by obtain ⟨c, h⟩ := d.settle_eq; rw [h]
@[simp] theorem Device.settle_hooks : d.settle.hooks = d.hooks := by obtain ⟨c, h⟩ := d.settle_eq; rw [h]
@[simp] theorem Device.settle_log : d.settle.log = d.log := by obtain ⟨c, h⟩ := d.settle_eq; rw [h]
@[simp] theorem Device.settle_logDropped : d.settle.logDropped = d.logDropped := by obtain ⟨c, h⟩ := d.settle_eq; rw [h]
@[simp] theorem Device.settle_logSec : d.settle.logSec = d.logSec := by obtain ⟨c, h⟩ := d.settle_eq; rw [h]
@[simp] theorem Device.settle_logCnt : d.settle.logCnt = d.logCnt := by obtain ⟨c, h⟩ := d.settle_eq; rw [h]
@[simp] theorem Device.settle_chan : d.settle.chan = d.chan := by obtain ⟨c, h⟩ := d.settle_eq; rw [h]
@[simp] theorem Device.settle_peb : d.settle.peb = d.peb := by obtain ⟨c, h⟩ := d.settle_eq; rw [h]
@[simp] theorem Device.settle_str : d.settle.str = d.str := by obtain ⟨c, h⟩ := d.settle_eq; rw [h]
@[simp] theorem Device.settle_cap : d.settle.cap = d.cap := by obtain ⟨c, h⟩ := d.settle_eq; rw [h]
@[simp] theorem Device.settle_trg : d.settle.trg = d.trg := by obtain ⟨c, h⟩ := d.settle_eq; rw [h]
@[simp] theorem Device.settle_trigout : d.settle.trigout = d.trigout := by obtain ⟨c, h⟩ := d.settle_eq; rw [h]
@[simp] theorem Device.settle_cal : d.settle.cal = d.cal := by obtain ⟨c, h⟩ := d.settle_eq; rw [h]
@[simp] theorem Device.settle_strobe : d.settle.strobe = d.strobe := by obtain ⟨c, h⟩ := d.settle_eq; rw [h]
@[simp] theorem Device.settle_grd : d.settle.grd = d.grd := by obtain ⟨c, h⟩ := d.settle_eq; rw [h]
@[simp] theorem Device.settle_goHold : d.settle.goHold = d.goHold := by obtain ⟨c, h⟩ := d.settle_eq; rw [h]
@[simp] theorem Device.settle_sup : d.settle.sup = d.sup := by obtain ⟨c, h⟩ := d.settle_eq; rw [h]
@[simp] theorem Device.settle_regionReset : d.settle.regionReset = d.regionReset := by obtain ⟨c, h⟩ := d.settle_eq; rw [h]
@[simp] theorem Device.settle_wdExpired : d.settle.wdExpired = d.wdExpired := by obtain ⟨c, h⟩ := d.settle_eq; rw [h]
@[simp] theorem Device.settle_keyReq : d.settle.keyReq = d.keyReq := by obtain ⟨c, h⟩ := d.settle_eq; rw [h]
@[simp] theorem Device.settle_twin : d.settle.twin = d.twin := by obtain ⟨c, h⟩ := d.settle_eq; rw [h]
@[simp] theorem Device.settle_ucs : d.settle.ucs = d.ucs := by obtain ⟨c, h⟩ := d.settle_eq; rw [h]
@[simp] theorem Device.settle_ivm : d.settle.ivm = d.ivm := by obtain ⟨c, h⟩ := d.settle_eq; rw [h]
@[simp] theorem Device.settle_taglatch : d.settle.taglatch = d.taglatch := by obtain ⟨c, h⟩ := d.settle_eq; rw [h]
@[simp] theorem Device.settle_rows : d.settle.rows = d.rows := by obtain ⟨c, h⟩ := d.settle_eq; rw [h]
@[simp] theorem Device.settle_mch : d.settle.mch = d.mch := by obtain ⟨c, h⟩ := d.settle_eq; rw [h]
@[simp] theorem Device.settle_ldg : d.settle.ldg = d.ldg := by obtain ⟨c, h⟩ := d.settle_eq; rw [h]
@[simp] theorem Device.settle_disp : d.settle.disp = d.disp := by obtain ⟨c, h⟩ := d.settle_eq; rw [h]
@[simp] theorem Device.settle_links : d.settle.links = d.links := by obtain ⟨c, h⟩ := d.settle_eq; rw [h]
@[simp] theorem Device.settle_trs : d.settle.trs = d.trs := by obtain ⟨c, h⟩ := d.settle_eq; rw [h]
@[simp] theorem Device.settle_evq : d.settle.evq = d.evq := by obtain ⟨c, h⟩ := d.settle_eq; rw [h]
@[simp] theorem Device.settle_via : d.settle.via = d.via := by obtain ⟨c, h⟩ := d.settle_eq; rw [h]
@[simp] theorem Device.settle_pwr : d.settle.pwr = d.pwr := by obtain ⟨c, h⟩ := d.settle_eq; rw [h]
@[simp] theorem Device.settle_key : d.settle.key = d.key := by obtain ⟨c, h⟩ := d.settle_eq; rw [h]
@[simp] theorem Device.settle_tap : d.settle.tap = d.tap := by obtain ⟨c, h⟩ := d.settle_eq; rw [h]
@[simp] theorem Device.settle_strOf (n : Nat) : d.settle.strOf n = d.strOf n := by obtain ⟨c, h⟩ := d.settle_eq; rw [h]; rfl
@[simp] theorem Device.settle_chanOf (n : Nat) : d.settle.chanOf n = d.chanOf n := by obtain ⟨c, h⟩ := d.settle_eq; rw [h]; rfl
@[simp] theorem Device.settle_pebOf (n : Nat) : d.settle.pebOf n = d.pebOf n := by obtain ⟨c, h⟩ := d.settle_eq; rw [h]; rfl
@[simp] theorem Device.settle_capOf (n : Nat) : d.settle.capOf n = d.capOf n := by obtain ⟨c, h⟩ := d.settle_eq; rw [h]; rfl
@[simp] theorem Device.settle_trgOf (n : Nat) : d.settle.trgOf n = d.trgOf n := by obtain ⟨c, h⟩ := d.settle_eq; rw [h]; rfl

end Sys2Proof.Machine
end

