-- ==== Sys2Proof/Laws/Access.lean ====
section
/-! SUPPORT. What a register access does: one lemma for writes of block registers, one for header registers, and where pages lie. -/

namespace Sys2Proof.Machine

theorem foldl_id {β γ : Type} (f : β → γ → β) (b : β) (l : List γ) (h : ∀ c ∈ l, f b c = b) : l.foldl f b = b := by
  induction l with
  | nil => rfl
  | cons c l ih => simp only [List.foldl_cons, h c List.mem_cons_self]; exact ih (fun c hc => h c (List.mem_cons_of_mem _ hc))

/-- In a quiet device the passing of time brings nothing. -/
theorem Device.caughtUp_quiet {d₀ d : Device} (h : d.quiet = true) (hq : d.ivmq = d₀.ivmq) (hb : d.disp.bad = d₀.disp.bad) : d₀.caughtUp d = d := by
  simp only [Device.quiet, Bool.and_eq_true, decide_eq_true_eq, List.all_eq_true, List.mem_range, Bool.not_eq_true'] at h
  have h1 : d.settlePlay = d := by unfold Device.settlePlay; rw [if_pos (by simpa using h.1.1)]
  have h2 : d.burstSync = d := by unfold Device.burstSync; simp [h.1.2]
  have h3 : d.ivmSendAll = d := by
    unfold Device.ivmSendAll
    split
    · rfl
    · refine foldl_id _ _ _ (fun i hi => ?_)
      have := h.2 i (List.mem_range.mp hi)
      unfold Device.ivmSendDue
      rw [if_neg]
      rintro ⟨a, b, -⟩
      simp [a, b] at this
  unfold Device.caughtUp
  simp only [h1, ite_self, h2, hq, hb, if_true, h3]

theorem pageTable_count : ∀ p ∈ pageTable, p.base + 0x1000 * p.count ≤ 0x200000 := by decide

/-- A page lies below the windows and the core ports. -/
theorem pageAt_lt {a : Nat} {p : PageRow} {i : Nat} (h : pageAt a = some (p, i)) : a < 0x200000 := by
  unfold pageAt at h
  split at h
  · next r hr =>
    have h1 := List.find?_some hr
    have h2 := pageTable_count r (List.mem_of_find?_eq_some hr)
    simp at h1
    omega
  · cases h

/-- A write that is not to a mirrored target leaves no journal entry. -/
theorem Device.journal_unmirrored (d : Device) {a : Nat} (v : Nat) (h : mirrored a = false) : d.journal a v = d := by
  unfold Device.journal; simp [h]

@[simp] theorem reqNo_host : reqNo .host = 0 := rfl
@[simp] theorem reqNo_keystone : reqNo .keystone = 17 := rfl

theorem reqNo_eq_zero {q : Requester} : reqNo q = 0 ↔ q = .host := by
  cases q <;> simp [reqNo]

/-- An admitted write is not to a meter that is lent, its command register apart. -/
theorem Device.admitsWrite_lent {d : Device} {q : Requester} {a : Nat} {p : PageRow} {i : Nat} (h : d.admitsWrite q a = true)
    (hp : pageAt a = some (p, i)) (b : Bool) : (decide (p.block = .ivm) && decide (a % 0x1000 ≠ 0x48) && b && decide (d.ivmState i = 4)) = false := by
  simp only [Device.admitsWrite, hp, Bool.and_eq_true, Bool.not_eq_true'] at h
  have h := h.2
  revert h
  cases b <;> simp

/-- A write that is admitted is the page's own write, and nothing is journaled. -/
theorem Device.cmdWrite_page {d : Device} {q : Requester} {a : Nat} {p : PageRow} {i : Nat} (v : Word) (h : d.admitsWrite q a = true)
    (hp : pageAt a = some (p, i)) (h4 : a % 4 = 0) :
    d.cmdWrite q a v = { (d.pageWrite (reqNo q) p i a v.toNat).dev with last := ⟨0, (d.pageWrite (reqNo q) p i a v.toNat).error⟩ } := by
  have hlt := pageAt_lt hp
  simp only [Device.admitsWrite, hp, Bool.and_eq_true, decide_eq_true_eq, Bool.not_eq_true', Bool.and_eq_false_iff, decide_eq_false_iff_not,
    Decidable.not_not] at h
  obtain ⟨⟨⟨⟨hreach, hlock⟩, hm⟩, hwait⟩, -⟩ := h
  have hw : isWindow a = false := by unfold isWindow; simp; omega
  have hmir : ¬ (reqNo q = 0 ∧ (d.role = 2 ∨ d.role = 3) ∧ mirrored a = true) := by
    rintro ⟨h0, h1, h2⟩
    rw [reqNo_eq_zero] at h0
    rcases hm with (hm | hm) | hm
    · exact hm h0
    · omega
    · simp [hm] at h2
  have hwr : (d.writeAt (reqNo q) a v.toNat).dev = (d.pageWrite (reqNo q) p i a v.toNat).dev ∧
      (d.writeAt (reqNo q) a v.toNat).error = (d.pageWrite (reqNo q) p i a v.toNat).error := by
    unfold Device.writeAt
    rw [if_neg (by omega), if_neg (by omega), if_neg hmir]
    simp only [Device.targetWrite, hw, hp, hreach, Bool.true_or, if_true, Bool.false_eq_true, if_false]
    split
    · next h0 =>
      rw [reqNo_eq_zero] at h0
      refine ⟨Device.journal_unmirrored _ _ ?_, rfl⟩
      rcases hm with (hm | hm) | hm
      · exact absurd h0.1 hm
      · omega
      · exact hm
    · exact ⟨rfl, rfl⟩
  have hnw : ¬ (reqNo q = 0 ∧ d.hostWaits = true) := by
    rw [reqNo_eq_zero]
    rintro ⟨h0, h1⟩
    rcases hwait with hwait | hwait
    · exact hwait h0
    · simp [hwait] at h1
  unfold Device.cmdWrite Device.writeReg
  rw [if_neg hnw]
  simp only [Bool.not_true, Bool.false_eq_true, if_false, hwr.1, hwr.2]

/-- An admitted write of a register of the page's block, by the block's own rules. -/
theorem Device.cmdWrite_block {d : Device} {q : Requester} {a : Nat} {p : PageRow} {i : Nat} (v : Word) (h : d.admitsWrite q a = true)
    (hp : pageAt a = some (p, i)) (h4 : a % 4 = 0) (ho : 0x40 ≤ a % 0x1000) :
    d.cmdWrite q a v =
      { (d.blockWrite (reqNo q) p i (a - a % 0x1000) (a % 0x1000) v.toNat).dev with
        last := ⟨0, (d.blockWrite (reqNo q) p i (a - a % 0x1000) (a % 0x1000) v.toNat).error⟩ } := by
  have hl : d.locked (a - a % 0x1000) = false := by
    have h := h
    simp only [Device.admitsWrite, hp, Bool.and_eq_true, decide_eq_true_eq] at h
    simp [Device.locked, h.1.1.1.2]
  have hlent := Device.admitsWrite_lent h hp (decide (a % 0x1000 < 0x28) || (findRow p.block.rows (a % 0x1000)).isSome)
  rw [Device.cmdWrite_page v h hp h4]
  have : d.pageWrite (reqNo q) p i a v.toNat = d.blockWrite (reqNo q) p i (a - a % 0x1000) (a % 0x1000) v.toNat := by
    unfold Device.pageWrite
    simp only [hl, Bool.false_and, Bool.false_eq_true, if_false, hlent]
    rw [if_neg (by omega)]
  rw [this]

/-- An admitted write of a header register. -/
theorem Device.cmdWrite_header {d : Device} {q : Requester} {a : Nat} {p : PageRow} {i : Nat} (v : Word) (h : d.admitsWrite q a = true)
    (hp : pageAt a = some (p, i)) (h4 : a % 4 = 0) (ho : a % 0x1000 < 0x40) :
    d.cmdWrite q a v =
      { (d.headerWrite p i (a - a % 0x1000) (a % 0x1000) v.toNat).dev with
        last := ⟨0, (d.headerWrite p i (a - a % 0x1000) (a % 0x1000) v.toNat).error⟩ } := by
  have hl : d.locked (a - a % 0x1000) = false := by
    have h := h
    simp only [Device.admitsWrite, hp, Bool.and_eq_true, decide_eq_true_eq] at h
    simp [Device.locked, h.1.1.1.2]
  have hlent := Device.admitsWrite_lent h hp (decide (a % 0x1000 < 0x28) || (findRow p.block.rows (a % 0x1000)).isSome)
  rw [Device.cmdWrite_page v h hp h4]
  have : d.pageWrite (reqNo q) p i a v.toNat = d.headerWrite p i (a - a % 0x1000) (a % 0x1000) v.toNat := by
    unfold Device.pageWrite
    simp only [hl, Bool.false_and, Bool.false_eq_true, if_false, hlent]
    rw [if_pos ho]
  rw [this]

end Sys2Proof.Machine
end

