-- ==== Sys2Proof/Laws/Commands.lean ====
section
/-! SUPPORT. What an admitted write of each command register does. -/

set_option linter.all false

namespace Sys2Proof.Machine

/-- Where a page lies: instance `i` of a block holds the 4,096 offsets from its base. -/
theorem pageAt_of_mem : ∀ p ∈ pageTable, ∀ i o, i < p.count → o < 0x1000 → pageAt (p.base + 0x1000 * i + o) = some (p, i) := by
  intro p hp i o hi ho
  simp only [pageTable, List.mem_cons, List.not_mem_nil, or_false] at hp
  have key : ∀ (pre post : List PageRow), pageTable = pre ++ p :: post →
      (∀ r ∈ pre, r.base + 0x1000 * r.count ≤ p.base) → pageAt (p.base + 0x1000 * i + o) = some (p, i) := by
    intro pre post hsplit hpre
    have hf : pageTable.find? (fun r => decide (r.base ≤ p.base + 0x1000 * i + o) && decide (p.base + 0x1000 * i + o < r.base + 0x1000 * r.count)) = some p := by
      rw [hsplit, List.find?_append]
      have h1 : pre.find? (fun r => decide (r.base ≤ p.base + 0x1000 * i + o) && decide (p.base + 0x1000 * i + o < r.base + 0x1000 * r.count)) = none := by
        rw [List.find?_eq_none]
        intro r hr
        have := hpre r hr
        simp
        omega
      rw [h1]
      simp only [Option.none_or, List.find?_cons]
      have h2 : (decide (p.base ≤ p.base + 0x1000 * i + o) && decide (p.base + 0x1000 * i + o < p.base + 0x1000 * p.count)) = true := by
        simp; omega
      rw [h2]
    unfold pageAt
    rw [hf]
    simp only [Option.some.injEq, Prod.mk.injEq, true_and]
    omega
  have hsorted : pageTable.Pairwise (fun r s => r.base + 0x1000 * r.count ≤ s.base) := by decide
  have hmem : p ∈ pageTable := by simp only [pageTable, List.mem_cons, List.not_mem_nil, or_false]; exact hp
  obtain ⟨pre, post, hs⟩ := List.append_of_mem hmem
  refine key pre post hs ?_
  rw [hs, List.pairwise_append] at hsorted
  intro r hr
  exact hsorted.2.2 r hr p List.mem_cons_self

theorem pageTable_aligned : ∀ p ∈ pageTable, p.base % 0x1000 = 0 := by decide

/-- An admitted write of a block register, at its page and offset. -/
theorem Device.cmdWrite_at {d : Device} {q : Requester} {p : PageRow} {i o : Nat} (v : Word) (hp : p ∈ pageTable) (hi : i < p.count)
    (ho : o < 0x1000) (h4 : o % 4 = 0) (hlo : 0x40 ≤ o) (h : d.admitsWrite q (p.base + 0x1000 * i + o) = true) :
    d.cmdWrite q (p.base + 0x1000 * i + o) v =
      { (d.blockWrite (reqNo q) p i (p.base + 0x1000 * i) o v.toNat).dev with
        last := ⟨0, (d.blockWrite (reqNo q) p i (p.base + 0x1000 * i) o v.toNat).error⟩ } := by
  have hb := pageTable_aligned p hp
  have h1 : (p.base + 0x1000 * i + o) % 0x1000 = o := by omega
  have h2 : p.base + 0x1000 * i + o - o = p.base + 0x1000 * i := by omega
  have := Device.cmdWrite_block v h (pageAt_of_mem p hp i o hi ho) (by omega) (by omega)
  rw [h1, h2] at this
  exact this

/-- An admitted write of a header register, at its page and offset. -/
theorem Device.cmdWrite_head {d : Device} {q : Requester} {p : PageRow} {i o : Nat} (v : Word) (hp : p ∈ pageTable) (hi : i < p.count)
    (ho : o < 0x40) (h4 : o % 4 = 0) (h : d.admitsWrite q (p.base + 0x1000 * i + o) = true) :
    d.cmdWrite q (p.base + 0x1000 * i + o) v =
      { (d.headerWrite p i (p.base + 0x1000 * i) o v.toNat).dev with
        last := ⟨0, (d.headerWrite p i (p.base + 0x1000 * i) o v.toNat).error⟩ } := by
  have hb := pageTable_aligned p hp
  have h1 : (p.base + 0x1000 * i + o) % 0x1000 = o := by omega
  have h2 : p.base + 0x1000 * i + o - o = p.base + 0x1000 * i := by omega
  have := Device.cmdWrite_header v h (pageAt_of_mem p hp i o hi (by omega)) (by omega) (by omega)
  rw [h1, h2] at this
  exact this

theorem ofNat_toNat_and (v : Word) (m : Nat) : BitVec.ofNat 32 (v.toNat &&& m) = v &&& BitVec.ofNat 32 m := by
  apply BitVec.eq_of_toNat_eq
  simp only [BitVec.toNat_ofNat, BitVec.toNat_and]
  have := v.isLt
  rw [Nat.and_mod_two_pow, Nat.mod_eq_of_lt this]

/-- An admitted write of PWR_REQ. -/
theorem Device.write_PWR_REQ {d : Device} {q : Requester} (v : Word)   (h : d.admitsWrite q Reg.PWR_REQ = true) :
    d.cmdWrite q Reg.PWR_REQ v = { (d.pwrReq (v.toNat &&& 0x7)) with last := ⟨0, false⟩ } := by
  have e : Reg.PWR_REQ = (⟨.pwr, 0x2000, 1, 0x3, 0x7, false, false, true, false⟩ : PageRow).base + 0x1000 * 0 + 64 := by
    decide
  rw [e] at h
  have hw := Device.cmdWrite_at (d := d) (q := q) (p := ⟨.pwr, 0x2000, 1, 0x3, 0x7, false, false, true, false⟩) (i := 0) (o := 64) v (by decide) (by simp <;> omega) (by omega) (by omega) (by omega) h
  rw [← e] at hw
  rw [hw]
  have hf : ∃ r, findRow (Block.rows .pwr) 64 = some (r, 0) ∧ r.off = 64 ∧ r.mask = 7 ∧ r.acc = .rw := by
    have : ∃ r ∈ Block.rows .pwr, findRow (Block.rows .pwr) 64 = some (r, 0) ∧ r.off = 64 ∧ r.mask = 7 ∧ r.acc = .rw := by decide
    obtain ⟨r, -, hr⟩ := this; exact ⟨r, hr⟩
  obtain ⟨r, hr, ho, hm, hacc⟩ := hf

  simp only [Device.blockWrite, hr, ho, hm, hacc, reduceCtorEq, decide_false, decide_true, Bool.or_self, Bool.or_false, Bool.true_or, Bool.false_and, Bool.false_eq_true, if_false, if_true]

  simp [heldLower, heldUpper, Device.writeRule, codeIf, Device.regAct, Device.pwrRegAct]

/-- An admitted write of PWR_PGATE. -/
theorem Device.write_PWR_PGATE {d : Device} {q : Requester} (v : Word)   (h : d.admitsWrite q Reg.PWR_PGATE = true) :
    d.cmdWrite q Reg.PWR_PGATE v = { (d.pgateWrite (v.toNat &&& 0xFFFF)) with last := ⟨0, false⟩ } := by
  have e : Reg.PWR_PGATE = (⟨.pwr, 0x2000, 1, 0x3, 0x7, false, false, true, false⟩ : PageRow).base + 0x1000 * 0 + 76 := by
    decide
  rw [e] at h
  have hw := Device.cmdWrite_at (d := d) (q := q) (p := ⟨.pwr, 0x2000, 1, 0x3, 0x7, false, false, true, false⟩) (i := 0) (o := 76) v (by decide) (by simp <;> omega) (by omega) (by omega) (by omega) h
  rw [← e] at hw
  rw [hw]
  have hf : ∃ r, findRow (Block.rows .pwr) 76 = some (r, 0) ∧ r.off = 76 ∧ r.mask = 65535 ∧ r.acc = .rw := by
    have : ∃ r ∈ Block.rows .pwr, findRow (Block.rows .pwr) 76 = some (r, 0) ∧ r.off = 76 ∧ r.mask = 65535 ∧ r.acc = .rw := by decide
    obtain ⟨r, -, hr⟩ := this; exact ⟨r, hr⟩
  obtain ⟨r, hr, ho, hm, hacc⟩ := hf

  simp only [Device.blockWrite, hr, ho, hm, hacc, reduceCtorEq, decide_false, decide_true, Bool.or_self, Bool.or_false, Bool.true_or, Bool.false_and, Bool.false_eq_true, if_false, if_true]

  simp [heldLower, heldUpper, Device.writeRule, codeIf, Device.regAct, Device.pwrRegAct]

/-- An admitted write of PWR_SGATE. -/
theorem Device.write_PWR_SGATE {d : Device} {q : Requester} (v : Word)   (h : d.admitsWrite q Reg.PWR_SGATE = true) :
    d.cmdWrite q Reg.PWR_SGATE v = { (d.sgateWrite (v.toNat &&& 0x3)) with last := ⟨0, false⟩ } := by
  have e : Reg.PWR_SGATE = (⟨.pwr, 0x2000, 1, 0x3, 0x7, false, false, true, false⟩ : PageRow).base + 0x1000 * 0 + 80 := by
    decide
  rw [e] at h
  have hw := Device.cmdWrite_at (d := d) (q := q) (p := ⟨.pwr, 0x2000, 1, 0x3, 0x7, false, false, true, false⟩) (i := 0) (o := 80) v (by decide) (by simp <;> omega) (by omega) (by omega) (by omega) h
  rw [← e] at hw
  rw [hw]
  have hf : ∃ r, findRow (Block.rows .pwr) 80 = some (r, 0) ∧ r.off = 80 ∧ r.mask = 3 ∧ r.acc = .rw := by
    have : ∃ r ∈ Block.rows .pwr, findRow (Block.rows .pwr) 80 = some (r, 0) ∧ r.off = 80 ∧ r.mask = 3 ∧ r.acc = .rw := by decide
    obtain ⟨r, -, hr⟩ := this; exact ⟨r, hr⟩
  obtain ⟨r, hr, ho, hm, hacc⟩ := hf

  simp only [Device.blockWrite, hr, ho, hm, hacc, reduceCtorEq, decide_false, decide_true, Bool.or_self, Bool.or_false, Bool.true_or, Bool.false_and, Bool.false_eq_true, if_false, if_true]

  simp [heldLower, heldUpper, Device.writeRule, codeIf, Device.regAct, Device.pwrRegAct]

/-- An admitted write of PIER_CMD. -/
theorem Device.write_PIER_CMD {d : Device} {q : Requester} {i : Nat} (v : Word) (hi : i < 16)  (h : d.admitsWrite q (Reg.PIER_CMD i) = true) :
    d.cmdWrite q (Reg.PIER_CMD i) v = { (if natBit (v.toNat &&& 0x1) 0 then d.staticResume i else d) with last := ⟨0, false⟩ } := by
  have e : (Reg.PIER_CMD i) = (⟨.pier, 0x50000, 16, 0x40, 0x0, false, true, false, true⟩ : PageRow).base + 0x1000 * i + 72 := by
    simp only [Reg.PIER_CMD, Page.PIER]
  rw [e] at h
  have hw := Device.cmdWrite_at (d := d) (q := q) (p := ⟨.pier, 0x50000, 16, 0x40, 0x0, false, true, false, true⟩) (i := i) (o := 72) v (by decide) (by simp <;> omega) (by omega) (by omega) (by omega) h
  rw [← e] at hw
  rw [hw]
  have hf : ∃ r, findRow (Block.rows .pier) 72 = some (r, 0) ∧ r.off = 72 ∧ r.mask = 1 ∧ r.acc = .wo := by
    have : ∃ r ∈ Block.rows .pier, findRow (Block.rows .pier) 72 = some (r, 0) ∧ r.off = 72 ∧ r.mask = 1 ∧ r.acc = .wo := by decide
    obtain ⟨r, -, hr⟩ := this; exact ⟨r, hr⟩
  obtain ⟨r, hr, ho, hm, hacc⟩ := hf

  simp only [Device.blockWrite, hr, ho, hm, hacc, reduceCtorEq, decide_false, decide_true, Bool.or_self, Bool.or_false, Bool.true_or, Bool.false_and, Bool.false_eq_true, if_false, if_true]

  simp [heldLower, heldUpper, Device.writeRule, Device.pierRule, codeIf, Device.regAct, Device.pierRegAct]

/-- An admitted write of PEB_CMD. -/
theorem Device.write_PEB_CMD {d : Device} {q : Requester} {j : Nat} (v : Word) (hj : j < 8)  (h : d.admitsWrite q (Reg.PEB_CMD j) = true) :
    d.cmdWrite q (Reg.PEB_CMD j) v = { (if natBit (v.toNat &&& 0x103) 8 then d.pebGo j ((v.toNat &&& 0x103) % 4) else d) with last := ⟨0, false⟩ } := by
  have e : (Reg.PEB_CMD j) = (⟨.peb, 0x16000, 1, 0x15, 0xFFFF, false, false, false, false⟩ : PageRow).base + 0x1000 * 0 + (76 + 32 * j) := by
    simp only [Reg.PEB_CMD, Page.PEB]; omega
  rw [e] at h
  have hw := Device.cmdWrite_at (d := d) (q := q) (p := ⟨.peb, 0x16000, 1, 0x15, 0xFFFF, false, false, false, false⟩) (i := 0) (o := (76 + 32 * j)) v (by decide) (by simp <;> omega) (by omega) (by omega) (by omega) h
  rw [← e] at hw
  rw [hw]
  have hf : ∃ r, findRow (Block.rows .peb) (76 + 32 * j) = some (r, j) ∧ r.off = 76 ∧ r.mask = 259 ∧ r.acc = .wo := by
    have : ∀ j < 8, ∃ r ∈ Block.rows .peb, findRow (Block.rows .peb) (76 + 32 * j) = some (r, j) ∧ r.off = 76 ∧ r.mask = 259 ∧ r.acc = .wo := by decide
    obtain ⟨r, -, hr⟩ := this j hj; exact ⟨r, hr⟩
  obtain ⟨r, hr, ho, hm, hacc⟩ := hf

  simp only [Device.blockWrite, hr, ho, hm, hacc, reduceCtorEq, decide_false, decide_true, Bool.or_self, Bool.or_false, Bool.true_or, Bool.false_and, Bool.false_eq_true, if_false, if_true]

  simp [heldLower, heldUpper, Device.writeRule, codeIf, Device.regAct]

/-- An admitted write of STR_CMD. -/
theorem Device.write_STR_CMD {d : Device} {q : Requester} {i : Nat} (v : Word) (hi : i < 16) (hv : popCount ((v &&& 0x13F#32).get 0 3) 3 ≤ 1 ∧ (v &&& 0x13F#32).get 4 2 ≠ 3) (h : d.admitsWrite q (Reg.STR_CMD i) = true) :
    d.cmdWrite q (Reg.STR_CMD i) v = { (d.strCmd i (v.toNat &&& 0x13F)) with last := ⟨0, false⟩ } := by
  have e : (Reg.STR_CMD i) = (⟨.str, 0x40000, 16, 0x30, 0xFF, false, true, false, false⟩ : PageRow).base + 0x1000 * i + 72 := by
    simp only [Reg.STR_CMD, Page.STR]
  rw [e] at h
  have hw := Device.cmdWrite_at (d := d) (q := q) (p := ⟨.str, 0x40000, 16, 0x30, 0xFF, false, true, false, false⟩) (i := i) (o := 72) v (by decide) (by simp <;> omega) (by omega) (by omega) (by omega) h
  rw [← e] at hw
  rw [hw]
  have hf : ∃ r, findRow (Block.rows .str) 72 = some (r, 0) ∧ r.off = 72 ∧ r.mask = 319 ∧ r.acc = .wo := by
    have : ∃ r ∈ Block.rows .str, findRow (Block.rows .str) 72 = some (r, 0) ∧ r.off = 72 ∧ r.mask = 319 ∧ r.acc = .wo := by decide
    obtain ⟨r, -, hr⟩ := this; exact ⟨r, hr⟩
  obtain ⟨r, hr, ho, hm, hacc⟩ := hf

  simp only [Device.blockWrite, hr, ho, hm, hacc, reduceCtorEq, decide_false, decide_true, Bool.or_self, Bool.or_false, Bool.true_or, Bool.false_and, Bool.false_eq_true, if_false, if_true]

  simp [Word.merge, hv, heldLower, heldUpper, Device.writeRule, Device.strRule, codeIf, Device.regAct, Device.strRegAct]

/-- An admitted write of STR_JUMP. -/
theorem Device.write_STR_JUMP {d : Device} {q : Requester} {i : Nat} (v : Word) (hi : i < 16)  (h : d.admitsWrite q (Reg.STR_JUMP i) = true) :
    d.cmdWrite q (Reg.STR_JUMP i) v = { (if natBit (v.toNat &&& 0x8003FFFF) 31 then d.jumpArm i ((v.toNat &&& 0x8003FFFF) % 2 ^ 18) else d.jumpDisarm i ((v.toNat &&& 0x8003FFFF) % 2 ^ 18)) with last := ⟨0, false⟩ } := by
  have e : (Reg.STR_JUMP i) = (⟨.str, 0x40000, 16, 0x30, 0xFF, false, true, false, false⟩ : PageRow).base + 0x1000 * i + 96 := by
    simp only [Reg.STR_JUMP, Page.STR]
  rw [e] at h
  have hw := Device.cmdWrite_at (d := d) (q := q) (p := ⟨.str, 0x40000, 16, 0x30, 0xFF, false, true, false, false⟩) (i := i) (o := 96) v (by decide) (by simp <;> omega) (by omega) (by omega) (by omega) h
  rw [← e] at hw
  rw [hw]
  have hf : ∃ r, findRow (Block.rows .str) 96 = some (r, 0) ∧ r.off = 96 ∧ r.mask = 2147745791 ∧ r.acc = .rw := by
    have : ∃ r ∈ Block.rows .str, findRow (Block.rows .str) 96 = some (r, 0) ∧ r.off = 96 ∧ r.mask = 2147745791 ∧ r.acc = .rw := by decide
    obtain ⟨r, -, hr⟩ := this; exact ⟨r, hr⟩
  obtain ⟨r, hr, ho, hm, hacc⟩ := hf

  simp only [Device.blockWrite, hr, ho, hm, hacc, reduceCtorEq, decide_false, decide_true, Bool.or_self, Bool.or_false, Bool.true_or, Bool.false_and, Bool.false_eq_true, if_false, if_true]

  simp [heldLower, heldUpper, Device.writeRule, Device.strRule, codeIf, Device.regAct, Device.strRegAct]

/-- An admitted write of STR_FLAGS. -/
theorem Device.write_STR_FLAGS {d : Device} {q : Requester} {i : Nat} (v : Word) (hi : i < 16)  (h : d.admitsWrite q (Reg.STR_FLAGS i) = true) :
    d.cmdWrite q (Reg.STR_FLAGS i) v = { (d.flagsSet i (v.toNat &&& 0xFFFFFFFF)) with last := ⟨0, false⟩ } := by
  have e : (Reg.STR_FLAGS i) = (⟨.str, 0x40000, 16, 0x30, 0xFF, false, true, false, false⟩ : PageRow).base + 0x1000 * i + 100 := by
    simp only [Reg.STR_FLAGS, Page.STR]
  rw [e] at h
  have hw := Device.cmdWrite_at (d := d) (q := q) (p := ⟨.str, 0x40000, 16, 0x30, 0xFF, false, true, false, false⟩) (i := i) (o := 100) v (by decide) (by simp <;> omega) (by omega) (by omega) (by omega) h
  rw [← e] at hw
  rw [hw]
  have hf : ∃ r, findRow (Block.rows .str) 100 = some (r, 0) ∧ r.off = 100 ∧ r.mask = 4294967295 ∧ r.acc = .w1s := by
    have : ∃ r ∈ Block.rows .str, findRow (Block.rows .str) 100 = some (r, 0) ∧ r.off = 100 ∧ r.mask = 4294967295 ∧ r.acc = .w1s := by decide
    obtain ⟨r, -, hr⟩ := this; exact ⟨r, hr⟩
  obtain ⟨r, hr, ho, hm, hacc⟩ := hf

  simp only [Device.blockWrite, hr, ho, hm, hacc, reduceCtorEq, decide_false, decide_true, Bool.or_self, Bool.or_false, Bool.true_or, Bool.false_and, Bool.false_eq_true, if_false, if_true]

  simp [heldLower, heldUpper, Device.writeRule, Device.strRule, codeIf, Device.regAct, Device.strRegAct]

/-- An admitted write of STR_FLAGS_CLR. -/
theorem Device.write_STR_FLAGS_CLR {d : Device} {q : Requester} {i : Nat} (v : Word) (hi : i < 16)  (h : d.admitsWrite q (Reg.STR_FLAGS_CLR i) = true) :
    d.cmdWrite q (Reg.STR_FLAGS_CLR i) v = { (d.setReg (Reg.STR_FLAGS i) (d.reg (Reg.STR_FLAGS i) &&& ~~~(BitVec.ofNat 32 (v.toNat &&& 0xFFFFFFFF)))) with last := ⟨0, false⟩ } := by
  have e : (Reg.STR_FLAGS_CLR i) = (⟨.str, 0x40000, 16, 0x30, 0xFF, false, true, false, false⟩ : PageRow).base + 0x1000 * i + 104 := by
    simp only [Reg.STR_FLAGS_CLR, Page.STR]
  rw [e] at h
  have hw := Device.cmdWrite_at (d := d) (q := q) (p := ⟨.str, 0x40000, 16, 0x30, 0xFF, false, true, false, false⟩) (i := i) (o := 104) v (by decide) (by simp <;> omega) (by omega) (by omega) (by omega) h
  rw [← e] at hw
  rw [hw]
  have hf : ∃ r, findRow (Block.rows .str) 104 = some (r, 0) ∧ r.off = 104 ∧ r.mask = 4294967295 ∧ r.acc = .w1c := by
    have : ∃ r ∈ Block.rows .str, findRow (Block.rows .str) 104 = some (r, 0) ∧ r.off = 104 ∧ r.mask = 4294967295 ∧ r.acc = .w1c := by decide
    obtain ⟨r, -, hr⟩ := this; exact ⟨r, hr⟩
  obtain ⟨r, hr, ho, hm, hacc⟩ := hf

  simp only [Device.blockWrite, hr, ho, hm, hacc, reduceCtorEq, decide_false, decide_true, Bool.or_self, Bool.or_false, Bool.true_or, Bool.false_and, Bool.false_eq_true, if_false, if_true]

  simp [heldLower, heldUpper, Device.writeRule, Device.strRule, codeIf, Device.regAct, Device.strRegAct]

/-- An admitted write of UCS_CMD. -/
theorem Device.write_UCS_CMD {d : Device} {q : Requester} (v : Word)   (h : d.admitsWrite q Reg.UCS_CMD = true) :
    d.cmdWrite q Reg.UCS_CMD v = { (d.ucsCmd (reqNo q) (v.toNat &&& 0x33)) with last := ⟨0, false⟩ } := by
  have e : Reg.UCS_CMD = (⟨.ucs, 0x15000, 1, 0x14, 0x1F, false, false, false, false⟩ : PageRow).base + 0x1000 * 0 + 72 := by
    decide
  rw [e] at h
  have hw := Device.cmdWrite_at (d := d) (q := q) (p := ⟨.ucs, 0x15000, 1, 0x14, 0x1F, false, false, false, false⟩) (i := 0) (o := 72) v (by decide) (by simp <;> omega) (by omega) (by omega) (by omega) h
  rw [← e] at hw
  rw [hw]
  have hf : ∃ r, findRow (Block.rows .ucs) 72 = some (r, 0) ∧ r.off = 72 ∧ r.mask = 51 ∧ r.acc = .wo := by
    have : ∃ r ∈ Block.rows .ucs, findRow (Block.rows .ucs) 72 = some (r, 0) ∧ r.off = 72 ∧ r.mask = 51 ∧ r.acc = .wo := by decide
    obtain ⟨r, -, hr⟩ := this; exact ⟨r, hr⟩
  obtain ⟨r, hr, ho, hm, hacc⟩ := hf

  simp only [Device.blockWrite, hr, ho, hm, hacc, reduceCtorEq, decide_false, decide_true, Bool.or_self, Bool.or_false, Bool.true_or, Bool.false_and, Bool.false_eq_true, if_false, if_true]

  simp [heldLower, heldUpper, Device.writeRule, codeIf, Device.regAct]

/-- An admitted write of CAP_CMD. -/
theorem Device.write_CAP_CMD {d : Device} {q : Requester} {i : Nat} (v : Word) (hi : i < 16) (hv : (v &&& 0x3#32).get 0 2 ≠ 3) (h : d.admitsWrite q (Reg.CAP_CMD i) = true) :
    d.cmdWrite q (Reg.CAP_CMD i) v = { ((if natBit (v.toNat &&& 0x3) 0 then d.capArm i else if natBit (v.toNat &&& 0x3) 1 then d.capDisarm i else d).ldgAfter d) with last := ⟨0, false⟩ } := by
  have e : (Reg.CAP_CMD i) = (⟨.cap, 0x60000, 16, 0x50, 0x3F, true, true, false, false⟩ : PageRow).base + 0x1000 * i + 72 := by
    simp only [Reg.CAP_CMD, Page.CAP]
  rw [e] at h
  have hw := Device.cmdWrite_at (d := d) (q := q) (p := ⟨.cap, 0x60000, 16, 0x50, 0x3F, true, true, false, false⟩) (i := i) (o := 72) v (by decide) (by simp <;> omega) (by omega) (by omega) (by omega) h
  rw [← e] at hw
  rw [hw]
  have hf : ∃ r, findRow (Block.rows .cap) 72 = some (r, 0) ∧ r.off = 72 ∧ r.mask = 3 ∧ r.acc = .wo := by
    have : ∃ r ∈ Block.rows .cap, findRow (Block.rows .cap) 72 = some (r, 0) ∧ r.off = 72 ∧ r.mask = 3 ∧ r.acc = .wo := by decide
    obtain ⟨r, -, hr⟩ := this; exact ⟨r, hr⟩
  obtain ⟨r, hr, ho, hm, hacc⟩ := hf

  simp only [Device.blockWrite, hr, ho, hm, hacc, reduceCtorEq, decide_false, decide_true, Bool.or_self, Bool.or_false, Bool.true_or, Bool.false_and, Bool.false_eq_true, if_false, if_true]

  simp [Word.merge, hv, heldLower, heldUpper, Device.writeRule, Device.capRule, codeIf, Device.regAct, Device.capRegAct]

/-- An admitted write of CAP_RELEASE. -/
theorem Device.write_CAP_RELEASE {d : Device} {q : Requester} {i : Nat} (v : Word) (hi : i < 16)  (h : d.admitsWrite q (Reg.CAP_RELEASE i) = true) :
    d.cmdWrite q (Reg.CAP_RELEASE i) v = { (d.capRelease i (v.toNat &&& 0xBFFFFFFF)) with last := ⟨0, false⟩ } := by
  have e : (Reg.CAP_RELEASE i) = (⟨.cap, 0x60000, 16, 0x50, 0x3F, true, true, false, false⟩ : PageRow).base + 0x1000 * i + 100 := by
    simp only [Reg.CAP_RELEASE, Page.CAP]
  rw [e] at h
  have hw := Device.cmdWrite_at (d := d) (q := q) (p := ⟨.cap, 0x60000, 16, 0x50, 0x3F, true, true, false, false⟩) (i := i) (o := 100) v (by decide) (by simp <;> omega) (by omega) (by omega) (by omega) h
  rw [← e] at hw
  rw [hw]
  have hf : ∃ r, findRow (Block.rows .cap) 100 = some (r, 0) ∧ r.off = 100 ∧ r.mask = 3221225471 ∧ r.acc = .wo := by
    have : ∃ r ∈ Block.rows .cap, findRow (Block.rows .cap) 100 = some (r, 0) ∧ r.off = 100 ∧ r.mask = 3221225471 ∧ r.acc = .wo := by decide
    obtain ⟨r, -, hr⟩ := this; exact ⟨r, hr⟩
  obtain ⟨r, hr, ho, hm, hacc⟩ := hf

  simp only [Device.blockWrite, hr, ho, hm, hacc, reduceCtorEq, decide_false, decide_true, Bool.or_self, Bool.or_false, Bool.true_or, Bool.false_and, Bool.false_eq_true, if_false, if_true]

  simp [heldLower, heldUpper, Device.writeRule, Device.capRule, codeIf, Device.regAct, Device.capRegAct]

/-- An admitted write of IVM_CMD. -/
theorem Device.write_IVM_CMD {d : Device} {q : Requester} {i : Nat} (v : Word) (hi : i < 32)  (h : d.admitsWrite q (Reg.IVM_CMD i) = true) :
    d.cmdWrite q (Reg.IVM_CMD i) v = { (d.ivmCmd i (v.toNat &&& 0xF)) with last := ⟨0, false⟩ } := by
  have e : (Reg.IVM_CMD i) = (⟨.ivm, 0x80000, 32, 0x70, 0xF, false, false, false, false⟩ : PageRow).base + 0x1000 * i + 72 := by
    simp only [Reg.IVM_CMD, Page.IVM]
  rw [e] at h
  have hw := Device.cmdWrite_at (d := d) (q := q) (p := ⟨.ivm, 0x80000, 32, 0x70, 0xF, false, false, false, false⟩) (i := i) (o := 72) v (by decide) (by simp <;> omega) (by omega) (by omega) (by omega) h
  rw [← e] at hw
  rw [hw]
  have hf : ∃ r, findRow (Block.rows .ivm) 72 = some (r, 0) ∧ r.off = 72 ∧ r.mask = 15 ∧ r.acc = .wo := by
    have : ∃ r ∈ Block.rows .ivm, findRow (Block.rows .ivm) 72 = some (r, 0) ∧ r.off = 72 ∧ r.mask = 15 ∧ r.acc = .wo := by decide
    obtain ⟨r, -, hr⟩ := this; exact ⟨r, hr⟩
  obtain ⟨r, hr, ho, hm, hacc⟩ := hf

  simp only [Device.blockWrite, hr, ho, hm, hacc, reduceCtorEq, decide_false, decide_true, Bool.or_self, Bool.or_false, Bool.true_or, Bool.false_and, Bool.false_eq_true, if_false, if_true]

  simp [heldLower, heldUpper, Device.writeRule, Device.ivmRule, codeIf, Device.regAct, Device.ivmRegAct]

/-- An admitted write of LDG_CMD. -/
theorem Device.write_LDG_CMD {d : Device} {q : Requester} (v : Word)   (h : d.admitsWrite q Reg.LDG_CMD = true) :
    d.cmdWrite q Reg.LDG_CMD v = { (d.ldgCmd (natBit (v.toNat &&& 0x3) 0) (natBit (v.toNat &&& 0x3) 1)) with last := ⟨0, false⟩ } := by
  have e : Reg.LDG_CMD = (⟨.ldg, 0x12000, 1, 0x11, 0x7, false, true, false, false⟩ : PageRow).base + 0x1000 * 0 + 64 := by
    decide
  rw [e] at h
  have hw := Device.cmdWrite_at (d := d) (q := q) (p := ⟨.ldg, 0x12000, 1, 0x11, 0x7, false, true, false, false⟩) (i := 0) (o := 64) v (by decide) (by simp <;> omega) (by omega) (by omega) (by omega) h
  rw [← e] at hw
  rw [hw]
  have hf : ∃ r, findRow (Block.rows .ldg) 64 = some (r, 0) ∧ r.off = 64 ∧ r.mask = 3 ∧ r.acc = .wo := by
    have : ∃ r ∈ Block.rows .ldg, findRow (Block.rows .ldg) 64 = some (r, 0) ∧ r.off = 64 ∧ r.mask = 3 ∧ r.acc = .wo := by decide
    obtain ⟨r, -, hr⟩ := this; exact ⟨r, hr⟩
  obtain ⟨r, hr, ho, hm, hacc⟩ := hf

  simp only [Device.blockWrite, hr, ho, hm, hacc, reduceCtorEq, decide_false, decide_true, Bool.or_self, Bool.or_false, Bool.true_or, Bool.false_and, Bool.false_eq_true, if_false, if_true]

  simp [heldLower, heldUpper, Device.writeRule, Device.ldgRule, codeIf, Device.regAct, Device.ldgRegAct]

/-- An admitted write of CAL_CMD. -/
theorem Device.write_CAL_CMD {d : Device} {q : Requester} (v : Word)   (h : d.admitsWrite q Reg.CAL_CMD = true) :
    d.cmdWrite q Reg.CAL_CMD v = { (d.calCmd (v.toNat &&& 0x7D)) with last := ⟨0, false⟩ } := by
  have e : Reg.CAL_CMD = (⟨.cal, 0x13000, 1, 0x12, 0x1F, false, false, false, false⟩ : PageRow).base + 0x1000 * 0 + 72 := by
    decide
  rw [e] at h
  have hw := Device.cmdWrite_at (d := d) (q := q) (p := ⟨.cal, 0x13000, 1, 0x12, 0x1F, false, false, false, false⟩) (i := 0) (o := 72) v (by decide) (by simp <;> omega) (by omega) (by omega) (by omega) h
  rw [← e] at hw
  rw [hw]
  have hf : ∃ r, findRow (Block.rows .cal) 72 = some (r, 0) ∧ r.off = 72 ∧ r.mask = 125 ∧ r.acc = .wo := by
    have : ∃ r ∈ Block.rows .cal, findRow (Block.rows .cal) 72 = some (r, 0) ∧ r.off = 72 ∧ r.mask = 125 ∧ r.acc = .wo := by decide
    obtain ⟨r, -, hr⟩ := this; exact ⟨r, hr⟩
  obtain ⟨r, hr, ho, hm, hacc⟩ := hf

  simp only [Device.blockWrite, hr, ho, hm, hacc, reduceCtorEq, decide_false, decide_true, Bool.or_self, Bool.or_false, Bool.true_or, Bool.false_and, Bool.false_eq_true, if_false, if_true]

  simp [heldLower, heldUpper, Device.writeRule, codeIf, Device.regAct]

/-- An admitted write of DISP_CMD. -/
theorem Device.write_DISP_CMD {d : Device} {q : Requester} (v : Word)   (h : d.admitsWrite q Reg.DISP_CMD = true) :
    d.cmdWrite q Reg.DISP_CMD v = { (d.dispCmd (v.toNat &&& 0xF0000FFF) .good) with last := ⟨0, false⟩ } := by
  have e : Reg.DISP_CMD = (⟨.disp, 0xC000, 1, 0xB, 0xF, false, false, false, false⟩ : PageRow).base + 0x1000 * 0 + 64 := by
    decide
  rw [e] at h
  have hw := Device.cmdWrite_at (d := d) (q := q) (p := ⟨.disp, 0xC000, 1, 0xB, 0xF, false, false, false, false⟩) (i := 0) (o := 64) v (by decide) (by simp <;> omega) (by omega) (by omega) (by omega) h
  rw [← e] at hw
  rw [hw]
  have hf : ∃ r, findRow (Block.rows .disp) 64 = some (r, 0) ∧ r.off = 64 ∧ r.mask = 4026535935 ∧ r.acc = .wo := by
    have : ∃ r ∈ Block.rows .disp, findRow (Block.rows .disp) 64 = some (r, 0) ∧ r.off = 64 ∧ r.mask = 4026535935 ∧ r.acc = .wo := by decide
    obtain ⟨r, -, hr⟩ := this; exact ⟨r, hr⟩
  obtain ⟨r, hr, ho, hm, hacc⟩ := hf

  simp only [Device.blockWrite, hr, ho, hm, hacc, reduceCtorEq, decide_false, decide_true, Bool.or_self, Bool.or_false, Bool.true_or, Bool.false_and, Bool.false_eq_true, if_false, if_true]

  simp [heldLower, heldUpper, Device.writeRule, codeIf, Device.regAct, Device.dispRegAct]

/-- An admitted write of DISP_CORE. -/
theorem Device.write_DISP_CORE {d : Device} {q : Requester} {j : Nat} (v : Word) (hj : j < 16)  (h : d.admitsWrite q (Reg.DISP_CORE j) = true) :
    d.cmdWrite q (Reg.DISP_CORE j) v = { (d.coreWrite j (v.toNat &&& 0x3)) with last := ⟨0, false⟩ } := by
  have e : (Reg.DISP_CORE j) = (⟨.disp, 0xC000, 1, 0xB, 0xF, false, false, false, false⟩ : PageRow).base + 0x1000 * 0 + (128 + 4 * j) := by
    simp only [Reg.DISP_CORE, Page.DISP]; omega
  rw [e] at h
  have hw := Device.cmdWrite_at (d := d) (q := q) (p := ⟨.disp, 0xC000, 1, 0xB, 0xF, false, false, false, false⟩) (i := 0) (o := (128 + 4 * j)) v (by decide) (by simp <;> omega) (by omega) (by omega) (by omega) h
  rw [← e] at hw
  rw [hw]
  have hf : ∃ r, findRow (Block.rows .disp) (128 + 4 * j) = some (r, j) ∧ r.off = 128 ∧ r.mask = 3 ∧ r.acc = .rw := by
    have : ∀ j < 16, ∃ r ∈ Block.rows .disp, findRow (Block.rows .disp) (128 + 4 * j) = some (r, j) ∧ r.off = 128 ∧ r.mask = 3 ∧ r.acc = .rw := by decide
    obtain ⟨r, -, hr⟩ := this j hj; exact ⟨r, hr⟩
  obtain ⟨r, hr, ho, hm, hacc⟩ := hf

  simp only [Device.blockWrite, hr, ho, hm, hacc, reduceCtorEq, decide_false, decide_true, Bool.or_self, Bool.or_false, Bool.true_or, Bool.false_and, Bool.false_eq_true, if_false, if_true]
  have c1 : ¬ 256 ≤ 128 + 4 * j := by omega
  have c2 : ¬ 1024 ≤ 128 + 4 * j := by omega
  simp [c1, c2, heldLower, heldUpper, Device.writeRule, codeIf, Device.regAct, Device.dispRegAct]

/-- An admitted write of INTC_SWTRIG. -/
theorem Device.write_INTC_SWTRIG {d : Device} {q : Requester} (v : Word)   (h : d.admitsWrite q Reg.INTC_SWTRIG = true) :
    d.cmdWrite q Reg.INTC_SWTRIG v = { (d.swTrig (v.toNat &&& 0x3FF)) with last := ⟨0, false⟩ } := by
  have e : Reg.INTC_SWTRIG = (⟨.intcCtl, 0x9000, 1, 0xA, 0x0, false, false, false, false⟩ : PageRow).base + 0x1000 * 0 + 64 := by
    decide
  rw [e] at h
  have hw := Device.cmdWrite_at (d := d) (q := q) (p := ⟨.intcCtl, 0x9000, 1, 0xA, 0x0, false, false, false, false⟩) (i := 0) (o := 64) v (by decide) (by simp <;> omega) (by omega) (by omega) (by omega) h
  rw [← e] at hw
  rw [hw]
  have hf : ∃ r, findRow (Block.rows .intcCtl) 64 = some (r, 0) ∧ r.off = 64 ∧ r.mask = 1023 ∧ r.acc = .wo := by
    have : ∃ r ∈ Block.rows .intcCtl, findRow (Block.rows .intcCtl) 64 = some (r, 0) ∧ r.off = 64 ∧ r.mask = 1023 ∧ r.acc = .wo := by decide
    obtain ⟨r, -, hr⟩ := this; exact ⟨r, hr⟩
  obtain ⟨r, hr, ho, hm, hacc⟩ := hf

  simp only [Device.blockWrite, hr, ho, hm, hacc, reduceCtorEq, decide_false, decide_true, Bool.or_self, Bool.or_false, Bool.true_or, Bool.false_and, Bool.false_eq_true, if_false, if_true]

  simp [heldLower, heldUpper, Device.writeRule, codeIf, Device.regAct]

/-- An admitted write of INTC_CLAIM. -/
theorem Device.write_INTC_CLAIM {d : Device} {q : Requester} {j : Nat} (v : Word) (hj : j < 17)  (h : d.admitsWrite q (Reg.INTC_CLAIM j) = true) :
    d.cmdWrite q (Reg.INTC_CLAIM j) v = { (d.complete j (v.toNat &&& 0x3FF)) with last := ⟨0, false⟩ } := by
  have e : (Reg.INTC_CLAIM j) = (⟨.intcTgt, 0xB000, 1, 0xA, 0x0, false, false, false, false⟩ : PageRow).base + 0x1000 * 0 + (264 + 16 * j) := by
    simp only [Reg.INTC_CLAIM, Page.INTC_TGT]; omega
  rw [e] at h
  have hw := Device.cmdWrite_at (d := d) (q := q) (p := ⟨.intcTgt, 0xB000, 1, 0xA, 0x0, false, false, false, false⟩) (i := 0) (o := (264 + 16 * j)) v (by decide) (by simp <;> omega) (by omega) (by omega) (by omega) h
  rw [← e] at hw
  rw [hw]
  have hf : ∃ r, findRow (Block.rows .intcTgt) (264 + 16 * j) = some (r, j) ∧ r.off = 264 ∧ r.mask = 1023 ∧ r.acc = .rw := by
    have : ∀ j < 17, ∃ r ∈ Block.rows .intcTgt, findRow (Block.rows .intcTgt) (264 + 16 * j) = some (r, j) ∧ r.off = 264 ∧ r.mask = 1023 ∧ r.acc = .rw := by decide
    obtain ⟨r, -, hr⟩ := this j hj; exact ⟨r, hr⟩
  obtain ⟨r, hr, ho, hm, hacc⟩ := hf

  simp only [Device.blockWrite, hr, ho, hm, hacc, reduceCtorEq, decide_false, decide_true, Bool.or_self, Bool.or_false, Bool.true_or, Bool.false_and, Bool.false_eq_true, if_false, if_true]

  simp [heldLower, heldUpper, Device.writeRule, codeIf, Device.regAct]

/-- An admitted write of TRS_TEST. -/
theorem Device.write_TRS_TEST {d : Device} {q : Requester} (v : Word)   (h : d.admitsWrite q Reg.TRS_TEST = true) :
    d.cmdWrite q Reg.TRS_TEST v = { (d.trsTest (v.toNat &&& 0xFFFF0073)) with last := ⟨0, false⟩ } := by
  have e : Reg.TRS_TEST = (⟨.trs, 0xF000, 1, 0xE, 0xFFFF011F, false, false, false, false⟩ : PageRow).base + 0x1000 * 0 + 76 := by
    decide
  rw [e] at h
  have hw := Device.cmdWrite_at (d := d) (q := q) (p := ⟨.trs, 0xF000, 1, 0xE, 0xFFFF011F, false, false, false, false⟩) (i := 0) (o := 76) v (by decide) (by simp <;> omega) (by omega) (by omega) (by omega) h
  rw [← e] at hw
  rw [hw]
  have hf : ∃ r, findRow (Block.rows .trs) 76 = some (r, 0) ∧ r.off = 76 ∧ r.mask = 4294901875 ∧ r.acc = .rw := by
    have : ∃ r ∈ Block.rows .trs, findRow (Block.rows .trs) 76 = some (r, 0) ∧ r.off = 76 ∧ r.mask = 4294901875 ∧ r.acc = .rw := by decide
    obtain ⟨r, -, hr⟩ := this; exact ⟨r, hr⟩
  obtain ⟨r, hr, ho, hm, hacc⟩ := hf

  simp only [Device.blockWrite, hr, ho, hm, hacc, reduceCtorEq, decide_false, decide_true, Bool.or_self, Bool.or_false, Bool.true_or, Bool.false_and, Bool.false_eq_true, if_false, if_true]

  simp [heldLower, heldUpper, Device.writeRule, Device.trsRule, codeIf, Device.regAct, Device.trsRegAct]

/-- An admitted write of TRS_CMD. -/
theorem Device.write_TRS_CMD {d : Device} {q : Requester} (v : Word)   (h : d.admitsWrite q Reg.TRS_CMD = true) :
    d.cmdWrite q Reg.TRS_CMD v = { (d.trsCmd (v.toNat &&& 0x7)) with last := ⟨0, false⟩ } := by
  have e : Reg.TRS_CMD = (⟨.trs, 0xF000, 1, 0xE, 0xFFFF011F, false, false, false, false⟩ : PageRow).base + 0x1000 * 0 + 72 := by
    decide
  rw [e] at h
  have hw := Device.cmdWrite_at (d := d) (q := q) (p := ⟨.trs, 0xF000, 1, 0xE, 0xFFFF011F, false, false, false, false⟩) (i := 0) (o := 72) v (by decide) (by simp <;> omega) (by omega) (by omega) (by omega) h
  rw [← e] at hw
  rw [hw]
  have hf : ∃ r, findRow (Block.rows .trs) 72 = some (r, 0) ∧ r.off = 72 ∧ r.mask = 7 ∧ r.acc = .wo := by
    have : ∃ r ∈ Block.rows .trs, findRow (Block.rows .trs) 72 = some (r, 0) ∧ r.off = 72 ∧ r.mask = 7 ∧ r.acc = .wo := by decide
    obtain ⟨r, -, hr⟩ := this; exact ⟨r, hr⟩
  obtain ⟨r, hr, ho, hm, hacc⟩ := hf

  simp only [Device.blockWrite, hr, ho, hm, hacc, reduceCtorEq, decide_false, decide_true, Bool.or_self, Bool.or_false, Bool.true_or, Bool.false_and, Bool.false_eq_true, if_false, if_true]

  simp [heldLower, heldUpper, Device.writeRule, Device.trsRule, codeIf, Device.regAct, Device.trsRegAct]

/-- An admitted write of TRS_LEQ. -/
theorem Device.write_TRS_LEQ {d : Device} {q : Requester} {j : Nat} (v : Word) (hj : j < 16)  (h : d.admitsWrite q (Reg.TRS_LEQ j) = true) :
    d.cmdWrite q (Reg.TRS_LEQ j) v = { (d.trsLeq j (v.toNat &&& 0x3F3F3F00)) with last := ⟨0, false⟩ } := by
  have e : (Reg.TRS_LEQ j) = (⟨.trs, 0xF000, 1, 0xE, 0xFFFF011F, false, false, false, false⟩ : PageRow).base + 0x1000 * 0 + (256 + 4 * j) := by
    simp only [Reg.TRS_LEQ, Page.TRS]; omega
  rw [e] at h
  have hw := Device.cmdWrite_at (d := d) (q := q) (p := ⟨.trs, 0xF000, 1, 0xE, 0xFFFF011F, false, false, false, false⟩) (i := 0) (o := (256 + 4 * j)) v (by decide) (by simp <;> omega) (by omega) (by omega) (by omega) h
  rw [← e] at hw
  rw [hw]
  have hf : ∃ r, findRow (Block.rows .trs) (256 + 4 * j) = some (r, j) ∧ r.off = 256 ∧ r.mask = 1061109504 ∧ r.acc = .rw := by
    have : ∀ j < 16, ∃ r ∈ Block.rows .trs, findRow (Block.rows .trs) (256 + 4 * j) = some (r, j) ∧ r.off = 256 ∧ r.mask = 1061109504 ∧ r.acc = .rw := by decide
    obtain ⟨r, -, hr⟩ := this j hj; exact ⟨r, hr⟩
  obtain ⟨r, hr, ho, hm, hacc⟩ := hf

  simp only [Device.blockWrite, hr, ho, hm, hacc, reduceCtorEq, decide_false, decide_true, Bool.or_self, Bool.or_false, Bool.true_or, Bool.false_and, Bool.false_eq_true, if_false, if_true]
  have c1 : ¬ 256 + 4 * j < 192 := by omega
  have c2 : True := trivial
  simp [c1, c2, heldLower, heldUpper, Device.writeRule, Device.trsRule, codeIf, Device.regAct, Device.trsRegAct]

/-- An admitted write of TRS_WDKICK. -/
theorem Device.write_TRS_WDKICK {d : Device} {q : Requester} (v : Word)   (h : d.admitsWrite q Reg.TRS_WDKICK = true) :
    d.cmdWrite q Reg.TRS_WDKICK v = { (d.wdogKick (v.toNat &&& 0xFF)) with last := ⟨0, false⟩ } := by
  have e : Reg.TRS_WDKICK = (⟨.trs, 0xF000, 1, 0xE, 0xFFFF011F, false, false, false, false⟩ : PageRow).base + 0x1000 * 0 + 92 := by
    decide
  rw [e] at h
  have hw := Device.cmdWrite_at (d := d) (q := q) (p := ⟨.trs, 0xF000, 1, 0xE, 0xFFFF011F, false, false, false, false⟩) (i := 0) (o := 92) v (by decide) (by simp <;> omega) (by omega) (by omega) (by omega) h
  rw [← e] at hw
  rw [hw]
  have hf : ∃ r, findRow (Block.rows .trs) 92 = some (r, 0) ∧ r.off = 92 ∧ r.mask = 255 ∧ r.acc = .wo := by
    have : ∃ r ∈ Block.rows .trs, findRow (Block.rows .trs) 92 = some (r, 0) ∧ r.off = 92 ∧ r.mask = 255 ∧ r.acc = .wo := by decide
    obtain ⟨r, -, hr⟩ := this; exact ⟨r, hr⟩
  obtain ⟨r, hr, ho, hm, hacc⟩ := hf

  simp only [Device.blockWrite, hr, ho, hm, hacc, reduceCtorEq, decide_false, decide_true, Bool.or_self, Bool.or_false, Bool.true_or, Bool.false_and, Bool.false_eq_true, if_false, if_true]

  simp [heldLower, heldUpper, Device.writeRule, Device.trsRule, codeIf, Device.regAct, Device.trsRegAct]

/-- An admitted write of TRS_WDOG. -/
theorem Device.write_TRS_WDOG {d : Device} {q : Requester} (v : Word)   (h : d.admitsWrite q Reg.TRS_WDOG = true) :
    d.cmdWrite q Reg.TRS_WDOG v = { (d.wdogSet (v.toNat &&& 0xFFFFFF)) with last := ⟨0, false⟩ } := by
  have e : Reg.TRS_WDOG = (⟨.trs, 0xF000, 1, 0xE, 0xFFFF011F, false, false, false, false⟩ : PageRow).base + 0x1000 * 0 + 88 := by
    decide
  rw [e] at h
  have hw := Device.cmdWrite_at (d := d) (q := q) (p := ⟨.trs, 0xF000, 1, 0xE, 0xFFFF011F, false, false, false, false⟩) (i := 0) (o := 88) v (by decide) (by simp <;> omega) (by omega) (by omega) (by omega) h
  rw [← e] at hw
  rw [hw]
  have hf : ∃ r, findRow (Block.rows .trs) 88 = some (r, 0) ∧ r.off = 88 ∧ r.mask = 16777215 ∧ r.acc = .rw := by
    have : ∃ r ∈ Block.rows .trs, findRow (Block.rows .trs) 88 = some (r, 0) ∧ r.off = 88 ∧ r.mask = 16777215 ∧ r.acc = .rw := by decide
    obtain ⟨r, -, hr⟩ := this; exact ⟨r, hr⟩
  obtain ⟨r, hr, ho, hm, hacc⟩ := hf

  simp only [Device.blockWrite, hr, ho, hm, hacc, reduceCtorEq, decide_false, decide_true, Bool.or_self, Bool.or_false, Bool.true_or, Bool.false_and, Bool.false_eq_true, if_false, if_true]

  simp [heldLower, heldUpper, Device.writeRule, Device.trsRule, codeIf, Device.regAct, Device.trsRegAct]

/-- An admitted write of EVQ_CTRL. -/
theorem Device.write_EVQ_CTRL {d : Device} {q : Requester} (v : Word)   (h : d.admitsWrite q Reg.EVQ_CTRL = true) :
    d.cmdWrite q Reg.EVQ_CTRL v = { (d.evqCtrl (v.toNat &&& 0x8001FFFF)) with last := ⟨0, false⟩ } := by
  have e : Reg.EVQ_CTRL = (⟨.evq, 0x10000, 1, 0xF, 0x3, false, false, false, false⟩ : PageRow).base + 0x1000 * 0 + 64 := by
    decide
  rw [e] at h
  have hw := Device.cmdWrite_at (d := d) (q := q) (p := ⟨.evq, 0x10000, 1, 0xF, 0x3, false, false, false, false⟩) (i := 0) (o := 64) v (by decide) (by simp <;> omega) (by omega) (by omega) (by omega) h
  rw [← e] at hw
  rw [hw]
  have hf : ∃ r, findRow (Block.rows .evq) 64 = some (r, 0) ∧ r.off = 64 ∧ r.mask = 2147614719 ∧ r.acc = .rw := by
    have : ∃ r ∈ Block.rows .evq, findRow (Block.rows .evq) 64 = some (r, 0) ∧ r.off = 64 ∧ r.mask = 2147614719 ∧ r.acc = .rw := by decide
    obtain ⟨r, -, hr⟩ := this; exact ⟨r, hr⟩
  obtain ⟨r, hr, ho, hm, hacc⟩ := hf

  simp only [Device.blockWrite, hr, ho, hm, hacc, reduceCtorEq, decide_false, decide_true, Bool.or_self, Bool.or_false, Bool.true_or, Bool.false_and, Bool.false_eq_true, if_false, if_true]

  simp [heldLower, heldUpper, Device.writeRule, Device.evqRule, codeIf, Device.regAct, Device.evqRegAct]

/-- An admitted write of EVQ_CONS. -/
theorem Device.write_EVQ_CONS {d : Device} {q : Requester} (v : Word)   (h : d.admitsWrite q Reg.EVQ_CONS = true) :
    d.cmdWrite q Reg.EVQ_CONS v = { (d.evqCons (v.toNat &&& 0xFFFFFFFF)) with last := ⟨0, false⟩ } := by
  have e : Reg.EVQ_CONS = (⟨.evq, 0x10000, 1, 0xF, 0x3, false, false, false, false⟩ : PageRow).base + 0x1000 * 0 + 88 := by
    decide
  rw [e] at h
  have hw := Device.cmdWrite_at (d := d) (q := q) (p := ⟨.evq, 0x10000, 1, 0xF, 0x3, false, false, false, false⟩) (i := 0) (o := 88) v (by decide) (by simp <;> omega) (by omega) (by omega) (by omega) h
  rw [← e] at hw
  rw [hw]
  have hf : ∃ r, findRow (Block.rows .evq) 88 = some (r, 0) ∧ r.off = 88 ∧ r.mask = 4294967295 ∧ r.acc = .rw := by
    have : ∃ r ∈ Block.rows .evq, findRow (Block.rows .evq) 88 = some (r, 0) ∧ r.off = 88 ∧ r.mask = 4294967295 ∧ r.acc = .rw := by decide
    obtain ⟨r, -, hr⟩ := this; exact ⟨r, hr⟩
  obtain ⟨r, hr, ho, hm, hacc⟩ := hf

  simp only [Device.blockWrite, hr, ho, hm, hacc, reduceCtorEq, decide_false, decide_true, Bool.or_self, Bool.or_false, Bool.true_or, Bool.false_and, Bool.false_eq_true, if_false, if_true]

  simp [heldLower, heldUpper, Device.writeRule, Device.evqRule, codeIf, Device.regAct, Device.evqRegAct]

/-- An admitted write of VIA_CMD. -/
theorem Device.write_VIA_CMD {d : Device} {q : Requester} (v : Word)   (h : d.admitsWrite q Reg.VIA_CMD = true) :
    d.cmdWrite q Reg.VIA_CMD v = { (d.viaCmd (v.toNat &&& 0x1F)) with last := ⟨0, false⟩ } := by
  have e : Reg.VIA_CMD = (⟨.via, 0xE000, 1, 0xD, 0xFF, false, false, false, false⟩ : PageRow).base + 0x1000 * 0 + 72 := by
    decide
  rw [e] at h
  have hw := Device.cmdWrite_at (d := d) (q := q) (p := ⟨.via, 0xE000, 1, 0xD, 0xFF, false, false, false, false⟩) (i := 0) (o := 72) v (by decide) (by simp <;> omega) (by omega) (by omega) (by omega) h
  rw [← e] at hw
  rw [hw]
  have hf : ∃ r, findRow (Block.rows .via) 72 = some (r, 0) ∧ r.off = 72 ∧ r.mask = 31 ∧ r.acc = .wo := by
    have : ∃ r ∈ Block.rows .via, findRow (Block.rows .via) 72 = some (r, 0) ∧ r.off = 72 ∧ r.mask = 31 ∧ r.acc = .wo := by decide
    obtain ⟨r, -, hr⟩ := this; exact ⟨r, hr⟩
  obtain ⟨r, hr, ho, hm, hacc⟩ := hf

  simp only [Device.blockWrite, hr, ho, hm, hacc, reduceCtorEq, decide_false, decide_true, Bool.or_self, Bool.or_false, Bool.true_or, Bool.false_and, Bool.false_eq_true, if_false, if_true]

  simp [heldLower, heldUpper, Device.writeRule, codeIf, Device.regAct, Device.viaRegAct]

/-- An admitted write of VIA_SKEW. -/
theorem Device.write_VIA_SKEW {d : Device} {q : Requester} (v : Word)   (h : d.admitsWrite q Reg.VIA_SKEW = true) :
    d.cmdWrite q Reg.VIA_SKEW v = { (d.viaSkew (v.toNat &&& 0xFFFFFFFF)) with last := ⟨0, false⟩ } := by
  have e : Reg.VIA_SKEW = (⟨.via, 0xE000, 1, 0xD, 0xFF, false, false, false, false⟩ : PageRow).base + 0x1000 * 0 + 84 := by
    decide
  rw [e] at h
  have hw := Device.cmdWrite_at (d := d) (q := q) (p := ⟨.via, 0xE000, 1, 0xD, 0xFF, false, false, false, false⟩) (i := 0) (o := 84) v (by decide) (by simp <;> omega) (by omega) (by omega) (by omega) h
  rw [← e] at hw
  rw [hw]
  have hf : ∃ r, findRow (Block.rows .via) 84 = some (r, 0) ∧ r.off = 84 ∧ r.mask = 4294967295 ∧ r.acc = .rws := by
    have : ∃ r ∈ Block.rows .via, findRow (Block.rows .via) 84 = some (r, 0) ∧ r.off = 84 ∧ r.mask = 4294967295 ∧ r.acc = .rws := by decide
    obtain ⟨r, -, hr⟩ := this; exact ⟨r, hr⟩
  obtain ⟨r, hr, ho, hm, hacc⟩ := hf

  simp only [Device.blockWrite, hr, ho, hm, hacc, reduceCtorEq, decide_false, decide_true, Bool.or_self, Bool.or_false, Bool.true_or, Bool.false_and, Bool.false_eq_true, if_false, if_true]

  simp [heldLower, heldUpper, Device.writeRule, codeIf, Device.regAct, Device.viaRegAct]

/-- An admitted write of TSTR_CTRL. -/
theorem Device.write_TSTR_CTRL {d : Device} {q : Requester} {j : Nat} (v : Word) (hj : j < 4)  (h : d.admitsWrite q (Reg.TSTR_CTRL j) = true) :
    d.cmdWrite q (Reg.TSTR_CTRL j) v = { (d.strobeCtrl j (v.toNat &&& 0xE00000FF)) with last := ⟨0, false⟩ } := by
  have e : (Reg.TSTR_CTRL j) = (⟨.time, 0xD000, 1, 0xC, 0x3, false, false, false, false⟩ : PageRow).base + 0x1000 * 0 + (128 + 16 * j) := by
    simp only [Reg.TSTR_CTRL, Page.TIME]; omega
  rw [e] at h
  have hw := Device.cmdWrite_at (d := d) (q := q) (p := ⟨.time, 0xD000, 1, 0xC, 0x3, false, false, false, false⟩) (i := 0) (o := (128 + 16 * j)) v (by decide) (by simp <;> omega) (by omega) (by omega) (by omega) h
  rw [← e] at hw
  rw [hw]
  have hf : ∃ r, findRow (Block.rows .time) (128 + 16 * j) = some (r, j) ∧ r.off = 128 ∧ r.mask = 3758096639 ∧ r.acc = .rw := by
    have : ∀ j < 4, ∃ r ∈ Block.rows .time, findRow (Block.rows .time) (128 + 16 * j) = some (r, j) ∧ r.off = 128 ∧ r.mask = 3758096639 ∧ r.acc = .rw := by decide
    obtain ⟨r, -, hr⟩ := this j hj; exact ⟨r, hr⟩
  obtain ⟨r, hr, ho, hm, hacc⟩ := hf

  simp only [Device.blockWrite, hr, ho, hm, hacc, reduceCtorEq, decide_false, decide_true, Bool.or_self, Bool.or_false, Bool.true_or, Bool.false_and, Bool.false_eq_true, if_false, if_true]
  have c1 : (128 + 16 * j) % 16 = 0 := by omega
  have c2 : True := trivial
  simp [c1, c2, heldLower, heldUpper, Device.writeRule, Device.timeRule, codeIf, Device.regAct]

/-- An admitted write of GRD_LATCH. -/
theorem Device.write_GRD_LATCH {d : Device} {q : Requester} (v : Word)   (h : d.admitsWrite q Reg.GRD_LATCH = true) :
    d.cmdWrite q Reg.GRD_LATCH v = { (d.grdLatchClear (v.toNat &&& 0xFFFFFFFF)) with last := ⟨0, false⟩ } := by
  have e : Reg.GRD_LATCH = (⟨.grd, 0x7000, 1, 0x8, 0xFFFFFFFF, true, false, true, false⟩ : PageRow).base + 0x1000 * 0 + 68 := by
    decide
  rw [e] at h
  have hw := Device.cmdWrite_at (d := d) (q := q) (p := ⟨.grd, 0x7000, 1, 0x8, 0xFFFFFFFF, true, false, true, false⟩) (i := 0) (o := 68) v (by decide) (by simp <;> omega) (by omega) (by omega) (by omega) h
  rw [← e] at hw
  rw [hw]
  have hf : ∃ r, findRow (Block.rows .grd) 68 = some (r, 0) ∧ r.off = 68 ∧ r.mask = 4294967295 ∧ r.acc = .w1c := by
    have : ∃ r ∈ Block.rows .grd, findRow (Block.rows .grd) 68 = some (r, 0) ∧ r.off = 68 ∧ r.mask = 4294967295 ∧ r.acc = .w1c := by decide
    obtain ⟨r, -, hr⟩ := this; exact ⟨r, hr⟩
  obtain ⟨r, hr, ho, hm, hacc⟩ := hf

  simp only [Device.blockWrite, hr, ho, hm, hacc, reduceCtorEq, decide_false, decide_true, Bool.or_self, Bool.or_false, Bool.true_or, Bool.false_and, Bool.false_eq_true, if_false, if_true]

  simp [heldLower, heldUpper, Device.writeRule, Device.grdRule, codeIf, Device.regAct, Device.grdRegAct]

/-- An admitted write of SAFE_CAUSE. -/
theorem Device.write_SAFE_CAUSE {d : Device} {q : Requester} (v : Word)   (h : d.admitsWrite q Reg.SAFE_CAUSE = true) :
    d.cmdWrite q Reg.SAFE_CAUSE v = { (d.safeClear (v.toNat &&& 0x3FFF)) with last := ⟨0, false⟩ } := by
  have e : Reg.SAFE_CAUSE = (⟨.safe, 0x8000, 1, 0x9, 0x7, false, false, true, false⟩ : PageRow).base + 0x1000 * 0 + 64 := by
    decide
  rw [e] at h
  have hw := Device.cmdWrite_at (d := d) (q := q) (p := ⟨.safe, 0x8000, 1, 0x9, 0x7, false, false, true, false⟩) (i := 0) (o := 64) v (by decide) (by simp <;> omega) (by omega) (by omega) (by omega) h
  rw [← e] at hw
  rw [hw]
  have hf : ∃ r, findRow (Block.rows .safe) 64 = some (r, 0) ∧ r.off = 64 ∧ r.mask = 16383 ∧ r.acc = .w1c := by
    have : ∃ r ∈ Block.rows .safe, findRow (Block.rows .safe) 64 = some (r, 0) ∧ r.off = 64 ∧ r.mask = 16383 ∧ r.acc = .w1c := by decide
    obtain ⟨r, -, hr⟩ := this; exact ⟨r, hr⟩
  obtain ⟨r, hr, ho, hm, hacc⟩ := hf

  simp only [Device.blockWrite, hr, ho, hm, hacc, reduceCtorEq, decide_false, decide_true, Bool.or_self, Bool.or_false, Bool.true_or, Bool.false_and, Bool.false_eq_true, if_false, if_true]

  simp [heldLower, heldUpper, Device.writeRule, codeIf, Device.regAct, Device.safeRegAct]

/-- An admitted write of SAFE_KEY. -/
theorem Device.write_SAFE_KEY {d : Device} {q : Requester} (v : Word)   (h : d.admitsWrite q Reg.SAFE_KEY = true) :
    d.cmdWrite q Reg.SAFE_KEY v = { (d.safeKey (reqNo q) (v.toNat &&& 0xFFFFFFFF)) with last := ⟨0, false⟩ } := by
  have e : Reg.SAFE_KEY = (⟨.safe, 0x8000, 1, 0x9, 0x7, false, false, true, false⟩ : PageRow).base + 0x1000 * 0 + 72 := by
    decide
  rw [e] at h
  have hw := Device.cmdWrite_at (d := d) (q := q) (p := ⟨.safe, 0x8000, 1, 0x9, 0x7, false, false, true, false⟩) (i := 0) (o := 72) v (by decide) (by simp <;> omega) (by omega) (by omega) (by omega) h
  rw [← e] at hw
  rw [hw]
  have hf : ∃ r, findRow (Block.rows .safe) 72 = some (r, 0) ∧ r.off = 72 ∧ r.mask = 4294967295 ∧ r.acc = .wo := by
    have : ∃ r ∈ Block.rows .safe, findRow (Block.rows .safe) 72 = some (r, 0) ∧ r.off = 72 ∧ r.mask = 4294967295 ∧ r.acc = .wo := by decide
    obtain ⟨r, -, hr⟩ := this; exact ⟨r, hr⟩
  obtain ⟨r, hr, ho, hm, hacc⟩ := hf

  simp only [Device.blockWrite, hr, ho, hm, hacc, reduceCtorEq, decide_false, decide_true, Bool.or_self, Bool.or_false, Bool.true_or, Bool.false_and, Bool.false_eq_true, if_false, if_true]

  simp [heldLower, heldUpper, Device.writeRule, codeIf, Device.regAct, Device.safeRegAct]

/-- An admitted write of SAFE_CMD. -/
theorem Device.write_SAFE_CMD {d : Device} {q : Requester} (v : Word)   (h : d.admitsWrite q Reg.SAFE_CMD = true) :
    d.cmdWrite q Reg.SAFE_CMD v = { (if natBit (v.toNat &&& 0x1) 0 then d.safeCause 13 else d) with last := ⟨0, false⟩ } := by
  have e : Reg.SAFE_CMD = (⟨.safe, 0x8000, 1, 0x9, 0x7, false, false, true, false⟩ : PageRow).base + 0x1000 * 0 + 76 := by
    decide
  rw [e] at h
  have hw := Device.cmdWrite_at (d := d) (q := q) (p := ⟨.safe, 0x8000, 1, 0x9, 0x7, false, false, true, false⟩) (i := 0) (o := 76) v (by decide) (by simp <;> omega) (by omega) (by omega) (by omega) h
  rw [← e] at hw
  rw [hw]
  have hf : ∃ r, findRow (Block.rows .safe) 76 = some (r, 0) ∧ r.off = 76 ∧ r.mask = 1 ∧ r.acc = .wo := by
    have : ∃ r ∈ Block.rows .safe, findRow (Block.rows .safe) 76 = some (r, 0) ∧ r.off = 76 ∧ r.mask = 1 ∧ r.acc = .wo := by decide
    obtain ⟨r, -, hr⟩ := this; exact ⟨r, hr⟩
  obtain ⟨r, hr, ho, hm, hacc⟩ := hf

  simp only [Device.blockWrite, hr, ho, hm, hacc, reduceCtorEq, decide_false, decide_true, Bool.or_self, Bool.or_false, Bool.true_or, Bool.false_and, Bool.false_eq_true, if_false, if_true]

  simp [heldLower, heldUpper, Device.writeRule, codeIf, Device.regAct, Device.safeRegAct]

/-- An admitted write of MGMT_CMD. -/
theorem Device.write_MGMT_CMD {d : Device} {q : Requester} (v : Word)   (h : d.admitsWrite q Reg.MGMT_CMD = true) :
    d.cmdWrite q Reg.MGMT_CMD v = { (if natBit (v.toNat &&& 0x1) 0 then d.krestart 1 else d) with last := ⟨0, false⟩ } := by
  have e : Reg.MGMT_CMD = (⟨.mgmt, 0x4000, 1, 0x5, 0xF, false, false, true, false⟩ : PageRow).base + 0x1000 * 0 + 72 := by
    decide
  rw [e] at h
  have hw := Device.cmdWrite_at (d := d) (q := q) (p := ⟨.mgmt, 0x4000, 1, 0x5, 0xF, false, false, true, false⟩) (i := 0) (o := 72) v (by decide) (by simp <;> omega) (by omega) (by omega) (by omega) h
  rw [← e] at hw
  rw [hw]
  have hf : ∃ r, findRow (Block.rows .mgmt) 72 = some (r, 0) ∧ r.off = 72 ∧ r.mask = 1 ∧ r.acc = .wo := by
    have : ∃ r ∈ Block.rows .mgmt, findRow (Block.rows .mgmt) 72 = some (r, 0) ∧ r.off = 72 ∧ r.mask = 1 ∧ r.acc = .wo := by decide
    obtain ⟨r, -, hr⟩ := this; exact ⟨r, hr⟩
  obtain ⟨r, hr, ho, hm, hacc⟩ := hf

  simp only [Device.blockWrite, hr, ho, hm, hacc, reduceCtorEq, decide_false, decide_true, Bool.or_self, Bool.or_false, Bool.true_or, Bool.false_and, Bool.false_eq_true, if_false, if_true]

  simp [heldLower, heldUpper, Device.writeRule, codeIf, Device.regAct, Device.mgmtRegAct]

/-- An admitted write of MGMT_MBCMD. -/
theorem Device.write_MGMT_MBCMD {d : Device} {q : Requester} (v : Word)   (h : d.admitsWrite q Reg.MGMT_MBCMD = true) :
    d.cmdWrite q Reg.MGMT_MBCMD v = { (if natBit (v.toNat &&& 0x3) 1 then d.mbAbort else if natBit (v.toNat &&& 0x3) 0 then d.mbPost 0 else d) with last := ⟨0, false⟩ } := by
  have e : Reg.MGMT_MBCMD = (⟨.mgmt, 0x4000, 1, 0x5, 0xF, false, false, true, false⟩ : PageRow).base + 0x1000 * 0 + 76 := by
    decide
  rw [e] at h
  have hw := Device.cmdWrite_at (d := d) (q := q) (p := ⟨.mgmt, 0x4000, 1, 0x5, 0xF, false, false, true, false⟩) (i := 0) (o := 76) v (by decide) (by simp <;> omega) (by omega) (by omega) (by omega) h
  rw [← e] at hw
  rw [hw]
  have hf : ∃ r, findRow (Block.rows .mgmt) 76 = some (r, 0) ∧ r.off = 76 ∧ r.mask = 3 ∧ r.acc = .wo := by
    have : ∃ r ∈ Block.rows .mgmt, findRow (Block.rows .mgmt) 76 = some (r, 0) ∧ r.off = 76 ∧ r.mask = 3 ∧ r.acc = .wo := by decide
    obtain ⟨r, -, hr⟩ := this; exact ⟨r, hr⟩
  obtain ⟨r, hr, ho, hm, hacc⟩ := hf

  simp only [Device.blockWrite, hr, ho, hm, hacc, reduceCtorEq, decide_false, decide_true, Bool.or_self, Bool.or_false, Bool.true_or, Bool.false_and, Bool.false_eq_true, if_false, if_true]

  simp [heldLower, heldUpper, Device.writeRule, codeIf, Device.regAct, Device.mgmtRegAct]

/-- An admitted write of FUSE_CMD. -/
theorem Device.write_FUSE_CMD {d : Device} {q : Requester} (v : Word)   (h : d.admitsWrite q Reg.FUSE_CMD = true) :
    d.cmdWrite q Reg.FUSE_CMD v = { (if natBit (v.toNat &&& 0x1) 0 then d.fuseFclr else d) with last := ⟨0, false⟩ } := by
  have e : Reg.FUSE_CMD = (⟨.fuse, 0x3000, 1, 0x4, 0x7, false, false, true, false⟩ : PageRow).base + 0x1000 * 0 + 84 := by
    decide
  rw [e] at h
  have hw := Device.cmdWrite_at (d := d) (q := q) (p := ⟨.fuse, 0x3000, 1, 0x4, 0x7, false, false, true, false⟩) (i := 0) (o := 84) v (by decide) (by simp <;> omega) (by omega) (by omega) (by omega) h
  rw [← e] at hw
  rw [hw]
  have hf : ∃ r, findRow (Block.rows .fuse) 84 = some (r, 0) ∧ r.off = 84 ∧ r.mask = 1 ∧ r.acc = .wo := by
    have : ∃ r ∈ Block.rows .fuse, findRow (Block.rows .fuse) 84 = some (r, 0) ∧ r.off = 84 ∧ r.mask = 1 ∧ r.acc = .wo := by decide
    obtain ⟨r, -, hr⟩ := this; exact ⟨r, hr⟩
  obtain ⟨r, hr, ho, hm, hacc⟩ := hf

  simp only [Device.blockWrite, hr, ho, hm, hacc, reduceCtorEq, decide_false, decide_true, Bool.or_self, Bool.or_false, Bool.true_or, Bool.false_and, Bool.false_eq_true, if_false, if_true]

  simp [heldLower, heldUpper, Device.writeRule, codeIf, Device.regAct]

/-- An admitted write of TWN_CMD. -/
theorem Device.write_TWN_CMD {d : Device} {q : Requester} (v : Word)   (h : d.admitsWrite q Reg.TWN_CMD = true) :
    d.cmdWrite q Reg.TWN_CMD v = { (let d := if natBit (v.toNat &&& 0x3) 0 then d.swapCmd else d; if natBit (v.toNat &&& 0x3) 1 then d.hashCmd else d) with last := ⟨0, false⟩ } := by
  have e : Reg.TWN_CMD = (⟨.twn, 0x14000, 1, 0x13, 0x3F, false, false, false, false⟩ : PageRow).base + 0x1000 * 0 + 72 := by
    decide
  rw [e] at h
  have hw := Device.cmdWrite_at (d := d) (q := q) (p := ⟨.twn, 0x14000, 1, 0x13, 0x3F, false, false, false, false⟩) (i := 0) (o := 72) v (by decide) (by simp <;> omega) (by omega) (by omega) (by omega) h
  rw [← e] at hw
  rw [hw]
  have hf : ∃ r, findRow (Block.rows .twn) 72 = some (r, 0) ∧ r.off = 72 ∧ r.mask = 3 ∧ r.acc = .wo := by
    have : ∃ r ∈ Block.rows .twn, findRow (Block.rows .twn) 72 = some (r, 0) ∧ r.off = 72 ∧ r.mask = 3 ∧ r.acc = .wo := by decide
    obtain ⟨r, -, hr⟩ := this; exact ⟨r, hr⟩
  obtain ⟨r, hr, ho, hm, hacc⟩ := hf

  simp only [Device.blockWrite, hr, ho, hm, hacc, reduceCtorEq, decide_false, decide_true, Bool.or_self, Bool.or_false, Bool.true_or, Bool.false_and, Bool.false_eq_true, if_false, if_true]

  simp [heldLower, heldUpper, Device.writeRule, codeIf, Device.regAct, Device.twnRegAct]

end Sys2Proof.Machine
end

