-- ==== Sys2Proof/Tests/Slice0.lean ====
section
/-! SUPPORT. Tests: what a command with ill-formed operands does, one step of some commands with results from the spec, and a state and operands for the hypotheses of every statement. -/

namespace Sys2Proof.Tests

set_option Elab.async false

open Sys2Proof Sys2Proof.Machine

/-! ## Small devices -/

/-- Ready, in NORMAL, everything awake. -/
def ready : Device :=
  let d := Device.reset
  let d := (d.setFld Reg.MGMT_STATUS 24 8 7).setBit Reg.MGMT_STATUS 0 true
  let d := (d.setRegN Reg.SAFE_STATUS 0).setRegN Reg.SAFE_CAUSE 0
  let d := (d.setFld Reg.PWR_STATE 0 3 0).setRegN Reg.PWR_AWAKE_P 0xFFFF
  let d := (d.setRegN Reg.PWR_AWAKE_M 0xFFFFFFFF)
  let d := (d.setBit Reg.MEM_STATUS 8 true).setBit Reg.MEM_STATUS 9 true
  (d.setFld Reg.CLK_STATUS 0 6 0x3F).setBit Reg.CLK_STATUS 7 true
/-- Stream 3 executes the instruction `op` with fields `w` at address 5. -/
def seqIns (op w : Nat) : Device :=
  let x := op * 2 ^ 56 + w
  let d := ready.modStr 3 (fun c => { c with eng := .running })
  let d := (d.setStrState 3 3).setRegN (Reg.STR_PC 3) 5
  ((d.setRegN (seqAddr 5) (x % 2 ^ 32)).setRegN (seqAddr 5 + 4) (x / 2 ^ 32)).setRegN (0x700000 + 4 * d.entryOf 3 op) (2 ^ 31)
/-- The micro-engine of stream 3 executes a micro-operation at the first word of the customer region; G1 = 6, G2 = 4. -/
def microOp (cls w : Nat) : Device :=
  let d := ready.modStr 3 (fun c => { c with eng := .micro, micro := { c.micro with upc := 12352 } })
  let d := (d.setStrState 3 3).setRegN (Reg.STR_PC 3) 5
  let d := (d.setRegN (Reg.STR_G 3 1) 6).setRegN (Reg.STR_G 3 2) 4
  d.setRegN (0x700000 + 4 * 12352) (cls * 2 ^ 27 + w)
/-- Stream 3 with pier 3, admitted. -/
def pier3 : Device := (ready.setRegN (Reg.PIER_CTRL 3) 0x1300).setBit Reg.LDG_ADMITTED 3 true
/-- Stream 3 in a state, its context changed. -/
def stream3 (st : Nat) (f : StrCtx → StrCtx) : Device := (pier3.setStrState 3 st).modStr 3 f
/-- A launch time 10 µs ahead. -/
def launchAhead (d : Device) : Device := d.setReg64 (Reg.STR_LAUNCH_T_LO 3) (Reg.STR_LAUNCH_T_HI 3) (10 * usTicks)
/-- The load engine in a state with an image staged. -/
def loading (n : Nat) (img : List Nat) : Device := { ready.setFld Reg.UCS_STATUS 0 3 n with ucs := { UcsCtx.reset with stage := img } }
/-- Meter 3 in a state and a mode, its context changed; the source of START is 5, that of STOP 6. -/
def meter3 (st mode : Nat) (f : IvmCtx → IvmCtx) : Device :=
  ((((ready.setFld (Reg.IVM_STATUS 3) 0 3 st).setFld (Reg.IVM_CTRL 3) 0 2 mode).setRegN (Reg.IVM_START 3) 5).setRegN (Reg.IVM_STOP 3) 6).modIvm 3 f
/-- Channel 0 READY, with a number of replays. -/
def channel0 (n : Nat) : Device := (ready.setFld (Reg.MCH_STATUS 0) 4 2 1).modMch 0 (fun c => { c with rep0 := n })
/-- The ledger with a command taken, and the stacks up. -/
def ledger (x : Bool) (m : Nat) : Device := { pier3 with ldg := { pier3.ldg with cmd := some (x, m) } }
/-- The calibration engine in a state, with a kind of run; meter 3 may be lent. -/
def calib (st kind : Nat) (f : CalCtx → CalCtx) : Device :=
  (((ready.setFld Reg.CAL_STATUS 0 3 st).setFld Reg.CAL_STATUS 12 4 kind).setBit (Reg.IVM_CTRL 3) 6 true).modCal f
/-- Task 5 in a state, with counters; core 2 runs and is awake. -/
def task5 (st : Nat) : Device :=
  ((ready.setTaskState 5 st).setRegN (tdAddr 5 0x0C) 4).setFld (Reg.DISP_CORE 2) 0 2 3
/-- The interrupt controller with software source 300 pending, of priority 3, which Keystone admits. -/
def source (n : Nat) : Device :=
  ((((ready.setFld (Reg.INTC_SRC (n / 2)) (16 * (n % 2)) 4 3).setBit (Reg.INTC_GRP 0) 16 true).setBit (Reg.INTC_TCTRL 16) 0 true)).modIntc (fun c => { c with pend := 2 ^ n })
/-- Link `k` in a state, its context changed. -/
def link (k st : Nat) (f : LinkCtx → LinkCtx) : Device := (ready.modLink k (fun c => f { c with lst := st })).setRegN Reg.TRS_CTRL 0x1FFFF
/-- Trestle ACTIVE, with a packet not yet acknowledged; the Trestle context changed. -/
def trestle (f : TrsCtx → TrsCtx) : Device := (link 0 3 (fun c => { c with active := 0xFFFF, mine := 0xFFFF })).modTrs f
/-- DMA queue 0 enabled and busy, with a descriptor. -/
def dma0 (desc : List Word) : Device :=
  (((ready.setBit (Reg.TRS_DQ_STAT 0) 16 true).setBit (Reg.TRS_DQ_CTRL 0) 31 true)).modDma 0 (fun c => { c with desc := desc })
/-- The event ring enabled, with Trestle ACTIVE. -/
def ring : Device := ((trestle id).setRegN Reg.EVQ_CTRL (2 ^ 31 + 4)).setRegN Reg.EVQ_MOD 1
/-- The Viaduct with bits of its status from bit 8 (1 master, 2 up, 4 down, 16 armed), its context changed. -/
def viaduct (d : Device) (bits : Nat) (f : ViaCtx → ViaCtx) : Device := (d.setFld Reg.VIA_STATUS 8 5 bits).modVia f
/-- Stream 3 in a quorum launch 10 µs ahead. -/
def quorum3 : Device := launchAhead (stream3 1 (fun c => { c with arm := .quorum }))
/-- A request of the host waits, with its opcode, length and first payload word. -/
def request (op len w4 : Nat) : Device :=
  let d := ((ready.setRegN (Reg.MGMT_REQ 0) op).setRegN (Reg.MGMT_REQ 1) len).setRegN (Reg.MGMT_REQ 4) w4
  ((d.setFld Reg.MGMT_MBSTAT 0 2 1).setRegN (Reg.SUP_NOW 7) 4095).modKey (fun k => { k with posts := [0] })
/-- The device before its stage `n`, Keystone asleep. -/
def atStage (n : Nat) : Device := ((ready.setFld Reg.MGMT_STATUS 24 8 n).setBit Reg.MGMT_STATUS 0 false).modKey (fun k => { k with slot0 := none })
/-- A request of the test port waits, with its opcode, length and two payload words. -/
def jtagRequest (op len w4 w5 : Nat) : Device :=
  (ready.setRegN (Reg.SUP_NOW 7) 4095).modKey (fun k => { k with posts := [1], jtag := ⟨[(0, BitVec.ofNat 32 op), (1, BitVec.ofNat 32 len), (4, BitVec.ofNat 32 w4), (5, BitVec.ofNat 32 w5)], 0, 1⟩ })
/-- Guard 3 enabled, with three samples before and a window from 100 to 200. -/
def guard3 (x : Nat) : Device :=
  (((ready.setBit (Reg.PG_CTRL Page.GRD) 0 true).setRegN (Reg.GRD_CFG 3) (2 ^ 31 + 2 * 2 ^ 8)).setRegN (Reg.GRD_THR 3) (100 + 200 * 2 ^ 16)).modGrd 3 (fun c => { c with samples := List.replicate 3 (decide (x < 100 ∨ 200 < x), decide (100 ≤ x ∧ x ≤ 200)) })
/-- The safe state in a state, with causes. -/
def safe (st cause : Nat) (k : Option (Nat × Nat)) : Device := { (ready.setFld Reg.SAFE_STATUS 29 2 st).setRegN Reg.SAFE_CAUSE cause with keyReq := k }
/-- The twin link ACTIVE and a role, the twin context changed. -/
def twinRole (role : Nat) (f : TwinCtx → TwinCtx) : Device := ((ready.modLink 3 (fun c => { c with lst := 3 })).setFld Reg.TWN_STATUS 0 3 role).modTwin f

/-- A device with no command waiting. -/
def alone (d : Device) : State := ⟨d, []⟩

/-- The device after a command, as it was before where the command stops. -/
def after (c : Instr) (d : Device) : Device := match exec c (alone d) with
  | .next t => t.dev
  | _ => d

/-! ## Ill-formed operands stop by name -/

theorem test_read_back_beyond_half : exec (.ucsLoadWriteDone (some (6144, 0))) (alone ready) = .fault .illFormed := rfl
theorem test_replay_beyond_memory : exec (.memReplayDone 0 0 none 0xC00000000) (alone ready) = .fault .illFormed := rfl
theorem test_write_back_beyond_memory : exec (.memCeWriteback 0xC00000000 0 false) (alone ready) = .fault .illFormed := rfl
theorem test_scrub_beyond_memory : exec (.memScrubRead 0xC00000000 .good 0) (alone ready) = .fault .illFormed := rfl
theorem test_reading_of_19_sensors : exec (.sensorReading (List.replicate 19 0)) (alone ready) = .fault .illFormed := rfl
theorem test_rwr_of_128_dwords : (Instr.rwr 0 0 0 (List.replicate 128 0)).wellFormed = false := by decide +kernel
theorem test_cpl_of_128_dwords : (Instr.cpl 0 0 (List.replicate 128 0)).wellFormed = false := by decide +kernel
theorem test_snap_of_no_dword : exec (.twinSnap 0 0 []) (alone ready) = .fault .illFormed := rfl
theorem test_snap_of_5_dwords : exec (.twinSnap 0 0 [0, 0, 0, 0, 0]) (alone ready) = .fault .illFormed := rfl
theorem test_calibration_of_a_short_path : (Instr.calComputeDone [⟨3, ⟨0, [1], 0, []⟩, ⟨0, [1], 0, []⟩⟩] [] []).wellFormed = false := by decide +kernel
theorem test_hello_of_role_6 : exec (.twinHello 0 6 false false false) (alone ready) = .fault .illFormed := rfl
theorem test_bypass_of_idcode : exec (.bypass 2) (alone ready) = .fault .illFormed := rfl
theorem test_word_spells_no_command : decodeTableWord 32 0 = none := by decide

/-! ## Worked examples of the spec -/

/-- 17, finding a register: PG_ID at 0x12_5000 reads 0x0080_2501, as CHN 0x25 with layout 0x01. -/
theorem test_pg_id_of_chn037 : (ready.readAt 16 0x125000).2 = some 0x00802501 := by decide +kernel

/-- 17, locking a page: PG_LOCK of GRD then reads 1; a write of GRD_CFG5 is turned away with fault code 0xFF; the key again unlocks. -/
theorem test_lock_of_guard_page :
    (let d := after (.pgLockWrite .host 0x007 0x5EA10042) ready
     let e := after (.registerWrite .host 0x007150 true 5) d
     ((d.readAt 16 0x007024).2, e.last.error, e.fld (Reg.PG_FAULT_CODE Page.GRD) 0 8, ((after (.pgLockWrite .host 0x007 0x5EA10042) e).readAt 16 0x007024).2)) =
      (some 1, true, 0xFF, some 0) := by decide +kernel

/-- 09, the record at 0x6_0000_0940: pseudo-channel 1 of channel 4 of stack B, MCH20, row 0. -/
theorem test_place_of_capture_record : (mchOf 0x600000940, pcOf 0x600000940, rowOf 0x600000940) = (20, 1, 0) := by decide +kernel

/-- 09, admitting S5 at a period of 1 ns: waveform mode, one pier: 96,125 Mb/s of reads and 170,667 Mb/s of capture. -/
theorem test_demand_of_s5 :
    (let d := ready.setRegN (Reg.PIER_CTRL 8) 0x1500
     (d.rRead 5, d.rCap 5)) = (96125, 170667) := by decide +kernel

/-- 04, a match loop: a largest round trip of 18,432 ticks and a period of 8,192 ticks give STR_MATCHMIN 23. -/
theorem test_matchmin_of_s3 :
    (let d := ((ready.setRegN (Reg.PIER_CTRL 6) 0x1300).setRegN (Reg.CHN_RTD 96) 18432).setRegN (Reg.STR_MATCHLAT 3) (4 * 2 ^ 24 + 24)
     (after (.pgCommit .host 0x160) (d.setRegN (Reg.STR_PER_INT 3 4) 8191)).matchMin 3) = 23 := by decide +kernel

/-- 04, the encoding 0x0405_0000_2710_0028: MATCH of span 40 with SENSE 0, SCOPE 0, G5 and MAXPASS 10,000 goes to the queue. -/
theorem test_match_of_span_40 :
    ((after (.matchSpan 3 ⟨false, .good, []⟩) (seqIns 0x04 0x05000027100028)).strOf 3).queue.map (fun x => match x with
      | .matchPlay n _ _ r => (n, r.sense, r.scope, r.maxpass)
      | _ => (0, true, true, 0)) = [(40, false, false, 10000)] := by decide +kernel

/-- 07, the encoding 0x0200_270F_0000_012C: PLAY of span 300, 10,000 times; 64 of them fill the queue. -/
theorem test_play_of_span_300 :
    (let c := (after (.play 3 ⟨false, .good, []⟩) (seqIns 0x02 0x00270F0000012C)).strOf 3
     (c.queue.length, c.held)) = (64, some (300, 9936, 5)) := by decide +kernel

/-- 05, PLAYTAB: its five micro-operations and its one dispatch entry pass the verifier. -/
theorem test_playtab_verifies :
    verifyImage ([0x43554D46, 0x20001, 0, 69, 0x10, 0, 1] ++ List.replicate 25 0 ++ (List.replicate 64 0).set 4 0x80003040 ++
      [0x0843001A, 0x74600000, 0x3C400320, 0x086B5001, 0x40000000]) = none := by decide +kernel

/-- 08, a slope of 26,214.4 ticks: IVM_RES 0x6666_6666 and IVM_FREQ 0x24_6139_CA80. -/
theorem test_frequency_of_ch070 :
    (let s := ivmSlope [(0, 0), (5, 131072), (10, 262144)]
     ivmFreq s.1 s.2 1) = some (0x66666666, 0x246139CA80) := by decide +kernel

/-- 08, the differences of R204: +20, −10 and −4,096 ticks, unsigned and signed. -/
theorem test_interval_reports :
    (ivmReport 20 false, ivmReport (-10) false, ivmReport (-10) true, ivmReport (-4096) false, (ivmReport (-4096) true).2) =
      ((20, 2 ^ 30), (0, 2 ^ 30), (2 ^ 64 - 10, 2 ^ 30), (0, 2 ^ 29), 2 ^ 29) := by decide +kernel

/-- 13, calibrating two slaves: one exchange of device 1 has RT 34,408. -/
theorem test_exchange_of_device_1 :
    (after (.dresp 80059903 40960 80075368) (viaduct ready 2 (fun c => { c with calRun := true, t1 := some 80000000 }))).via.sumRT = 34408 := by decide +kernel

/-- 13, with VIA_ASYM 208 and 4,096 such exchanges: O is −1,843, VIA_LINKDLY 17,308 and the correction +1,843. -/
theorem test_correction_of_device_1 :
    (let d := ((viaduct ready 2 (fun c => { c with calRun := true, t1 := some 80000000, exch := 4095, sumRT := 4095 * 34408, sumD := 4095 * -18943 })).setFld
        Reg.VIA_STATUS 16 6 1).setRegN Reg.VIA_ASYM 208
     let e := after (.dresp 80059903 40960 80075368) d
     (e.via.o, e.via.pendC, e.regN Reg.VIA_LINKDLY)) = (some (-1843), some 1843, 17308) := by decide +kernel

/-- 14, monitor 5: the fifth sample of 856.055 mV, code 2,922, in the band makes it UNRESOLVED and enters the safe state with cause GUARD. -/
theorem test_unresolved_guard :
    (let d := (((ready.setBit (Reg.PG_CTRL Page.GRD) 0 true).setRegN (Reg.GRD_CFG 5) 0xE8040402).setRegN (Reg.GRD_THR 5) 0x0C9A0B66).setRegN (Reg.GRD_HYST 5) 17
     let e := after (.guardSample 5 ⟨856054688, 0⟩) (d.modGrd 5 (fun c => { c with samples := List.replicate 4 (false, false) }))
     (e.fld (Reg.GRD_STATE 5) 30 2, e.bit Reg.SAFE_CAUSE 11)) = (1, true) := by decide +kernel

/-- 14, the supply settled at 900 mV at the balls, code 3,072: IN. -/
theorem test_guard_in :
    (let d := (((ready.setBit (Reg.PG_CTRL Page.GRD) 0 true).setRegN (Reg.GRD_CFG 5) 0xE8040402).setRegN (Reg.GRD_THR 5) 0x0C9A0B66).setRegN (Reg.GRD_HYST 5) 17
     (after (.guardSample 5 ⟨900000000, 0⟩) (d.modGrd 5 (fun c => { c with samples := List.replicate 4 (false, true) }))).fld (Reg.GRD_STATE 5) 30 2) = 2 := by decide +kernel

/-- 18 and R364: reset leaves SAFE with cause POWERON at stage 0x01. -/
theorem test_reset : (Device.reset.reg Reg.SAFE_STATUS, Device.reset.reg Reg.SAFE_CAUSE, Device.reset.stage) = (0xB0000000, 1, 1) := by decide +kernel

/-- 11, the RISC-V words ADDI x1, x0, 5 (0x00500093) and SW x1, 16(x0) (0x00102823), and C.LI x1, 5 (0x4095): what a core does with them. -/
theorem test_core_words :
    (let d := (ready.rvExec 2 0x00500093 4 .good).1
     let e := (d.rvExec 2 0x00102823 4 .good).1
     ((d.cpu 2).rx 1, (d.cpu 2).pc, memGet e.sram 0x4080010 4, rvExpand 0x4095)) = (5, 4, 5, some 0x00500093) := by decide +kernel

/-- 15, IDCODE: the identification register holds 0x1F2569CB. -/
theorem test_idcode : (after .idcode ready).tap.dr = 0x1F2569CB := by decide +kernel

/-! ## The queue -/

theorem test_step_takes_the_front : step ⟨ready, [.safeNExternalLow, .ackTimer]⟩ = exec .safeNExternalLow ⟨ready, [.ackTimer]⟩ := rfl
theorem test_idle_counts_one_clock : (match step (alone ready) with | .next t => t.dev.ttime | _ => 0) = 1280 := by decide +kernel

/-! ## The hypotheses of the statements are met -/

theorem witness_StepRunsTheFront :
    (∃ (s : State) (c : Instr) (rest : List Instr), s.pending = c :: rest) ∧
    (∃ s : State, s.pending = [] ∧ (∀ k < 16, s.dev.coreAwake k = false) ∧ s.dev.disp.sramCe = 0 ∧ s.dev.lst 0 ≠ 6 ∧ s.dev.timeRuns = false) ∧
    (∃ s : State, s.pending = [] ∧ (∀ k < 16, s.dev.coreAwake k = false) ∧ s.dev.disp.sramCe = 0 ∧ s.dev.lst 0 ≠ 6 ∧ s.dev.timeRuns = true ∧ s.dev.pwrState ≠ 2 ∧
      s.dev.pwrState ≠ 3 ∧ s.dev.ttime + 1280 < 2 ^ 64) :=
  ⟨⟨⟨ready, [.ackTimer]⟩, _, _, rfl⟩, ⟨State.reset, by decide +kernel⟩, ⟨alone ready, by decide +kernel⟩⟩

theorem witness_CommandsComplete :
    (∃ c : Instr, c.wellFormed = true) ∧ (∃ c : Instr, c.wellFormed = false) := ⟨⟨.ackTimer, rfl⟩, ⟨.bypass 2, rfl⟩⟩

theorem witness_InterruptsFollow : ∃ s t : State, step s = .next t := ⟨State.reset, _, rfl⟩

/-! ## Witnesses of the statements -/

/-- States and operands that meet the hypotheses of each clause of `Obligations.ClocksLostAndRegained`. -/
theorem witness_ClocksLostAndRegained :
    (∃ (s : State), s.dev.bit Reg.CLK_STATUS 7 = true) ∧
    (∃ (s : State) (k : Fin 6), s.dev.bit Reg.CLK_STATUS k.val = true) ∧
    (∃ (s : State) (k : Fin 6), s.dev.bit Reg.CLK_STATUS k.val = false ∧ ((k.val = 5 ∨ s.dev.bit Reg.CLK_STATUS 7 = true))) :=
  ⟨⟨alone (ready), by decide +kernel⟩,
    ⟨alone (ready), 0, by decide +kernel⟩,
    ⟨alone (ready.setFld Reg.CLK_STATUS 0 6 0x3B), 2, by decide +kernel⟩⟩

/-- States and operands that meet the hypotheses of each clause of `Obligations.PowerRequests`. -/
theorem witness_PowerRequests :
    (∃ (s : State) (q : Requester), s.dev.admitsWrite q Reg.PWR_REQ = true ∧ ((s.dev.pwrState = 2 ∨ s.dev.pwrState = 3))) ∧
    (∃ (s : State) (q : Requester), s.dev.admitsWrite q Reg.PWR_REQ = true ∧ s.dev.pwrState ≤ 1 ∧ s.dev.dozeRefusal = none ∧ s.dev.calState = 0) ∧
    (∃ (s : State) (q : Requester) (c : Nat), s.dev.admitsWrite q Reg.PWR_REQ = true ∧ s.dev.pwrState ≤ 1 ∧ s.dev.dozeRefusal = some c) ∧
    (∃ (s : State) (q : Requester), s.dev.admitsWrite q Reg.PWR_REQ = true ∧ ((s.dev.pwrState = 4 ∨ s.dev.pwrState = 5))) :=
  ⟨⟨alone (ready.setFld Reg.PWR_STATE 0 3 2), .host, by decide +kernel⟩,
    ⟨alone (ready), .host, by decide +kernel⟩,
    ⟨alone (ready.setStrState 0 3), .host, 1, by decide +kernel⟩,
    ⟨alone (ready.setFld Reg.PWR_STATE 0 3 5), .host, by decide +kernel⟩⟩

/-- States and operands that meet the hypotheses of each clause of `Obligations.PowerSteps`. -/
theorem witness_PowerSteps :
    (∃ (s : State), s.dev.pwrState = 4 ∧ s.dev.pwr.held = none) ∧
    (∃ (s : State) (k : Nat), k < 2 ∧ s.dev.pwr.zfill = some k ∧ 2 ≤ s.dev.pwr.phase) ∧
    (∃ (s : State) (u : Nat) (rest : List Nat), s.dev.pwr.queue = u :: rest) ∧
    (∃ (s : State) (u : Fin 48), s.dev.pwr.waking.contains u.val = true ∧ s.dev.unitGated u.val = false ∧ s.dev.pwrState ≠ 5) ∧
    (∃ (s : State) (q : Requester), s.dev.admitsWrite q Reg.PWR_PGATE = true) ∧
    (∃ (s : State) (q : Requester), s.dev.admitsWrite q Reg.PWR_SGATE = true ∧ ((∀ k < 2, ∀ st < 16, ¬ (s.dev.admitted st = true ∧ 0 < (s.dev.resOf st).charge k))) ∧ ((∀ k < 2, ∀ p < 16, s.dev.regionIn k p = false)) ∧ s.dev.dmaBusy 0 = false ∧ s.dev.dmaBusy 1 = false) :=
  ⟨⟨alone ((ready.setFld Reg.PWR_STATE 0 3 4).modPwr (fun p => { p with target := 2 })), by decide +kernel⟩,
    ⟨alone ((ready.setFld Reg.PWR_STATE 0 3 5).modPwr (fun p => { p with phase := 2, zfill := some 1, queue := [3] })), 1, by decide +kernel⟩,
    ⟨alone (ready.modPwr (fun p => { p with queue := [3, 4] })), 3, [4], by decide +kernel⟩,
    ⟨alone (ready.modPwr (fun p => { p with waking := [3] })), 3, by decide +kernel⟩,
    ⟨alone (ready), .host, by decide +kernel⟩,
    ⟨alone (ready), .host, by decide +kernel⟩⟩

/-- States and operands that meet the hypotheses of each clause of `Obligations.PageHeaders`. -/
theorem witness_PageHeaders :
    (∃ (s : State) (q : Requester) (page : BitVec 12), s.dev.admitsWrite q (Reg.PG_CTRL (pageBase page)) = true ∧ pageIs (pageBase page) .fuse 0 = false ∧ s.dev.bit (Reg.PG_STATUS (pageBase page)) 4 = false) ∧
    (∃ (s : State) (q : Requester) (page : BitVec 12), s.dev.admitsWrite q (Reg.PG_EVT_PEND (pageBase page)) = true) ∧
    (∃ (s : State) (q : Requester) (page : BitVec 12), s.dev.admitsWrite q (Reg.PG_EVT_SET (pageBase page)) = true) ∧
    (∃ (s : State) (q : Requester) (page : BitVec 12), s.dev.admitsWrite q (Reg.PG_EVT_EN (pageBase page)) = true) ∧
    (∃ (s : State) (q : Requester) (page : BitVec 12), s.dev.admitsWrite q (Reg.PG_LOCK (pageBase page)) = true ∧ pageIs (pageBase page) .chip 0 = false ∧ pageIs (pageBase page) .fuse 0 = false) :=
  ⟨⟨alone (ready), .host, 0, by decide +kernel⟩,
    ⟨alone (ready), .host, 0, by decide +kernel⟩,
    ⟨alone (ready), .host, 0, by decide +kernel⟩,
    ⟨alone (ready), .host, 0, by decide +kernel⟩,
    ⟨alone (ready), .host, 0x00E, by decide +kernel⟩⟩

/-- States and operands that meet the hypotheses of each clause of `Obligations.LockedPages`. -/
theorem witness_LockedPages :
    (∃ (s : State) (q : Requester) (addr : RegAddr) (v : Word) (blk : Block) (i : Nat), addr.toNat % 4 = 0 ∧ pageIs addr.toNat blk i = true ∧ ((q = .host → s.dev.role = 0 ∧ s.dev.hostWaits = false)) ∧ s.dev.reachable (reqNo q) ((pageAt addr.toNat).map (·.1)) = true ∧ s.dev.reg (Reg.PG_LOCK (addr.toNat - addr.toNat % 0x1000)) ≠ 0 ∧ q ≠ .keystone ∧ ((addr.toNat % 0x1000 = 0x24 → v ≠ s.dev.reg (Reg.PG_LOCK (addr.toNat - addr.toNat % 0x1000))))) :=
  ⟨alone (ready.setReg (Reg.PG_LOCK Page.TRS) 7), .host, (BitVec.ofNat _ (Page.TRS + 0x40)), 5, .trs, 0, by decide +kernel⟩

/-- States and operands that meet the hypotheses of each clause of `Obligations.PageControls`. -/
theorem witness_PageControls :
    (∃ (s : State) (q : Requester) (page : BitVec 12) (n : Nat), s.dev.admitsWrite q (Reg.PG_CTRL (pageBase page)) = true ∧ pageIs (pageBase page) .chn n = true ∧ s.dev.bit (Reg.PG_STATUS (pageBase page)) 4 = false) ∧
    (∃ (s : State) (q : Requester) (page : BitVec 12) (n : Nat), s.dev.admitsWrite q (Reg.PG_CTRL (pageBase page)) = true ∧ ((pageIs (pageBase page) .chn n = true ∨ pageIs (pageBase page) .pier n = true)) ∧ s.dev.bit (Reg.PG_STATUS (pageBase page)) 4 = false) ∧
    (∃ (s : State) (q : Requester) (page : BitVec 12) (p : Nat), s.dev.admitsWrite q (Reg.PG_CTRL (pageBase page)) = true ∧ pageIs (pageBase page) .pier p = true ∧ s.dev.frozen (pageBase page) = false ∧ s.dev.pierHalted p = true) ∧
    (∃ (s : State) (q : Requester) (page : BitVec 12) (n : Nat), s.dev.admitsWrite q (Reg.PG_CTRL (pageBase page)) = true ∧ pageIs (pageBase page) .chn n = true ∧ s.dev.frozen (pageBase page) = false ∧ s.dev.pierHalted (n / 16) = true ∧ s.dev.fld (Reg.CHN_DRV_DLY n) 0 17 ≤ s.dev.fld (Reg.CHN_RTD n) 0 18 ∧ s.dev.fld (Reg.CHN_DRV_DLY n) 0 17 ≤ 81920 ∧ s.dev.fld (Reg.CHN_RTD n) 0 18 ≤ 163840) ∧
    (∃ (s : State) (q : Requester) (page : BitVec 12) (n : Nat), s.dev.admitsWrite q (Reg.PG_CTRL (pageBase page)) = true ∧ pageIs (pageBase page) .chn n = true ∧ s.dev.frozen (pageBase page) = true) ∧
    (∃ (s : State) (q : Requester) (page : BitVec 12) (r : PageRow) (p : Nat), s.dev.admitsWrite q (Reg.PG_CTRL (pageBase page)) = true ∧ pageAt (pageBase page) = some (r, p) ∧ r.block = .trg ∧ s.dev.pierHalted p = true ∧ s.dev.softOk r p (pageBase page) = true) :=
  ⟨⟨alone (ready), .host, (BitVec.ofNat 12 (Page.CHN 3 / 0x1000)), 3, by decide +kernel⟩,
    ⟨alone (ready), .host, (BitVec.ofNat 12 (Page.CHN 3 / 0x1000)), 3, by decide +kernel⟩,
    ⟨alone (ready), .host, (BitVec.ofNat 12 (Page.PIER 3 / 0x1000)), 3, by decide +kernel⟩,
    ⟨alone (ready), .host, (BitVec.ofNat 12 (Page.CHN 3 / 0x1000)), 3, by decide +kernel⟩,
    ⟨alone (ready.setBit (Reg.PG_CTRL (Page.CHN 3)) 2 true), .host, (BitVec.ofNat 12 (Page.CHN 3 / 0x1000)), 3, by decide +kernel⟩,
    ⟨alone (ready), .host, (BitVec.ofNat 12 (Page.TRG 3 / 0x1000)), (((pageAt (Page.TRG 3)).map (·.1)).getD ⟨.trs, 0, 0, 0, 0, false, false, false, false⟩), 3, by decide +kernel⟩⟩

/-- States and operands that meet the hypotheses of each clause of `Obligations.SplitAndHeld`. -/
theorem witness_SplitAndHeld :
    (∃ (s : State) (q : Requester) (addr : RegAddr), addr.toNat = Reg.TIME_NOW_LO ∧ s.dev.admitsRead q Reg.TIME_NOW_LO = true) ∧
    (∃ (s : State) (q : Requester) (addr : RegAddr), isSeqWindow addr.toNat = true ∧ addr.toNat % 8 = 0 ∧ s.dev.admitsWindow q addr.toNat = true) ∧
    (∃ (s : State) (q : Requester) (addr : RegAddr) (lo : Word), isSeqWindow addr.toNat = true ∧ addr.toNat % 8 = 4 ∧ s.dev.admitsWindow q addr.toNat = true ∧ s.dev.heldFor (reqNo q) addr.toNat = some lo) :=
  ⟨⟨alone (ready), .host, (BitVec.ofNat _ Reg.TIME_NOW_LO), by decide +kernel⟩,
    ⟨alone (ready), .host, (BitVec.ofNat _ (seqAddr 3)), by decide +kernel⟩,
    ⟨alone ({ ready with wlatch := [(reqNo .host, some (seqAddr 3 + 4, 9))] }), .host, (BitVec.ofNat _ (seqAddr 3 + 4)), 9, by decide +kernel⟩⟩

/-- States and operands that meet the hypotheses of each clause of `Obligations.WindowWrites`. -/
theorem witness_WindowWrites :
    (∃ (s : State) (q : Requester) (ch : BitVec 8) (st : BitVec 8) (w : BitVec 3), s.dev.admitsWindow q (tsmemAddr ch.toNat st.toNat w.toNat) = true ∧ s.dev.winUE (tsmemAddr ch.toNat st.toNat w.toNat) = false) ∧
    (∃ (s : State) (q : Requester) (ch : BitVec 8) (st : BitVec 8) (w : BitVec 3), s.dev.admitsWindow q (tsmemAddr ch.toNat st.toNat w.toNat) = true) ∧
    (∃ (s : State) (q : Requester) (n : BitVec 16), s.dev.admitsWindow q (spanWord n.toNat 1) = true ∧ s.dev.winUE (spanWord n.toNat 1) = false ∧ s.dev.spanActive n.toNat = false ∧ s.dev.spanReady n.toNat = false) ∧
    (∃ (s : State) (q : Requester), ((q = .host → s.dev.hostWaits = false))) ∧
    (∃ (s : State) (q : Requester) (t : BitVec 12) (w : BitVec 4), s.dev.reachable (reqNo q) none = true ∧ ((q = .host → s.dev.hostWaits = false)) ∧ s.dev.taskState t.toNat = 0 ∧ s.dev.winUE (tdAddr t.toNat (4 * w.toNat)) = false) :=
  ⟨⟨alone (ready), .host, 3, 4, 2, by decide +kernel⟩,
    ⟨alone (ready), .host, 3, 4, 2, by decide +kernel⟩,
    ⟨alone (ready), .host, 0, by decide +kernel⟩,
    ⟨alone (ready), .host, by decide +kernel⟩,
    ⟨alone (ready), .host, 0, 0, by decide +kernel⟩⟩

/-- States and operands that meet the hypotheses of each clause of `Obligations.SpanDescriptorWrites`. -/
theorem witness_SpanDescriptorWrites :
    (∃ (s : State) (q : Requester) (n : BitVec 16) (w : BitVec 2) (a : Nat) (ready : Bool) (active : Bool), a = spanWord n.toNat w.toNat ∧ s.dev.admitsWindow q a = true ∧ s.dev.winUE a = false ∧ ready = s.dev.bit (spanWord n.toNat 3) 31 ∧ active = (List.range 16).any (fun i => s.dev.holdsSpan i n.toNat) ∧ (active = true ∨ (w ≠ 3 ∧ ready = true))) ∧
    (∃ (s : State) (q : Requester) (n : BitVec 16) (w : BitVec 2) (a : Nat) (ready : Bool) (active : Bool), a = spanWord n.toNat w.toNat ∧ s.dev.admitsWindow q a = true ∧ s.dev.winUE a = false ∧ ready = s.dev.bit (spanWord n.toNat 3) 31 ∧ active = (List.range 16).any (fun i => s.dev.holdsSpan i n.toNat) ∧ active = false ∧ ((w = 3 ∨ ready = false))) :=
  ⟨⟨alone (ready.modStr 0 (fun c => { c with actSpans := [3] })), .host, 3, 3, _, false, true, rfl, by decide +kernel⟩,
    ⟨alone (ready), .host, 3, 3, _, false, false, rfl, by decide +kernel⟩⟩

/-- States and operands that meet the hypotheses of each clause of `Obligations.UnmappedAccesses`. -/
theorem witness_UnmappedAccesses :
    (∃ (s : State) (q : Requester) (addr : RegAddr), addr.toNat < 0x1000000 ∧ addr.toNat % 4 = 0 ∧ pageAt addr.toNat = none ∧ isWindow addr.toNat = false ∧ ((q = .host → s.dev.hostWaits = false))) ∧
    (∃ (addr : RegAddr), addr.toNat < 0x1000000 ∧ addr.toNat % 4 = 0 ∧ pageAt addr.toNat = none ∧ isWindow addr.toNat = false) ∧
    (∃ (s : State) (q : Requester) (addr : RegAddr) (p : PageRow) (i : Nat), addr.toNat % 4 = 0 ∧ pageAt addr.toNat = some (p, i) ∧ isWindow addr.toNat = false ∧ (if addr.toNat % 0x1000 < 0x40 then 0x28 ≤ addr.toNat % 0x1000 else findRow p.block.rows (addr.toNat % 0x1000) = none) ∧ s.dev.admitsWrite q addr.toNat = true) ∧
    (∃ (s : State) (q : Requester) (addr : RegAddr) (p : PageRow) (i : Nat), addr.toNat % 4 = 0 ∧ pageAt addr.toNat = some (p, i) ∧ isWindow addr.toNat = false ∧ (if addr.toNat % 0x1000 < 0x40 then 0x28 ≤ addr.toNat % 0x1000 else findRow p.block.rows (addr.toNat % 0x1000) = none) ∧ s.dev.admitsRead q addr.toNat = true) :=
  ⟨⟨alone (ready), .host, 0x780000, by decide +kernel⟩,
    ⟨0x780000, by decide +kernel⟩,
    ⟨alone (ready), .host, (BitVec.ofNat _ (Page.TRS + 0x38)), (((pageAt Page.TRS).map (·.1)).getD ⟨.trs, 0, 0, 0, 0, false, false, false, false⟩), 0, by decide +kernel⟩,
    ⟨alone (ready), .host, (BitVec.ofNat _ (Page.TRS + 0x38)), (((pageAt Page.TRS).map (·.1)).getD ⟨.trs, 0, 0, 0, 0, false, false, false, false⟩), 0, by decide +kernel⟩⟩

/-- States and operands that meet the hypotheses of each clause of `Obligations.RegistersAndPins`. -/
theorem witness_RegistersAndPins :
    (∃ (s : State) (q : Requester) (addr : RegAddr), addr.toNat = Reg.MGMT_CTRL ∧ s.dev.admitsWrite q Reg.MGMT_CTRL = true) ∧
    (∃ (s : State) (q : Requester) (addr : RegAddr), addr.toNat = Reg.TRS_REPLAY ∧ s.dev.admitsRead q Reg.TRS_REPLAY = true) ∧
    (∃ (s : State) (q : Requester) (p : Fin 16) (v : Word), s.dev.admitsWrite q (Reg.PIER_CTRL p.val) = true ∧ s.dev.pierHalted p.val = true ∧ ((v.bit 12 = true → s.dev.halted (v.get 8 4) = true ∧ s.dev.bit Reg.PWR_PGATE p.val = false))) ∧
    (∃ (s : State) (q : Requester) (p : Fin 16), s.dev.admitsWrite q (Reg.PIER_CMD p.val) = true ∧ s.dev.normal = true) ∧
    (∃ (s : State) (q : Requester) (k : Fin 8), s.dev.admitsWrite q (Reg.PEB_CMD k.val) = true ∧ (s.dev.pebOf k.val) = ⟨[], none⟩) ∧
    (∃ (s : State) (q : Requester) (k : Fin 8), s.dev.admitsWrite q (Reg.PEB_CMD k.val) = true ∧ (s.dev.pebOf k.val).busy.isSome = true ∧ (s.dev.pebOf k.val).queue.length < 16) ∧
    (∃ (s : State) (k : Fin 8) (f : Frame), (s.dev.pebOf k.val).busy = some f) :=
  ⟨⟨alone (ready), .host, (BitVec.ofNat _ Reg.MGMT_CTRL), by decide +kernel⟩,
    ⟨alone (ready.setReg Reg.TRS_REPLAY 7), .host, (BitVec.ofNat _ Reg.TRS_REPLAY), by decide +kernel⟩,
    ⟨alone (ready), .host, 0, 0, by decide +kernel⟩,
    ⟨alone (ready), .host, 0, by decide +kernel⟩,
    ⟨alone (ready), .host, 3, by decide +kernel⟩,
    ⟨alone ((ready.setPeb 3 { (ready.pebOf 3) with busy := some ⟨1, 2⟩ })), .host, 3, by decide +kernel⟩,
    ⟨alone ((ready.setPeb 3 { (ready.pebOf 3) with busy := some ⟨1, 2⟩ })), 3, ⟨1, 2⟩, by decide +kernel⟩⟩

/-- States and operands that meet the hypotheses of each clause of `Obligations.SequenceFlow`. -/
theorem witness_SequenceFlow :
    (∃ (s : State) (i : Fin 16) (ft : Fetched) (a : Nat) (w : Nat) (c : StrCtx), a = s.dev.strPc i.val ∧ w = s.dev.insWord i.val ∧ c = s.dev.fetched i.val ∧ s.dev.executes i.val ft 0x00 = true) ∧
    (∃ (s : State) (i : Fin 16) (ft : Fetched) (a : Nat) (w : Nat) (c : StrCtx), a = s.dev.strPc i.val ∧ w = s.dev.insWord i.val ∧ c = s.dev.fetched i.val ∧ s.dev.executes i.val ft 0x01 = true) ∧
    (∃ (s : State) (i : Fin 16) (ft : Fetched) (a : Nat) (w : Nat) (c : StrCtx), a = s.dev.strPc i.val ∧ w = s.dev.insWord i.val ∧ c = s.dev.fetched i.val ∧ s.dev.executes i.val ft 0x08 = true) ∧
    (∃ (s : State) (i : Fin 16) (ft : Fetched) (a : Nat) (w : Nat) (c : StrCtx), a = s.dev.strPc i.val ∧ w = s.dev.insWord i.val ∧ c = s.dev.fetched i.val ∧ s.dev.executes i.val ft 0x09 = true ∧ c.calls.length < 16) ∧
    (∃ (s : State) (i : Fin 16) (ft : Fetched) (a : Nat) (w : Nat) (c : StrCtx) (t : _) (ts : _), a = s.dev.strPc i.val ∧ w = s.dev.insWord i.val ∧ c = s.dev.fetched i.val ∧ s.dev.executes i.val ft 0x0A = true ∧ c.calls = t :: ts) ∧
    (∃ (s : State) (i : Fin 16) (ft : Fetched) (a : Nat) (w : Nat) (c : StrCtx), a = s.dev.strPc i.val ∧ w = s.dev.insWord i.val ∧ c = s.dev.fetched i.val ∧ s.dev.executes i.val ft 0x0B = true ∧ s.dev.bit (Reg.STR_FLAGS i.val) (insField w 32 5) = true) ∧
    (∃ (s : State) (i : Fin 16) (ft : Fetched) (a : Nat) (w : Nat) (c : StrCtx) (n : _), a = s.dev.strPc i.val ∧ w = s.dev.insWord i.val ∧ c = s.dev.fetched i.val ∧ n = (if natBit w 47 then s.dev.g i.val (insField w 48 4) else w % 2 ^ 32) ∧ s.dev.executes i.val ft 0x0C = true ∧ n ≠ 0 ∧ c.loops.length < 16) ∧
    (∃ (s : State) (i : Fin 16) (ft : Fetched) (a : Nat) (w : Nat) (c : StrCtx) (n : Nat) (t : _) (ts : _), a = s.dev.strPc i.val ∧ w = s.dev.insWord i.val ∧ c = s.dev.fetched i.val ∧ s.dev.executes i.val ft 0x0D = true ∧ c.loops = (n, t) :: ts ∧ 1 < n ∧ n < 2 ^ 32) ∧
    (∃ (s : State) (i : Fin 16) (ft : Fetched) (a : Nat) (w : Nat) (c : StrCtx) (t : _) (ts : _), a = s.dev.strPc i.val ∧ w = s.dev.insWord i.val ∧ c = s.dev.fetched i.val ∧ s.dev.executes i.val ft 0x0D = true ∧ c.loops = (1, t) :: ts) :=
  ⟨⟨alone ((seqIns 0x00 (0))), 3, ⟨false, .good, []⟩, _, _, _, rfl, rfl, rfl, by decide +kernel⟩,
    ⟨alone ((seqIns 0x01 (0))), 3, ⟨false, .good, []⟩, _, _, _, rfl, rfl, rfl, by decide +kernel⟩,
    ⟨alone ((seqIns 0x08 (7))), 3, ⟨false, .good, []⟩, _, _, _, rfl, rfl, rfl, by decide +kernel⟩,
    ⟨alone ((seqIns 0x09 (7))), 3, ⟨false, .good, []⟩, _, _, _, rfl, rfl, rfl, by decide +kernel⟩,
    ⟨alone ((seqIns 0x0A (0)).modStr 3 (fun c => { c with calls := [9, 8] })), 3, ⟨false, .good, []⟩, _, _, _, 9, [8], rfl, rfl, rfl, by decide +kernel⟩,
    ⟨alone ((seqIns 0x0B (7 + 2 ^ 32 * 4)).setBit (Reg.STR_FLAGS 3) 4 true), 3, ⟨false, .good, []⟩, _, _, _, rfl, rfl, rfl, by decide +kernel⟩,
    ⟨alone ((seqIns 0x0C (3))), 3, ⟨false, .good, []⟩, _, _, _, _, rfl, rfl, rfl, rfl, by decide +kernel⟩,
    ⟨alone ((seqIns 0x0D (0)).modStr 3 (fun c => { c with loops := [(3, 9)] })), 3, ⟨false, .good, []⟩, _, _, _, 3, 9, [], rfl, rfl, rfl, by decide +kernel⟩,
    ⟨alone ((seqIns 0x0D (0)).modStr 3 (fun c => { c with loops := [(1, 9)] })), 3, ⟨false, .good, []⟩, _, _, _, 9, [], rfl, rfl, rfl, by decide +kernel⟩⟩

/-- States and operands that meet the hypotheses of each clause of `Obligations.SequencerFaults`. -/
theorem witness_SequencerFaults :
    (∃ (s : State) (i : Fin 16) (ft : Fetched) (a : Nat) (w : Nat) (b : StrCtx) (r : StrCtx) (c : StrCtx), a = s.dev.strPc i.val ∧ w = s.dev.insWord i.val ∧ b = s.dev.strOf i.val ∧ r = s.dev.irLoaded i.val ∧ c = s.dev.fetched i.val ∧ s.dev.executes i.val ft 0x09 = true ∧ 16 ≤ c.calls.length) ∧
    (∃ (s : State) (i : Fin 16) (ft : Fetched) (a : Nat) (w : Nat) (b : StrCtx) (r : StrCtx) (c : StrCtx), a = s.dev.strPc i.val ∧ w = s.dev.insWord i.val ∧ b = s.dev.strOf i.val ∧ r = s.dev.irLoaded i.val ∧ c = s.dev.fetched i.val ∧ s.dev.executes i.val ft 0x0A = true ∧ c.calls = []) ∧
    (∃ (s : State) (i : Fin 16) (ft : Fetched) (a : Nat) (w : Nat) (b : StrCtx) (r : StrCtx) (c : StrCtx), a = s.dev.strPc i.val ∧ w = s.dev.insWord i.val ∧ b = s.dev.strOf i.val ∧ r = s.dev.irLoaded i.val ∧ c = s.dev.fetched i.val ∧ s.dev.executes i.val ft 0x0D = true ∧ c.loops = []) ∧
    (∃ (s : State) (i : Fin 16) (ft : Fetched) (a : Nat) (w : Nat) (b : StrCtx) (r : StrCtx) (c : StrCtx), a = s.dev.strPc i.val ∧ w = s.dev.insWord i.val ∧ b = s.dev.strOf i.val ∧ r = s.dev.irLoaded i.val ∧ c = s.dev.fetched i.val ∧ b.eng = .running ∧ ft.ue = true) ∧
    (∃ (s : State) (i : Fin 16) (ft : Fetched) (a : Nat) (w : Nat) (b : StrCtx) (r : StrCtx) (c : StrCtx), a = s.dev.strPc i.val ∧ w = s.dev.insWord i.val ∧ b = s.dev.strOf i.val ∧ r = s.dev.irLoaded i.val ∧ c = s.dev.fetched i.val ∧ b.eng = .running ∧ ft.ue = false ∧ s.dev.winUE (seqAddr a) = false ∧ 10 ≤ insField w 52 4) ∧
    (∃ (s : State) (i : Fin 16) (ft : Fetched) (a : Nat) (w : Nat) (b : StrCtx) (r : StrCtx) (c : StrCtx), a = s.dev.strPc i.val ∧ w = s.dev.insWord i.val ∧ b = s.dev.strOf i.val ∧ r = s.dev.irLoaded i.val ∧ c = s.dev.fetched i.val ∧ b.eng = .running ∧ ft.ue = false ∧ s.dev.winUE (seqAddr a) = false ∧ insField w 52 4 < 10 ∧ s.dev.condHolds i.val (insField w 52 4) = false ∧ insOp w = 0x08) ∧
    (∃ (s : State) (i : Fin 16) (ft : Fetched) (a : Nat) (w : Nat) (b : StrCtx) (r : StrCtx) (c : StrCtx), a = s.dev.strPc i.val ∧ w = s.dev.insWord i.val ∧ b = s.dev.strOf i.val ∧ r = s.dev.irLoaded i.val ∧ c = s.dev.fetched i.val ∧ b.eng = .running ∧ ft.ue = false ∧ s.dev.winUE (seqAddr a) = false ∧ insField w 52 4 < 10 ∧ s.dev.condHolds i.val (insField w 52 4) = true ∧ w = 0x08 * 2 ^ 56 ∧ ft.word = .good ∧ s.dev.csUE (s.dev.entryOf i.val 0x08) = false ∧ natBit (s.dev.csWord (s.dev.entryOf i.val 0x08)) 31 = false) ∧
    (∃ (s : State) (i : Fin 16) (ft : Fetched) (a : Nat) (w : Nat) (b : StrCtx) (r : StrCtx) (c : StrCtx), a = s.dev.strPc i.val ∧ w = s.dev.insWord i.val ∧ b = s.dev.strOf i.val ∧ r = s.dev.irLoaded i.val ∧ c = s.dev.fetched i.val ∧ b.eng = .running ∧ ft.ue = false ∧ s.dev.winUE (seqAddr a) = false ∧ insField w 52 4 < 10 ∧ s.dev.condHolds i.val (insField w 52 4) = true ∧ w = 0x08 * 2 ^ 56 ∧ ft.word = .bad) ∧
    (∃ (s : State) (i : Fin 16) (pc : Nat) (c : StrCtx), pc = s.dev.strPc i.val ∧ c = s.dev.strOf i.val ∧ c.eng = .micro ∧ 12352 ≤ c.micro.upc ∧ c.micro.upc < 16384 ∧ s.dev.csUE c.micro.upc = false ∧ 64 ≤ c.micro.lim) ∧
    (∃ (s : State) (i : Fin 16) (pc : Nat) (c : StrCtx), pc = s.dev.strPc i.val ∧ c = s.dev.strOf i.val ∧ c.eng = .micro ∧ (c.micro.upc < 12352 ∨ 16384 ≤ c.micro.upc)) ∧
    (∃ (s : State) (i : Fin 16) (pc : Nat) (c : StrCtx), pc = s.dev.strPc i.val ∧ c = s.dev.strOf i.val ∧ c.eng = .micro ∧ 12352 ≤ c.micro.upc ∧ c.micro.upc < 16384) ∧
    (∃ (s : State) (i : Fin 16) (pc : Nat) (c : StrCtx), pc = s.dev.strPc i.val ∧ c = s.dev.strOf i.val ∧ c.eng = .micro ∧ 12352 ≤ c.micro.upc ∧ c.micro.upc < 16384 ∧ s.dev.csUE c.micro.upc = false ∧ c.micro.lim < 64 ∧ classReserved (s.dev.microWord i.val / 2 ^ 27) = true) ∧
    (∃ (s : State) (i : Fin 16) (pc : Nat) (c : StrCtx), pc = s.dev.strPc i.val ∧ c = s.dev.strOf i.val ∧ c.eng = .micro ∧ s.dev.executesMicro i.val 0x02 = true ∧ insField (s.dev.microWord i.val) 22 5 < 16 ∧ s.dev.fld Reg.UCS_CE_CNT 0 16 < 0xFFFF) :=
  ⟨⟨alone ((seqIns 0x09 (7)).modStr 3 (fun c => { c with calls := List.replicate 16 1 })), 3, ⟨false, .good, []⟩, _, _, _, _, _, rfl, rfl, rfl, rfl, rfl, by decide +kernel⟩,
    ⟨alone ((seqIns 0x0A (0))), 3, ⟨false, .good, []⟩, _, _, _, _, _, rfl, rfl, rfl, rfl, rfl, by decide +kernel⟩,
    ⟨alone ((seqIns 0x0D (0))), 3, ⟨false, .good, []⟩, _, _, _, _, _, rfl, rfl, rfl, rfl, rfl, by decide +kernel⟩,
    ⟨alone (seqIns 0x00 0), 3, ⟨true, .good, []⟩, _, _, _, _, _, rfl, rfl, rfl, rfl, rfl, by decide +kernel⟩,
    ⟨alone ((seqIns 0x00 (11 * 2 ^ 52))), 3, ⟨false, .good, []⟩, _, _, _, _, _, rfl, rfl, rfl, rfl, rfl, by decide +kernel⟩,
    ⟨alone ((seqIns 0x08 (7 + 2 ^ 52 * 2))), 3, ⟨false, .good, []⟩, _, _, _, _, _, rfl, rfl, rfl, rfl, rfl, by decide +kernel⟩,
    ⟨alone ((seqIns 0x08 0).setRegN (0x700000 + 4 * 8) 0), 3, ⟨false, .good, []⟩, _, _, _, _, _, rfl, rfl, rfl, rfl, rfl, by decide +kernel⟩,
    ⟨alone (seqIns 0x08 0), 3, ⟨false, .bad, []⟩, _, _, _, _, _, rfl, rfl, rfl, rfl, rfl, by decide +kernel⟩,
    ⟨alone ((microOp 2 (0)).modStr 3 (fun c => { c with micro := { c.micro with lim := 64 } })), 3, _, _, rfl, rfl, by decide +kernel⟩,
    ⟨alone ((microOp 2 (0)).modStr 3 (fun c => { c with micro := { c.micro with upc := 100 } })), 3, _, _, rfl, rfl, by decide +kernel⟩,
    ⟨alone ((microOp 2 (0))), 3, _, _, rfl, rfl, by decide +kernel⟩,
    ⟨alone ((microOp 0x0F (0))), 3, _, _, rfl, rfl, by decide +kernel⟩,
    ⟨alone ((microOp 2 (5 * 2 ^ 22))), 3, _, _, rfl, rfl, by decide +kernel⟩⟩

/-- States and operands that meet the hypotheses of each clause of `Obligations.SequencePlays`. -/
theorem witness_SequencePlays :
    (∃ (s : State) (i : Fin 16) (ft : Fetched) (a : Nat) (w : Nat) (c : StrCtx) (n : _), a = s.dev.strPc i.val ∧ w = s.dev.insWord i.val ∧ c = s.dev.fetched i.val ∧ n = insField w 32 16 + 1 ∧ s.dev.executes i.val ft 0x02 = true) ∧
    (∃ (s : State) (i : Fin 16) (ft : Fetched) (a : Nat) (w : Nat) (c : StrCtx) (n : _), a = s.dev.strPc i.val ∧ w = s.dev.insWord i.val ∧ c = s.dev.fetched i.val ∧ n = insField w 32 16 + 1 ∧ s.dev.executes i.val ft 0x03 = true ∧ requests c.queue + n < 64) ∧
    (∃ (s : State) (i : Fin 16) (ft : Fetched) (a : Nat) (w : Nat) (c : StrCtx), a = s.dev.strPc i.val ∧ w = s.dev.insWord i.val ∧ c = s.dev.fetched i.val ∧ s.dev.executes i.val ft 0x04 = true ∧ requests c.queue < 63) :=
  ⟨⟨alone ((seqIns 0x02 (3 + 2 ^ 32 * 5))), 3, ⟨false, .good, []⟩, _, _, _, _, rfl, rfl, rfl, rfl, by decide +kernel⟩,
    ⟨alone ((seqIns 0x03 (2 ^ 48 * 2 + 2 ^ 32 * 5))), 3, ⟨false, .good, []⟩, _, _, _, _, rfl, rfl, rfl, rfl, by decide +kernel⟩,
    ⟨alone ((seqIns 0x04 (3))), 3, ⟨false, .good, []⟩, _, _, _, rfl, rfl, rfl, by decide +kernel⟩⟩

/-- States and operands that meet the hypotheses of each clause of `Obligations.SequenceWaits`. -/
theorem witness_SequenceWaits :
    (∃ (s : State) (i : Fin 16) (ft : Fetched) (a : Nat) (w : Nat) (c : StrCtx), a = s.dev.strPc i.val ∧ w = s.dev.insWord i.val ∧ c = s.dev.fetched i.val ∧ s.dev.executes i.val ft 0x10 = true ∧ insField w 46 2 = 0) ∧
    (∃ (s : State) (i : Fin 16) (ft : Fetched) (a : Nat) (w : Nat) (c : StrCtx), a = s.dev.strPc i.val ∧ w = s.dev.insWord i.val ∧ c = s.dev.fetched i.val ∧ s.dev.executes i.val ft 0x10 = true ∧ insField w 46 2 = 1) ∧
    (∃ (s : State) (i : Fin 16) (ft : Fetched) (a : Nat) (w : Nat) (c : StrCtx), a = s.dev.strPc i.val ∧ w = s.dev.insWord i.val ∧ c = s.dev.fetched i.val ∧ s.dev.executes i.val ft 0x10 = true ∧ insField w 46 2 = 2 ∧ s.dev.bit (Reg.STR_FLAGS i.val) (insField w 32 5) = false) ∧
    (∃ (s : State) (i : Fin 16) (ft : Fetched) (a : Nat) (w : Nat) (c : StrCtx), a = s.dev.strPc i.val ∧ w = s.dev.insWord i.val ∧ c = s.dev.fetched i.val ∧ s.dev.executes i.val ft 0x10 = true ∧ insField w 46 2 = 3) :=
  ⟨⟨alone ((seqIns 0x10 (0 * 2 ^ 46 + 5 * 1))), 3, ⟨false, .good, []⟩, _, _, _, rfl, rfl, rfl, by decide +kernel⟩,
    ⟨alone ((seqIns 0x10 (1 * 2 ^ 46 + 5 * 1))), 3, ⟨false, .good, []⟩, _, _, _, rfl, rfl, rfl, by decide +kernel⟩,
    ⟨alone ((seqIns 0x10 (2 * 2 ^ 46 + 5 * 2 ^ 32))), 3, ⟨false, .good, []⟩, _, _, _, rfl, rfl, rfl, by decide +kernel⟩,
    ⟨alone ((seqIns 0x10 (3 * 2 ^ 46 + 0 * 2 ^ 32))), 3, ⟨false, .good, []⟩, _, _, _, rfl, rfl, rfl, by decide +kernel⟩⟩

/-- States and operands that meet the hypotheses of each clause of `Obligations.SequenceRegisters`. -/
theorem witness_SequenceRegisters :
    (∃ (s : State) (i : Fin 16) (ft : Fetched) (a : Nat) (w : Nat) (r : Nat) (v : Nat) (c : StrCtx), a = s.dev.strPc i.val ∧ w = s.dev.insWord i.val ∧ c = s.dev.fetched i.val ∧ r = insField w 48 4 ∧ v = w % 2 ^ 32 ∧ s.dev.executes i.val ft 0x14 = true) ∧
    (∃ (s : State) (i : Fin 16) (ft : Fetched) (a : Nat) (w : Nat) (r : Nat) (v : Nat) (c : StrCtx), a = s.dev.strPc i.val ∧ w = s.dev.insWord i.val ∧ c = s.dev.fetched i.val ∧ r = insField w 48 4 ∧ v = w % 2 ^ 32 ∧ s.dev.executes i.val ft 0x15 = true) ∧
    (∃ (s : State) (i : Fin 16) (ft : Fetched) (a : Nat) (w : Nat) (r : Nat) (v : Nat) (c : StrCtx), a = s.dev.strPc i.val ∧ w = s.dev.insWord i.val ∧ c = s.dev.fetched i.val ∧ r = insField w 48 4 ∧ v = w % 2 ^ 32 ∧ s.dev.executes i.val ft 0x18 = true) ∧
    (∃ (s : State) (i : Fin 16) (ft : Fetched) (a : Nat) (w : Nat) (r : Nat) (v : Nat) (c : StrCtx), a = s.dev.strPc i.val ∧ w = s.dev.insWord i.val ∧ c = s.dev.fetched i.val ∧ r = insField w 48 4 ∧ v = w % 2 ^ 32 ∧ s.dev.executes i.val ft 0x19 = true) ∧
    (∃ (s : State) (i : Fin 16) (ft : Fetched) (a : Nat) (w : Nat) (r : Nat) (v : Nat) (c : StrCtx), a = s.dev.strPc i.val ∧ w = s.dev.insWord i.val ∧ c = s.dev.fetched i.val ∧ r = insField w 48 4 ∧ v = w % 2 ^ 32 ∧ s.dev.executes i.val ft 0x1A = true) :=
  ⟨⟨alone ((seqIns 0x14 (7 + 2 ^ 48 * 2))), 3, ⟨false, .good, []⟩, _, _, _, _, _, rfl, rfl, rfl, rfl, rfl, by decide +kernel⟩,
    ⟨alone ((seqIns 0x15 (7 + 2 ^ 48 * 2))), 3, ⟨false, .good, []⟩, _, _, _, _, _, rfl, rfl, rfl, rfl, rfl, by decide +kernel⟩,
    ⟨alone ((seqIns 0x18 (0x5))), 3, ⟨false, .good, []⟩, _, _, _, _, _, rfl, rfl, rfl, rfl, rfl, by decide +kernel⟩,
    ⟨alone ((seqIns 0x19 (0))), 3, ⟨false, .good, []⟩, _, _, _, _, _, rfl, rfl, rfl, rfl, rfl, by decide +kernel⟩,
    ⟨alone ((seqIns 0x1A (0))), 3, ⟨false, .good, []⟩, _, _, _, _, _, rfl, rfl, rfl, rfl, rfl, by decide +kernel⟩⟩

/-- States and operands that meet the hypotheses of each clause of `Obligations.SequenceActions`. -/
theorem witness_SequenceActions :
    (∃ (s : State) (i : Fin 16) (ft : Fetched) (a : Nat) (w : Nat) (r : Nat) (c : StrCtx), a = s.dev.strPc i.val ∧ w = s.dev.insWord i.val ∧ c = s.dev.fetched i.val ∧ r = insField w 48 4 ∧ s.dev.executes i.val ft 0x1C = true ∧ insField w 32 2 = 0) ∧
    (∃ (s : State) (i : Fin 16) (ft : Fetched) (a : Nat) (w : Nat) (r : Nat) (c : StrCtx), a = s.dev.strPc i.val ∧ w = s.dev.insWord i.val ∧ c = s.dev.fetched i.val ∧ r = insField w 48 4 ∧ s.dev.executes i.val ft 0x1C = true ∧ insField w 32 2 = 1) ∧
    (∃ (s : State) (i : Fin 16) (ft : Fetched) (a : Nat) (w : Nat) (r : Nat) (c : StrCtx), a = s.dev.strPc i.val ∧ w = s.dev.insWord i.val ∧ c = s.dev.fetched i.val ∧ r = insField w 48 4 ∧ s.dev.executes i.val ft 0x1C = true ∧ insField w 32 2 = 2) ∧
    (∃ (s : State) (i : Fin 16) (ft : Fetched) (a : Nat) (w : Nat) (r : Nat) (c : StrCtx), a = s.dev.strPc i.val ∧ w = s.dev.insWord i.val ∧ c = s.dev.fetched i.val ∧ r = insField w 48 4 ∧ s.dev.executes i.val ft 0x1C = true ∧ insField w 32 2 = 3) ∧
    (∃ (s : State) (i : Fin 16) (ft : Fetched) (a : Nat) (w : Nat) (r : Nat) (c : StrCtx), a = s.dev.strPc i.val ∧ w = s.dev.insWord i.val ∧ c = s.dev.fetched i.val ∧ r = insField w 48 4 ∧ s.dev.executes i.val ft 0x1E = true) ∧
    (∃ (s : State) (i : Fin 16) (ft : Fetched) (a : Nat) (w : Nat) (r : Nat) (c : StrCtx), a = s.dev.strPc i.val ∧ w = s.dev.insWord i.val ∧ c = s.dev.fetched i.val ∧ r = insField w 48 4 ∧ s.dev.executes i.val ft 0x1F = true) ∧
    (∃ (s : State) (i : Fin 16) (ft : Fetched) (a : Nat) (w : Nat) (r : Nat) (c : StrCtx), a = s.dev.strPc i.val ∧ w = s.dev.insWord i.val ∧ c = s.dev.fetched i.val ∧ r = insField w 48 4 ∧ s.dev.executes i.val ft 0x48 = true) ∧
    (∃ (s : State) (i : Fin 16) (ft : Fetched) (a : Nat) (w : Nat) (r : Nat) (c : StrCtx), a = s.dev.strPc i.val ∧ w = s.dev.insWord i.val ∧ c = s.dev.fetched i.val ∧ r = insField w 48 4 ∧ s.dev.executes i.val ft 0x4C = true) :=
  ⟨⟨alone ((seqIns 0x1C (0 * 2 ^ 32))), 3, ⟨false, .good, []⟩, _, _, _, _, rfl, rfl, rfl, rfl, by decide +kernel⟩,
    ⟨alone ((seqIns 0x1C (1 * 2 ^ 32))), 3, ⟨false, .good, []⟩, _, _, _, _, rfl, rfl, rfl, rfl, by decide +kernel⟩,
    ⟨alone ((seqIns 0x1C (2 * 2 ^ 32))), 3, ⟨false, .good, []⟩, _, _, _, _, rfl, rfl, rfl, rfl, by decide +kernel⟩,
    ⟨alone ((seqIns 0x1C (3 * 2 ^ 32))), 3, ⟨false, .good, []⟩, _, _, _, _, rfl, rfl, rfl, rfl, by decide +kernel⟩,
    ⟨alone ((seqIns 0x1E (0))), 3, ⟨false, .good, []⟩, _, _, _, _, rfl, rfl, rfl, rfl, by decide +kernel⟩,
    ⟨alone ((seqIns 0x1F (0))), 3, ⟨false, .good, []⟩, _, _, _, _, rfl, rfl, rfl, rfl, by decide +kernel⟩,
    ⟨alone ((seqIns 0x48 (0))), 3, ⟨false, .good, []⟩, _, _, _, _, rfl, rfl, rfl, rfl, by decide +kernel⟩,
    ⟨alone ((seqIns 0x4C (0))), 3, ⟨false, .good, []⟩, _, _, _, _, rfl, rfl, rfl, rfl, by decide +kernel⟩⟩

/-- States and operands that meet the hypotheses of each clause of `Obligations.SequenceGenerator`. -/
theorem witness_SequenceGenerator :
    (∃ (s : State) (i : Fin 16) (ft : Fetched) (a : Nat) (w : Nat) (r : Nat) (v : Nat) (a₀ : Nat) (c : StrCtx), a = s.dev.strPc i.val ∧ w = s.dev.insWord i.val ∧ c = s.dev.fetched i.val ∧ r = insField w 48 4 ∧ v = (if natBit w 47 then s.dev.g i.val r else w % 2 ^ 32) ∧ a₀ = insField w 0 18 ∧ s.dev.executes i.val ft 0x20 = true ∧ asetBadTarget (insField w 32 6) = false ∧ apgReserved (0x200 + 4 * insField w 32 6) v = false) ∧
    (∃ (s : State) (i : Fin 16) (ft : Fetched) (a : Nat) (w : Nat) (r : Nat) (v : Nat) (a₀ : Nat) (c : StrCtx), a = s.dev.strPc i.val ∧ w = s.dev.insWord i.val ∧ c = s.dev.fetched i.val ∧ r = insField w 48 4 ∧ v = (if natBit w 47 then s.dev.g i.val r else w % 2 ^ 32) ∧ a₀ = insField w 0 18 ∧ s.dev.executes i.val ft 0x21 = true) ∧
    (∃ (s : State) (i : Fin 16) (ft : Fetched) (a : Nat) (w : Nat) (r : Nat) (v : Nat) (a₀ : Nat) (c : StrCtx), a = s.dev.strPc i.val ∧ w = s.dev.insWord i.val ∧ c = s.dev.fetched i.val ∧ r = insField w 48 4 ∧ v = (if natBit w 47 then s.dev.g i.val r else w % 2 ^ 32) ∧ a₀ = insField w 0 18 ∧ s.dev.executes i.val ft 0x22 = true) ∧
    (∃ (s : State) (i : Fin 16) (ft : Fetched) (a : Nat) (w : Nat) (r : Nat) (v : Nat) (a₀ : Nat) (c : StrCtx), a = s.dev.strPc i.val ∧ w = s.dev.insWord i.val ∧ c = s.dev.fetched i.val ∧ r = insField w 48 4 ∧ v = (if natBit w 47 then s.dev.g i.val r else w % 2 ^ 32) ∧ a₀ = insField w 0 18 ∧ s.dev.executes i.val ft 0x23 = true ∧ a₀ ≤ 262137 ∧ ((∀ k < 7, s.dev.winUE (seqAddr (a₀ + k)) = false))) ∧
    (∃ (s : State) (i : Fin 16) (a : Nat) (w : Nat) (r : Nat) (v : Nat) (a₀ : Nat) (c : StrCtx), a = s.dev.strPc i.val ∧ w = s.dev.insWord i.val ∧ c = s.dev.fetched i.val ∧ r = insField w 48 4 ∧ v = (if natBit w 47 then s.dev.g i.val r else w % 2 ^ 32) ∧ a₀ = insField w 0 18 ∧ s.dev.dispatches i.val (insOp w) = true ∧ 0xC0 ≤ insOp w ∧ s.dev.bit Reg.UCS_CUST_EN i.val = true ∧ (s.dev.strOf i.val).micro.flagsOk = true) ∧
    (∃ (s : State) (i : Fin 16) (a : Nat) (w : Nat) (r : Nat) (v : Nat) (a₀ : Nat) (c : StrCtx), a = s.dev.strPc i.val ∧ w = s.dev.insWord i.val ∧ c = s.dev.fetched i.val ∧ r = insField w 48 4 ∧ v = (if natBit w 47 then s.dev.g i.val r else w % 2 ^ 32) ∧ a₀ = insField w 0 18 ∧ s.dev.dispatches i.val (insOp w) = true ∧ 0xC0 ≤ insOp w ∧ s.dev.bit Reg.UCS_CUST_EN i.val = true ∧ (s.dev.strOf i.val).micro.flagsOk = false) :=
  ⟨⟨alone ((seqIns 0x20 (7))), 3, ⟨false, .good, []⟩, _, _, _, _, _, _, rfl, rfl, rfl, rfl, rfl, rfl, by decide +kernel⟩,
    ⟨alone ((seqIns 0x21 (0))), 3, ⟨false, .good, []⟩, _, _, _, _, _, _, rfl, rfl, rfl, rfl, rfl, rfl, by decide +kernel⟩,
    ⟨alone ((seqIns 0x22 (0))), 3, ⟨false, .good, []⟩, _, _, _, _, _, _, rfl, rfl, rfl, rfl, rfl, rfl, by decide +kernel⟩,
    ⟨alone ((seqIns 0x23 (40))), 3, ⟨false, .good, []⟩, _, _, _, _, _, _, rfl, rfl, rfl, rfl, rfl, rfl, by decide +kernel⟩,
    ⟨alone ((seqIns 0xC1 0).setBit Reg.UCS_CUST_EN 3 true |>.modStr 3 (fun c => { c with micro := { c.micro with flagsOk := true } })), 3, _, _, _, _, _, _, rfl, rfl, rfl, rfl, rfl, rfl, by decide +kernel⟩,
    ⟨alone ((seqIns 0xC1 0).setBit Reg.UCS_CUST_EN 3 true |>.modStr 3 (fun c => { c with micro := { c.micro with flagsOk := false } })), 3, _, _, _, _, _, _, rfl, rfl, rfl, rfl, rfl, rfl, by decide +kernel⟩⟩

/-- States and operands that meet the hypotheses of each clause of `Obligations.MicroData`. -/
theorem witness_MicroData :
    (∃ (s : State) (i : Fin 16) (w : Nat) (pc : Nat) (c : StrCtx) (m : Micro) (x : _) (y : _) (v : _) (cy : _), w = s.dev.microWord i.val ∧ pc = s.dev.strPc i.val ∧ c = s.dev.strOf i.val ∧ m = c.micro.next ∧ s.dev.executesMicro i.val 0x01 = true ∧ insField w 23 4 ≠ 8 ∧ insField w 23 4 ≠ 9 ∧ insField w 18 5 < 16 ∧ s.dev.opd i.val (insField w 13 5) = .val x ∧ (if natBit w 12 then y = unsigned 32 (signed 12 (w % 2 ^ 12)) else s.dev.opd i.val (w % 32) = .val y) ∧ aluOp (insField w 23 4) x y = some (v, some cy)) ∧
    (∃ (s : State) (i : Fin 16) (w : Nat) (pc : Nat) (c : StrCtx) (m : Micro) (x : _) (y : _) (v : _) (cy : _), w = s.dev.microWord i.val ∧ pc = s.dev.strPc i.val ∧ c = s.dev.strOf i.val ∧ m = c.micro.next ∧ s.dev.executesMicro i.val 0x01 = true ∧ insField w 23 4 = 9 ∧ s.dev.opd i.val (insField w 13 5) = .val x ∧ natBit w 12 = false ∧ s.dev.opd i.val (w % 32) = .val y ∧ v = (x + 2 ^ 32 - y) % 2 ^ 32 ∧ cy = decide (x < y)) ∧
    (∃ (s : State) (i : Fin 16) (w : Nat) (pc : Nat) (c : StrCtx) (m : Micro), w = s.dev.microWord i.val ∧ pc = s.dev.strPc i.val ∧ c = s.dev.strOf i.val ∧ m = c.micro.next ∧ s.dev.executesMicro i.val 0x02 = true ∧ insField w 22 5 < 16) ∧
    (∃ (s : State) (i : Fin 16) (w : Nat) (pc : Nat) (c : StrCtx) (m : Micro) (k : Nat), w = s.dev.microWord i.val ∧ pc = s.dev.strPc i.val ∧ c = s.dev.strOf i.val ∧ m = c.micro.next ∧ s.dev.executesMicro i.val 0x03 = true ∧ k < 8 ∧ insField w 22 5 = 0x10 + k) ∧
    (∃ (s : State) (i : Fin 16) (w : Nat) (pc : Nat) (c : StrCtx) (m : Micro), w = s.dev.microWord i.val ∧ pc = s.dev.strPc i.val ∧ c = s.dev.strOf i.val ∧ m = c.micro.next ∧ s.dev.executesMicro i.val 0x0C = true ∧ insField w 22 5 < 16 ∧ insField w 16 6 = 0) ∧
    (∃ (s : State) (i : Fin 16) (w : Nat) (pc : Nat) (c : StrCtx) (m : Micro), w = s.dev.microWord i.val ∧ pc = s.dev.strPc i.val ∧ c = s.dev.strOf i.val ∧ m = c.micro.next ∧ s.dev.executesMicro i.val 0x0C = true ∧ insField w 22 5 < 16 ∧ insField w 16 6 = 7) ∧
    (∃ (s : State) (i : Fin 16) (w : Nat) (pc : Nat) (c : StrCtx) (m : Micro) (a : Nat), w = s.dev.microWord i.val ∧ pc = s.dev.strPc i.val ∧ c = s.dev.strOf i.val ∧ m = c.micro.next ∧ s.dev.executesMicro i.val 0x0E = true ∧ insField w 22 5 < 16 ∧ s.dev.opd i.val (insField w 17 5) = .val a ∧ a < seqSize ∧ s.dev.winUE (seqAddr a) = false) :=
  ⟨⟨alone ((microOp 0x01 (0 * 2 ^ 23 + 5 * 2 ^ 18 + 1 * 2 ^ 13 + 2))), 3, _, _, _, _, 6, 4, 10, false, rfl, rfl, rfl, rfl, by decide +kernel⟩,
    ⟨alone ((microOp 0x01 (9 * 2 ^ 23 + 1 * 2 ^ 13 + 2))), 3, _, _, _, _, 6, 4, 2, false, rfl, rfl, rfl, rfl, by decide +kernel⟩,
    ⟨alone ((microOp 0x02 (5 * 2 ^ 22 + 77))), 3, _, _, _, _, rfl, rfl, rfl, rfl, by decide +kernel⟩,
    ⟨alone ((microOp 0x03 (0x12 * 2 ^ 22 + 77))), 3, _, _, _, _, 2, rfl, rfl, rfl, rfl, by decide +kernel⟩,
    ⟨alone ((microOp 0x0C (5 * 2 ^ 22))), 3, _, _, _, _, rfl, rfl, rfl, rfl, by decide +kernel⟩,
    ⟨alone ((microOp 0x0C (5 * 2 ^ 22 + 7 * 2 ^ 16))), 3, _, _, _, _, rfl, rfl, rfl, rfl, by decide +kernel⟩,
    ⟨alone ((microOp 0x0E (5 * 2 ^ 22 + 1 * 2 ^ 17))), 3, _, _, _, _, 6, rfl, rfl, rfl, rfl, by decide +kernel⟩⟩

/-- States and operands that meet the hypotheses of each clause of `Obligations.MicroFlow`. -/
theorem witness_MicroFlow :
    (∃ (s : State) (i : Fin 16) (w : Nat) (pc : Nat) (c : StrCtx) (m : Micro) (ft : Fetched), w = s.dev.microWord i.val ∧ pc = s.dev.strPc i.val ∧ c = s.dev.strOf i.val ∧ m = c.micro.next ∧ ft.word = .good ∧ s.dev.executesMicro i.val 0x00 = true) ∧
    (∃ (s : State) (i : Fin 16) (w : Nat) (pc : Nat) (c : StrCtx) (m : Micro) (b : _), w = s.dev.microWord i.val ∧ pc = s.dev.strPc i.val ∧ c = s.dev.strOf i.val ∧ m = c.micro.next ∧ s.dev.executesMicro i.val 0x04 = true ∧ c.micro.cond (insField w 23 4) = some b) ∧
    (∃ (s : State) (i : Fin 16) (w : Nat) (pc : Nat) (c : StrCtx) (m : Micro), w = s.dev.microWord i.val ∧ pc = s.dev.strPc i.val ∧ c = s.dev.strOf i.val ∧ m = c.micro.next ∧ s.dev.executesMicro i.val 0x05 = true ∧ c.micro.stack.length < 8) ∧
    (∃ (s : State) (i : Fin 16) (w : Nat) (pc : Nat) (c : StrCtx) (m : Micro) (t : _) (ts : _), w = s.dev.microWord i.val ∧ pc = s.dev.strPc i.val ∧ c = s.dev.strOf i.val ∧ m = c.micro.next ∧ s.dev.executesMicro i.val 0x06 = true ∧ c.micro.stack = t :: ts) ∧
    (∃ (s : State) (i : Fin 16) (w : Nat) (pc : Nat) (c : StrCtx) (m : Micro), w = s.dev.microWord i.val ∧ pc = s.dev.strPc i.val ∧ c = s.dev.strOf i.val ∧ m = c.micro.next ∧ s.dev.executesMicro i.val 0x08 = true ∧ requests c.queue < 64) ∧
    (∃ (s : State) (i : Fin 16) (w : Nat) (pc : Nat) (c : StrCtx) (m : Micro) (v : _), w = s.dev.microWord i.val ∧ pc = s.dev.strPc i.val ∧ c = s.dev.strOf i.val ∧ m = c.micro.next ∧ s.dev.executesMicro i.val 0x09 = true ∧ insField w 23 4 = 0 ∧ s.dev.opd i.val (insField w 18 5) = .val v) ∧
    (∃ (s : State) (i : Fin 16) (w : Nat) (pc : Nat) (c : StrCtx) (m : Micro), w = s.dev.microWord i.val ∧ pc = s.dev.strPc i.val ∧ c = s.dev.strOf i.val ∧ m = c.micro.next ∧ s.dev.executesMicro i.val 0x09 = true ∧ insField w 23 4 = 1 ∧ c.calls.length < 16) ∧
    (∃ (s : State) (i : Fin 16) (w : Nat) (pc : Nat) (c : StrCtx) (m : Micro) (t : _) (ts : _), w = s.dev.microWord i.val ∧ pc = s.dev.strPc i.val ∧ c = s.dev.strOf i.val ∧ m = c.micro.next ∧ s.dev.executesMicro i.val 0x09 = true ∧ insField w 23 4 = 2 ∧ c.calls = t :: ts) ∧
    (∃ (s : State) (i : Fin 16) (w : Nat) (pc : Nat) (c : StrCtx) (m : Micro) (v : _), w = s.dev.microWord i.val ∧ pc = s.dev.strPc i.val ∧ c = s.dev.strOf i.val ∧ m = c.micro.next ∧ s.dev.executesMicro i.val 0x09 = true ∧ insField w 23 4 = 3 ∧ s.dev.opd i.val (insField w 18 5) = .val v ∧ c.loops.length < 16) ∧
    (∃ (s : State) (i : Fin 16) (w : Nat) (pc : Nat) (c : StrCtx) (m : Micro) (v : _), w = s.dev.microWord i.val ∧ pc = s.dev.strPc i.val ∧ c = s.dev.strOf i.val ∧ m = c.micro.next ∧ s.dev.executesMicro i.val 0x09 = true ∧ insField w 23 4 = 7 ∧ s.dev.opd i.val (insField w 18 5) = .val v) :=
  ⟨⟨alone ((microOp 0 (0))), 3, _, _, _, _, ⟨false, .good, []⟩, rfl, rfl, rfl, rfl, by decide +kernel⟩,
    ⟨alone ((microOp 4 (100))), 3, _, _, _, _, true, rfl, rfl, rfl, rfl, by decide +kernel⟩,
    ⟨alone ((microOp 5 (100))), 3, _, _, _, _, rfl, rfl, rfl, rfl, by decide +kernel⟩,
    ⟨alone ((microOp 6 (0)).modStr 3 (fun c => { c with micro := { c.micro with stack := [12360, 12361] } })), 3, _, _, _, _, 12360, [12361], rfl, rfl, rfl, rfl, by decide +kernel⟩,
    ⟨alone ((microOp 8 (0))), 3, _, _, _, _, rfl, rfl, rfl, rfl, by decide +kernel⟩,
    ⟨alone ((microOp 9 (1 * 2 ^ 18))), 3, _, _, _, _, 6, rfl, rfl, rfl, rfl, by decide +kernel⟩,
    ⟨alone ((microOp 9 (1 * 2 ^ 23))), 3, _, _, _, _, rfl, rfl, rfl, rfl, by decide +kernel⟩,
    ⟨alone ((microOp 9 (2 * 2 ^ 23)).modStr 3 (fun c => { c with calls := [9, 8] })), 3, _, _, _, _, 9, [8], rfl, rfl, rfl, rfl, by decide +kernel⟩,
    ⟨alone ((microOp 9 (3 * 2 ^ 23 + 1 * 2 ^ 18))), 3, _, _, _, _, 6, rfl, rfl, rfl, rfl, by decide +kernel⟩,
    ⟨alone ((microOp 9 (7 * 2 ^ 23 + 1 * 2 ^ 18))), 3, _, _, _, _, 6, rfl, rfl, rfl, rfl, by decide +kernel⟩⟩

/-- States and operands that meet the hypotheses of each clause of `Obligations.MicroActions`. -/
theorem witness_MicroActions :
    (∃ (s : State) (i : Fin 16) (w : Nat) (pc : Nat) (c : StrCtx) (m : Micro) (span : _) (n : _), w = s.dev.microWord i.val ∧ pc = s.dev.strPc i.val ∧ c = s.dev.strOf i.val ∧ m = c.micro.next ∧ s.dev.executesMicro i.val 0x07 = true ∧ s.dev.opd i.val (insField w 22 5) = .val span ∧ natBit w 21 = true ∧ n = insField w 5 16 + 1 ∧ requests c.queue + n ≤ 64) ∧
    (∃ (s : State) (i : Fin 16) (w : Nat) (pc : Nat) (c : StrCtx) (m : Micro), w = s.dev.microWord i.val ∧ pc = s.dev.strPc i.val ∧ c = s.dev.strOf i.val ∧ m = c.micro.next ∧ s.dev.executesMicro i.val 0x0A = true ∧ insField w 22 5 = 0) ∧
    (∃ (s : State) (i : Fin 16) (w : Nat) (pc : Nat) (c : StrCtx) (m : Micro) (v : _), w = s.dev.microWord i.val ∧ pc = s.dev.strPc i.val ∧ c = s.dev.strOf i.val ∧ m = c.micro.next ∧ s.dev.executesMicro i.val 0x0A = true ∧ insField w 22 5 = 5 ∧ s.dev.opd i.val (insField w 17 5) = .val v) ∧
    (∃ (s : State) (i : Fin 16) (w : Nat) (pc : Nat) (c : StrCtx) (m : Micro) (v : _), w = s.dev.microWord i.val ∧ pc = s.dev.strPc i.val ∧ c = s.dev.strOf i.val ∧ m = c.micro.next ∧ s.dev.executesMicro i.val 0x0A = true ∧ insField w 22 5 = 0x0A ∧ s.dev.opd i.val (insField w 17 5) = .val v) ∧
    (∃ (s : State) (i : Fin 16) (w : Nat) (pc : Nat) (c : StrCtx) (m : Micro), w = s.dev.microWord i.val ∧ pc = s.dev.strPc i.val ∧ c = s.dev.strOf i.val ∧ m = c.micro.next ∧ s.dev.executesMicro i.val 0x0B = true ∧ insField w 22 5 = 1) ∧
    (∃ (s : State) (i : Fin 16) (w : Nat) (pc : Nat) (c : StrCtx) (m : Micro) (v : _), w = s.dev.microWord i.val ∧ pc = s.dev.strPc i.val ∧ c = s.dev.strOf i.val ∧ m = c.micro.next ∧ s.dev.executesMicro i.val 0x0D = true ∧ insField w 21 6 = 0 ∧ s.dev.opd i.val (insField w 16 5) = .val v) ∧
    (∃ (s : State) (i : Fin 16) (w : Nat) (pc : Nat) (c : StrCtx) (m : Micro) (span : _) (t : _), w = s.dev.microWord i.val ∧ pc = s.dev.strPc i.val ∧ c = s.dev.strOf i.val ∧ m = c.micro.next ∧ s.dev.executesMicro i.val 0x10 = true ∧ s.dev.opd i.val (insField w 22 5) = .val span ∧ s.dev.opd i.val (insField w 17 5) = .val t) ∧
    (∃ (s : State) (i : Fin 16) (w : Nat) (pc : Nat) (c : StrCtx) (m : Micro), w = s.dev.microWord i.val ∧ pc = s.dev.strPc i.val ∧ c = s.dev.strOf i.val ∧ m = c.micro.next ∧ s.dev.executesMicro i.val 0x11 = true) :=
  ⟨⟨alone ((microOp 7 (1 * 2 ^ 22 + 2 ^ 21 + 3 * 2 ^ 5))), 3, _, _, _, _, 6, 4, rfl, rfl, rfl, rfl, by decide +kernel⟩,
    ⟨alone ((microOp 0x0A (0))), 3, _, _, _, _, rfl, rfl, rfl, rfl, by decide +kernel⟩,
    ⟨alone ((microOp 0x0A (5 * 2 ^ 22 + 1 * 2 ^ 17))), 3, _, _, _, _, 6, rfl, rfl, rfl, rfl, by decide +kernel⟩,
    ⟨alone ((microOp 0x0A (0x0A * 2 ^ 22 + 1 * 2 ^ 17))), 3, _, _, _, _, 6, rfl, rfl, rfl, rfl, by decide +kernel⟩,
    ⟨alone ((microOp 0x0B (1 * 2 ^ 22))), 3, _, _, _, _, rfl, rfl, rfl, rfl, by decide +kernel⟩,
    ⟨alone ((microOp 0x0D (1 * 2 ^ 16))), 3, _, _, _, _, 6, rfl, rfl, rfl, rfl, by decide +kernel⟩,
    ⟨alone ((microOp 0x10 (1 * 2 ^ 22 + 2 * 2 ^ 17))), 3, _, _, _, _, 6, 4, rfl, rfl, rfl, rfl, by decide +kernel⟩,
    ⟨alone ((microOp 0x11 (7))), 3, _, _, _, _, rfl, rfl, rfl, rfl, by decide +kernel⟩⟩

/-- States and operands that meet the hypotheses of each clause of `Obligations.Launches`. -/
theorem witness_Launches :
    (∃ (s : State) (q : Requester) (i : Fin 16), s.dev.admitsWrite q (Reg.STR_CMD i.val) = true ∧ s.dev.refusal i.val = none) ∧
    (∃ (s : State) (q : Requester) (i : Fin 16) (n : _), s.dev.admitsWrite q (Reg.STR_CMD i.val) = true ∧ s.dev.refusal i.val = none ∧ s.dev.ahead (s.dev.launchTime i.val) = some n ∧ 4 * usTicks ≤ n) ∧
    (∃ (s : State) (q : Requester) (i : Fin 16) (n : _), s.dev.admitsWrite q (Reg.STR_CMD i.val) = true ∧ s.dev.refusal i.val = none ∧ s.dev.ahead (s.dev.launchTime i.val) = some n ∧ 4 * usTicks ≤ n ∧ s.dev.via.qt = some (s.dev.launchTime i.val)) ∧
    (∃ (s : State) (q : Requester) (i : Fin 16) (st : _), s.dev.admitsWrite q (Reg.STR_CMD i.val) = true ∧ s.dev.refusal i.val = some st ∧ s.dev.evbuf.length < 256) ∧
    (∃ (s : State) (q : Requester) (i : Fin 16) (n : _), s.dev.admitsWrite q (Reg.STR_CMD i.val) = true ∧ ((s.dev.strState i.val = 1 ∨ s.dev.strState i.val = 2)) ∧ (((s.dev.strOf i.val).arm = .sched ∨ (s.dev.strOf i.val).arm = .quorum)) ∧ s.dev.ahead (s.dev.launchTime i.val) = some n ∧ 2 * usTicks < n) :=
  ⟨⟨alone (pier3), .host, 3, by decide +kernel⟩,
    ⟨alone (launchAhead pier3), .host, 3, (10 * usTicks), by decide +kernel⟩,
    ⟨alone ({ launchAhead pier3 with via := { ViaCtx.reset with qt := some (10 * usTicks) } }), .host, 3, (10 * usTicks), by decide +kernel⟩,
    ⟨alone (ready), .host, 3, 0x16, by decide +kernel⟩,
    ⟨alone (launchAhead (stream3 1 (fun c => { c with arm := .sched }))), .host, 3, (10 * usTicks), by decide +kernel⟩⟩

/-- States and operands that meet the hypotheses of each clause of `Obligations.FirstCycles`. -/
theorem witness_FirstCycles :
    (∃ (s : State) (i : Fin 16) (c : StrCtx) (d : Device), c = s.dev.strOf i.val ∧ d = ({ s.dev with out := [] } : Device).fetchPrime i.val ∧ s.dev.strState i.val = 1 ∧ c.primed = false ∧ d.strState i.val = 1 ∧ (d.strOf i.val).primed = false ∧ d.isPrimed i.val = true ∧ ((d.strOf i.val).arm = .sched ∨ (d.strOf i.val).arm = .quorum)) ∧
    (∃ (s : State) (i : Fin 16) (c : StrCtx) (d : Device), c = s.dev.strOf i.val ∧ d = ({ s.dev with out := [] } : Device).fetchPrime i.val ∧ s.dev.strState i.val = 1 ∧ c.primed = false ∧ d.strState i.val = 1 ∧ (d.strOf i.val).primed = false ∧ d.isPrimed i.val = true ∧ (d.strOf i.val).arm = .immediate ∧ d.piersAwake i.val = true ∧ ¬ ((d.strOf i.val).mayHold = true ∧ d.calState = 5)) ∧
    (∃ (s : State) (i : Fin 16) (c : StrCtx) (d : Device), c = s.dev.strOf i.val ∧ d = ({ s.dev with out := [] } : Device).fetchPrime i.val ∧ s.dev.strState i.val = 1 ∧ c.primed = false ∧ d.strState i.val = 1 ∧ (d.strOf i.val).primed = false ∧ d.isPrimed i.val = true ∧ (d.strOf i.val).arm = .immediate ∧ d.piersAwake i.val = true ∧ (d.strOf i.val).mayHold = true ∧ d.calState = 5) ∧
    (∃ (s : State) (i : Fin 16) (c : StrCtx) (n : _) (a : _) (f : _) (is : _), c = s.dev.strOf i.val ∧ s.dev.strState i.val = 1 ∧ c.primed = true ∧ c.arm = .immediate ∧ s.dev.cal.held = [] ∧ c.queue = .play n a f :: is ∧ c.apgDue = false ∧ s.dev.pwrState ≤ 1 ∧ s.dev.regN (Reg.STR_BURST_ID i.val) < 0xFFFFFFFE) ∧
    (∃ (s : State) (i : Fin 16) (c : StrCtx), c = s.dev.strOf i.val ∧ ((s.dev.strState i.val = 1 ∨ s.dev.strState i.val = 2)) ∧ ((c.arm = .sched ∨ c.arm = .quorum)) ∧ c.verdict = none ∧ s.dev.notReady i.val = 0) ∧
    (∃ (s : State) (i : Fin 16) (c : StrCtx), c = s.dev.strOf i.val ∧ ((s.dev.strState i.val = 1 ∨ s.dev.strState i.val = 2)) ∧ c.arm = .sched ∧ c.verdict = none ∧ s.dev.notReady i.val ≠ 0) ∧
    (∃ (s : State) (i : Fin 16) (c : StrCtx) (n : _) (a : _) (f : _) (is : _), c = s.dev.strOf i.val ∧ s.dev.strState i.val = 2 ∧ c.arm = .sched ∧ c.verdict = some 0 ∧ c.queue = .play n a f :: is ∧ c.apgDue = false) ∧
    (∃ (s : State) (i : Fin 16) (c : StrCtx) (n : _) (a : _) (f : _) (is : _), c = s.dev.strOf i.val ∧ s.dev.strState i.val = 2 ∧ c.arm = .quorum ∧ c.verdict = some 0 ∧ s.dev.via.verdict = some true ∧ c.queue = .play n a f :: is ∧ c.apgDue = false) :=
  ⟨⟨alone (stream3 1 (fun c => { c with arm := .sched, queue := [.act .halt 0] })), 3, _, _, rfl, rfl, by decide +kernel⟩,
    ⟨alone ((stream3 1 (fun c => { c with arm := .immediate, queue := [.act .halt 0] })).setBit Reg.CAL_CTRL 4 false), 3, _, _, rfl, rfl, by decide +kernel⟩,
    ⟨alone ((stream3 1 (fun c => { c with arm := .immediate, mayHold := true, queue := [.act .halt 0] })).setFld Reg.CAL_STATUS 0 3 5), 3, _, _, rfl, rfl, by decide +kernel⟩,
    ⟨alone (stream3 1 (fun c => { c with arm := .immediate, primed := true, launchT := 77, queue := [.play 2 0 .waiting] })), 3, _, 2, 0, .waiting, [], rfl, by decide +kernel⟩,
    ⟨alone (stream3 1 (fun c => { c with arm := .sched, primed := true })), 3, _, rfl, by decide +kernel⟩,
    ⟨alone (stream3 1 (fun c => { c with arm := .sched })), 3, _, rfl, by decide +kernel⟩,
    ⟨alone (launchAhead (stream3 2 (fun c => { c with arm := .sched, primed := true, verdict := some 0, queue := [.play 2 0 .waiting] }))), 3, _, 2, 0, .waiting, [], rfl, by decide +kernel⟩,
    ⟨alone ({ launchAhead (stream3 2 (fun c => { c with arm := .quorum, primed := true, verdict := some 0, queue := [.play 2 0 .waiting] })) with via := { ViaCtx.reset with verdict := some true } }), 3, _, 2, 0, .waiting, [], rfl, by decide +kernel⟩⟩

/-- States and operands that meet the hypotheses of each clause of `Obligations.StreamControls`. -/
theorem witness_StreamControls :
    (∃ (s : State) (q : Requester) (i : Fin 16) (c : StrCtx), c = s.dev.strOf i.val ∧ s.dev.admitsWrite q (Reg.STR_CMD i.val) = true ∧ s.dev.strState i.val = 3) ∧
    (∃ (s : State) (q : Requester) (i : Fin 16) (c : StrCtx), c = s.dev.strOf i.val ∧ s.dev.admitsWrite q (Reg.STR_CMD i.val) = true ∧ s.dev.bit (Reg.STR_STATUS i.val) 5 = true ∧ s.dev.playing i.val = true ∧ c.gap = .none) ∧
    (∃ (s : State) (q : Requester) (i : Fin 16) (c : StrCtx) (t : _), c = s.dev.strOf i.val ∧ s.dev.admitsWrite q (Reg.STR_CMD i.val) = true ∧ s.dev.bit (Reg.STR_STATUS i.val) 5 = true ∧ s.dev.strState i.val = 4 ∧ c.gap = .till t ∧ c.jumpReq = none ∧ s.dev.ttime + 20 * nsTicks < t) ∧
    (∃ (s : State) (q : Requester) (i : Fin 16) (c : StrCtx), c = s.dev.strOf i.val ∧ s.dev.admitsWrite q (Reg.STR_CMD i.val) = true ∧ s.dev.bit (Reg.STR_STATUS i.val) 5 = false) ∧
    (∃ (s : State) (q : Requester) (i : Fin 16) (target : BitVec 18) (w : Nat) (c : StrCtx), c = s.dev.strOf i.val ∧ w = s.dev.seqWord target.toNat ∧ s.dev.admitsWrite q (Reg.STR_JUMP i.val) = true ∧ s.dev.winUE (seqAddr target.toNat) = false ∧ insField w 52 4 = 0 ∧ insOp w = 2 ∧ insReserved w ((insUsed 2).getD 0) = false) ∧
    (∃ (s : State) (i : Fin 16) (n : Nat), (s.dev.strOf i.val).jump = some n ∧ s.dev.spanReady n = true ∧ s.dev.spanOk i.val n = true ∧ s.dev.bit (Reg.STR_STATUS i.val) 5 = false ∧ s.dev.bufBytes i.val + s.dev.jumpBytes n ≤ bufSize ∧ s.dev.jumpBytes n * creditByte ≤ s.dev.creditNow i.val) ∧
    (∃ (s : State) (q : Requester) (i : Fin 16), s.dev.admitsWrite q (Reg.STR_FLAGS i.val) = true ∧ (s.dev.strOf i.val).eng = .running) ∧
    (∃ (s : State) (q : Requester) (i : Fin 16) (v : Word) (f : Nat), s.dev.admitsWrite q (Reg.STR_FLAGS i.val) = true ∧ f < 32 ∧ (s.dev.strOf i.val).eng = .waitFlag f ∧ v.bit f = true ∧ (s.dev.strOf i.val).micro.active = false) ∧
    (∃ (s : State) (q : Requester) (i : Fin 16), s.dev.admitsWrite q (Reg.STR_FLAGS_CLR i.val) = true) :=
  ⟨⟨alone (stream3 3 id), .host, 3, _, rfl, by decide +kernel⟩,
    ⟨alone ((stream3 3 id).setBit (Reg.STR_STATUS 3) 5 true), .host, 3, _, rfl, by decide +kernel⟩,
    ⟨alone ((stream3 4 (fun c => { c with gap := .till (40 * nsTicks) })).setBit (Reg.STR_STATUS 3) 5 true), .host, 3, _, (40 * nsTicks), rfl, by decide +kernel⟩,
    ⟨alone (ready), .host, 0, _, rfl, by decide +kernel⟩,
    ⟨alone ((stream3 3 id).setRegN (seqAddr 9 + 4) (2 * 2 ^ 24)), .host, 3, 9, _, _, rfl, rfl, by decide +kernel⟩,
    ⟨alone ((((((pier3.setRegN (spanWord 2 1) 1).setRegN (spanWord 2 2) 1).setRegN (spanWord 2 3) (2 ^ 31 + 1 * 2 ^ 16)).setFld (Reg.LDG_SCFG 3) 16 2 3).memStore 0 1 8).modStr 3 (fun c => { c with jump := some 2, credit := 8192 * creditByte })), 3, 2, by decide +kernel⟩,
    ⟨alone (stream3 3 (fun c => { c with eng := .running })), .host, 3, by decide +kernel⟩,
    ⟨alone (stream3 3 (fun c => { c with eng := .waitFlag 4 })), .host, 3, 0x10, 4, by decide +kernel⟩,
    ⟨alone (ready), .host, 0, by decide +kernel⟩⟩

/-- States and operands that meet the hypotheses of each clause of `Obligations.SpanRequests`. -/
theorem witness_SpanRequests :
    (∃ (s : State) (i : Fin 16) (c : StrCtx) (n : Nat) (a : Nat), c = s.dev.strOf i.val ∧ c.queue.find? QItem.waits = some (.play n a .waiting) ∧ c.jumpBuf = none ∧ s.dev.bit (Reg.STR_CTRL i.val) 4 = false ∧ s.dev.winUE (spanWord n 0) = false ∧ s.dev.winUE (spanWord n 2) = false ∧ s.dev.spanReady n = false) ∧
    (∃ (s : State) (i : Fin 16) (c : StrCtx) (n : Nat) (a : Nat), c = s.dev.strOf i.val ∧ c.queue.find? QItem.waits = some (.play n a .waiting) ∧ c.jumpBuf = none ∧ s.dev.bit (Reg.STR_CTRL i.val) 4 = false ∧ s.dev.winUE (spanWord n 0) = false ∧ s.dev.winUE (spanWord n 2) = false ∧ s.dev.readsIssued i.val = true ∧ s.dev.spanReady n = true ∧ s.dev.spanOk i.val n = false) ∧
    (∃ (s : State) (i : Fin 16) (c : StrCtx) (n : Nat) (a : Nat), c = s.dev.strOf i.val ∧ c.queue.find? QItem.waits = some (.play n a .waiting) ∧ c.jumpBuf = none ∧ s.dev.bit (Reg.STR_CTRL i.val) 4 = false ∧ s.dev.winUE (spanWord n 0) = false ∧ s.dev.winUE (spanWord n 2) = false ∧ s.dev.readsIssued i.val = true ∧ s.dev.spanReady n = true ∧ s.dev.spanOk i.val n = true ∧ 0 < s.dev.spanSize64 n) ∧
    (∃ (s : State) (i : Fin 16) (c : StrCtx) (n : Nat) (a : Nat) (size : Nat) (got : Nat) (is : List QItem), c = s.dev.strOf i.val ∧ c.late = [] ∧ c.queue = .play n a (.fetching size got false) :: is ∧ s.dev.fetchGot i.val size got false (2 ^ 36) = size ∧ s.dev.badWords (s.dev.spanAddr n + got) (size - got) = []) ∧
    (∃ (s : State) (i : Fin 16) (c : StrCtx), c = s.dev.strOf i.val ∧ c.eng = .waitRoom ∧ s.dev.noRoom i.val = false ∧ c.held = none) ∧
    (∃ (s : State) (i : Fin 16) (c : StrCtx) (span : Nat) (n : Nat) (a : Nat), c = s.dev.strOf i.val ∧ c.eng = .waitRoom ∧ c.held = some (span, n, a) ∧ s.dev.bufBytes i.val < bufSize ∧ requests c.queue + n < 64 ∧ c.micro.active = false) :=
  ⟨⟨alone ((stream3 3 (fun c => { c with queue := [.play 2 0 .waiting] })).setBit (Reg.STR_CTRL 3) 4 false), 3, _, 2, 0, rfl, by decide +kernel⟩,
    ⟨alone (((((((pier3.setRegN (spanWord 2 1) 1).setRegN (spanWord 2 2) 1).setRegN (spanWord 2 3) (2 ^ 31 + 1 * 2 ^ 16)).setFld (Reg.LDG_SCFG 3) 16 2 3).memStore 0 1 8).setRegN (Reg.STR_CTRL 3) 1).modStr 3 (fun c => { c with queue := [.play 2 0 .waiting] })), 3, _, 2, 0, rfl, by decide +kernel⟩,
    ⟨alone (((((((pier3.setRegN (spanWord 2 1) 1).setRegN (spanWord 2 2) 1).setRegN (spanWord 2 3) (2 ^ 31 + 1 * 2 ^ 16)).setFld (Reg.LDG_SCFG 3) 16 2 3).memStore 0 1 8).setRegN (Reg.STR_CTRL 3) 0).modStr 3 (fun c => { c with queue := [.play 2 0 .waiting] })), 3, _, 2, 0, rfl, by decide +kernel⟩,
    ⟨alone ((((((pier3.setRegN (spanWord 2 1) 1).setRegN (spanWord 2 2) 1).setRegN (spanWord 2 3) (2 ^ 31 + 1 * 2 ^ 16)).setFld (Reg.LDG_SCFG 3) 16 2 3).memStore 0 1 8).modStr 3 (fun c => { c with queue := [.play 2 0 (.fetching 64 0 false)], credit := 8192 * creditByte })), 3, _, 2, 0, 64, 0, [], rfl, by decide +kernel⟩,
    ⟨alone (stream3 3 (fun c => { c with eng := .waitRoom })), 3, _, rfl, by decide +kernel⟩,
    ⟨alone (stream3 3 (fun c => { c with eng := .waitRoom, held := some (2, 1, 0) })), 3, _, 2, 1, 0, rfl, by decide +kernel⟩⟩

/-- States and operands that meet the hypotheses of each clause of `Obligations.CyclesAndGaps`. -/
theorem witness_CyclesAndGaps :
    (∃ (s : State) (i : Fin 16) (samples : List Sample) (n : Nat) (ueVec : Bool) (eccTs : List (BitVec 8 × Ecc)) (pos : PlayPos) (d1 : Device) (d : Device) (c : StrCtx) (k : CycPlan), d1 = ({ s.dev with out := [] } : Device).fetchArrive i.val n ∧ c = d1.strOf i.val ∧ k = d.cyclePlan i.val pos false samples ueVec (eccTs.map (fun e => (e.1.toNat, e.2))) ∧ (((c.pos = some pos ∧ d1.recordAbsent i.val = false ∧ d = d1) ∨ (c.pos = none ∧ (d1.handOver i.val).takeRequest i.val = .at d pos))) ∧ d1.playing i.val = true ∧ c.gap = .none ∧ c.stop ≠ 2 ∧ (d.strOf i.val).mtch = none ∧ k.fault = none) ∧
    (∃ (s : State) (i : Fin 16) (c : StrCtx) (op : Nat) (a : Nat) (v : Nat) (half : Bool), c = s.dev.strOf i.val ∧ s.dev.playing i.val = true ∧ c.gap = .none ∧ c.pos = none ∧ c.jumpReq = none ∧ c.stop = 0 ∧ c.apgDue = false ∧ op < 4 ∧ v < 2 ^ 32 ∧ c.queue = [.act (.siteMask op half v) a]) ∧
    (∃ (s : State) (i : Fin 16) (c : StrCtx) (a : Nat) (code : Nat), c = s.dev.strOf i.val ∧ s.dev.playing i.val = true ∧ c.gap = .none ∧ c.pos = none ∧ c.jumpReq = none ∧ c.stop = 0 ∧ c.apgDue = false ∧ code < 2 ^ 16 ∧ c.queue = [.act (.signal code) a]) ∧
    (∃ (s : State) (i : Fin 16) (c : StrCtx) (t : Nat), c = s.dev.strOf i.val ∧ c.gap = .till t ∧ s.dev.strState i.val = 4 ∧ headActs c.queue = false) ∧
    (∃ (s : State) (i : Fin 16) (c : StrCtx) (t : Nat) (post : List GapAdj), c = s.dev.strOf i.val ∧ c.gap = .primed t post ∧ s.dev.strState i.val = 4 ∧ s.dev.isPrimed i.val = true ∧ s.dev.ttime ≤ s.dev.planned i.val ∧ headActs c.queue = false) ∧
    (∃ (s : State) (i : Fin 16) (c : StrCtx) (t : Nat), c = s.dev.strOf i.val ∧ c.gap = .drain t ∧ s.dev.strState i.val = 4) ∧
    (∃ (s : State) (i : Fin 16) (c : StrCtx) (t : Nat) (d : Device) (m : Nat) (f : Nat), c = s.dev.strOf i.val ∧ d = (({ s.dev with out := [] } : Device).reach t).settleDue i.val t ∧ m = d.reg64 (Reg.STR_SITE_LO i.val) (Reg.STR_SITE_HI i.val) ∧ f = d.siteFail i.val ∧ c.gap = .drop t) ∧
    (∃ (s : State) (p : Fin 16) (u : BmUpdate) (us : List BmUpdate), (s.dev.capOf p.val).bmq = u :: us ∧ s.dev.memUE u.addr 32 = false) :=
  ⟨⟨alone ((stream3 3 (fun c => { c with pos := some ⟨5, ⟨2, 0, 1, false, 1, [], []⟩, false, 0, 1, 1, 0, false⟩ })).setRegN (Reg.STR_PER_INT 3 0) 4095), 3, [], 0, false, [], ⟨5, ⟨2, 0, 1, false, 1, [], []⟩, false, 0, 1, 1, 0, false⟩, _, _, _, _, rfl, rfl, rfl, .inl ⟨by decide +kernel, by decide +kernel, rfl⟩, by decide +kernel⟩,
    ⟨alone (stream3 3 (fun c => { c with queue := [.act (.siteMask 0 false 5) 0] })), 3, _, 0, 0, 5, false, rfl, by decide +kernel⟩,
    ⟨alone (stream3 3 (fun c => { c with queue := [.act (.signal 5) 0] })), 3, _, 0, 5, rfl, by decide +kernel⟩,
    ⟨alone (stream3 4 (fun c => { c with gap := .till 9 })), 3, _, 9, rfl, by decide +kernel⟩,
    ⟨alone (stream3 4 (fun c => { c with gap := .primed 9 [], queue := [.play 2 0 (.ready ⟨2, 0, 1, false, 256, [], []⟩)] })), 3, _, 9, [], rfl, by decide +kernel⟩,
    ⟨alone (stream3 4 (fun c => { c with gap := .drain 9 })), 3, _, 9, rfl, by decide +kernel⟩,
    ⟨alone (stream3 4 (fun c => { c with gap := .drop 9 })), 3, _, 9, _, _, _, rfl, rfl, rfl, rfl, by decide +kernel⟩,
    ⟨alone (ready.modCap 3 (fun c => { c with bmq := [⟨64, 5⟩] })), 3, ⟨64, 5⟩, [], by decide +kernel⟩⟩

/-- States and operands that meet the hypotheses of each clause of `Obligations.ControlStoreLoads`. -/
theorem witness_ControlStoreLoads :
    (∃ (s : State) (q : Requester) (a : Nat) (len : Nat), s.dev.admitsWrite q Reg.UCS_CMD = true ∧ s.dev.lstate = 0 ∧ a = s.dev.reg64 Reg.UCS_IMG_ADDR_LO Reg.UCS_IMG_ADDR_HI ∧ len = s.dev.regN Reg.UCS_IMG_LEN ∧ s.dev.custBusy = false ∧ s.dev.bit Reg.FUSE_CFG0 0 = true ∧ a % 64 = 0 ∧ 0 < len ∧ a + len ≤ memEnd ∧ stackOf a = stackOf (a + len - 1) ∧ s.dev.memThere (a + 12) 4 = true ∧ s.dev.badWords (a + 12) 4 = [] ∧ len = 0xC0 + 4 * s.dev.memRead (a + 12) 4) ∧
    (∃ (s : State) (q : Requester) (a : Nat) (len : Nat), s.dev.admitsWrite q Reg.UCS_CMD = true ∧ s.dev.lstate = 0 ∧ a = s.dev.reg64 Reg.UCS_IMG_ADDR_LO Reg.UCS_IMG_ADDR_HI ∧ len = s.dev.regN Reg.UCS_IMG_LEN ∧ s.dev.custBusy = true) ∧
    (∃ (s : State) (q : Requester) (a : Nat) (len : Nat), a = s.dev.reg64 Reg.UCS_IMG_ADDR_LO Reg.UCS_IMG_ADDR_HI ∧ len = s.dev.regN Reg.UCS_IMG_LEN ∧ s.dev.admitsWrite q Reg.UCS_CMD = true ∧ s.dev.lstate = 0 ∧ s.dev.custBusy = false) ∧
    (∃ (s : State) (h : Nat), h = 1 - s.dev.fld Reg.UCS_STATUS 12 1 ∧ s.dev.lstate = 0 ∧ ((∀ j < 16, s.dev.vendHalf j ≠ h))) ∧
    (∃ (s : State) (h : Nat), s.dev.admitsWrite .keystone Reg.UCS_CMD = true ∧ s.dev.lstate = 0 ∧ h = 1 - s.dev.fld Reg.UCS_STATUS 12 1 ∧ s.dev.bit Reg.UCS_STATUS (16 + h) = true) ∧
    (∃ (s : State) (a : Nat) (len : Nat), s.dev.lstate = 1 ∧ s.dev.ucs.vend = false ∧ a = s.dev.ucs.addr ∧ len = s.dev.ucs.len ∧ s.dev.memThere a len = true ∧ s.dev.badWords a len = []) ∧
    (∃ (s : State), s.dev.lstate = 1 ∧ s.dev.ucs.vend = true) ∧
    (∃ (s : State) (w : BitVec 15), s.dev.lstate = 1 ∧ ((s.dev.ucs.vend = false → s.dev.memThere s.dev.ucs.addr s.dev.ucs.len = true → s.dev.ucs.addr % 64 = 0 ∧ w.toNat < s.dev.ucs.len))) ∧
    (∃ (s : State), s.dev.lstate = 2 ∧ s.dev.ucs.vend = false ∧ imgHeaderOk s.dev.ucs.stage false = true ∧ s.dev.imgSignCheck s.dev.ucs.stage = 0 ∧ verifyImage s.dev.ucs.stage = none) ∧
    (∃ (s : State) (i : Nat) (c : Nat), s.dev.lstate = 2 ∧ s.dev.ucs.vend = false ∧ imgHeaderOk s.dev.ucs.stage false = true ∧ s.dev.imgSignCheck s.dev.ucs.stage = 0 ∧ verifyImage s.dev.ucs.stage = some (i, c) ∧ i < 4096 ∧ c < 2 ^ 16) ∧
    (∃ (s : State) (ws : List Nat), s.dev.lstate = 3 ∧ s.dev.ucs.vend = false ∧ ws = s.dev.ucs.stage) ∧
    (∃ (s : State) (w : BitVec 14), s.dev.bit Reg.UCS_CTRL 0 = true ∧ s.dev.csUE w.toNat = false ∧ s.dev.fld Reg.UCS_CE_CNT 0 16 < 0xFFFF) ∧
    (∃ (s : State), s.dev.bit Reg.UCS_CTRL 0 = true) ∧
    (∃ (s : State) (w : BitVec 14) (x : Ecc), (s.dev.bit Reg.UCS_CTRL 0 = false ∨ x = .good ∧ s.dev.csUE w.toNat = false)) :=
  ⟨⟨alone (((ready.setBit Reg.FUSE_CFG0 0 true).memStore 12 4 65).setRegN Reg.UCS_IMG_LEN 452), .host, 0, 452, by decide +kernel⟩,
    ⟨alone ((ready.setBit Reg.UCS_CUST_EN 3 true).setStrState 3 3), .host, 0, 0, by decide +kernel⟩,
    ⟨alone (ready), .host, _, _, rfl, rfl, by decide +kernel⟩,
    ⟨alone (ready), _, rfl, by decide +kernel⟩,
    ⟨alone (ready.setBit Reg.UCS_STATUS 17 true), 1, by decide +kernel⟩,
    ⟨alone ({ ready.setFld Reg.UCS_STATUS 0 3 1 with ucs := { UcsCtx.reset with stage := [], addr := 0, len := 452 } }), 0, 452, by decide +kernel⟩,
    ⟨alone ({ ready.setFld Reg.UCS_STATUS 0 3 1 with ucs := { UcsCtx.reset with stage := [7], vend := true } }), by decide +kernel⟩,
    ⟨alone ({ ready.setFld Reg.UCS_STATUS 0 3 1 with ucs := { UcsCtx.reset with stage := [], addr := 0, len := 452 } }), 64, by decide +kernel⟩,
    ⟨alone ({ ready.setFld Reg.UCS_STATUS 0 3 2 with ucs := { UcsCtx.reset with stage := ([0x43554D46, 131073, 5, 65, 0, 0, 0, 0] ++ List.replicate 88 0 ++ [8 * 2 ^ 27]) } }), by decide +kernel⟩,
    ⟨alone ({ ready.setFld Reg.UCS_STATUS 0 3 2 with ucs := { UcsCtx.reset with stage := ([0x43554D46, 131073, 5, 65, 0, 0, 0, 0] ++ List.replicate 88 0 ++ [0]) } }), 64, 15, by decide +kernel⟩,
    ⟨alone ({ ready.setFld Reg.UCS_STATUS 0 3 3 with ucs := { UcsCtx.reset with stage := ([0x43554D46, 131073, 5, 65, 0, 0, 0, 0] ++ List.replicate 88 0 ++ [8 * 2 ^ 27]) } }), ([0x43554D46, 131073, 5, 65, 0, 0, 0, 0] ++ List.replicate 88 0 ++ [8 * 2 ^ 27]), by decide +kernel⟩,
    ⟨alone (ready), 0, by decide +kernel⟩,
    ⟨alone (ready), by decide +kernel⟩,
    ⟨alone (ready), 0, .good, by decide +kernel⟩⟩

/-- States and operands that meet the hypotheses of each clause of `Obligations.CaptureEngines`. -/
theorem witness_CaptureEngines :
    (∃ (s : State) (q : Requester) (p : Fin 16), s.dev.admitsWrite q (Reg.CAP_CMD p.val) = true ∧ s.dev.pierHalted p.val = true ∧ (s.dev.capRegion p.val).ok = true) ∧
    (∃ (s : State) (q : Requester) (p : Fin 16), s.dev.admitsWrite q (Reg.CAP_CMD p.val) = true ∧ s.dev.pierHalted p.val = false) ∧
    (∃ (s : State) (q : Requester) (p : Fin 16), s.dev.admitsWrite q (Reg.CAP_CMD p.val) = true ∧ s.dev.pierHalted p.val = true ∧ (s.dev.capOf p.val).seg = none) ∧
    (∃ (s : State) (q : Requester) (p : Fin 16) (v : Word) (u : Nat), u = v.toNat / 2 ^ 24 % 64 ∧ s.dev.admitsWrite q (Reg.CAP_RELEASE p.val) = true ∧ v.bit 31 = false) ∧
    (∃ (s : State) (p : Fin 16), ((∀ j, s.dev.streamOf p.val = some j → (s.dev.strOf j).flights = []))) ∧
    (∃ (s : State) (p : Fin 16) (j : Nat) (c : StrCtx), c = s.dev.strOf j ∧ s.dev.streamOf p.val = some j ∧ c.flights ≠ []) ∧
    (∃ (s : State) (p : Fin 16) (r : Region), (s.dev.capOf p.val).fill = true ∧ (s.dev.capOf p.val).region = some r ∧ ((∀ i < 16, s.dev.heldSpans i = [])) ∧ ((∀ k < r.cnt, s.dev.memThere (r.base + k * r.seg64 * 64 + 0x3C) 4 = true))) :=
  ⟨⟨alone (ready), .host, 0, by decide +kernel⟩,
    ⟨alone (pier3.setStrState 3 3), .host, 3, by decide +kernel⟩,
    ⟨alone (ready), .host, 0, by decide +kernel⟩,
    ⟨alone (ready), .host, 0, 0, _, rfl, by decide +kernel⟩,
    ⟨alone (ready), 0, by decide +kernel⟩,
    ⟨alone (stream3 3 (fun c => { c with flights := [.capOn] })), 3, 3, _, rfl, by decide +kernel⟩,
    ⟨alone (ready.modCap 3 (fun c => { c with fill := true, region := some ⟨128, 1, 2⟩ })), 3, ⟨128, 1, 2⟩, by decide +kernel⟩⟩

/-- States and operands that meet the hypotheses of each clause of `Obligations.TriggerActions`. -/
theorem witness_TriggerActions :
    (∃ (s : State) (p : Fin 16) (a : TrigAct) (rest : List TrigAct), (s.dev.trgOf p.val).acts = a :: rest ∧ a.jump = false ∧ a.stream < 16 ∧ (s.dev.strOf a.stream).eng = .running) ∧
    (∃ (s : State) (k : Fin 8) (t : Nat), Tab.get (fun _ => none) s.dev.trigout k.val = some t) :=
  ⟨⟨alone ((ready.setTrg 3 ({ (ready.trgOf 3) with acts := [⟨3, 3, 5, 0, 0, 1, 0x12, false, 3, false, 0, none⟩] })).modStr 3 (fun c => { c with eng := .running })), 3, ⟨3, 3, 5, 0, 0, 1, 0x12, false, 3, false, 0, none⟩, [], by decide +kernel⟩,
    ⟨alone ({ ready with trigout := Tab.set (fun _ => none) ready.trigout 2 (some 5) }), 2, 5, by decide +kernel⟩⟩

/-- States and operands that meet the hypotheses of each clause of `Obligations.MeterCommands`. -/
theorem witness_MeterCommands :
    (∃ (s : State) (q : Requester) (i : Fin 32), s.dev.admitsWrite q (Reg.IVM_CMD i.val) = true ∧ s.dev.calState ≠ 1 ∧ s.dev.calState ≠ 2 ∧ s.dev.ivmState i.val = 0 ∧ s.dev.bit Reg.CLK_STATUS 0 = true) ∧
    (∃ (s : State) (q : Requester) (i : Fin 32), s.dev.admitsWrite q (Reg.IVM_CMD i.val) = true ∧ s.dev.calState ≠ 1 ∧ s.dev.calState ≠ 2 ∧ s.dev.ivmState i.val = 0 ∧ s.dev.bit Reg.CLK_STATUS 0 = false) ∧
    (∃ (s : State) (q : Requester) (i : Fin 32), s.dev.admitsWrite q (Reg.IVM_CMD i.val) = true ∧ s.dev.calState ≠ 1 ∧ s.dev.calState ≠ 2 ∧ s.dev.ivmState i.val = 4) ∧
    (∃ (s : State) (q : Requester) (i : Fin 32), s.dev.admitsWrite q (Reg.IVM_CMD i.val) = true ∧ s.dev.calState ≠ 1 ∧ s.dev.calState ≠ 2 ∧ s.dev.ivmState i.val = 1) ∧
    (∃ (s : State) (q : Requester) (i : Fin 32), s.dev.admitsWrite q (Reg.IVM_CMD i.val) = true ∧ s.dev.calState ≠ 1 ∧ s.dev.calState ≠ 2) ∧
    (∃ (s : State) (i : Fin 32) (a1 : BitVec 18) (a2 : BitVec 18) (b1 : BitVec 18) (b2 : BitVec 18), s.dev.ivmState i.val = 1 ∧ s.dev.calState ≠ 1 ∧ s.dev.calState ≠ 2 ∧ a1.toNat + 16 * 3277 ≤ a2.toNat ∧ a2.toNat ≤ a1.toNat + 16 * 4915 ∧ b1.toNat + 16 * 3277 ≤ b2.toNat ∧ b2.toNat ≤ b1.toNat + 16 * 4915) ∧
    (∃ (s : State) (q : Requester) (i : Fin 32) (v : Nat) (f : Nat) (rest : List (Nat × Nat)), s.dev.admitsRead q (Reg.IVM_FIFO_LO i.val) = true ∧ (s.dev.ivmOf i.val).fifo = (v, f) :: rest) ∧
    (∃ (s : State) (i : Fin 32), s.dev.ivmState i.val = 4 ∧ (s.dev.ivmOf i.val).armHeld = false) ∧
    (∃ (s : State) (i : Fin 32), s.dev.ivmState i.val = 4 ∧ (s.dev.ivmOf i.val).armHeld = true ∧ s.dev.bit Reg.CLK_STATUS 0 = true) :=
  ⟨⟨alone (meter3 0 0 id), .host, 3, by decide +kernel⟩,
    ⟨alone ((meter3 0 0 id).setBit Reg.CLK_STATUS 0 false), .host, 3, by decide +kernel⟩,
    ⟨alone (meter3 4 0 id), .host, 3, by decide +kernel⟩,
    ⟨alone (meter3 1 0 id), .host, 3, by decide +kernel⟩,
    ⟨alone (ready), .host, 0, by decide +kernel⟩,
    ⟨alone (meter3 1 0 id), 3, 0, 60000, 0, 60000, by decide +kernel⟩,
    ⟨alone (meter3 3 0 (fun c => { c with fifo := [(7, 0)] })), .host, 3, 7, 0, [], by decide +kernel⟩,
    ⟨alone (meter3 4 0 id), 3, by decide +kernel⟩,
    ⟨alone (meter3 4 0 (fun c => { c with armHeld := true })), 3, by decide +kernel⟩⟩

/-- States and operands that meet the hypotheses of each clause of `Obligations.MeterRuns`. -/
theorem witness_MeterRuns :
    (∃ (s : State) (i : Fin 32) (src : BitVec 10) (ball : BitVec 64), s.dev.calState ≠ 1 ∧ s.dev.calState ≠ 2 ∧ s.dev.ivmState i.val = 3 ∧ s.dev.ivmMode i.val = 2 ∧ ivmInterpolated src.toNat = true ∧ s.dev.fld (Reg.IVM_START i.val) 0 10 = src.toNat ∧ s.dev.fld (Reg.IVM_START i.val) 14 2 = 0 ∧ s.dev.fld (Reg.IVM_STOP i.val) 0 10 ≠ src.toNat ∧ s.dev.fld (Reg.IVM_HOLDOFF i.val) 0 16 = 0 ∧ s.dev.regN (Reg.IVM_GATE i.val) = 0 ∧ s.dev.bit (Reg.IVM_CTRL i.val) 4 = false ∧ (s.dev.ivmOf i.val).ended = none ∧ (s.dev.ivmOf i.val).events = [] ∧ (s.dev.ivmOf i.val).lastEdge = none ∧ (s.dev.ivmOf i.val).calEnd ≤ (s.dev.ivmOf i.val).base + ball.toNat) ∧
    (∃ (s : State) (q : Requester) (i : Fin 32) (t : Nat), t = (s.dev.ivmOf i.val).base + (s.dev.ttime / 1280 + 1) * 1280 ∧ s.dev.admitsWrite q (Reg.IVM_CMD i.val) = true ∧ s.dev.calState ≠ 1 ∧ s.dev.calState ≠ 2 ∧ s.dev.ivmState i.val = 3 ∧ s.dev.ivmMode i.val = 2 ∧ s.dev.fld (Reg.IVM_START i.val) 0 10 = 0x2FC ∧ s.dev.fld (Reg.IVM_STOP i.val) 0 10 ≠ 0x2FC ∧ s.dev.fld (Reg.IVM_HOLDOFF i.val) 0 16 = 0 ∧ s.dev.regN (Reg.IVM_GATE i.val) = 0 ∧ (s.dev.ivmOf i.val).ended = none ∧ (s.dev.ivmOf i.val).events = [] ∧ (s.dev.ivmOf i.val).lastEdge = none ∧ (s.dev.ivmOf i.val).calEnd ≤ s.dev.ivmNow i.val) ∧
    (∃ (s : State) (i : Fin 32) (g : Nat), s.dev.calState ≠ 1 ∧ s.dev.calState ≠ 2 ∧ s.dev.ivmState i.val = 3 ∧ s.dev.ivmGateEnd i.val = some g ∧ (s.dev.ivmOf i.val).ended = none) ∧
    (∃ (s : State) (i : Fin 32), s.dev.calState ≠ 1 ∧ s.dev.calState ≠ 2 ∧ ((s.dev.ivmState i.val = 2 ∨ s.dev.ivmState i.val = 3)) ∧ s.dev.fld (Reg.IVM_TIMEOUT i.val) 0 24 ≠ 0 ∧ s.dev.ivmEndOf i.val (s.dev.ivmView i.val).acc = none) ∧
    (∃ (s : State) (i : Fin 32) (why : IvmEnd) (t : Nat) (n : Nat), n = ((s.dev.ivmAccepted i.val).filter (fun x => x.start)).length ∧ s.dev.calState ≠ 1 ∧ s.dev.calState ≠ 2 ∧ s.dev.ivmState i.val = 3 ∧ s.dev.ivmMode i.val = 2 ∧ s.dev.ivmEndOf i.val (s.dev.ivmView i.val).acc = some (why, t)) ∧
    (∃ (s : State) (i : Fin 32) (a : IvmEv) (b : IvmEv) (why : IvmEnd) (t : Nat), s.dev.calState ≠ 1 ∧ s.dev.calState ≠ 2 ∧ s.dev.ivmState i.val = 3 ∧ s.dev.ivmMode i.val = 0 ∧ s.dev.ivmEndOf i.val (s.dev.ivmView i.val).acc = some (why, t) ∧ why ≠ .timeout ∧ s.dev.fld (Reg.IVM_REPEAT i.val) 0 16 = 0 ∧ s.dev.ivmInterval i.val = some (a, b) ∧ a.t ≤ b.t ∧ b.t < 2 ^ 64) :=
  ⟨⟨alone (meter3 3 2 id), 3, 5, 0, by decide +kernel⟩,
    ⟨alone ((meter3 3 2 id).setRegN (Reg.IVM_START 3) 0x2FC), .host, 3, _, rfl, by decide +kernel⟩,
    ⟨alone ((meter3 3 2 (fun c => { c with opened := some 4 })).setRegN (Reg.IVM_GATE 3) 2), 3, (4 + 2 * nsTicks), by decide +kernel⟩,
    ⟨alone ((meter3 3 2 id).setRegN (Reg.IVM_TIMEOUT 3) 2), 3, by decide +kernel⟩,
    ⟨alone (meter3 3 2 (fun c => { c with ended := some (.gate, 9), events := [⟨0, 7, false, 0, true, 0, 0, true, false, false, true⟩] })), 3, .gate, 9, _, rfl, by decide +kernel⟩,
    ⟨alone (meter3 3 0 (fun c => { c with events := [⟨0, 7, false, 0, true, 0, 0, true, false, false, true⟩, ⟨1, 9, false, 0, true, 0, 0, false, true, false, true⟩] })), 3, ⟨0, 7, true, false, false, true⟩, ⟨1, 9, false, true, false, true⟩, .stop, 9, by decide +kernel⟩⟩

/-- States and operands that meet the hypotheses of each clause of `Obligations.MemoryChannels`. -/
theorem witness_MemoryChannels :
    (∃ (s : State) (n : Fin 32), s.dev.mchState n.val = 1) ∧
    (∃ (s : State) (n : Fin 32) (pc : Fin 2) (a : BitVec 36), memAddr a = true ∧ s.dev.mchState n.val = 1 ∧ s.dev.replays n.val pc.val ≠ 0) ∧
    (∃ (s : State) (a : BitVec 36) (n : Nat) (pc : Nat) (n' : Fin 32) (pc' : Fin 2), memAddr a = true ∧ n = mchOf a.toNat ∧ pc = pcOf a.toNat ∧ s.dev.mchState n = 1 ∧ s.dev.replays n pc = 3 ∧ n'.val = n ∧ pc'.val = pc) ∧
    (∃ (s : State) (a : BitVec 36), memAddr a = true ∧ s.dev.fld Reg.MEM_CE_CNT 0 32 < 2 ^ 32 - 1) ∧
    (∃ (s : State) (a : BitVec 36), memAddr a = true ∧ s.dev.fld Reg.MEM_CTRL 16 8 ≠ 0 ∧ s.dev.mchState (mchOf a.toNat) = 1) ∧
    (∃ (s : State), s.dev.bit Reg.MEM_STATUS 0 = true) :=
  ⟨⟨alone (channel0 0), 0, by decide +kernel⟩,
    ⟨alone (channel0 3), 0, 0, 0, by decide +kernel⟩,
    ⟨alone (channel0 3), 0, 0, 0, 0, 0, by decide +kernel⟩,
    ⟨alone (ready), 0, by decide +kernel⟩,
    ⟨alone (channel0 3), 0, by decide +kernel⟩,
    ⟨alone (ready.setBit Reg.MEM_STATUS 0 true), by decide +kernel⟩⟩

/-- States and operands that meet the hypotheses of each clause of `Obligations.LedgerCommands`. -/
theorem witness_LedgerCommands :
    (∃ (s : State) (q : Requester) (m : Nat), m = s.dev.fld Reg.LDG_REQ 0 16 ∧ s.dev.admitsWrite q Reg.LDG_CMD = true ∧ s.dev.bit Reg.LDG_RESULT 31 = false ∧ s.dev.admitRefusal m = none) ∧
    (∃ (s : State) (q : Requester) (m : Nat) (r : _), s.dev.admitsWrite q Reg.LDG_CMD = true ∧ s.dev.bit Reg.LDG_RESULT 31 = false ∧ m = s.dev.fld Reg.LDG_REQ 0 16 ∧ s.dev.admitRefusal m = some r) ∧
    (∃ (s : State) (q : Requester) (m : Nat), m = s.dev.fld Reg.LDG_REQ 0 16 ∧ s.dev.admitsWrite q Reg.LDG_CMD = true ∧ s.dev.bit Reg.LDG_RESULT 31 = false ∧ ((∀ j < 16, natBit m j = true → s.dev.halted j = true ∨ s.dev.strState j = 2))) ∧
    (∃ (s : State) (m : Nat), s.dev.ldg.cmd = some (true, m) ∧ s.dev.admitRefusal m = none ∧ ((∀ k < 2, s.dev.sumWith m k ≤ ldgLimit))) ∧
    (∃ (s : State) (m : Nat), s.dev.ldg.cmd = some (false, m)) ∧
    (∃ (s : State) (q : Requester) (v : Word), s.dev.admitsWrite q Reg.LDG_DMA = true ∧ v.toNat % 2 ^ 16 ≤ s.dev.dmaShare 0 ∧ v.toNat / 2 ^ 16 ≤ s.dev.dmaShare 1 ∧ v.toNat % 2 ^ 16 ≤ 1600 ∧ v.toNat / 2 ^ 16 ≤ 1600) ∧
    (∃ (s : State) (q : Requester) (v : Word), s.dev.admitsWrite q Reg.LDG_DMA = true ∧ 1600 < v.toNat % 2 ^ 16) :=
  ⟨⟨alone (ready), .host, _, rfl, by decide +kernel⟩,
    ⟨alone ((pier3.setStrState 3 3).setRegN Reg.LDG_REQ 8), .host, 8, (3 * 2 ^ 16 + 3), by decide +kernel⟩,
    ⟨alone (ready), .host, _, rfl, by decide +kernel⟩,
    ⟨alone (ledger true 0), 0, by decide +kernel⟩,
    ⟨alone (ledger false 8), 8, by decide +kernel⟩,
    ⟨alone (ready), .host, 0, by decide +kernel⟩,
    ⟨alone (ready), .host, 1601, by decide +kernel⟩⟩

/-- States and operands that meet the hypotheses of each clause of `Obligations.CalibrationCommands`. -/
theorem witness_CalibrationCommands :
    (∃ (s : State) (q : Requester), s.dev.admitsWrite q Reg.CAL_CMD = true ∧ s.dev.calState = 0 ∧ s.dev.lendable ≠ []) ∧
    (∃ (s : State) (q : Requester), s.dev.admitsWrite q Reg.CAL_CMD = true ∧ s.dev.calState = 0 ∧ s.dev.lendable = []) ∧
    (∃ (s : State) (q : Requester), s.dev.admitsWrite q Reg.CAL_CMD = true ∧ s.dev.calState = 0) ∧
    (∃ (s : State) (q : Requester), s.dev.admitsWrite q Reg.CAL_CMD = true ∧ s.dev.calState = 4) ∧
    (∃ (s : State) (q : Requester), s.dev.admitsWrite q Reg.CAL_CMD = true ∧ s.dev.calState ≠ 4) ∧
    (∃ (s : State) (q : Requester), s.dev.admitsWrite q Reg.CAL_CMD = true ∧ ((s.dev.calState = 1 ∨ s.dev.calState = 2 ∨ s.dev.calState = 3 ∨ s.dev.calState = 6)) ∧ s.dev.cal.required = false ∧ s.dev.cal.trigPeriod = false ∧ s.dev.cal.trigTemp = false ∧ s.dev.pwrState ≠ 5) ∧
    (∃ (s : State) (q : Requester), s.dev.admitsWrite q Reg.CAL_CMD = true ∧ ((s.dev.calState = 4 ∨ s.dev.calState = 5)) ∧ s.dev.cal.required = false ∧ s.dev.cal.trigPeriod = false ∧ s.dev.cal.trigTemp = false ∧ s.dev.pwrState ≠ 5) :=
  ⟨⟨alone (calib 0 0 id), .host, by decide +kernel⟩,
    ⟨alone (ready.forN 32 (fun d i => d.setBit (Reg.IVM_CTRL i) 6 false)), .host, by decide +kernel⟩,
    ⟨alone (ready), .host, by decide +kernel⟩,
    ⟨alone (calib 4 0 id), .host, by decide +kernel⟩,
    ⟨alone (ready), .host, by decide +kernel⟩,
    ⟨alone (calib 2 0 id), .host, by decide +kernel⟩,
    ⟨alone (calib 4 0 id), .host, by decide +kernel⟩⟩

/-- States and operands that meet the hypotheses of each clause of `Obligations.CalibrationRuns`. -/
theorem witness_CalibrationRuns :
    (∃ (s : State), s.dev.bit Reg.CAL_CTRL 1 = true ∧ s.dev.cal.perDone = false ∧ s.dev.regN Reg.CAL_COMMITS ≠ 0 ∧ s.dev.calState ≠ 0) ∧
    (∃ (s : State), ((s.dev.calState = 1 ∨ s.dev.calState = 2 ∧ ∀ i < 32, s.dev.ivmState i ≠ 4)) ∧ s.dev.cal.required = false ∧ s.dev.cal.trigPeriod = false ∧ s.dev.cal.trigTemp = false ∧ s.dev.pwrState ≠ 5) ∧
    (∃ (s : State), s.dev.calState = 2 ∧ s.dev.calKind ≠ 2 ∧ s.dev.pwrState ≠ 5) ∧
    (∃ (s : State), s.dev.calState = 3 ∧ s.dev.calKind = 3 ∧ s.dev.cal.required = false ∧ s.dev.cal.atOnce = false ∧ s.dev.pwrState ≠ 5 ∧ ((∀ n < 256, natBit s.dev.cal.sel n = true → s.dev.edgesUE n = false ∧ ∀ t, chanTab s.dev.calTabs n = some t → (s.dev.trimFrom n t).bad = false))) ∧
    (∃ (s : State), s.dev.calState = 6 ∧ s.dev.fld Reg.CLK_STATUS 0 3 = 7 ∧ s.dev.lendable ≠ []) ∧
    (∃ (s : State), s.dev.commitDue (fun _ => false) = true ∧ s.dev.pwrState ≠ 5) :=
  ⟨⟨alone (((calib 2 1 id).setBit Reg.CAL_CTRL 1 true).setRegN Reg.CAL_COMMITS 1), by decide +kernel⟩,
    ⟨alone (calib 1 1 id), by decide +kernel⟩,
    ⟨alone (calib 2 1 id), by decide +kernel⟩,
    ⟨alone (calib 3 3 id), by decide +kernel⟩,
    ⟨alone (calib 6 1 id), by decide +kernel⟩,
    ⟨alone (calib 5 1 id), by decide +kernel⟩⟩

/-- States and operands that meet the hypotheses of each clause of `Obligations.CalibrationRecords`. -/
theorem witness_CalibrationRecords :
    (∃ (s : State) (i : Fin 16) (h : Nat × Nat), s.dev.cal.held.find? (fun x => x.1 = i.val) = some h) ∧
    (∃ (s : State) (x : Ecc), x ≠ .bad ∧ s.dev.pwrState ≠ 5) ∧
    (∃ (s : State), s.dev.calKind ≠ 2 ∧ 2 ≤ s.dev.calState ∧ s.dev.calState ≤ 5 ∧ s.dev.cal.required = false ∧ s.dev.cal.trigPeriod = false ∧ s.dev.cal.trigTemp = false ∧ s.dev.pwrState ≠ 5) ∧
    (∃ (s : State), s.dev.pwrState ≠ 5) ∧
    (∃ (s : State) (t : CalTabs) (tj : Nat), s.dev.cal.writing = some (t, tj) ∧ s.dev.bit Reg.MGMT_STATUS 0 = true) ∧
    (∃ (s : State) (t : Nat), s.dev.cal.deferred = true ∧ s.dev.cal.lastRec = some t) :=
  ⟨⟨alone (calib 0 0 (fun c => { c with held := [(3, 9)] })), 3, (3, 9), by decide +kernel⟩,
    ⟨alone (ready), .good, by decide +kernel⟩,
    ⟨alone (calib 3 1 id), by decide +kernel⟩,
    ⟨alone (ready), by decide +kernel⟩,
    ⟨alone (calib 0 0 (fun c => { c with writing := some ([], 0) })), [], 0, by decide +kernel⟩,
    ⟨alone (calib 0 0 (fun c => { c with deferred := true, lastRec := some 4 })), 4, by decide +kernel⟩⟩

/-- States and operands that meet the hypotheses of each clause of `Obligations.TaskCommands`. -/
theorem witness_TaskCommands :
    (∃ (s : State) (q : Requester) (t : BitVec 12), s.dev.admitsWrite q Reg.DISP_CMD = true ∧ s.dev.taskUE t.toNat = false ∧ s.dev.taskState t.toNat = 0 ∧ s.dev.fld (tdAddr t.toNat 0x0C) 0 16 ≠ 0 ∧ s.dev.fld (tdAddr t.toNat 4) 16 7 = 0 ∧ 0 < s.dev.fld (tdAddr t.toNat 0) 0 16) ∧
    (∃ (s : State) (q : Requester) (t : BitVec 12), s.dev.admitsWrite q Reg.DISP_CMD = true ∧ s.dev.taskUE t.toNat = false ∧ s.dev.taskState t.toNat = 0 ∧ s.dev.fld (tdAddr t.toNat 0x0C) 0 16 ≠ 0 ∧ s.dev.fld (tdAddr t.toNat 0) 0 16 = 0 ∧ s.dev.fld (tdAddr t.toNat 0x30) 0 24 = 0 ∧ s.dev.taskOrd t.toNat = false) ∧
    (∃ (s : State) (q : Requester) (t : BitVec 12), s.dev.admitsWrite q Reg.DISP_CMD = true ∧ s.dev.taskUE t.toNat = false ∧ s.dev.taskState t.toNat ≠ 0) ∧
    (∃ (s : State) (q : Requester) (t : BitVec 12), s.dev.admitsWrite q Reg.DISP_CMD = true ∧ s.dev.taskUE t.toNat = false ∧ s.dev.taskState t.toNat = 1 ∧ 1 < s.dev.fld (tdAddr t.toNat 4) 0 16) ∧
    (∃ (s : State) (q : Requester) (t : BitVec 12), s.dev.admitsWrite q Reg.DISP_CMD = true ∧ s.dev.taskUE t.toNat = false ∧ s.dev.taskState t.toNat ≠ 1 ∧ s.dev.fld (tdAddr t.toNat 4) 16 7 < 127) ∧
    (∃ (s : State) (q : Requester) (t : BitVec 12), s.dev.admitsWrite q Reg.DISP_CMD = true ∧ s.dev.taskUE t.toNat = false ∧ s.dev.taskState t.toNat = 1 ∧ s.dev.evbuf.length < 256) ∧
    (∃ (s : State) (q : Requester) (t : BitVec 12) (k : Nat), s.dev.admitsWrite q Reg.DISP_CMD = true ∧ s.dev.taskUE t.toNat = false ∧ k < 16 ∧ s.dev.taskState t.toNat = 5 ∧ (s.dev.coreOf k).running = some t.toNat) ∧
    (∃ (s : State) (h : Nat) (v : Nat) (i : Nat) (rest : List (Nat × Nat)), s.dev.hooks = (h, v) :: rest ∧ h < 128 ∧ s.dev.bit (Reg.DISP_HOOK h) 31 = true ∧ i = (s.dev.fld (Reg.DISP_HOOK h) 0 12 + s.dev.fld (Reg.DISP_HOOK h) 16 4) % 4096 ∧ s.dev.taskUE i = false ∧ s.dev.taskState i ≠ 1 ∧ s.dev.fld (tdAddr i 4) 16 7 < 127) ∧
    (∃ (s : State) (h : Nat) (v : Nat) (rest : List (Nat × Nat)), s.dev.hooks = (h, v) :: rest ∧ s.dev.bit (Reg.DISP_HOOK h) 31 = false) ∧
    (∃ (s : State), s.dev.dozing = false ∧ s.dev.disp.delayed = []) ∧
    (∃ (s : State) (q : Requester) (l : Fin 4), s.dev.admitsWrite q (Reg.DISP_TICK l.val) = true) :=
  ⟨⟨alone ((task5 0).setRegN (tdAddr 5 0) 3), .host, 5, by decide +kernel⟩,
    ⟨alone (task5 0), .host, 5, by decide +kernel⟩,
    ⟨alone (task5 1), .host, 5, by decide +kernel⟩,
    ⟨alone ((task5 1).setFld (tdAddr 5 4) 0 16 3), .host, 5, by decide +kernel⟩,
    ⟨alone (task5 0), .host, 5, by decide +kernel⟩,
    ⟨alone (task5 1), .host, 5, by decide +kernel⟩,
    ⟨alone ((task5 5).modCore 2 (fun c => { c with running := some 5 })), .host, 5, 2, by decide +kernel⟩,
    ⟨alone ({ (task5 0).setRegN (Reg.DISP_HOOK 3) (2 ^ 31 + 5) with hooks := [(3, 9)] }), 3, 9, 5, [], by decide +kernel⟩,
    ⟨alone ({ ready with hooks := [(3, 9)] }), 3, 9, [], by decide +kernel⟩,
    ⟨alone (ready), by decide +kernel⟩,
    ⟨alone (ready), .host, 0, by decide +kernel⟩⟩

/-- States and operands that meet the hypotheses of each clause of `Obligations.CoreCommands`. -/
theorem witness_CoreCommands :
    (∃ (s : State) (i : Nat) (k : Nat), s.dev.nextPlacement = some (i, k) ∧ s.dev.taskUE i = false) ∧
    (∃ (s : State) (k : Fin 16) (i : Nat), i < 4096 ∧ (s.dev.coreOf k.val).running = none ∧ (s.dev.coreOf k.val).slot = some i ∧ s.dev.taskUE i = false) ∧
    (∃ (s : State) (k : Fin 16) (i : Nat), i < 4096 ∧ (s.dev.coreOf k.val).running = some i ∧ (s.dev.coreOf k.val).cancelled = false ∧ s.dev.taskUE i = false ∧ s.dev.taskOrd i = false ∧ s.dev.bit (tdAddr i 0) 31 = false ∧ ((∀ j < 4, s.dev.bit (tdAddr i (0x20 + 4 * j)) 31 = false))) ∧
    (∃ (s : State) (q : Requester) (f : Fin 64) (v : Word), s.dev.admitsWrite q (Reg.DISP_FLOW f.val) = true ∧ v.get 16 8 ≤ 64) ∧
    (∃ (s : State) (q : Requester) (k : Fin 16), s.dev.admitsWrite q (Reg.DISP_CORE k.val) = true ∧ s.dev.bit (Reg.DISP_CORE k.val) 0 = false ∧ s.dev.coresMay = true) ∧
    (∃ (s : State) (q : Requester) (k : Fin 16), s.dev.admitsWrite q (Reg.DISP_CORE k.val) = true ∧ s.dev.bit (Reg.DISP_CORE k.val) 0 = false ∧ s.dev.coresMay = false) ∧
    (∃ (s : State) (q : Requester) (k : Fin 16) (i : Nat), s.dev.admitsWrite q (Reg.DISP_CORE k.val) = true ∧ i < 4096 ∧ s.dev.bit (Reg.DISP_CORE k.val) 0 = true ∧ (s.dev.coreOf k.val).running = none ∧ (s.dev.coreOf k.val).slot = some i) ∧
    (∃ (s : State) (k : Fin 16), s.dev.coreAwake k.val = true ∧ s.dev.bit (Reg.NCP_CTL k.val) 0 = true) ∧
    (∃ (s : State) (k : Fin 16), s.dev.coreUp k.val = true ∧ (s.dev.coreOf k.val).asleep = true ∧ (((s.dev.coreOf k.val).slot.isSome = true ∨ s.dev.timerPend k.val = true ∨ s.dev.wakeLine k.val = true ∨ s.dev.irqs k.val ≠ 0))) ∧
    (∃ (s : State) (k : Fin 16), s.dev.coreUp k.val = true ∧ (s.dev.coreOf k.val).asleep = true ∧ s.dev.timeRuns = true) ∧
    (∃ (s : State), s.dev.timeRuns = true) ∧
    (∃ (d : Device) (k : Nat), d.coreAwake k = false) ∧
    (∃ (rd : Nat) (rs : Nat) (imm : Int), rd < 32 ∧ rs < 32 ∧ -2048 ≤ imm ∧ imm < 2048) ∧
    (∃ (d : Device) (k : Nat) (rd : Nat) (rs : Nat) (rt : Nat) (a : Word) (e : Ecc) (p : _), a = (d.cpu k).rx rs ∧ rd < 32 ∧ rs < 32 ∧ rt < 32 ∧ a.toNat % 4 = 0 ∧ d.corePlace k a.toNat 4 = .sram p ∧ e = .good ∧ d.sramUE p 4 = false ∧ (d.cpu k).pmpOk (d.cpu k).dataUser a.toNat 4 0 = true ∧ (d.cpu k).pmpOk (d.cpu k).dataUser a.toNat 4 1 = true) ∧
    (∃ (d : Device) (k : Nat) (rd : Nat) (rs : Nat) (rt : Nat) (a : Word), a = (d.cpu k).rx rs ∧ rd < 32 ∧ rs < 32 ∧ rt < 32 ∧ onSram (d.corePlace k a.toNat 4) = false) ∧
    (∃ (d : Device) (k : Nat) (e : Ecc) (c : Newt), c = (d.coreRetire k 0x73 4 e).cpu k) ∧
    (∃ (k : Nat) (d : Device) (c : Newt), c = (d.coreClock k).cpu k ∧ d.coreAwake k = true ∧ d.irqs k ≠ 0 ∧ (((d.cpu k).user = true ∨ ((d.cpu k).csrOf 0x300).bit 3 = true))) :=
  ⟨⟨alone ((task5 3).modDisp (fun c => { c with ready := [5] })), 5, 2, by decide +kernel⟩,
    ⟨alone ((task5 4).modCore 2 (fun c => { c with slot := some 5 })), 2, 5, by decide +kernel⟩,
    ⟨alone ((task5 5).modCore 2 (fun c => { c with running := some 5 })), 2, 5, by decide +kernel⟩,
    ⟨alone (ready), .host, 0, 0, by decide +kernel⟩,
    ⟨alone (ready), .host, 0, by decide +kernel⟩,
    ⟨alone (ready.setBit Reg.CLK_STATUS 2 false), .host, 2, by decide +kernel⟩,
    ⟨alone ((task5 4).modCore 2 (fun c => { c with slot := some 5 })), .host, 2, 5, by decide +kernel⟩,
    ⟨alone ((task5 0).setBit (Reg.NCP_CTL 2) 0 true), 2, by decide +kernel⟩,
    ⟨alone ((task5 0).modCore 2 (fun c => { c with asleep := true, slot := some 5 })), 2, by decide +kernel⟩,
    ⟨alone ((task5 0).modCore 2 (fun c => { c with asleep := true })), 2, by decide +kernel⟩,
    ⟨alone (ready), by decide +kernel⟩,
    ⟨ready, 2, by decide +kernel⟩,
    ⟨1, 2, -1, by decide +kernel⟩,
    ⟨((task5 0).modCore 2 (fun c => { c with cpu := { Newt.reset 0 with x := [(2, 0x100)] } })), 2, 1, 2, 3, _, .good, (0x4080100), rfl, by decide +kernel⟩,
    ⟨((task5 0).modCore 2 (fun c => { c with cpu := { Newt.reset 0 with x := [(2, 0x40000000)] } })), 2, 1, 2, 3, _, rfl, by decide +kernel⟩,
    ⟨ready, 2, .good, _, rfl⟩,
    ⟨2, ((task5 0).modCore 2 (fun c => { c with slot := some 5, cpu := { Newt.reset 0 with user := true, csr := [(0x304, 0x10000)] } })), _, rfl, by decide +kernel⟩⟩

/-- States and operands that meet the hypotheses of each clause of `Obligations.InterruptCommands`. -/
theorem witness_InterruptCommands :
    (∃ (s : State) (n : BitVec 9), s.dev.srcReq n.toNat = true ∧ s.dev.intc.seen.contains n.toNat = false ∧ s.dev.srcPrio n.toNat ≠ 0 ∧ noSource n.toNat = false) ∧
    (∃ (s : State) (q : Requester) (id : BitVec 10), s.dev.admitsWrite q Reg.INTC_SWTRIG = true ∧ 256 ≤ id.toNat ∧ id.toNat ≤ 511 ∧ s.dev.srcPrio id.toNat ≠ 0) ∧
    (∃ (s : State) (q : Requester) (id : BitVec 10), s.dev.admitsWrite q Reg.INTC_SWTRIG = true ∧ (id.toNat < 256 ∨ 511 < id.toNat)) ∧
    (∃ (s : State) (n : BitVec 9) (t : Nat), s.dev.wantsOffer n.toNat = true ∧ t < 17 ∧ s.dev.tgtEligible n.toNat t = true) :=
  ⟨⟨alone (((((source 3).modIntc (fun c => { c with pend := 0 })).setRegN (Reg.PG_EVT_RAW Page.CLK) 1).setRegN (Reg.PG_EVT_EN Page.CLK) 1)), 3, by decide +kernel⟩,
    ⟨alone ((source 300).modIntc (fun c => { c with pend := 0 })), .host, 300, by decide +kernel⟩,
    ⟨alone (ready), .host, 0, by decide +kernel⟩,
    ⟨alone (source 300), 300, 16, by decide +kernel⟩⟩

/-- States and operands that meet the hypotheses of each clause of `Obligations.ClaimsAndCompletions`. -/
theorem witness_ClaimsAndCompletions :
    (∃ (s : State) (q : Requester) (t : Fin 17) (n : Nat), s.dev.intcInv ∧ n < 1024 ∧ s.dev.admitsRead q (Reg.INTC_CLAIM t.val) = true ∧ (n, t.val) ∈ s.dev.intc.offers ∧ ((∀ m ∈ s.dev.intc.offers, m.2 = t.val → s.dev.srcPrio m.1 < s.dev.srcPrio n ∨ (s.dev.srcPrio m.1 = s.dev.srcPrio n ∧ n ≤ m.1)))) ∧
    (∃ (s : State) (q : Requester) (t : Fin 17), s.dev.intcInv ∧ s.dev.admitsRead q (Reg.INTC_CLAIM t.val) = true ∧ ((∀ m ∈ s.dev.intc.offers, m.2 ≠ t.val))) ∧
    (∃ (s : State) (q : Requester) (t : Fin 17) (id : BitVec 10), s.dev.intcInv ∧ s.dev.admitsWrite q (Reg.INTC_CLAIM t.val) = true ∧ s.dev.intc.active.contains (id.toNat, t.val) = true) ∧
    (∃ (s : State) (q : Requester) (t : Fin 17) (id : BitVec 10), s.dev.intcInv ∧ s.dev.admitsWrite q (Reg.INTC_CLAIM t.val) = true ∧ s.dev.intc.active.contains (id.toNat, t.val) = false) :=
  ⟨⟨alone ((source 300).modIntc (fun c => { c with offers := [(300, 16)] })), .host, 16, 300, by decide +kernel⟩,
    ⟨alone (ready), .host, 0, by decide +kernel⟩,
    ⟨alone ((source 300).modIntc (fun c => { c with active := [(300, 16)] })), .host, 16, 300, by decide +kernel⟩,
    ⟨alone (ready), .host, 0, 0, by decide +kernel⟩⟩

/-- States and operands that meet the hypotheses of each clause of `Obligations.LinkTraining`. -/
theorem witness_LinkTraining :
    (∃ (s : State) (k : Link) (lanes : BitVec 16), s.dev.laneUp (linkNo k) = true ∧ s.dev.lst (linkNo k) = 0 ∧ lanes.toNat &&& s.dev.laneEn (linkNo k) ≠ 0) ∧
    (∃ (s : State) (k : Link) (lanes : BitVec 16) (mask : BitVec 16), s.dev.laneUp (linkNo k) = true ∧ s.dev.lst (linkNo k) = 1 ∧ s.dev.proposal (linkNo k) lanes.toNat = mask.toNat ∧ mask ≠ 0) ∧
    (∃ (s : State) (k : Link) (lanes : BitVec 16) (mask : BitVec 16), s.dev.laneUp (linkNo k) = true ∧ s.dev.lst (linkNo k) = 1 ∧ s.dev.proposal (linkNo k) lanes.toNat ≠ mask.toNat) ∧
    (∃ (s : State) (lanes : BitVec 16), s.dev.laneUp 0 = true ∧ s.dev.lst 0 = 2 ∧ lanes.toNat &&& (s.dev.linkOf 0).mine = (s.dev.linkOf 0).mine ∧ s.dev.trs.unacked = [] ∧ s.dev.trs.dozeWait = false) ∧
    (∃ (s : State) (k : Link) (lanes : BitVec 16), s.dev.laneUp (linkNo k) = true ∧ s.dev.lst (linkNo k) = 2 ∧ k ≠ .trestle ∧ lanes.toNat &&& (s.dev.linkOf (linkNo k)).mine = (s.dev.linkOf (linkNo k)).mine) ∧
    (∃ (s : State) (k : Link), (s.dev.lst (linkNo k) = 1 ∨ s.dev.lst (linkNo k) = 2 ∨ s.dev.lst (linkNo k) = 4) ∧ s.dev.hostStill = true ∧ ((k = .twin → s.dev.twin.waiting = []))) ∧
    (∃ (s : State) (k : Link), s.dev.lst (linkNo k) = 0 ∧ s.dev.laneUp (linkNo k) = true) ∧
    (∃ (s : State) (k : Link), s.dev.lst (linkNo k) = 0 ∧ s.dev.laneUp (linkNo k) = false) ∧
    (∃ (s : State) (k : Link) (lane : Fin 16), (k = .up ∨ k = .down) ∧ lane.val < 2 ∧ 1 ≤ s.dev.lst (linkNo k) ∧ s.dev.lst (linkNo k) ≤ 3 ∧ s.dev.hostStill = true) ∧
    (∃ (s : State) (lane : Fin 16) (c : LinkCtx), c = s.dev.linkOf 0 ∧ natBit c.active lane.val = true ∧ natBit c.lost lane.val = false ∧ ((c.lst = 3 ∨ c.lst = 4)) ∧ c.active &&& natSetBit c.lost lane.val < c.active ∧ s.dev.hostStill = true) ∧
    (∃ (s : State) (lane : Fin 16), s.dev.laneUp 3 = true ∧ s.dev.lst 3 = 3 ∧ natBit (s.dev.linkOf 3).lost lane.val = true) ∧
    (∃ (s : State) (lane : Fin 16), s.dev.laneUp 0 = true ∧ s.dev.lst 0 = 3 ∧ s.dev.bit Reg.TRS_CTRL 16 = true ∧ natBit (s.dev.linkOf 0).lost lane.val = true) :=
  ⟨⟨alone (link 0 0 id), .trestle, 3, by decide +kernel⟩,
    ⟨alone (link 0 1 id), .trestle, 3, 3, by decide +kernel⟩,
    ⟨alone (link 0 1 id), .trestle, 3, 1, by decide +kernel⟩,
    ⟨alone (link 0 2 (fun c => { c with mine := 3 })), 3, by decide +kernel⟩,
    ⟨alone (link 1 2 (fun c => { c with mine := 3 })), .up, 3, by decide +kernel⟩,
    ⟨alone (link 0 1 id), .trestle, by decide +kernel⟩,
    ⟨alone (link 0 0 id), .trestle, by decide +kernel⟩,
    ⟨alone ({ link 0 0 id with regionReset := true }), .trestle, by decide +kernel⟩,
    ⟨alone (link 1 3 (fun c => { c with active := 3 })), .up, 0, by decide +kernel⟩,
    ⟨alone (link 0 3 (fun c => { c with active := 3 })), 0, ((alone (link 0 3 (fun c => { c with active := 3 }))).dev.linkOf 0), by decide +kernel⟩,
    ⟨alone (link 3 3 (fun c => { c with active := 2, lost := 1 })), 0, by decide +kernel⟩,
    ⟨alone (link 0 3 (fun c => { c with active := 2, lost := 1 })), 0, by decide +kernel⟩⟩

/-- States and operands that meet the hypotheses of each clause of `Obligations.TrestleRegisters`. -/
theorem witness_TrestleRegisters :
    (∃ (s : State) (q : Requester), s.dev.admitsWrite q Reg.TRS_CMD = true ∧ s.dev.lst 0 = 3) ∧
    (∃ (s : State) (q : Requester), s.dev.admitsWrite q Reg.TRS_CMD = true ∧ s.dev.lst 0 ≠ 3) ∧
    (∃ (s : State) (q : Requester), s.dev.admitsWrite q Reg.TRS_CMD = true) ∧
    (∃ (s : State) (q : Requester) (v : Word), s.dev.admitsWrite q Reg.TRS_CMD = true ∧ v.get 0 2 < 3 ∧ v.get 4 3 ≤ 4 ∧ ((v.get 0 2 = 2 → v.get 4 3 = 0)) ∧ v &&& 0xFFFF0073 ≠ 0) ∧
    (∃ (s : State) (q : Requester) (v : Word), s.dev.admitsWrite q Reg.TRS_CMD = true ∧ v &&& 0xFFFF0073 = 0 ∧ s.dev.lst 0 = 6) ∧
    (∃ (s : State) (q : Requester) (v : Word), s.dev.admitsWrite q Reg.TRS_CMD = true ∧ (v.get 0 2 = 3 ∨ 4 < v.get 4 3 ∨ (v.get 0 2 = 2 ∧ v.get 4 3 ≠ 0))) ∧
    (∃ (s : State) (q : Requester) (v : Word), s.dev.admitsWrite q Reg.TRS_CMD = true ∧ v.get 24 6 ≤ 24 ∧ v.get 16 6 ≤ 12 ∧ v.get 8 6 ≤ 31) ∧
    (∃ (s : State) (q : Requester) (v : Word), s.dev.admitsWrite q Reg.TRS_CMD = true ∧ (24 < v.get 24 6 ∨ 12 < v.get 16 6 ∨ 31 < v.get 8 6)) :=
  ⟨⟨alone (trestle id), .host, by decide +kernel⟩,
    ⟨alone (ready), .host, by decide +kernel⟩,
    ⟨alone (ready), .host, by decide +kernel⟩,
    ⟨alone (ready), .host, 1, by decide +kernel⟩,
    ⟨alone (link 0 6 id), .host, 0, by decide +kernel⟩,
    ⟨alone (ready), .host, 3, by decide +kernel⟩,
    ⟨alone (ready), .host, 0, by decide +kernel⟩,
    ⟨alone (ready), .host, (25 * 2 ^ 24), by decide +kernel⟩⟩

/-- States and operands that meet the hypotheses of each clause of `Obligations.TrestlePackets`. -/
theorem witness_TrestlePackets :
    (∃ (s : State) (seq : BitVec 12) (len : BitVec 7) (addr : BitVec 64), s.dev.lst 0 = 3 ∧ seq.toNat = s.dev.trs.rxSeq ∧ addr.toNat < 0x1000000 ∧ 0 < len.toNat ∧ len.toNat ≤ 64 ∧ s.dev.twin.waiting ≠ []) ∧
    (∃ (s : State) (seq : BitVec 12) (len : BitVec 7) (addr : BitVec 64), s.dev.lst 0 = 3 ∧ seq.toNat = s.dev.trs.rxSeq ∧ addr.toNat < 0x1000000 ∧ 0 < len.toNat ∧ len.toNat ≤ 64 ∧ s.dev.twin.waiting = []) ∧
    (∃ (s : State) (seq : BitVec 12) (len : BitVec 7) (addr : BitVec 64), s.dev.lst 0 = 3 ∧ seq.toNat = s.dev.trs.rxSeq ∧ (0x1000000 ≤ addr.toNat ∨ len.toNat = 0 ∨ 64 < len.toNat)) ∧
    (∃ (s : State) (seq : BitVec 12) (addr : BitVec 64) (v : Word) (r : Wrote), r = (s.dev.tookPosted 1).writeAt 0 addr.toNat v.toNat ∧ s.dev.lst 0 = 3 ∧ seq.toNat = s.dev.trs.rxSeq ∧ addr.toNat < 0x1000000 ∧ s.dev.hostWaits = false ∧ r.dev.ttime = s.dev.ttime ∧ r.dev.ivmq = s.dev.ivmq ∧ r.dev.disp.bad = s.dev.disp.bad) ∧
    (∃ (s : State) (seq : BitVec 12) (addr : BitVec 64), s.dev.lst 0 = 3 ∧ seq.toNat = s.dev.trs.rxSeq ∧ addr.toNat < 0x1000000 ∧ s.dev.hostWaits = true) ∧
    (∃ (s : State) (seq : BitVec 12) (addr : BitVec 64) (data : List Word), s.dev.lst 0 = 3 ∧ seq.toNat = s.dev.trs.rxSeq ∧ data.length ≤ 127 ∧ (0x1000000 ≤ addr.toNat ∨ data = [] ∨ 64 < data.length)) ∧
    (∃ (s : State), s.dev.lst 0 = 3) ∧
    (∃ (s : State) (seq : BitVec 12) (cls : Fin 3), s.dev.lst 0 = 3 ∧ seq.toNat = s.dev.trs.rxSeq ∧ cls = 1) ∧
    (∃ (s : State) (seq : BitVec 12) (cls : Fin 3), s.dev.lst 0 = 3 ∧ seq.toNat = s.dev.trs.rxSeq ∧ cls ≠ 1) ∧
    (∃ (s : State) (seq : BitVec 12), s.dev.lst 0 = 3 ∧ seq.toNat = (s.dev.trs.rxSeq + 4095) % 4096 ∧ s.dev.trs.rxSeq < 4096) ∧
    (∃ (s : State) (seq : BitVec 12) (a : List DataPkt) (b : List DataPkt) (p : DataPkt), s.dev.lst 0 = 3 ∧ s.dev.trs.unacked = a ++ p :: b ∧ p.seq = seq.toNat ∧ ((∀ x ∈ a, x.seq ≠ seq.toNat))) ∧
    (∃ (s : State) (seq : BitVec 12), s.dev.lst 0 = 3 ∧ ((∀ x ∈ s.dev.trs.unacked, x.seq ≠ seq.toNat)) ∧ s.dev.trs.unacked ≠ [] ∧ s.dev.trs.futile < 3 ∧ s.dev.trs.dozeWait = false) ∧
    (∃ (s : State) (seq : BitVec 12), s.dev.lst 0 = 3 ∧ ((∀ x ∈ s.dev.trs.unacked, x.seq ≠ seq.toNat)) ∧ s.dev.trs.unacked ≠ [] ∧ s.dev.trs.futile < 3) ∧
    (∃ (s : State), s.dev.lst 0 = 3 ∧ s.dev.trs.unacked ≠ [] ∧ s.dev.trs.futile = 3) ∧
    (∃ (s : State), s.dev.lst 0 = 3 ∧ s.dev.trs.ackDue ≠ 0) ∧
    (∃ (s : State), s.dev.lst 0 = 3 ∧ s.dev.trs.grantDue = true ∧ journalSize ≤ s.dev.twin.journal.length) ∧
    (∃ (s : State), s.dev.lst 0 = 3 ∧ s.dev.trs.grantDue = true ∧ s.dev.twin.journal.length < journalSize) ∧
    (∃ (s : State), s.dev.lst 0 = 3 ∧ (s.dev.dmaBusy 0 = true ∨ s.dev.dmaBusy 1 = true ∨ s.dev.trs.mrds ≠ [])) ∧
    (∃ (s : State), s.dev.lst 0 = 3 ∧ s.dev.dmaBusy 0 = false ∧ s.dev.dmaBusy 1 = false ∧ s.dev.trs.mrds = [] ∧ s.dev.evqRoom = false ∧ s.dev.evq.owed = 0 ∧ ((∀ p ∈ s.dev.trs.txq, pktClass p.type ≠ 0))) ∧
    (∃ (s : State), s.dev.lst 0 = 3 ∧ s.dev.dmaBusy 0 = false ∧ s.dev.dmaBusy 1 = false ∧ s.dev.trs.mrds = [] ∧ s.dev.evqRoom = false ∧ s.dev.evq.owed = 0 ∧ ((∃ p ∈ s.dev.trs.txq, pktClass p.type = 0))) :=
  ⟨⟨alone ((trestle id).modTwin (fun t => { t with waiting := [.write 0 0] })), 0, 4, 0, by decide +kernel⟩,
    ⟨alone (trestle id), 0, 4, 0, by decide +kernel⟩,
    ⟨alone (trestle id), 0, 0, 0, by decide +kernel⟩,
    ⟨alone (trestle id), 0, 0, 5, _, rfl, by decide +kernel⟩,
    ⟨alone ((trestle id).modTwin (fun t => { t with waiting := [.write 0 0] })), 0, 0, by decide +kernel⟩,
    ⟨alone (trestle id), 0, 0, [], by decide +kernel⟩,
    ⟨alone (trestle id), by decide +kernel⟩,
    ⟨alone (trestle id), 0, 1, by decide +kernel⟩,
    ⟨alone (trestle id), 0, 0, by decide +kernel⟩,
    ⟨alone (trestle id), 4095, by decide +kernel⟩,
    ⟨alone (trestle (fun t => { t with unacked := [⟨7, 3, 0, 0, 0, 1, 0, [5]⟩] })), 7, [], [], ⟨7, 3, 0, 0, 0, 1, 0, [5]⟩, by decide +kernel⟩,
    ⟨alone (trestle (fun t => { t with unacked := [⟨7, 3, 0, 0, 0, 1, 0, [5]⟩] })), 8, by decide +kernel⟩,
    ⟨alone (trestle (fun t => { t with unacked := [⟨7, 3, 0, 0, 0, 1, 0, [5]⟩] })), 8, by decide +kernel⟩,
    ⟨alone (trestle (fun t => { t with unacked := [⟨7, 3, 0, 0, 0, 1, 0, [5]⟩], futile := 3 })), by decide +kernel⟩,
    ⟨alone (trestle (fun t => { t with ackDue := 1 })), by decide +kernel⟩,
    ⟨alone ((trestle (fun t => { t with grantDue := true })).modTwin (fun t => { t with journal := List.replicate 4096 ⟨1, 0, 0, 0⟩ })), by decide +kernel⟩,
    ⟨alone (trestle (fun t => { t with grantDue := true })), by decide +kernel⟩,
    ⟨alone ((trestle id).setBit (Reg.TRS_DQ_STAT 0) 16 true), by decide +kernel⟩,
    ⟨alone (trestle id), by decide +kernel⟩,
    ⟨alone (trestle (fun t => { t with txq := [⟨0, 6, 0, 0, 0, 1, 0, [5]⟩] })), by decide +kernel⟩⟩

/-- States and operands that meet the hypotheses of each clause of `Obligations.DmaQueues`. -/
theorem witness_DmaQueues :
    (∃ (s : State) (q : Requester) (n : Fin 2), s.dev.admitsWrite q (Reg.TRS_DQ_TAIL n.val) = true ∧ (s.dev.dmaOf n.val).closing = none) ∧
    (∃ (s : State) (n : Fin 2) (c : DmaCtx), c = s.dev.dmaOf n.val ∧ s.dev.dmaBusy n.val = true ∧ c.desc ≠ [] ∧ c.run = false ∧ c.code = none ∧ (c.word 5).get 16 14 ≠ 0) ∧
    (∃ (s : State) (n : Fin 2) (c : DmaCtx), c = s.dev.dmaOf n.val ∧ s.dev.dmaBusy n.val = true ∧ c.desc ≠ [] ∧ c.run = false ∧ c.code = none ∧ (c.word 5).get 16 14 = 0 ∧ (c.len % 4 ≠ 0 ∨ c.len < 4 ∨ c.vec % 4 ≠ 0 ∨ c.host % 4 ≠ 0 ∨ memEnd < c.vec + c.len)) ∧
    (∃ (s : State) (n : Fin 2) (c : DmaCtx), c = s.dev.dmaOf n.val ∧ s.dev.dmaBusy n.val = true ∧ c.desc ≠ [] ∧ c.run = false ∧ c.code = none ∧ (c.word 5).get 16 14 = 0 ∧ c.len % 4 = 0 ∧ 4 ≤ c.len ∧ c.vec % 4 = 0 ∧ c.host % 4 = 0 ∧ c.vec + c.len ≤ memEnd ∧ stackOf c.vec = stackOf (c.vec + c.len - 1) ∧ s.dev.memThere c.vec c.len = true ∧ s.dev.lst 0 ≠ 3) ∧
    (∃ (s : State) (n : Fin 2) (code : Nat), (s.dev.dmaOf n.val).code = some code ∧ (s.dev.dmaOf n.val).disable = false ∧ code < 256 ∧ (s.dev.dmaOf n.val).closing = none ∧ s.dev.regN (Reg.TRS_DQ_HEAD n.val) + 1 < 2 ^ 16 ∧ s.dev.trs.txq = [] ∧ s.dev.evqGo = true) ∧
    (∃ (s : State) (n : Fin 2) (code : Nat), (s.dev.dmaOf n.val).code = some code ∧ (s.dev.dmaOf n.val).closing = none ∧ s.dev.lst 0 ≠ 3) ∧
    (∃ (s : State) (tag : BitVec 8) (m : Mrd), s.dev.trs.mrds.find? (fun x => x.tag = tag.toNat) = some m ∧ (s.dev.dmaOf m.queue).code = none ∧ s.dev.lst 0 ≠ 3) ∧
    (∃ (s : State) (seq : BitVec 12) (tag : BitVec 8) (m : Mrd), s.dev.lst 0 = 3 ∧ seq.toNat = s.dev.trs.rxSeq ∧ s.dev.trs.mrds.find? (fun x => x.tag = tag.toNat) = some m ∧ (s.dev.dmaOf m.queue).code = none ∧ (s.dev.dmaOf m.queue).closing = none) ∧
    (∃ (s : State) (seq : BitVec 12) (tag : BitVec 8) (data : List Word), s.dev.lst 0 = 3 ∧ seq.toNat = s.dev.trs.rxSeq ∧ data.length ≤ 127 ∧ ((∀ m ∈ s.dev.trs.mrds, m.tag ≠ tag.toNat))) ∧
    (∃ (s : State) (seq : BitVec 12) (tag : BitVec 8) (data : List Word) (m : Mrd), s.dev.lst 0 = 3 ∧ seq.toNat = s.dev.trs.rxSeq ∧ data.length ≤ 127 ∧ s.dev.trs.mrds.find? (fun x => x.tag = tag.toNat && x.len = data.length) = some m ∧ m.fetch = true) ∧
    (∃ (s : State) (q : Requester) (n : Fin 2), s.dev.admitsWrite q (Reg.TRS_DQ_CTRL n.val) = true ∧ s.dev.bit (Reg.TRS_DQ_CTRL n.val) 31 = true ∧ s.dev.dmaBusy n.val = false) ∧
    (∃ (s : State) (q : Requester) (n : Fin 2), s.dev.admitsWrite q (Reg.TRS_DQ_CTRL n.val) = true ∧ s.dev.bit (Reg.TRS_DQ_CTRL n.val) 31 = true ∧ s.dev.dmaBusy n.val = true) :=
  ⟨⟨alone (ready), .host, 0, by decide +kernel⟩,
    ⟨alone (dma0 [0, 0, 0, 0, 4, 2 ^ 16, 0, 0]), 0, ((alone (dma0 [0, 0, 0, 0, 4, 2 ^ 16, 0, 0])).dev.dmaOf 0), by decide +kernel⟩,
    ⟨alone (dma0 [0, 0, 0, 0, 2, 0, 0, 0]), 0, ((alone (dma0 [0, 0, 0, 0, 2, 0, 0, 0])).dev.dmaOf 0), by decide +kernel⟩,
    ⟨alone (dma0 [0, 0, 0, 0, 4, 0, 0, 0]), 0, ((alone (dma0 [0, 0, 0, 0, 4, 0, 0, 0])).dev.dmaOf 0), by decide +kernel⟩,
    ⟨alone (((trestle (fun t => { t with credit := [(0, { Credit.reset with hdr := 9, units := 9, known := true })] })).setBit (Reg.TRS_DQ_STAT 0) 16 true).modDma 0 (fun c => { c with desc := [0, 0, 0, 0, 4, 0, 0, 0], run := true, code := some 1 })), 0, 1, by decide +kernel⟩,
    ⟨alone ((dma0 [0, 0, 0, 0, 4, 0, 0, 0]).modDma 0 (fun c => { c with run := true, code := some 1 })), 0, 1, by decide +kernel⟩,
    ⟨alone ((dma0 []).modTrs (fun t => { t with mrds := [⟨5, 0, true, 0, 8⟩] })), 5, ⟨5, 0, true, 0, 8⟩, by decide +kernel⟩,
    ⟨alone ((trestle (fun t => { t with mrds := [⟨5, 0, true, 0, 8⟩] }))), 0, 5, ⟨5, 0, true, 0, 8⟩, by decide +kernel⟩,
    ⟨alone (trestle id), 0, 0, [], by decide +kernel⟩,
    ⟨alone ((trestle (fun t => { t with mrds := [⟨5, 0, true, 0, 8⟩] })).setBit (Reg.TRS_DQ_STAT 0) 16 true), 0, 5, [0, 0, 0, 0, 4, 0, 0, 0], ⟨5, 0, true, 0, 8⟩, by decide +kernel⟩,
    ⟨alone (ready.setBit (Reg.TRS_DQ_CTRL 0) 31 true), .host, 0, by decide +kernel⟩,
    ⟨alone (dma0 []), .host, 0, by decide +kernel⟩⟩

/-- States and operands that meet the hypotheses of each clause of `Obligations.EventRing`. -/
theorem witness_EventRing :
    (∃ (s : State) (r : EvRec) (rest : List EvRec), s.dev.evbuf = r :: rest ∧ s.dev.evlost = 0 ∧ s.dev.evqRoom = true ∧ s.dev.evqGo = true ∧ s.dev.bit Reg.EVQ_CTRL 16 = false ∧ s.dev.regN Reg.EVQ_PROD < 2 ^ 32 - 1 ∧ s.dev.trs.dq = [] ∧ ((∀ n < 2, s.dev.bit (Reg.TRS_DQ_CTRL n) 31 = false)) ∧ ((∀ n < 2, s.dev.dmaBusy n = false))) ∧
    (∃ (s : State), s.dev.evbuf ≠ [] ∧ s.dev.evqRoom = true ∧ s.dev.lst 0 = 5) ∧
    (∃ (s : State), (s.dev.evbuf = [] ∨ s.dev.evqRoom = false ∨ (s.dev.lst 0 ≠ 5 ∧ s.dev.evqGo = false))) ∧
    (∃ (s : State) (q : Requester), s.dev.admitsWrite q Reg.EVQ_CTRL = true ∧ s.dev.bit Reg.EVQ_CTRL 31 = false) ∧
    (∃ (s : State) (q : Requester) (v : Word), s.dev.admitsWrite q Reg.EVQ_CONS = true ∧ (v - s.dev.reg Reg.EVQ_CONS).toNat ≤ (s.dev.reg Reg.EVQ_PROD - s.dev.reg Reg.EVQ_CONS).toNat) ∧
    (∃ (s : State) (q : Requester) (v : Word), s.dev.admitsWrite q Reg.EVQ_CONS = true ∧ (s.dev.reg Reg.EVQ_PROD - s.dev.reg Reg.EVQ_CONS).toNat < (v - s.dev.reg Reg.EVQ_CONS).toNat) ∧
    (∃ (s : State), s.dev.fld Reg.EVQ_MOD 0 16 ≠ 0 ∧ s.dev.evq.owed ≠ 0 ∧ s.dev.lst 0 = 3 ∧ s.dev.bit Reg.EVQ_CTRL 16 = true ∧ s.dev.evq.oldest + s.dev.fld Reg.EVQ_MOD 0 16 * usTicks ≤ s.dev.ttime) ∧
    (∃ (s : State) (q : Requester), s.dev.admitsWrite q Reg.TRS_WDOG = true) ∧
    (∃ (s : State) (q : Requester) (v : Word), s.dev.admitsWrite q Reg.TRS_WDKICK = true ∧ v.get 0 8 = 0xA5) ∧
    (∃ (s : State) (q : Requester) (v : Word), s.dev.admitsWrite q Reg.TRS_WDKICK = true ∧ v.get 0 8 ≠ 0xA5) ∧
    (∃ (s : State), s.dev.regN Reg.TRS_WDOG ≠ 0 ∧ s.dev.wdExpired = false) :=
  ⟨⟨alone ({ (ring.modTrs (fun t => { t with credit := [(0, { Credit.reset with hdr := 9, units := 9, known := true })] })) with evbuf := [⟨9, 1, 2, 0, 0, 0, 3, 0, 4⟩] }), ⟨9, 1, 2, 0, 0, 0, 3, 0, 4⟩, [], by decide +kernel⟩,
    ⟨alone ({ ring.modLink 0 (fun c => { c with lst := 5 }) with evbuf := [⟨9, 1, 2, 0, 0, 0, 3, 0, 4⟩] }), by decide +kernel⟩,
    ⟨alone (ready), by decide +kernel⟩,
    ⟨alone (ready), .host, by decide +kernel⟩,
    ⟨alone (ready), .host, 0, by decide +kernel⟩,
    ⟨alone (ready), .host, 1, by decide +kernel⟩,
    ⟨alone ({ ring.setBit Reg.EVQ_CTRL 16 true with ttime := 2 * usTicks, evq := ⟨1, 0, 0⟩ }), by decide +kernel⟩,
    ⟨alone (ready), .host, by decide +kernel⟩,
    ⟨alone (ready), .host, 0xA5, by decide +kernel⟩,
    ⟨alone (ready), .host, 0, by decide +kernel⟩,
    ⟨alone (ready.setRegN Reg.TRS_WDOG 9), by decide +kernel⟩⟩

/-- States and operands that meet the hypotheses of each clause of `Obligations.TesterTime`. -/
theorem witness_TesterTime :
    (∃ (s : State), s.dev.timeRuns = true ∧ s.dev.ttime ≤ 2 ^ 64 ∧ s.dev.evbuf.length < 256) ∧
    (∃ (s : State) (t : BitVec 64) (v : Nat) (ep : Nat), s.dev.bit Reg.VIA_STATUS 12 = true ∧ (s.dev.reach t.toNat).stepSafe = true ∧ s.dev.via.setReq = false ∧ s.dev.via.load = some (v, ep) ∧ s.dev.via.apply = false ∧ s.dev.isMaster = true ∧ v < 2 ^ 64 ∧ ep < 2 ^ 32) ∧
    (∃ (s : State) (t : BitVec 64) (v : Nat) (ep : Nat), s.dev.bit Reg.VIA_STATUS 12 = true ∧ (s.dev.reach t.toNat).stepSafe = true ∧ s.dev.via.setReq = false ∧ s.dev.via.load = some (v, ep) ∧ s.dev.via.apply = false ∧ s.dev.isMaster = false ∧ ep < 2 ^ 32) ∧
    (∃ (s : State) (t : BitVec 64) (c : Int), s.dev.bit Reg.VIA_STATUS 12 = true ∧ (s.dev.reach t.toNat).stepSafe = true ∧ s.dev.via.setReq = false ∧ s.dev.via.load = none ∧ s.dev.via.apply = true ∧ s.dev.via.pendC = some c) ∧
    (∃ (s : State) (t : BitVec 64), s.dev.bit Reg.VIA_STATUS 12 = true ∧ (s.dev.reach t.toNat).stepSafe = false ∧ s.dev.via.setReq = false) ∧
    (∃ (s : State), s.dev.bit Reg.VIA_STATUS 12 = true) ∧
    (∃ (s : State) (q : Requester), s.dev.admitsWrite q Reg.VIA_CMD = true ∧ s.dev.isMaster = true ∧ s.dev.dnAct = true ∧ s.dev.via.setReq = false ∧ s.dev.via.load = none) ∧
    (∃ (s : State) (q : Requester), s.dev.admitsWrite q Reg.VIA_CMD = true ∧ s.dev.isMaster = true ∧ s.dev.dnAct = true ∧ s.dev.via.calRun = false) ∧
    (∃ (s : State) (q : Requester), s.dev.admitsWrite q Reg.VIA_CMD = true ∧ s.dev.isMaster = true ∧ s.dev.dnAct = true ∧ s.dev.via.apply = false) ∧
    (∃ (s : State) (q : Requester) (t : Nat) (n : Nat), s.dev.admitsWrite q Reg.VIA_CMD = true ∧ s.dev.isMaster = true ∧ s.dev.dnAct = true ∧ t = s.dev.reg64 Reg.VIA_QT_LO Reg.VIA_QT_HI ∧ s.dev.ahead t = some n ∧ 10 * usTicks ≤ n ∧ s.dev.quorumAhead = false) ∧
    (∃ (s : State) (q : Requester) (c : Instr), s.dev.admitsWrite q Reg.VIA_CMD = true ∧ s.dev.isMaster = false ∧ ((c = .viaSettime q ∨ c = .viaSkewcal q ∨ c = .viaApply q ∨ c = .viaQannounce q))) ∧
    (∃ (s : State) (q : Requester), s.dev.admitsWrite q Reg.VIA_CMD = true) ∧
    (∃ (s : State) (q : Requester), s.dev.admitsWrite q Reg.VIA_SKEW = true) :=
  ⟨⟨alone (ready), by decide +kernel⟩,
    ⟨alone (viaduct ready 17 (fun c => { c with load := some (7, 2) })), 0, 7, 2, by decide +kernel⟩,
    ⟨alone (viaduct ready 16 (fun c => { c with load := some (7, 2) })), 0, 7, 2, by decide +kernel⟩,
    ⟨alone (viaduct ready 16 (fun c => { c with apply := true, pendC := some 5 })), 0, 5, by decide +kernel⟩,
    ⟨alone (viaduct (stream3 3 id) 16 id), 0, by decide +kernel⟩,
    ⟨alone (viaduct ready 16 id), by decide +kernel⟩,
    ⟨alone (viaduct ready 5 id), .host, by decide +kernel⟩,
    ⟨alone (viaduct ready 5 id), .host, by decide +kernel⟩,
    ⟨alone (viaduct ready 5 id), .host, by decide +kernel⟩,
    ⟨alone ((viaduct ready 5 id).setReg64 Reg.VIA_QT_LO Reg.VIA_QT_HI (10 * usTicks)), .host, (10 * usTicks), (10 * usTicks), by decide +kernel⟩,
    ⟨alone (ready), .host, (.viaApply .host), by decide +kernel⟩,
    ⟨alone (ready), .host, by decide +kernel⟩,
    ⟨alone (ready), .host, by decide +kernel⟩⟩

/-- States and operands that meet the hypotheses of each clause of `Obligations.ChainFrames`. -/
theorem witness_ChainFrames :
    (∃ (s : State) (p : BitVec 32), s.dev.upAct = true ∧ s.dev.isMaster = false ∧ p.toNat < 63 ∧ s.dev.dnAct = true) ∧
    (∃ (s : State) (p : BitVec 32), s.dev.upAct = true ∧ s.dev.isMaster = false ∧ p.toNat < 64 ∧ s.dev.dnAct = false) ∧
    (∃ (s : State), s.dev.upAct = true ∧ s.dev.isMaster = false ∧ s.dev.dnAct = true) ∧
    (∃ (s : State), s.dev.upAct = true ∧ s.dev.isMaster = false ∧ s.dev.dnAct = true ∧ s.dev.bit Reg.VIA_CTRL 2 = true ∧ s.dev.bit Reg.VIA_CTRL 3 = false) ∧
    (∃ (s : State), s.dev.upAct = true ∧ s.dev.isMaster = false ∧ s.dev.dnAct = true ∧ s.dev.bit Reg.VIA_CTRL 2 = false ∧ s.dev.bit Reg.VIA_CTRL 3 = false) ∧
    (∃ (s : State) (ts : BitVec 64) (corr : BitVec 64) (arr : BitVec 64) (r : Int), s.dev.upAct = true ∧ s.dev.isMaster = false ∧ s.dev.bit Reg.VIA_CTRL 3 = true ∧ s.dev.via.resid = [] ∧ ((s.dev.tstate = 1 ∨ s.dev.tstate = 2)) ∧ r = (BitVec.ofNat 64 (s.dev.stampAt arr) - ts - corr - BitVec.ofNat 64 (s.dev.fld (if s.dev.bit Reg.VIA_CTRL 2 then Reg.VIA_PATHDLY else Reg.VIA_LINKDLY) 0 24)).toInt ∧ (s.dev.fld Reg.VIA_TOL 0 16 : Int) < r.natAbs) ∧
    (∃ (s : State), s.dev.upAct = true ∧ s.dev.isMaster = false ∧ s.dev.via.calRun = true ∧ s.dev.via.o = none) ∧
    (∃ (s : State) (o : Int), s.dev.upAct = true ∧ s.dev.isMaster = false ∧ s.dev.via.calRun = true ∧ s.dev.via.o = some o ∧ s.dev.viaAddr ≠ 1) ∧
    (∃ (s : State), s.dev.upAct = true ∧ s.dev.isMaster = false) ∧
    (∃ (s : State) (t1 : Nat), s.dev.upAct = true ∧ s.dev.isMaster = false ∧ s.dev.via.t1 = some t1 ∧ s.dev.via.exch < 4095) ∧
    (∃ (s : State), s.dev.upAct = true ∧ s.dev.isMaster = false ∧ s.dev.via.pendC.isSome = true) ∧
    (∃ (s : State), s.dev.upAct = true ∧ s.dev.isMaster = false ∧ s.dev.via.calRun = true ∧ s.dev.via.exch < 4096 ∧ s.dev.via.o = none) ∧
    (∃ (s : State), s.dev.dnAct = true) ∧
    (∃ (s : State), s.dev.dnAct = true ∧ s.dev.isMaster = true ∧ s.dev.via.addressing = true) ∧
    (∃ (s : State), s.dev.dnAct = true ∧ s.dev.isMaster = true) ∧
    (∃ (s : State), s.dev.dnAct = true ∧ s.dev.isMaster = true ∧ s.dev.fld Reg.VIA_TPER 0 16 ≠ 0) :=
  ⟨⟨alone (viaduct ready 6 id), 0, by decide +kernel⟩,
    ⟨alone (viaduct ready 2 id), 0, by decide +kernel⟩,
    ⟨alone (viaduct ready 6 id), by decide +kernel⟩,
    ⟨alone ((viaduct ready 6 id).setRegN Reg.VIA_CTRL 4), by decide +kernel⟩,
    ⟨alone ((viaduct ready 6 id).setRegN Reg.VIA_CTRL 0), by decide +kernel⟩,
    ⟨alone (((viaduct ready 2 id).setFld Reg.VIA_STATUS 0 3 2).setRegN Reg.VIA_CTRL 8), 0, 0, 2 ^ 20, (2 ^ 20 : Int), by decide +kernel⟩,
    ⟨alone (viaduct ready 2 (fun c => { c with calRun := true })), by decide +kernel⟩,
    ⟨alone (viaduct ready 2 (fun c => { c with calRun := true, o := some 4 })), 4, by decide +kernel⟩,
    ⟨alone (viaduct ready 2 id), by decide +kernel⟩,
    ⟨alone (viaduct ready 2 (fun c => { c with t1 := some 4 })), 4, by decide +kernel⟩,
    ⟨alone (viaduct ready 2 (fun c => { c with pendC := some 4 })), by decide +kernel⟩,
    ⟨alone (viaduct ready 2 (fun c => { c with calRun := true })), by decide +kernel⟩,
    ⟨alone (viaduct ready 4 id), by decide +kernel⟩,
    ⟨alone (viaduct ready 5 (fun c => { c with addressing := true })), by decide +kernel⟩,
    ⟨alone (viaduct ready 5 id), by decide +kernel⟩,
    ⟨alone ((viaduct ready 5 id).setRegN Reg.VIA_TPER 9), by decide +kernel⟩⟩

/-- States and operands that meet the hypotheses of each clause of `Obligations.Quorum`. -/
theorem witness_Quorum :
    (∃ (s : State) (t : Nat), s.dev.via.qt = some t ∧ s.dev.via.qDone = false ∧ s.dev.quorumStreams = [] ∧ s.dev.via.report = none ∧ s.dev.dnAct = false ∧ s.dev.isMaster = false ∧ s.dev.upAct = true) ∧
    (∃ (s : State) (t : Nat), s.dev.via.qt = some t ∧ s.dev.via.qDone = false ∧ s.dev.quorumStreams ≠ [] ∧ s.dev.tstate ≠ 2 ∧ s.dev.via.report = none ∧ ((s.dev.dnAct = true ∨ s.dev.isMaster = true))) ∧
    (∃ (s : State) (tag : BitVec 16), s.dev.dnAct = true ∧ tag.toNat = s.dev.fld Reg.VIA_QSTAT 0 16 ∧ s.dev.via.qt.isSome = true ∧ s.dev.via.qDone = false) ∧
    (∃ (s : State) (tag : BitVec 16), s.dev.dnAct = true ∧ tag.toNat = s.dev.fld Reg.VIA_QSTAT 0 16 ∧ s.dev.via.qt.isSome = true ∧ s.dev.via.qDone = true ∧ s.dev.isMaster = false ∧ s.dev.upAct = true ∧ s.dev.via.part = true ∧ s.dev.via.nogo = true) ∧
    (∃ (s : State) (tag : SigTag), (tag.same = false ∨ tag.tag.toNat ≠ s.dev.fld Reg.VIA_QSTAT 0 16)) ∧
    (∃ (s : State) (t : Nat) (r : ViaSig), s.dev.via.qt = some t ∧ s.dev.isMaster = true ∧ s.dev.via.verdict = none ∧ s.dev.via.qDone = true ∧ s.dev.via.report = some r ∧ s.dev.dnAct = true ∧ r.count < 128 ∧ r.addr < 64 ∧ r.flag = false ∧ ((s.dev.fld Reg.VIA_QEXP 0 7 = 0 ∨ r.count = s.dev.fld Reg.VIA_QEXP 0 7))) ∧
    (∃ (s : State) (t : Nat) (r : ViaSig), s.dev.via.qt = some t ∧ s.dev.isMaster = true ∧ s.dev.via.verdict = none ∧ s.dev.via.qDone = true ∧ s.dev.via.report = some r ∧ s.dev.dnAct = true ∧ r.count < 128 ∧ r.addr < 64 ∧ r.flag = true ∧ s.dev.quorumStreams = []) ∧
    (∃ (s : State) (tag : BitVec 16), s.dev.upAct = true ∧ s.dev.isMaster = false ∧ tag.toNat = s.dev.fld Reg.VIA_QSTAT 0 16 ∧ s.dev.verdictLate = false) ∧
    (∃ (s : State) (tag : BitVec 16) (i : Fin 16), s.dev.upAct = true ∧ s.dev.isMaster = false ∧ tag.toNat = s.dev.fld Reg.VIA_QSTAT 0 16 ∧ s.dev.verdictLate = false ∧ s.dev.quorumStreams = [i.val]) ∧
    (∃ (s : State) (t : Nat) (i : Fin 16), s.dev.via.qt = some t ∧ s.dev.via.verdict = none ∧ s.dev.quorumStreams = [i.val]) ∧
    (∃ (s : State) (t : Nat), s.dev.via.qt = some t ∧ s.dev.via.verdict = some true) :=
  ⟨⟨alone (viaduct ready 2 (fun c => { c with qt := some 9 })), 9, by decide +kernel⟩,
    ⟨alone (viaduct quorum3 4 (fun c => { c with qt := some (10 * usTicks) })), 10 * usTicks, by decide +kernel⟩,
    ⟨alone (viaduct ready 4 (fun c => { c with qt := some 9 })), 0, by decide +kernel⟩,
    ⟨alone (viaduct quorum3 6 (fun c => { c with qt := some (10 * usTicks), qDone := true, nogo := true, part := true })), 0, by decide +kernel⟩,
    ⟨alone (ready), ⟨1, true⟩, by decide +kernel⟩,
    ⟨alone (viaduct ready 5 (fun c => { c with qt := some 9, qDone := true, report := some ⟨false, 0, false, 0, 0⟩ })), 9, ⟨false, 0, false, 0, 0⟩, by decide +kernel⟩,
    ⟨alone (viaduct ready 5 (fun c => { c with qt := some 9, qDone := true, report := some ⟨false, 0, true, 0, 0⟩ })), 9, ⟨false, 0, true, 0, 0⟩, by decide +kernel⟩,
    ⟨alone (viaduct ready 2 id), 0, by decide +kernel⟩,
    ⟨alone (viaduct quorum3 2 (fun c => { c with qt := some (10 * usTicks) })), 0, 3, by decide +kernel⟩,
    ⟨alone (viaduct quorum3 2 (fun c => { c with qt := some (10 * usTicks) })), 10 * usTicks, 3, by decide +kernel⟩,
    ⟨alone (viaduct ready 2 (fun c => { c with qt := some 9, verdict := some true })), 9, by decide +kernel⟩⟩

/-- States and operands that meet the hypotheses of each clause of `Obligations.Strobes`. -/
theorem witness_Strobes :
    (∃ (s : State) (k : Fin 4) (q : Requester) (v : Word) (n : Nat), s.dev.admitsWrite q (Reg.TSTR_CTRL k.val) = true ∧ s.dev.bit (Reg.TSTR_CTRL k.val) 31 = false ∧ v.bit 30 = false ∧ s.dev.regN (Reg.TSTR_PER k.val) * 1280 ≥ (4 * (max 1 (v.get 0 8) + 1) + 4) * nsTicks ∧ s.dev.ahead (s.dev.strobeT k.val) = some n ∧ usTicks ≤ n) ∧
    (∃ (s : State) (k : Fin 4) (q : Requester) (v : Word), s.dev.admitsWrite q (Reg.TSTR_CTRL k.val) = true ∧ s.dev.bit (Reg.TSTR_CTRL k.val) 31 = false ∧ v.bit 30 = true ∧ s.dev.regN (Reg.TSTR_PER k.val) * 1280 ≥ (4 * (max 1 (v.get 0 8) + 1) + 4) * nsTicks) ∧
    (∃ (s : State) (k : Fin 4) (q : Requester) (v : Word), s.dev.admitsWrite q (Reg.TSTR_CTRL k.val) = true ∧ s.dev.bit (Reg.TSTR_CTRL k.val) 31 = false ∧ s.dev.regN (Reg.TSTR_PER k.val) * 1280 < (4 * (max 1 (v.get 0 8) + 1) + 4) * nsTicks) ∧
    (∃ (s : State) (k : Fin 4) (q : Requester), s.dev.admitsWrite q (Reg.TSTR_CTRL k.val) = true ∧ s.dev.bit (Reg.TSTR_CTRL k.val) 31 = true) ∧
    (∃ (s : State) (k : Fin 4) (t : Nat), (s.dev.strobeOf k.val).next = some t ∧ s.dev.strobeMuted k.val = false) ∧
    (∃ (s : State) (k : Fin 4) (t : Nat), (s.dev.strobeOf k.val).fall = some t) :=
  ⟨⟨alone ((ready.setReg64 (Reg.TSTR_T_LO 0) (Reg.TSTR_T_HI 0) (10 * usTicks)).setRegN (Reg.TSTR_PER 0) 100), 0, .host, 0, 10 * usTicks, by decide +kernel⟩,
    ⟨alone ((ready.setReg64 (Reg.TSTR_T_LO 0) (Reg.TSTR_T_HI 0) (10 * usTicks)).setRegN (Reg.TSTR_PER 0) 100), 0, .host, 0x40000000, by decide +kernel⟩,
    ⟨alone (ready.setRegN (Reg.TSTR_PER 0) 1), 0, .host, 0, by decide +kernel⟩,
    ⟨alone (ready.setBit (Reg.TSTR_CTRL 0) 31 true), 0, .host, by decide +kernel⟩,
    ⟨alone (ready.modStrobe 0 (fun c => { c with next := some 9 })), 0, 9, by decide +kernel⟩,
    ⟨alone (ready.modStrobe 0 (fun c => { c with fall := some 9 })), 0, 9, by decide +kernel⟩⟩

/-- States and operands that meet the hypotheses of each clause of `Obligations.SupplyGuardSensors`. -/
theorem witness_SupplyGuardSensors :
    (∃ (s : State) (r : Fin 8), (s.dev.supOf r.val).prev = none ∧ (s.dev.supOf r.val).exc = none) ∧
    (∃ (s : State) (r : Fin 8) (mv : BitVec 12) (v : Nat), (s.dev.supOf r.val).prev = some v ∧ (s.dev.supOf r.val).exc = none ∧ v < s.dev.fld (Reg.SUP_THR r.val) 0 12 ∧ mv.toNat < s.dev.fld (Reg.SUP_THR r.val) 0 12 ∧ supMin.getD r.val 0 ≤ v ∧ supMin.getD r.val 0 ≤ mv.toNat) ∧
    (∃ (s : State) (r : Fin 8) (mv : BitVec 12) (v : Nat), (s.dev.supOf r.val).prev = some v ∧ v < supMin.getD r.val 0 ∧ mv.toNat < supMin.getD r.val 0 ∧ supReset.getD r.val 0 ≤ v ∧ s.dev.bit Reg.SUP_STATUS (16 + r.val) = false ∧ s.dev.fld Reg.SAFE_STATUS 29 2 ≠ 3) ∧
    (∃ (s : State) (r : Fin 8) (mv : BitVec 12) (v : Nat), (s.dev.supOf r.val).prev = some v ∧ v < supReset.getD r.val 0 ∧ mv.toNat < supReset.getD r.val 0 ∧ r.val = 7) ∧
    (∃ (s : State) (r : Fin 8) (mv : BitVec 12) (v : Nat), (s.dev.supOf r.val).prev = some v ∧ v < supReset.getD r.val 0 ∧ mv.toNat < supReset.getD r.val 0 ∧ r.val ≠ 7 ∧ s.dev.regionReset = false) ∧
    (∃ (s : State), s.dev.regionReset = true ∧ s.dev.fld Reg.SUP_STATUS 16 8 = 0 ∧ s.dev.kawake = true) ∧
    (∃ (s : State) (i : Fin 32) (x : GuardVolts) (n : Nat) (code : Nat) (here : Bool × Bool) (last : List (Bool × Bool)), code = guardCode x ∧ (here = (decide (code < s.dev.fld (Reg.GRD_THR i.val) 0 12 ∨ s.dev.fld (Reg.GRD_THR i.val) 16 12 < code), decide (s.dev.fld (Reg.GRD_THR i.val) 0 12 + s.dev.fld (Reg.GRD_HYST i.val) 0 8 ≤ code ∧ code + s.dev.fld (Reg.GRD_HYST i.val) 0 8 ≤ s.dev.fld (Reg.GRD_THR i.val) 16 12))) ∧ n = s.dev.fld (Reg.GRD_CFG i.val) 8 6 + 1 ∧ last = (here :: (Tab.get (fun _ => GrdCtx.reset) s.dev.grd i.val).samples).take n ∧ s.dev.bit (Reg.GRD_CFG i.val) 31 = true ∧ last.length = n ∧ s.dev.fld (Reg.GRD_STATE i.val) 30 2 ≠ 3 ∧ s.dev.fld (Reg.GRD_CFG i.val) 0 6 + 1 ≤ last.countP (fun c => c.1)) ∧
    (∃ (s : State) (i : Fin 32) (x : GuardVolts) (n : Nat) (code : Nat) (here : Bool × Bool) (last : List (Bool × Bool)), code = guardCode x ∧ (here = (decide (code < s.dev.fld (Reg.GRD_THR i.val) 0 12 ∨ s.dev.fld (Reg.GRD_THR i.val) 16 12 < code), decide (s.dev.fld (Reg.GRD_THR i.val) 0 12 + s.dev.fld (Reg.GRD_HYST i.val) 0 8 ≤ code ∧ code + s.dev.fld (Reg.GRD_HYST i.val) 0 8 ≤ s.dev.fld (Reg.GRD_THR i.val) 16 12))) ∧ n = s.dev.fld (Reg.GRD_CFG i.val) 8 6 + 1 ∧ last = (here :: (Tab.get (fun _ => GrdCtx.reset) s.dev.grd i.val).samples).take n ∧ s.dev.bit (Reg.GRD_CFG i.val) 31 = true ∧ last.length = n ∧ last.countP (fun c => c.1) < s.dev.fld (Reg.GRD_CFG i.val) 0 6 + 1 ∧ s.dev.fld (Reg.GRD_CFG i.val) 0 6 + 1 ≤ last.countP (fun c => c.2)) ∧
    (∃ (s : State) (i : Fin 32), s.dev.bit (Reg.GRD_CFG i.val) 31 = false) ∧
    (∃ (s : State), s.dev.fld Reg.GRD_LPER 0 24 ≠ 0) ∧
    (∃ (s : State) (q : Requester), s.dev.admitsWrite q Reg.GRD_LATCH = true) ∧
    (∃ (ts : List (BitVec 12)), okSensors ts = true) :=
  ⟨⟨alone (ready), 0, by decide +kernel⟩,
    ⟨alone ((ready.modSup 7 (fun c => { c with prev := some 1720 })).setRegN (Reg.SUP_THR 7) 1730), 7, 1720, 1720, by decide +kernel⟩,
    ⟨alone (ready.modSup 7 (fun c => { c with prev := some 1700 })), 7, 1700, 1700, by decide +kernel⟩,
    ⟨alone (ready.modSup 7 (fun c => { c with prev := some 0 })), 7, 0, 0, by decide +kernel⟩,
    ⟨alone (ready.modSup 0 (fun c => { c with prev := some 0 })), 0, 0, 0, by decide +kernel⟩,
    ⟨alone ({ ready with regionReset := true }), by decide +kernel⟩,
    ⟨alone (guard3 300), 3, ⟨87890625, 0⟩, _, _, _, _, rfl, rfl, rfl, rfl, by decide +kernel⟩,
    ⟨alone (guard3 150), 3, ⟨43945313, 0⟩, _, _, _, _, rfl, rfl, rfl, rfl, by decide +kernel⟩,
    ⟨alone (ready), 0, by decide +kernel⟩,
    ⟨alone (ready.setRegN Reg.GRD_LPER 9), by decide +kernel⟩,
    ⟨alone (ready), .host, by decide +kernel⟩,
    ⟨(List.replicate 20 441), by decide +kernel⟩⟩

/-- States and operands that meet the hypotheses of each clause of `Obligations.SafeState`. -/
theorem witness_SafeState :
    (∃ (s : State), s.dev.fld Reg.SAFE_STATUS 29 2 = 0 ∧ s.dev.role ≠ 5 ∧ s.dev.calState ≠ 5 ∧ s.dev.regN Reg.SAFE_ENTRIES < 2 ^ 32 - 1) ∧
    (∃ (s : State) (b : Fin 14), b.val ≠ 6 ∧ s.dev.fld Reg.SAFE_STATUS 29 2 ≠ 0 ∧ s.dev.fld Reg.SAFE_STATUS 29 2 ≠ 3 ∧ s.dev.calState ≠ 5) ∧
    (∃ (s : State) (q : Requester), s.dev.admitsWrite q Reg.SAFE_CMD = true) ∧
    (∃ (s : State), s.dev.normal = true) ∧
    (∃ (s : State), s.dev.normal = false) ∧
    (∃ (s : State) (q : Requester), s.dev.admitsWrite q Reg.SAFE_CAUSE = true) ∧
    (∃ (s : State) (q : Requester), s.dev.admitsWrite q Reg.SAFE_KEY = true ∧ s.dev.fld Reg.SAFE_STATUS 29 2 = 1 ∧ s.dev.keyReq = none) ∧
    (∃ (s : State) (q : Requester) (v : Word), s.dev.admitsWrite q Reg.SAFE_KEY = true ∧ s.dev.fld Reg.SAFE_STATUS 29 2 = 1 ∧ s.dev.keyReq = none ∧ v ≠ 0x45584954) ∧
    (∃ (s : State) (q : Requester) (t : Nat), s.dev.admitsWrite q Reg.SAFE_KEY = true ∧ s.dev.fld Reg.SAFE_STATUS 29 2 = 1 ∧ s.dev.keyReq = some (reqNo q, t) ∧ s.dev.ttime ≤ t + 1000 * usTicks ∧ s.dev.fld Reg.SAFE_CAUSE 0 14 = 0) ∧
    (∃ (s : State) (q : Requester) (t : Nat), s.dev.admitsWrite q Reg.SAFE_KEY = true ∧ s.dev.fld Reg.SAFE_STATUS 29 2 = 1 ∧ s.dev.keyReq = some (reqNo q, t) ∧ s.dev.ttime ≤ t + 1000 * usTicks ∧ s.dev.fld Reg.SAFE_CAUSE 0 14 ≠ 0) ∧
    (∃ (s : State) (q : Requester) (k : Nat × Nat) (v : Word), s.dev.admitsWrite q Reg.SAFE_KEY = true ∧ s.dev.fld Reg.SAFE_STATUS 29 2 = 1 ∧ s.dev.keyReq = some k ∧ (k.1 ≠ reqNo q ∨ v ≠ 0xBAA7B6AB ∨ k.2 + 1000 * usTicks < s.dev.ttime)) ∧
    (∃ (s : State), s.dev.fld Reg.SAFE_STATUS 29 2 = 2 ∧ ((s.dev.role = 0 ∨ s.dev.role = 2 ∨ s.dev.role = 3))) ∧
    (∃ (s : State), s.dev.fld Reg.SAFE_STATUS 29 2 ≠ 2) :=
  ⟨⟨alone (ready), by decide +kernel⟩,
    ⟨alone (safe 1 2 none), 0, by decide +kernel⟩,
    ⟨alone (ready), .host, by decide +kernel⟩,
    ⟨alone (ready), by decide +kernel⟩,
    ⟨alone (safe 1 2 none), by decide +kernel⟩,
    ⟨alone (ready), .host, by decide +kernel⟩,
    ⟨alone (safe 1 2 none), .host, by decide +kernel⟩,
    ⟨alone (safe 1 2 none), .host, 0, by decide +kernel⟩,
    ⟨alone (safe 1 0 (some (reqNo .host, 0))), .host, 0, by decide +kernel⟩,
    ⟨alone (safe 1 2 (some (reqNo .host, 0))), .host, 0, by decide +kernel⟩,
    ⟨alone (safe 1 2 (some (reqNo .host, 0))), .host, (reqNo .host, 0), 0, by decide +kernel⟩,
    ⟨alone (safe 2 0 none), by decide +kernel⟩,
    ⟨alone (ready), by decide +kernel⟩⟩

/-- States and operands that meet the hypotheses of each clause of `Obligations.BringUp`. -/
theorem witness_BringUp :
    (∃ (s : State), s.dev.stage = 1) ∧
    (∃ (s : State) (board : List Word) (a : List Word) (b : List Word) (d : Device), d = s.dev.modKey (fun k => { k with board := board, imgA := a, imgB := b }) ∧ s.dev.stage = 4 ∧ s.dev.key.slot0 = none ∧ s.dev.railsIn = true) ∧
    (∃ (s : State) (b : Bundle), s.dev.kawake = false ∧ s.dev.key.target = none ∧ s.dev.key.slot0 = some b ∧ ((s.dev.stage = 4 ∨ s.dev.stage = 5))) ∧
    (∃ (s : State) (b : Bundle) (h0 : SlotHash), h0 ≠ .other ∧ s.dev.kawake = false ∧ s.dev.key.target = some 0 ∧ s.dev.key.slot0 = some b ∧ s.dev.key.posts = []) ∧
    (∃ (s : State), s.dev.stage = 6 ∧ s.dev.kawake = true ∧ natBit s.dev.key.steps 1 = false ∧ s.dev.regionReset = false ∧ s.dev.running ≠ none ∧ s.dev.bit Reg.MEM_STATUS 0 = false) ∧
    (∃ (s : State), s.dev.stage = 6 ∧ s.dev.kawake = true ∧ s.dev.key.steps = 31 ∧ s.dev.cal.required = false ∧ s.dev.regionReset = false ∧ s.dev.pwr.held = none ∧ ((∀ b, s.dev.running = some b → b.settings = [])) ∧ s.dev.regN Reg.FUSE_PLOCK % 256 = 0) ∧
    (∃ (s : State) (q : Requester), s.dev.admitsWrite q Reg.MGMT_CMD = true ∧ s.dev.kawake = true ∧ 4 ≤ s.dev.stage ∧ s.dev.key.posts = []) ∧
    (∃ (s : State), s.dev.kawake = true ∧ 4 ≤ s.dev.stage ∧ s.dev.key.posts = []) ∧
    (∃ (s : State), s.dev.kawake = true ∧ 4 ≤ s.dev.stage ∧ s.dev.key.posts = [] ∧ s.dev.confPend = false) ∧
    (∃ (s : State) (t : _) (old : _), s.dev.kawake = true ∧ 4 ≤ s.dev.stage ∧ s.dev.key.posts = [] ∧ s.dev.key.confirm = some (t, old) ∧ s.dev.confPend = true) :=
  ⟨⟨alone (atStage 1), by decide +kernel⟩,
    ⟨alone (atStage 4), [], [], [], _, rfl, by decide +kernel⟩,
    ⟨alone ((atStage 4).modKey (fun k => { k with slot0 := some ⟨1, [7]⟩ })), ⟨1, [7]⟩, by decide +kernel⟩,
    ⟨alone ((atStage 7).modKey (fun k => { k with slot0 := some ⟨1, [7]⟩, target := some 0 })), ⟨1, [7]⟩, .same, by decide +kernel⟩,
    ⟨alone ((atStage 6).setBit Reg.MGMT_STATUS 0 true |>.modKey (fun k => { k with slot0 := some ⟨1, [7]⟩ })), by decide +kernel⟩,
    ⟨alone ((atStage 6).setBit Reg.MGMT_STATUS 0 true |>.modKey (fun k => { k with steps := 31 })), by decide +kernel⟩,
    ⟨alone (ready), .host, by decide +kernel⟩,
    ⟨alone (ready), by decide +kernel⟩,
    ⟨alone (ready), by decide +kernel⟩,
    ⟨alone ((ready.setBit Reg.MGMT_STATUS 12 true).modKey (fun k => { k with confirm := some (5, 0) })), 5, 0, by decide +kernel⟩⟩

/-- States and operands that meet the hypotheses of each clause of `Obligations.KeystonePorts`. -/
theorem witness_KeystonePorts :
    (∃ (s : State) (q : Requester), s.dev.admitsWrite q Reg.MGMT_MBCMD = true ∧ s.dev.mbState 0 ≠ 1 ∧ s.dev.mbServed = false) ∧
    (∃ (s : State) (q : Requester), s.dev.admitsWrite q Reg.MGMT_MBCMD = true ∧ s.dev.mbState 0 ≠ 1 ∧ s.dev.mbServed = true ∧ s.dev.key.posts = [] ∧ s.dev.key.updating = none ∧ s.dev.mbRefusal 0 = none) ∧
    (∃ (s : State) (q : Requester) (st : _), s.dev.admitsWrite q Reg.MGMT_MBCMD = true ∧ s.dev.mbState 0 ≠ 1 ∧ s.dev.mbServed = true ∧ s.dev.key.posts = [] ∧ s.dev.key.updating = none ∧ s.dev.mbRefusal 0 = some st) ∧
    (∃ (s : State) (q : Requester), s.dev.admitsWrite q Reg.MGMT_MBCMD = true ∧ s.dev.mbState 0 = 1) ∧
    (∃ (s : State) (q : Requester), s.dev.admitsWrite q Reg.MGMT_MBCMD = true ∧ s.dev.key.posts = [0]) ∧
    (∃ (s : State), s.dev.tap.ir = 0x10) ∧
    (∃ (s : State), s.dev.tap.ir = 0x10 ∧ s.dev.key.jtag.ptr < 256) ∧
    (∃ (s : State), s.dev.tap.ir = 0x10 ∧ s.dev.key.jtag.st ≠ 1 ∧ (s.dev.mbServed = false ∨ s.dev.key.posts = [] ∧ s.dev.key.updating = none ∧ s.dev.mbRefusal 1 = none)) ∧
    (∃ (s : State), s.dev.tap.ir = 0x10 ∧ s.dev.key.jtag.st = 1) ∧
    (∃ (s : State), s.dev.key.bport.ptr < 256) ∧
    (∃ (s : State), 256 ≤ s.dev.key.bport.ptr) ∧
    (∃ (s : State), s.dev.key.bport.st ≠ 1 ∧ (s.dev.mbServed = false ∨ s.dev.key.posts = [] ∧ s.dev.key.updating = none ∧ s.dev.mbRefusal 2 = none)) ∧
    (∃ (s : State), s.dev.key.bport.st = 1) ∧
    (∃ (s : State) (x : BitVec 8), listedIr x.toNat = false ∧ ((x = 0xFF ∨ s.dev.bit Reg.FUSE_CFG0 3 = false))) ∧
    (∃ (s : State) (x : BitVec 8), listedIr x.toNat = false ∧ x ≠ 0xFF ∧ s.dev.bit Reg.FUSE_CFG0 3 = true) ∧
    (∃ (s : State) (q : Requester), s.dev.admitsWrite q Reg.FUSE_CMD = true ∧ ((s.dev.fld (Reg.PG_FAULT_CODE Page.FUSE) 0 8 = 2 ∨ s.dev.fld (Reg.PG_FAULT_CODE Page.FUSE) 0 8 = 3))) ∧
    (∃ (s : State) (q : Requester), s.dev.admitsWrite q Reg.FUSE_CMD = true ∧ ((s.dev.fld (Reg.PG_FAULT_CODE Page.FUSE) 0 8 = 1 ∨ s.dev.fld (Reg.PG_FAULT_CODE Page.FUSE) 0 8 = 4))) :=
  ⟨⟨alone (ready.setBit Reg.MGMT_STATUS 0 false), .host, by decide +kernel⟩,
    ⟨alone (ready.setRegN (Reg.MGMT_REQ 0) 1), .host, by decide +kernel⟩,
    ⟨alone (ready), .host, 1, by decide +kernel⟩,
    ⟨alone (ready.setFld Reg.MGMT_MBSTAT 0 2 1), .host, by decide +kernel⟩,
    ⟨alone (request 1 0 0), .host, by decide +kernel⟩,
    ⟨alone ({ ready with tap := ⟨0x10, 0, 0, false⟩ }), by decide +kernel⟩,
    ⟨alone ({ ready with tap := ⟨0x10, 0, 0, false⟩ }), by decide +kernel⟩,
    ⟨alone ({ ready.setBit Reg.MGMT_STATUS 0 false with tap := ⟨0x10, 0, 0, false⟩ }), by decide +kernel⟩,
    ⟨alone ({ ready.modKey (fun k => { k with jtag := ⟨[], 0, 1⟩ }) with tap := ⟨0x10, 0, 0, false⟩ }), by decide +kernel⟩,
    ⟨alone (ready), by decide +kernel⟩,
    ⟨alone (ready.modKey (fun k => { k with bport := ⟨[], 256, 0⟩ })), by decide +kernel⟩,
    ⟨alone (ready.setBit Reg.MGMT_STATUS 0 false), by decide +kernel⟩,
    ⟨alone (ready.modKey (fun k => { k with bport := ⟨[], 0, 1⟩ })), by decide +kernel⟩,
    ⟨alone (ready), 0x33, by decide +kernel⟩,
    ⟨alone (ready.setBit Reg.FUSE_CFG0 3 true), 0x33, by decide +kernel⟩,
    ⟨alone (ready.setRegN (Reg.PG_FAULT_CODE Page.FUSE) 2), .host, by decide +kernel⟩,
    ⟨alone (ready.setRegN (Reg.PG_FAULT_CODE Page.FUSE) 1), .host, by decide +kernel⟩⟩

/-- States and operands that meet the hypotheses of each clause of `Obligations.KeystoneRequests`. -/
theorem witness_KeystoneRequests :
    (∃ (s : State) (o : Nat), o ≤ 2 ∧ s.dev.carries o 0x01 = true) ∧
    (∃ (s : State) (o : Nat), o ≤ 2 ∧ s.dev.carries o 0x02 = true) ∧
    (∃ (s : State) (o : Nat), o ≤ 2 ∧ s.dev.carries o 0x03 = true) ∧
    (∃ (s : State) (o : Nat), o ≤ 2 ∧ s.dev.carries o 0x04 = true ∧ (s.dev.fld (Reg.PG_FAULT_CODE Page.FUSE) 0 8 = 1 ∨ s.dev.fld (Reg.PG_FAULT_CODE Page.FUSE) 0 8 = 4)) ∧
    (∃ (s : State) (o : Nat), o ≤ 2 ∧ s.dev.carries o 0x04 = true ∧ s.dev.fld (Reg.PG_FAULT_CODE Page.FUSE) 0 8 ≠ 1 ∧ s.dev.fld (Reg.PG_FAULT_CODE Page.FUSE) 0 8 ≠ 4) ∧
    (∃ (s : State) (o : Nat), o ≤ 2 ∧ s.dev.carries o 0x05 = true) ∧
    (∃ (s : State) (o : Nat) (b : _), o ≤ 2 ∧ s.dev.carries o 0x12 = true ∧ s.dev.running = some b) ∧
    (∃ (s : State) (o : Nat), o ≤ 2 ∧ s.dev.carries o 0x20 = true ∧ s.dev.fuseRefused (s.dev.reqWord o 4) (BitVec.ofNat 32 (s.dev.reqWord o 5)) = true) ∧
    (∃ (s : State) (o : Nat), o ≤ 2 ∧ s.dev.carries o 0x20 = true ∧ s.dev.fuseRefused (s.dev.reqWord o 4) (BitVec.ofNat 32 (s.dev.reqWord o 5)) = false) ∧
    (∃ (s : State) (o : Nat), o ≤ 2 ∧ s.dev.carries o 0x13 = true) ∧
    (∃ (s : State) (o : Nat), o ≤ 2 ∧ s.dev.carries o 0x13 = true ∧ ((∀ k < 8, BitVec.ofNat 32 (2 ^ min 32 (min (s.dev.regN Reg.MGMT_FWSVN) 256 - 32 * k) - 1) &&& ~~~s.dev.fuse (64 + k) = 0))) ∧
    (∃ (s : State) (o : Nat), o ≤ 2 ∧ s.dev.carries o 0x21 = true ∧ s.dev.kawake = true ∧ 4 ≤ s.dev.stage) ∧
    (∃ (s : State) (o : Nat), o ≤ 2 ∧ s.dev.carries o 0x30 = true ∧ s.dev.reqWord o 4 ≠ s.dev.key.link.length) ∧
    (∃ (s : State) (o : Nat), o ≤ 2 ∧ s.dev.carries o 0x30 = true ∧ s.dev.reqWord o 4 = s.dev.key.link.length ∧ s.dev.key.link.length + (s.dev.reqWord o 1 - 4) < 20) ∧
    (∃ (s : State) (o : Nat), o ≤ 2 ∧ s.dev.carries o 0x10 = true) ∧
    (∃ (s : State) (o : Nat), o ≤ 2 ∧ s.dev.carries o 0x10 = true ∧ s.dev.memThere (s.dev.reqWord o 4 + s.dev.reqWord o 5 * 2 ^ 32) (s.dev.reqWord o 6) = false) ∧
    (∃ (s : State) (o : Nat) (ws : _), o ≤ 2 ∧ s.dev.key.updating = some ws ∧ s.dev.key.posts = [0] ∧ s.dev.reqWord 0 0 % 65536 = 0x10) ∧
    (∃ (s : State) (o : Nat), o ≤ 2 ∧ s.dev.carries o 0x11 = true ∧ 3600 < s.dev.reqWord o 4) ∧
    (∃ (s : State) (o : Nat) (b : _), b = s.dev.idleBundle ∧ o ≤ 2 ∧ s.dev.carries o 0x11 = true ∧ s.dev.kawake = true ∧ 4 ≤ s.dev.stage ∧ s.dev.reqWord o 4 ≤ 3600 ∧ s.dev.lstate = 0) :=
  ⟨⟨alone (request 1 0 0), 0, by decide +kernel⟩,
    ⟨alone (request 2 4 0), 0, by decide +kernel⟩,
    ⟨alone (request 3 0 0), 0, by decide +kernel⟩,
    ⟨alone ((request 4 32 0).setRegN (Reg.PG_FAULT_CODE Page.FUSE) 1), 0, by decide +kernel⟩,
    ⟨alone (request 4 32 0), 0, by decide +kernel⟩,
    ⟨alone (request 5 0 0), 0, by decide +kernel⟩,
    ⟨alone (((request 0x12 0 0).setBit Reg.MGMT_STATUS 12 true).modKey (fun k => { k with slot0 := some ⟨1, [7]⟩ })), 0, ⟨1, [7]⟩, by decide +kernel⟩,
    ⟨alone (jtagRequest 0x20 8 5 1), 1, by decide +kernel⟩,
    ⟨alone (jtagRequest 0x20 8 32 1), 1, by decide +kernel⟩,
    ⟨alone (request 0x13 0 0), 0, by decide +kernel⟩,
    ⟨alone (request 0x13 0 0), 0, by decide +kernel⟩,
    ⟨alone (request 0x21 0 0), 0, by decide +kernel⟩,
    ⟨alone ((request 0x30 8 4).setFld Reg.MGMT_STATUS 24 8 5), 0, by decide +kernel⟩,
    ⟨alone ((request 0x30 8 0).setFld Reg.MGMT_STATUS 24 8 5), 0, by decide +kernel⟩,
    ⟨alone (request 0x10 12 0), 0, by decide +kernel⟩,
    ⟨alone ((request 0x10 12 0).setBit Reg.MEM_STATUS 8 false), 0, by decide +kernel⟩,
    ⟨alone ((request 0x10 12 0).modKey (fun k => { k with updating := some [7] })), 0, [7], by decide +kernel⟩,
    ⟨alone (request 0x11 4 3601), 0, by decide +kernel⟩,
    ⟨alone (request 0x11 4 60), 0, _, rfl, by decide +kernel⟩⟩

/-- States and operands that meet the hypotheses of each clause of `Obligations.TwinRoles`. -/
theorem witness_TwinRoles :
    (∃ (s : State) (role : BitVec 3) (pref : Bool), okRole role = true ∧ s.dev.twinHears = true ∧ s.dev.twin.hello = true ∧ s.dev.role = 1 ∧ s.dev.winsRole role.toNat pref = false) ∧
    (∃ (s : State) (role : BitVec 3) (pref : Bool), okRole role = true ∧ s.dev.twinHears = true ∧ s.dev.twin.hello = true ∧ s.dev.role = 1 ∧ s.dev.winsRole role.toNat pref = true) ∧
    (∃ (s : State), s.dev.twinHears = true ∧ s.dev.twin.hello = false ∧ s.dev.role = 5) ∧
    (∃ (s : State), s.dev.twinHears = true ∧ s.dev.canTakeover = true) ∧
    (∃ (s : State), s.dev.twinHears = true ∧ s.dev.role ≠ 0 ∧ s.dev.role ≠ 5 ∧ s.dev.canTakeover = false) ∧
    (∃ (s : State), s.dev.canTakeover = true) ∧
    (∃ (s : State), s.dev.canTakeover = false) ∧
    (∃ (s : State) (t : Nat), s.dev.twin.settle = some t ∧ s.dev.twin.waiting = [] ∧ s.dev.fld Reg.SAFE_CAUSE 0 14 = 2 ^ 12) ∧
    (∃ (s : State) (t : Nat), s.dev.twin.settle = some t ∧ s.dev.twin.waiting = [] ∧ s.dev.fld Reg.SAFE_CAUSE 0 12 ≠ 0 ∧ s.dev.twinLive = false ∧ s.dev.normal = false) ∧
    (∃ (s : State) (q : Requester), s.dev.admitsWrite q Reg.TWN_CMD = true ∧ s.dev.role = 5 ∧ s.dev.bit Reg.TWN_STATUS 11 = true) ∧
    (∃ (s : State) (q : Requester), s.dev.admitsWrite q Reg.TWN_CMD = true ∧ (s.dev.role ≠ 5 ∨ s.dev.bit Reg.TWN_STATUS 11 = false)) ∧
    (∃ (s : State) (q : Requester), s.dev.admitsWrite q Reg.TWN_CMD = true ∧ s.dev.role = 5) ∧
    (∃ (s : State) (q : Requester), s.dev.admitsWrite q Reg.TWN_CMD = true ∧ s.dev.role ≠ 5) ∧
    (∃ (s : State), s.dev.twin.swapReq = true ∧ s.dev.twin.waiting = [] ∧ s.dev.role = 5 ∧ ((∀ i < 16, s.dev.halted i = true))) ∧
    (∃ (s : State), s.dev.twinHears = true ∧ s.dev.role = 3) ∧
    (∃ (s : State) (a : Nat), s.dev.bit Reg.TWN_HSTAT 29 = true ∧ s.dev.twin.own = some a ∧ s.dev.twin.other = some a) ∧
    (∃ (s : State) (a : Nat) (b : Nat), s.dev.bit Reg.TWN_HSTAT 29 = true ∧ s.dev.twin.own = some a ∧ s.dev.twin.other = some b ∧ a ≠ b) :=
  ⟨⟨alone (twinRole 1 (fun c => { c with hello := true })), 5, false, by decide +kernel⟩,
    ⟨alone (twinRole 1 (fun c => { c with hello := true })), 3, false, by decide +kernel⟩,
    ⟨alone (twinRole 5 id), by decide +kernel⟩,
    ⟨alone (((twinRole 3 id).setBit Reg.TWN_STATUS 11 true).setRegN Reg.TWN_CTRL 3), by decide +kernel⟩,
    ⟨alone (twinRole 1 id), by decide +kernel⟩,
    ⟨alone (((twinRole 3 id).setBit Reg.TWN_STATUS 11 true).setRegN Reg.TWN_CTRL 3), by decide +kernel⟩,
    ⟨alone (ready), by decide +kernel⟩,
    ⟨alone (((twinRole 4 (fun c => { c with settle := some 9 })).setRegN Reg.SAFE_CAUSE (2 ^ 12)).setFld Reg.SAFE_STATUS 29 2 1), 9, by decide +kernel⟩,
    ⟨alone ((((twinRole 4 (fun c => { c with settle := some 9 })).setRegN Reg.SAFE_CAUSE (2 ^ 12 + 1)).setFld Reg.SAFE_STATUS 29 2 1).modLink 3 (fun c => { c with lst := 0 })), 9, by decide +kernel⟩,
    ⟨alone ((twinRole 5 id).setBit Reg.TWN_STATUS 11 true), .host, by decide +kernel⟩,
    ⟨alone (ready), .host, by decide +kernel⟩,
    ⟨alone (twinRole 5 id), .host, by decide +kernel⟩,
    ⟨alone (ready), .host, by decide +kernel⟩,
    ⟨alone (twinRole 5 (fun c => { c with swapReq := true })), by decide +kernel⟩,
    ⟨alone (twinRole 3 id), by decide +kernel⟩,
    ⟨alone ((twinRole 5 (fun c => { c with own := some 4, other := some 4 })).setBit Reg.TWN_HSTAT 29 true), 4, by decide +kernel⟩,
    ⟨alone ((twinRole 5 (fun c => { c with own := some 4, other := some 5 })).setBit Reg.TWN_HSTAT 29 true), 4, 5, by decide +kernel⟩⟩

/-- States and operands that meet the hypotheses of each clause of `Obligations.TwinFrames`. -/
theorem witness_TwinFrames :
    (∃ (s : State) (i : Fin 16) (j : Nat), j = (s.dev.regN Reg.TWN_JSEQ + 1) % 2 ^ 32 ∧ s.dev.role = 5 ∧ s.dev.hostWaits = false ∧ s.dev.admitsRead .host (Reg.STR_FLAGS i.val) = true ∧ s.dev.reg (Reg.PG_LOCK (Page.STR i.val)) = 0 ∧ (s.dev.strOf i.val).eng = .running) ∧
    (∃ (s : State), (s.dev.role = 2 ∨ s.dev.role = 3) ∧ s.dev.hostWaits = false) ∧
    (∃ (s : State) (a : BitVec 24) (j : BitVec 32) (v : Word) (r : Wrote), r = Device.targetWrite ((Device.twinHeard { s.dev with out := [] } j.toNat).setRegN Reg.TWN_JACK j.toNat) 18 a.toNat v.toNat ∧ s.dev.twinHears = true ∧ (s.dev.role = 2 ∨ s.dev.role = 3) ∧ j = s.dev.reg Reg.TWN_JACK + 1 ∧ ¬ (0x40000 ≤ a.toNat ∧ a.toNat < 0x50000 ∧ a.toNat % 0x1000 = 0x48) ∧ r.dev.ttime = s.dev.ttime ∧ r.dev.ivmq = s.dev.ivmq ∧ r.dev.disp.bad = s.dev.disp.bad) ∧
    (∃ (s : State) (i : Fin 16) (j : BitVec 32) (v : Word), j = s.dev.reg Reg.TWN_JACK + 1 ∧ s.dev.twinHears = true ∧ (s.dev.role = 2 ∨ s.dev.role = 3) ∧ v.bit 0 = true ∧ s.dev.regN (Reg.STR_BURST_ID i.val) < 0xFFFFFFFE) ∧
    (∃ (s : State) (j : BitVec 32), s.dev.twinHears = true ∧ (s.dev.role = 2 ∨ s.dev.role = 3) ∧ j ≠ s.dev.reg Reg.TWN_JACK + 1) ∧
    (∃ (s : State) (a : BitVec 24), s.dev.twinHears = true ∧ s.dev.role = 3 ∧ s.dev.twin.syncLeft = 0 ∧ 0x200000 ≤ a.toNat ∧ a.toNat < 0x600000) ∧
    (∃ (s : State) (a : BitVec 24), s.dev.twinHears = true ∧ s.dev.role = 2 ∧ s.dev.twin.syncLeft = 1 ∧ 0x200000 ≤ a.toNat ∧ a.toNat < 0x600000) ∧
    (∃ (s : State) (i : Fin 16) (p : PendLaunch), s.dev.twinHears = true ∧ s.dev.role = 3 ∧ Tab.get (fun _ => none) s.dev.twin.pend i.val = some p) ∧
    (∃ (s : State), s.dev.twinHears = true ∧ s.dev.role = 5) ∧
    (∃ (s : State), s.dev.twinHears = true ∧ s.dev.role ≠ 5 ∧ s.dev.role ≠ 0) ∧
    (∃ (s : State), (s.dev.twinLive = false ∨ s.dev.role = 0)) ∧
    (∃ (s : State), s.dev.twinLive = true ∧ s.dev.role ≠ 0) ∧
    (∃ (s : State), s.dev.twinHears = true ∧ s.dev.role = 3) :=
  ⟨⟨alone ((twinRole 5 id).modStr 3 (fun c => { c with eng := .running })), 3, _, rfl, by decide +kernel⟩,
    ⟨alone (twinRole 3 id), by decide +kernel⟩,
    ⟨alone (twinRole 3 id), 0x200004, 1, 5, _, rfl, by decide +kernel⟩,
    ⟨alone (twinRole 3 id), 3, _, 1, rfl, by decide +kernel⟩,
    ⟨alone (twinRole 3 id), 2, by decide +kernel⟩,
    ⟨alone (twinRole 3 id), 0x200004, by decide +kernel⟩,
    ⟨alone (twinRole 2 (fun c => { c with syncLeft := 1 })), 0x200004, by decide +kernel⟩,
    ⟨alone (twinRole 3 (fun c => { c with pend := [(3, some ⟨.immediate, false, 7⟩)] })), 3, ⟨.immediate, false, 7⟩, by decide +kernel⟩,
    ⟨alone (twinRole 5 id), by decide +kernel⟩,
    ⟨alone (twinRole 3 id), by decide +kernel⟩,
    ⟨alone (ready), by decide +kernel⟩,
    ⟨alone (twinRole 3 id), by decide +kernel⟩,
    ⟨alone (twinRole 3 id), by decide +kernel⟩⟩

/-- States and operands that meet the hypotheses of each clause of `Obligations.ResetState`. -/
theorem witness_ResetState :
    (∃ (a : Nat), 0x200000 ≤ a ∧ a < 0x700000) :=
  ⟨0x200004, by decide +kernel⟩

end Sys2Proof.Tests
end

section
/-! SUPPORT. Fields and bits after a write, commands that leave nothing to catch up with, and the frames of shared operations. -/

namespace Sys2Proof

/-! ## Words -/

/-- A field that the write mask covers is the written one. -/
theorem Word.get_merge {m v w : Word} {lo n : Nat} (h : ∀ k < n, m.getLsbD (lo + k) = true) : (Word.merge m v w).get lo n = v.get lo n := by
  refine congrArg BitVec.toNat (BitVec.eq_of_getLsbD_eq fun k hk => ?_)
  simp [Word.merge, hk, h k hk]

/-- A bit that the write mask covers is the written one. -/
theorem Word.bit_merge {m v w : Word} {k : Nat} (h : m.getLsbD k = true) : (Word.merge m v w).bit k = v.bit k := by
  simp [Word.bit, Word.merge, h]

/-- The two halves of a number of 64 bits make it up. -/
theorem Word.join_halves {n : Nat} (h : n < 2 ^ 64) : Word.join (BitVec.ofNat 32 n) (BitVec.ofNat 32 (n / 2 ^ 32)) = n := by
  simp only [Word.join, BitVec.toNat_ofNat]
  omega

/-- A bit that has been set, or cleared, reads so. -/
theorem Word.bit_putBit (w : Word) {k : Nat} (b : Bool) (hk : k < 32) : (w.putBit k b).bit k = b := by
  cases b <;> simp [Word.putBit, Word.bit, hk]

end Sys2Proof

namespace Sys2Proof.Machine

/-! ## Commands and their frames -/

variable {d e : Device}

/-- The device as a command finds it: what the command before it sent is gone. -/
def Device.fresh (d : Device) : Device := { d with out := [] }

/-- Between `d` and `e` no time has passed, no event waits for a meter and no unreadable descriptor was met: `Device.caughtUp` has nothing to do. -/
structure Device.Still (d e : Device) : Prop where
  time : e.ttime = d.ttime
  meters : e.ivmq = d.ivmq
  descriptors : e.disp.bad = d.disp.bad

/-- A device operation that leaves nothing to catch up with decides what its command does. -/
theorem Completes.of_run {c : Instr} {s : State} {P : Device → Prop} (f : Device → Device) (hx : exec c s = s.run f)
    (he : f s.dev.fresh = e) (hs : s.dev.Still e) (hP : P e.settle) : Completes c s P := by
  subst he
  exact ⟨_, hx.trans (s.run_still f hs.time hs.meters hs.descriptors), rfl, hP⟩

theorem OnlyRegs.settle (h : OnlyRegs d e) : OnlyRegs d e.settle := by
  obtain ⟨c, hc⟩ := e.settle_eq
  rw [hc]
  exact congrArg (fun x : Device => { x with intc := c }) h

theorem RegsBut.settle {S : Nat → Prop} (h : RegsBut S d e) : RegsBut S d e.settle := fun a ha => (e.settle_reg a).trans (h a ha)

theorem MemSame.of_mem_eq (h : e.mem = d.mem) : MemSame d e := fun a => congrArg (memByte · a) h

theorem MemSame.settle (h : e.mem = d.mem) : MemSame d e.settle := .of_mem_eq (e.settle_mem.trans h)

theorem Device.reg_setReg_same (d : Device) (a : Nat) (v : Word) : (d.setReg a v).reg a = v := Tab.get_set_same _ _ _

/-- An event that occurs is raised. -/
theorem Device.bit_event (d : Device) (p : Nat) {b : Nat} (hb : b < 32) : (d.event p b).bit (Reg.PG_EVT_RAW p) b = true := by
  rw [Device.event_eq, Device.bit_eq, Device.reg_setReg_same]
  exact Word.bit_putBit _ true hb

/-- A register that is set is the only one that changes. -/
theorem RegsBut.setReg (d : Device) (a : Nat) (v : Word) : RegsBut (· = a) d (d.setReg a v) := fun b hb => by
  rw [Device.reg_setReg, if_neg hb]

/-! ## Accesses -/

/-- An admitted write of a readable register that is no half of a held-write pair, and whose block's rule accepts the value. -/
theorem Device.cmdWrite_rw {q : Requester} {a : Nat} {p : PageRow} {i j : Nat} {r : RegRow} (v : Word)
    (h : d.admitsWrite q a = true) (hp : pageAt a = some (p, i)) (h4 : a % 4 = 0) (ho : 0x40 ≤ a % 0x1000)
    (hr : findRow p.block.rows (a % 0x1000) = some (r, j)) (hacc : r.acc = .rw)
    (hlow : (heldLower p.block).contains r.off = false) (hup : (heldUpper p.block).contains r.off = false)
    (hrule : ∀ d', d.writeRule d' p.block i (a % 0x1000) j (Word.merge (BitVec.ofNat 32 r.mask) v (d.reg a)) = 0) :
    d.cmdWrite q a v =
      { d.regAct (reqNo q) p.block i r.off (a % 0x1000) j a (v.toNat &&& r.mask) (Word.merge (BitVec.ofNat 32 r.mask) v (d.reg a)) with
        last := ⟨0, false⟩ } := by
  have ha : a - a % 0x1000 + a % 0x1000 = a := Nat.sub_add_cancel (Nat.mod_le _ _)
  rw [Device.cmdWrite_block v h hp h4 ho]
  simp only [Device.blockWrite, hr, ha, hacc, hlow, hup, BitVec.ofNat_toNat, BitVec.setWidth_eq, decide_true, Bool.true_or, if_true]
  simp only [hrule]
  simp

/-- The ECC check of a read has to do with windows alone. -/
theorem Device.winEcc_page (q : Nat) (x : Ecc) {a : Nat} (h : isWindow a = false) : d.winEcc q a x = d := by
  unfold Device.winEcc
  rw [if_pos (by simp [h])]

/-! ## Levels at rest and withdrawn admissions -/

/-- Bringing a channel to rest leaves it, or sets its balls. -/
theorem Device.restChan_cases (d : Device) (n : Nat) : d.restChan n = d ∨ ∃ den dhi, d.restChan n = d.leaveBalls n den dhi := by
  unfold Device.restChan
  dsimp only
  split
  · exact .inl rfl
  split
  · exact .inr ⟨_, _, rfl⟩
  split
  · split <;> exact .inr ⟨_, _, rfl⟩
  split
  · split
    · exact .inl rfl
    · exact .inr ⟨_, _, rfl⟩
  · exact .inr ⟨_, _, rfl⟩

/-- Bringing a pier to rest changes channels alone. -/
theorem Device.restPier_eq (d : Device) (p : Nat) : ∃ c, d.restPier p = { d with chan := c } := by
  refine foldl_keep (fun e => ∃ c, e = { d with chan := c }) _ ?_ _ _ ⟨d.chan, rfl⟩
  rintro b n ⟨c, rfl⟩
  obtain h | ⟨den, dhi, h⟩ := Device.restChan_cases { d with chan := c } n
  · exact ⟨c, h⟩
  · exact ⟨_, h⟩

/-- `e` is `d` but for withdrawn admissions: LDG_ADMITTED and the events of the ledger's page (R232). -/
def OnlyWithdrawn (d e : Device) : Prop :=
  ∃ r, e = { d with regs := r } ∧ RegsBut (fun a => a = Reg.LDG_ADMITTED ∨ a = Reg.PG_EVT_RAW Page.LDG) d e

theorem Device.ldgAfter_withdraws (d d₀ : Device) : OnlyWithdrawn d (d.ldgAfter d₀) := by
  refine foldl_keep (OnlyWithdrawn d) _ ?_ _ _ ⟨d.regs, rfl, fun _ _ => rfl⟩
  rintro b s ⟨r, rfl, hr⟩
  split
  · refine ⟨_, rfl, fun a ha => ?_⟩
    obtain ⟨h1, h2⟩ := not_or.mp ha
    exact (Tab.get_set_other _ _ h2).trans ((Tab.get_set_other _ _ h1).trans (hr a ha))
  · exact ⟨r, rfl, hr⟩

end Sys2Proof.Machine
end

section
/-! PROOF. Register accesses and the pins of a pier (R9, R10, R31, R50, R54, R55). -/

namespace Sys2Proof.Machine

variable {d : Device}

/-! ## The registers -/

theorem pageAt_MGMT_CTRL : pageAt Reg.MGMT_CTRL = some (⟨.mgmt, 0x4000, 1, 0x5, 0xF, false, false, true, false⟩, 0) := by decide

theorem pageAt_PIER_CTRL (i : Fin 16) : pageAt (Reg.PIER_CTRL i.val) = some (⟨.pier, 0x50000, 16, 0x40, 0x0, false, true, false, true⟩, i.val) := by
  revert i; decide

theorem pageAt_TRS_REPLAY : pageAt Reg.TRS_REPLAY = some (⟨.trs, 0xF000, 1, 0xE, 0xFFFF011F, false, false, false, false⟩, 0) := by decide

/-- An admitted write of MGMT_CTRL. -/
theorem Device.write_MGMT_CTRL {q : Requester} (v : Word) (h : d.admitsWrite q Reg.MGMT_CTRL = true) :
    d.cmdWrite q Reg.MGMT_CTRL v = { d.setReg Reg.MGMT_CTRL (Word.merge 1 v (d.reg Reg.MGMT_CTRL)) with last := ⟨0, false⟩ } :=
  Device.cmdWrite_rw (r := ⟨0x40, 0, 1, .rw, 1, 0, 1⟩) (j := 0) v h pageAt_MGMT_CTRL rfl (by decide) (by decide) rfl rfl rfl (fun _ => rfl)

/-- An admitted read of TRS_REPLAY answers the counters and clears them (R10). -/
theorem Device.readReg_TRS_REPLAY {q : Requester} (h : d.admitsRead q Reg.TRS_REPLAY = true) :
    d.readReg (reqNo q) Reg.TRS_REPLAY true =
      { d.setReg Reg.TRS_REPLAY 0 with last := ⟨d.reg Reg.TRS_REPLAY, false⟩ } := by
  simp only [Device.admitsRead, pageAt_TRS_REPLAY] at h
  have hread : d.readAt (reqNo q) Reg.TRS_REPLAY = (d.setReg Reg.TRS_REPLAY 0, some (d.reg Reg.TRS_REPLAY)) := by
    unfold Device.readAt
    rw [if_neg (by decide), if_neg (by decide), if_neg (by decide)]
    simp only [pageAt_TRS_REPLAY, h, if_true]
    rfl
  unfold Device.readReg
  rw [hread]
  rfl

/-! ## PIER_CTRL -/

/-- An admitted write of PIER_CTRL that R31 accepts. -/
theorem Device.write_PIER_CTRL {q : Requester} (i : Fin 16) {v w : Word} (h : d.admitsWrite q (Reg.PIER_CTRL i.val) = true)
    (hw : w = Word.merge 0x1F01 v (d.reg (Reg.PIER_CTRL i.val))) (hrule : d.pierRule i.val 0x40 w = 0) :
    d.cmdWrite q (Reg.PIER_CTRL i.val) v =
      { (if w.get 8 5 = d.fld (Reg.PIER_CTRL i.val) 8 5 then d.setReg (Reg.PIER_CTRL i.val) w
          else (d.setReg (Reg.PIER_CTRL i.val) w).restPier i.val).ldgAfter d with last := ⟨0, false⟩ } := by
  subst hw
  have ho : Reg.PIER_CTRL i.val % 0x1000 = 0x40 := by unfold Reg.PIER_CTRL Page.PIER; omega
  have h4 : Reg.PIER_CTRL i.val % 4 = 0 := by omega
  have hw := Device.cmdWrite_rw (r := ⟨0x40, 0, 1, .rw, 0, 0, 0x1F01⟩) (j := 0) v h (pageAt_PIER_CTRL i) h4 (by omega) (by rw [ho]; decide) rfl rfl rfl
    (fun _ => by rw [ho]; exact hrule)
  rw [hw]
  rfl

/-- An admitted, accepted write of PIER_CTRL changes registers and channels alone, and PIER_CTRL holds the value then (R31). -/
theorem Device.write_PIER_CTRL_eq {q : Requester} (i : Fin 16) {v w : Word} (h : d.admitsWrite q (Reg.PIER_CTRL i.val) = true)
    (hw : w = Word.merge 0x1F01 v (d.reg (Reg.PIER_CTRL i.val))) (hrule : d.pierRule i.val 0x40 w = 0) :
    ∃ r c, d.cmdWrite q (Reg.PIER_CTRL i.val) v = { d with regs := r, chan := c, last := ⟨0, false⟩ } ∧
      Tab.get resetWord r (Reg.PIER_CTRL i.val) = w := by
  have hstore : ∃ c, (if w.get 8 5 = d.fld (Reg.PIER_CTRL i.val) 8 5 then d.setReg (Reg.PIER_CTRL i.val) w
      else (d.setReg (Reg.PIER_CTRL i.val) w).restPier i.val) = { d.setReg (Reg.PIER_CTRL i.val) w with chan := c } := by
    split
    · exact ⟨d.chan, rfl⟩
    · exact Device.restPier_eq _ _
  obtain ⟨c, hc⟩ := hstore
  obtain ⟨r, hr, hbut⟩ := Device.ldgAfter_withdraws { d.setReg (Reg.PIER_CTRL i.val) w with chan := c } d
  refine ⟨r, c, ?_, ?_⟩
  · rw [Device.write_PIER_CTRL i h hw hrule, hc, hr]
    rfl
  · have hne : ¬ (Reg.PIER_CTRL i.val = Reg.LDG_ADMITTED ∨ Reg.PIER_CTRL i.val = Reg.PG_EVT_RAW Page.LDG) := by
      simp only [Reg.PIER_CTRL, Reg.LDG_ADMITTED, Reg.PG_EVT_RAW, Page.PIER, Page.LDG]
      omega
    rw [hr] at hbut
    exact (hbut _ hne).trans (Tab.get_set_same _ _ _)

/-- R31 accepts a value for PIER_CTRL whose old stream is halted, and whose new one is, with the pier not gated. -/
theorem Device.pierRule_ctrl_ok {p : Nat} {w : Word} (hold : d.pierHalted p = true)
    (hnew : w.bit 12 = true → d.halted (w.get 8 4) = true ∧ d.bit Reg.PWR_PGATE p = false) : d.pierRule p 0x40 w = 0 := by
  simp only [Device.pierRule, if_true, codeIf, hold]
  rw [if_neg]
  cases hb : w.bit 12
  · simp
  · obtain ⟨hh, hg⟩ := hnew hb
    rw [Device.bit_eq] at hg
    simp [hh, hg]

/-! ## PEBUS ports -/

/-- The frame that PEB_CMDk.GO takes from PEB_TXLOk and PEB_TXHIk, cut to its length (R54, R55). -/
def Device.pebFrame (d : Device) (k cs : Nat) : Frame := ⟨cs, d.reg64 (Reg.PEB_TXLO k) (Reg.PEB_TXHI k) % 2 ^ d.pebBits k⟩

/-- An idle port takes the frame at the front of its queue, if there is one; only ports and what is sent change (R54). -/
theorem Device.pebKick_idle {k : Nat} (h : (d.pebOf k).busy = none) :
    ∃ b o, d.pebKick k = { d with peb := b, out := o } ∧
      Tab.get (fun _ => PebPort.reset) b k = ⟨(d.pebOf k).queue.tail, (d.pebOf k).queue.head?⟩ := by
  unfold Device.pebKick
  cases hq : (d.pebOf k).queue with
  | nil => exact ⟨d.peb, d.out, by rw [h], congrArg₂ PebPort.mk hq h⟩
  | cons f fs =>
    simp only [h]
    split
    · exact ⟨_, _, rfl, Tab.get_set_same _ _ _⟩
    · exact ⟨_, _, rfl, Tab.get_set_same _ _ _⟩

/-- A port that sends a frame takes no other. -/
theorem Device.pebKick_busy {k : Nat} (h : (d.pebOf k).busy.isSome = true) : d.pebKick k = d := by
  obtain ⟨f, hf⟩ := Option.isSome_iff_exists.mp h
  unfold Device.pebKick
  rw [hf]

/-- A frame written to an idle port with nothing queued is in progress at once (R55). -/
theorem Device.pebGo_idle {k cs : Nat} (h : d.pebOf k = ⟨[], none⟩) :
    ∃ b o, d.pebGo k cs = { d with peb := b, out := o } ∧
      Tab.get (fun _ => PebPort.reset) b k = ⟨[], some (d.pebFrame k cs)⟩ := by
  have hpush : (d.setPeb k ⟨[d.pebFrame k cs], none⟩).pebOf k = ⟨[d.pebFrame k cs], none⟩ := by simp
  obtain ⟨b, o, hk, hb⟩ := Device.pebKick_idle (congrArg PebPort.busy hpush)
  refine ⟨b, o, ?_, hb.trans (by rw [hpush]; rfl)⟩
  simp only [Device.pebGo, Device.pebPush, h]
  exact hk

/-- A frame written to a port that sends one joins the queue while there is room (R55). -/
theorem Device.pebGo_busy {k cs : Nat} (hb : (d.pebOf k).busy.isSome = true) (hq : (d.pebOf k).queue.length < 16) :
    ∃ b, d.pebGo k cs = { d with peb := b } ∧
      Tab.get (fun _ => PebPort.reset) b k = { d.pebOf k with queue := (d.pebOf k).queue ++ [d.pebFrame k cs] } := by
  refine ⟨_, ?_, Tab.get_set_same d.peb _ _⟩
  simp only [Device.pebGo, Device.pebPush, hq, if_true]
  exact Device.pebKick_busy (by simpa using hb)

/-- The received bits are read back after DONE is raised (R54). -/
theorem Device.reg64_received (d : Device) (k b : Nat) {n : Nat} (h : n < 2 ^ 64) :
    ((d.setReg64 (Reg.PEB_RXLO k) (Reg.PEB_RXHI k) n).event Page.PEB b).reg64 (Reg.PEB_RXLO k) (Reg.PEB_RXHI k) = n := by
  have h1 : Reg.PEB_RXLO k ≠ Reg.PEB_RXHI k := by unfold Reg.PEB_RXLO Reg.PEB_RXHI; omega
  have h2 : Reg.PEB_RXLO k ≠ Reg.PG_EVT_RAW Page.PEB := by unfold Reg.PEB_RXLO Reg.PG_EVT_RAW; omega
  have h3 : Reg.PEB_RXHI k ≠ Reg.PG_EVT_RAW Page.PEB := by unfold Reg.PEB_RXHI Reg.PG_EVT_RAW; omega
  simpa [Device.reg64, Device.setReg64, h1, h2, h3] using Word.join_halves h

/-- The end of a frame stores its bits, raises DONE and starts the next frame that is queued; beside these only what is sent changes (R54). -/
theorem Device.pebDone_eq {k rx : Nat} {f : Frame} (h : (d.pebOf k).busy = some f) :
    ∃ b o, d.pebDone k rx = { (d.setReg64 (Reg.PEB_RXLO k) (Reg.PEB_RXHI k) (rx % 2 ^ d.pebBits k)).event Page.PEB k with peb := b, out := o } ∧
      (Tab.get (fun _ => PebPort.reset) b k).busy = (d.pebOf k).queue.head? := by
  have hfree : ∀ e : Device, (e.setPeb k { d.pebOf k with busy := none }).pebOf k = { d.pebOf k with busy := none } := by simp
  obtain ⟨b, o, hk, hb⟩ := Device.pebKick_idle (congrArg PebPort.busy (hfree
    ((d.setReg64 (Reg.PEB_RXLO k) (Reg.PEB_RXHI k) (rx % 2 ^ d.pebBits k)).event Page.PEB k)))
  refine ⟨b, o, ?_, ?_⟩
  · unfold Device.pebDone
    rw [h]
    exact hk
  · rw [hfree] at hb
    exact (congrArg PebPort.busy hb :)

/-! ## The commands -/

variable {s : State} {q : Requester}

/-- A write of a plain register stores the bits of its mask and keeps the others (R10). -/
theorem mgmtCtrlWrite_completes {addr : RegAddr} {v : Word} (ha : addr.toNat = Reg.MGMT_CTRL) (h : s.dev.admitsWrite q Reg.MGMT_CTRL = true) :
    Completes (.registerWrite q addr true v) s (fun e => e.reg Reg.MGMT_CTRL = Word.merge 1 v (s.dev.reg Reg.MGMT_CTRL) ∧ e.last = ⟨0, false⟩ ∧
      RegsBut (· = Reg.MGMT_CTRL) s.dev e ∧ OnlyRegs s.dev e) := by
  have hw : s.dev.fresh.cmdWrite q addr.toNat v = _ := (congrArg (Device.cmdWrite _ q · v) ha).trans (Device.write_MGMT_CTRL v h)
  refine Completes.of_run (fun d => d.cmdWrite q addr.toNat v) rfl hw ⟨rfl, rfl, rfl⟩ ⟨?_, ?_, ?_, ?_⟩
  · exact (Device.settle_reg _ _).trans (Device.reg_setReg_same s.dev _ _)
  · exact Device.settle_last _
  · exact RegsBut.settle (RegsBut.setReg s.dev _ _)
  · exact OnlyRegs.settle rfl

/-- A write narrower than a register ends with an error (R9). -/
theorem partialWrite_completes {addr : RegAddr} {v : Word} :
    Completes (.registerWrite q addr false v) s (fun e => e.last = ⟨0, true⟩ ∧ e.regs = s.dev.regs ∧ OnlyRegs s.dev e) :=
  Completes.of_run (fun d => d.writeReg (reqNo q) addr.toNat false v) rfl rfl ⟨rfl, rfl, rfl⟩
    ⟨Device.settle_last _, Device.settle_regs _, OnlyRegs.settle rfl⟩

/-- A read of counters that clear, whatever the operand for the ECC of a window says (R10). -/
theorem replayRead_completes {addr : RegAddr} {ecc : Ecc} (ha : addr.toNat = Reg.TRS_REPLAY) (h : s.dev.admitsRead q Reg.TRS_REPLAY = true) :
    Completes (.readClear q addr ⟨true, ecc⟩) s (fun e => e.last = ⟨s.dev.reg Reg.TRS_REPLAY, false⟩ ∧ e.reg Reg.TRS_REPLAY = 0 ∧
      RegsBut (· = Reg.TRS_REPLAY) s.dev e ∧ OnlyRegs s.dev e) := by
  have hr : (s.dev.fresh.winEcc (reqNo q) addr.toNat ecc).readReg (reqNo q) addr.toNat true =
      { s.dev.fresh.setReg Reg.TRS_REPLAY 0 with last := ⟨s.dev.fresh.reg Reg.TRS_REPLAY, false⟩ } := by
    rw [ha, Device.winEcc_page _ _ (by decide)]
    exact Device.readReg_TRS_REPLAY h
  refine Completes.of_run (fun d => (d.winEcc (reqNo q) addr.toNat ecc).readReg (reqNo q) addr.toNat true) rfl hr ⟨rfl, rfl, rfl⟩ ⟨?_, ?_, ?_, ?_⟩
  · exact Device.settle_last _
  · exact (Device.settle_reg _ _).trans (Device.reg_setReg_same s.dev.fresh Reg.TRS_REPLAY 0)
  · exact RegsBut.settle (RegsBut.setReg s.dev Reg.TRS_REPLAY 0)
  · exact OnlyRegs.settle rfl

/-- PIER_CTRL changes while the old stream of the pier and the new one are halted (R31). -/
theorem pierCtrlWrite_completes {p : Fin 16} {v : Word} (h : s.dev.admitsWrite q (Reg.PIER_CTRL p.val) = true) (hold : s.dev.pierHalted p.val = true)
    (hnew : v.bit 12 = true → s.dev.halted (v.get 8 4) = true ∧ s.dev.bit Reg.PWR_PGATE p.val = false) :
    Completes (.pierCtrlWrite q p v) s (fun e =>
      e.reg (Reg.PIER_CTRL p.val) = Word.merge 0x1F01 v (s.dev.reg (Reg.PIER_CTRL p.val)) ∧ e.last = ⟨0, false⟩ ∧ MemSame s.dev e) := by
  have hrule : s.dev.pierRule p.val 0x40 (Word.merge 0x1F01 v (s.dev.reg (Reg.PIER_CTRL p.val))) = 0 := by
    refine Device.pierRule_ctrl_ok hold ?_
    rw [Word.bit_merge (by decide), Word.get_merge (by decide)]
    exact hnew
  obtain ⟨r, c, hw, hr⟩ := Device.write_PIER_CTRL_eq (d := s.dev.fresh) p h rfl hrule
  exact Completes.of_run (fun d => d.cmdWrite q (Reg.PIER_CTRL p.val) v) rfl hw ⟨rfl, rfl, rfl⟩
    ⟨(Device.settle_reg _ _).trans hr, Device.settle_last _, MemSame.settle rfl⟩

/-- STATIC_RESUME ends the hold of a pier's static channels; their levels follow (R50). -/
theorem staticResume_completes {p : Fin 16} (h : s.dev.admitsWrite q (Reg.PIER_CMD p.val) = true) (hn : s.dev.normal = true) :
    Completes (.staticResume q p) s (fun e => e.bit (Reg.PIER_STATUS p.val) 2 = false ∧ RegsBut (· = Reg.PIER_STATUS p.val) s.dev e ∧ MemSame s.dev e) := by
  obtain ⟨c, hc⟩ := Device.restPier_eq (s.dev.fresh.setBit (Reg.PIER_STATUS p.val) 2 false) p.val
  have hact : s.dev.fresh.staticResume p.val =
      { s.dev.fresh.setBit (Reg.PIER_STATUS p.val) 2 false with chan := c } := (if_pos hn).trans hc
  have hw := Device.write_PIER_CMD (d := s.dev.fresh) (v := 1) p.isLt h
  rw [if_pos (by decide), hact] at hw
  refine Completes.of_run (fun d => d.cmdWrite q (Reg.PIER_CMD p.val) 1) rfl hw ⟨rfl, rfl, rfl⟩ ⟨?_, ?_, MemSame.settle rfl⟩
  · rw [Device.bit_eq, Device.settle_reg]
    exact (congrArg (Word.bit · 2) (Device.reg_setReg_same s.dev _ _)).trans (Word.bit_putBit _ false (by decide))
  · exact RegsBut.settle (RegsBut.setReg s.dev _ _)

/-- PEB_GO is the operation of its port (R55). -/
theorem Device.write_PEB_GO {d : Device} {k : Fin 8} (cs : BitVec 2) (h : d.admitsWrite q (Reg.PEB_CMD k.val) = true) :
    d.cmdWrite q (Reg.PEB_CMD k.val) (BitVec.ofNat 32 (0x100 + cs.toNat)) = { d.pebGo k.val cs.toNat with last := ⟨0, false⟩ } := by
  have hbits : ∀ cs : BitVec 2, natBit ((BitVec.ofNat 32 (0x100 + cs.toNat)).toNat &&& 0x103) 8 = true ∧
      ((BitVec.ofNat 32 (0x100 + cs.toNat)).toNat &&& 0x103) % 4 = cs.toNat := by decide
  obtain ⟨hgo, hcs⟩ := hbits cs
  rw [Device.write_PEB_CMD _ k.isLt h, if_pos hgo, hcs]

/-- The first frame of an idle port is in progress at once (R55). -/
theorem pebGo_idle_completes {k : Fin 8} {cs : BitVec 2} (h : s.dev.admitsWrite q (Reg.PEB_CMD k.val) = true) (hidle : s.dev.pebOf k.val = ⟨[], none⟩) :
    Completes (.pebGo q k cs) s (fun e => e.pebOf k.val = ⟨[], some (s.dev.pebFrame k.val cs.toNat)⟩ ∧ e.regs = s.dev.regs ∧ MemSame s.dev e) := by
  obtain ⟨b, o, hgo, hb⟩ := Device.pebGo_idle (d := s.dev.fresh) (cs := cs.toNat) hidle
  have hw := Device.write_PEB_GO (d := s.dev.fresh) cs h
  rw [hgo] at hw
  exact Completes.of_run (fun d => d.cmdWrite q (Reg.PEB_CMD k.val) (BitVec.ofNat 32 (0x100 + cs.toNat))) rfl hw ⟨rfl, rfl, rfl⟩
    ⟨(Device.settle_pebOf _ _).trans hb, Device.settle_regs _, MemSame.settle rfl⟩

/-- A further frame waits behind those queued before it (R55). -/
theorem pebGo_busy_completes {k : Fin 8} {cs : BitVec 2} (h : s.dev.admitsWrite q (Reg.PEB_CMD k.val) = true)
    (hbusy : (s.dev.pebOf k.val).busy.isSome = true) (hroom : (s.dev.pebOf k.val).queue.length < 16) :
    Completes (.pebGo q k cs) s (fun e => (e.pebOf k.val).queue = (s.dev.pebOf k.val).queue ++ [s.dev.pebFrame k.val cs.toNat] ∧
      (e.pebOf k.val).busy = (s.dev.pebOf k.val).busy ∧ e.regs = s.dev.regs ∧ MemSame s.dev e) := by
  obtain ⟨b, hgo, hb⟩ := Device.pebGo_busy (d := s.dev.fresh) (cs := cs.toNat) hbusy hroom
  have hw := Device.write_PEB_GO (d := s.dev.fresh) cs h
  rw [hgo] at hw
  refine Completes.of_run (fun d => d.cmdWrite q (Reg.PEB_CMD k.val) (BitVec.ofNat 32 (0x100 + cs.toNat))) rfl hw ⟨rfl, rfl, rfl⟩
    ⟨?_, ?_, Device.settle_regs _, MemSame.settle rfl⟩
  · rw [Device.settle_pebOf]
    exact (congrArg PebPort.queue hb :)
  · rw [Device.settle_pebOf]
    exact (congrArg PebPort.busy hb :)

/-- A frame's end answers the bits received and starts the next frame (R54). -/
theorem pebFrameDone_completes {k : Fin 8} {rx : BitVec 64} {f : Frame} (h : (s.dev.pebOf k.val).busy = some f) :
    Completes (.pebFrameDone k rx) s (fun e => e.reg64 (Reg.PEB_RXLO k.val) (Reg.PEB_RXHI k.val) = rx.toNat % 2 ^ s.dev.pebBits k.val ∧
      e.bit (Reg.PG_EVT_RAW Page.PEB) k.val = true ∧ (e.pebOf k.val).busy = (s.dev.pebOf k.val).queue.head? ∧ MemSame s.dev e) := by
  obtain ⟨b, o, hdone, hb⟩ := Device.pebDone_eq (d := s.dev.fresh) (rx := rx.toNat) h
  refine Completes.of_run (fun d => d.pebDone k.val rx.toNat) rfl hdone ⟨rfl, rfl, rfl⟩ ⟨?_, ?_, ?_, MemSame.settle rfl⟩
  · unfold Device.reg64
    rw [Device.settle_reg, Device.settle_reg]
    exact Device.reg64_received s.dev k.val k.val (Nat.lt_of_le_of_lt (Nat.mod_le _ _) rx.isLt)
  · rw [Device.bit_eq, Device.settle_reg]
    exact Device.bit_event (s.dev.setReg64 (Reg.PEB_RXLO k.val) (Reg.PEB_RXHI k.val) (rx.toNat % 2 ^ s.dev.pebBits k.val)) Page.PEB
      (k.isLt.trans (by decide))
  · exact (congrArg PebPort.busy (Device.settle_pebOf _ _)).trans hb

/-- Settles O11: each clause is the rule of one command, whose device operation leaves nothing to catch up with. -/
theorem registersAndPins : Obligations.RegistersAndPins := by
  unfold Obligations.RegistersAndPins
  exact ⟨fun _ _ _ _ ha h => mgmtCtrlWrite_completes ha h, fun _ _ _ _ => partialWrite_completes,
    fun _ _ _ ha h _ => replayRead_completes ha h, fun _ _ _ _ h hold hnew => pierCtrlWrite_completes h hold hnew,
    fun _ _ _ h hn => staticResume_completes h hn, fun _ _ _ _ h hidle => pebGo_idle_completes h hidle,
    fun _ _ _ _ h hbusy hroom => pebGo_busy_completes h hbusy hroom, fun _ _ _ _ h => pebFrameDone_completes h⟩

end Sys2Proof.Machine
end

section
/-! PROOF. What reset leaves (R12, R355, R361, R364, R366, R418). -/

namespace Sys2Proof.Machine

/-- No register is listed after reset: each holds its reset value (R12). -/
theorem Device.reg_reset (a : Nat) : Device.reset.reg a = resetWord a := rfl

/-- The windows have no reset values but 0 (R418). -/
theorem resetWord_window {a : Nat} (hlo : 0x200000 ≤ a) (hhi : a < 0x1000000) : resetWord a = 0 := by
  unfold resetWord resetNat
  rw [if_neg (Nat.not_lt.mpr hlo), if_neg (Nat.not_le.mpr hhi)]
  rfl

/-- After reset the device is SAFE with cause POWERON (R355, R361). -/
theorem resetWord_safe :
    resetWord Reg.SAFE_CAUSE = 1 ∧ (resetWord Reg.SAFE_STATUS).get 29 2 = 1 ∧ (resetWord Reg.SAFE_STATUS).bit 31 = true := by decide

/-- After reset Keystone is at stage 0x01, the power state is WAKING, and tester time stands (R364, R366). -/
theorem Device.reset_bringUp :
    Device.reset.stage = 1 ∧ Device.reset.pwrState = 5 ∧ Device.reset.role = 0 ∧ Device.reset.kawake = false ∧ Device.reset.timeRuns = false := by
  decide

/-- After reset every stream is HALTED, and every pier held at its safe levels. -/
theorem resetWord_streams (i : Fin 16) :
    (resetWord (Reg.STR_STATUS i.val)).get 0 4 = 0 ∧ (resetWord (Reg.PIER_STATUS i.val)).bit 3 = true := by
  revert i; decide

theorem Device.reset_lst (k : Fin 4) : Device.reset.lst k.val = 0 := by
  revert k; decide

/-- The interrupt controller after reset has seen, pends and offers nothing. -/
theorem Device.reset_intcInv : Device.reset.intcInv := by
  refine ⟨fun _ hn => absurd hn List.not_mem_nil, fun n _ hn => ?_, fun _ he => absurd he List.not_mem_nil⟩
  exact absurd hn (by simp [Device.reset, IntcCtx.reset, natBit])

/-- Settles O59: nothing is listed after reset, so each register holds its reset value and each table is in canonical form. -/
theorem resetState : Obligations.ResetState := by
  unfold Obligations.ResetState
  obtain ⟨hcause, hstate, hsafe⟩ := resetWord_safe
  obtain ⟨hstage, hpwr, hrole, hawake, htime⟩ := Device.reset_bringUp
  exact ⟨rfl, (Device.reg_reset _).trans hcause, hstate, hsafe, hstage, hpwr, hrole, hawake, htime, resetWord_streams, Device.reset_lst,
    fun a hlo hhi => (Device.reg_reset a).trans <| resetWord_window hlo (hhi.trans (by decide)), rfl, rfl, Device.reset_intcInv⟩

end Sys2Proof.Machine
end

section
/-! PROOF. Split reads and held writes (R17, R73). -/

namespace Sys2Proof.Machine

variable {d : Device} {s : State} {q : Requester}

/-! ## Split reads -/

theorem pageAt_TIME_NOW_LO : pageAt Reg.TIME_NOW_LO = some (⟨.time, 0xD000, 1, 0xC, 0x3, false, false, false, false⟩, 0) := by decide

/-- An admitted read of TIME_NOW_LO answers the low half and latches the high half and the epoch (R17, R311). -/
theorem Device.readReg_TIME_NOW_LO (h : d.admitsRead q Reg.TIME_NOW_LO = true) :
    d.readReg (reqNo q) Reg.TIME_NOW_LO true =
      { d.setLatch (reqNo q) Reg.TIME_NOW_LO (BitVec.ofNat 32 (d.ttimeNow / 2 ^ 32)) with last := ⟨BitVec.ofNat 32 d.ttimeNow, false⟩ } := by
  simp only [Device.admitsRead, pageAt_TIME_NOW_LO] at h
  have hread : d.readAt (reqNo q) Reg.TIME_NOW_LO =
      (d.setLatch (reqNo q) Reg.TIME_NOW_LO (BitVec.ofNat 32 (d.ttimeNow / 2 ^ 32)), some (BitVec.ofNat 32 d.ttimeNow)) := by
    unfold Device.readAt
    rw [if_neg (by decide), if_neg (by decide), if_neg (by decide)]
    simp only [pageAt_TIME_NOW_LO, h, if_true]
    rfl
  unfold Device.readReg
  rw [hread]
  rfl

/-- What a read of a lower register latches is there for its requester. -/
theorem Device.setLatch_rlatch (d : Device) (r a : Nat) (up : Word) :
    Tab.get (fun _ => none) (d.setLatch r a up).rlatch r = some (a + 4, up) := by
  simp [Device.setLatch]

theorem Device.setLatch_elatch (d : Device) (r : Nat) (up : Word) :
    Tab.get (fun _ => none) (d.setLatch r Reg.TIME_NOW_LO up).elatch r = some (d.reg Reg.TIME_EPOCH) := by
  simp [Device.setLatch]

@[simp] theorem Device.settle_elatch (d : Device) : d.settle.elatch = d.elatch := by
  obtain ⟨c, hc⟩ := d.settle_eq
  rw [hc]

theorem splitReadLow_completes {addr : RegAddr} (ha : addr.toNat = Reg.TIME_NOW_LO) (h : s.dev.admitsRead q Reg.TIME_NOW_LO = true) :
    Completes (.splitReadLow q addr) s (fun e => e.last = ⟨BitVec.ofNat 32 s.dev.ttimeNow, false⟩ ∧
      Tab.get (fun _ => none) e.rlatch (reqNo q) = some (Reg.TIME_NOW_LO + 4, BitVec.ofNat 32 (s.dev.ttimeNow / 2 ^ 32)) ∧
      Tab.get (fun _ => none) e.elatch (reqNo q) = some (s.dev.reg Reg.TIME_EPOCH) ∧ e.regs = s.dev.regs ∧ MemSame s.dev e) := by
  have hr : s.dev.fresh.readReg (reqNo q) addr.toNat true = _ := (congrArg (Device.readReg _ _ · true) ha).trans (Device.readReg_TIME_NOW_LO h)
  refine Completes.of_run (fun d => d.readReg (reqNo q) addr.toNat true) rfl hr ⟨rfl, rfl, rfl⟩
    ⟨Device.settle_last _, ?_, ?_, Device.settle_regs _, MemSame.settle rfl⟩
  · rw [Device.settle_rlatch]
    exact Device.setLatch_rlatch s.dev _ _ _
  · rw [Device.settle_elatch]
    exact Device.setLatch_elatch s.dev _ 0

/-! ## Held writes -/

/-- An admitted write of the sequence store is neither journalled nor turned away (R73, R399). -/
theorem Device.cmdWrite_seq {a : Nat} (v : Word) (hseq : isSeqWindow a = true) (h4 : a % 4 = 0) (h : d.admitsWindow q a = true) :
    d.cmdWrite q a v = { (d.seqWrite (reqNo q) a v.toNat).dev with last := ⟨0, (d.seqWrite (reqNo q) a v.toNat).error⟩ } := by
  obtain ⟨hlo, hhi⟩ : 0x400000 ≤ a ∧ a < 0x600000 := of_decide_eq_true hseq
  have hmir : mirrored a = true := by simp [mirrored]; omega
  have hwin : isWindow a = true := by simp [isWindow]; omega
  simp only [Device.admitsWindow, hmir, Bool.and_true, Bool.and_eq_true, Bool.not_eq_true', Bool.and_eq_false_iff, decide_eq_false_iff_not,
    Decidable.not_not] at h
  obtain ⟨⟨hreach, hrole⟩, hwait⟩ := h
  have hrole : reqNo q = 0 → d.role = 0 := fun h0 => hrole.resolve_left (not_not.mpr (reqNo_eq_zero.mp h0))
  have hwait : ¬ (reqNo q = 0 ∧ d.hostWaits = true) := fun ⟨h0, hw⟩ =>
    Bool.false_ne_true ((hwait.resolve_left (not_not.mpr (reqNo_eq_zero.mp h0))).symm.trans hw)
  have htarget : d.targetWrite (reqNo q) a v.toNat = d.seqWrite (reqNo q) a v.toNat := by
    unfold Device.targetWrite Device.windowWrite
    rw [if_pos hwin, if_pos hreach, if_neg (by omega), if_pos hhi]
  have hwrite : d.writeAt (reqNo q) a v.toNat = d.seqWrite (reqNo q) a v.toNat := by
    unfold Device.writeAt
    rw [if_neg (by omega), if_neg (by omega), if_neg (fun ⟨h0, hr, _⟩ => by have := hrole h0; omega)]
    dsimp only
    rw [if_neg (fun ⟨h0, hr, _⟩ => by have := hrole h0; omega), htarget]
  unfold Device.cmdWrite Device.writeReg
  rw [if_neg (by decide), if_neg hwait, hwrite]

/-- The lower word is held for its requester (R73). -/
theorem Device.write_seqLower {a : Nat} (v : Word) (hseq : isSeqWindow a = true) (h8 : a % 8 = 0) (h : d.admitsWindow q a = true) :
    d.cmdWrite q a v = { d.hold (reqNo q) (a + 4) v with last := ⟨0, false⟩ } := by
  rw [Device.cmdWrite_seq v hseq (by omega) h, Device.seqWrite, if_pos h8, BitVec.ofNat_toNat, BitVec.setWidth_eq]

/-- The upper word is stored with the lower one that is held for its requester (R73). -/
theorem Device.write_seqUpper {a : Nat} (v : Word) {lo : Word} (hseq : isSeqWindow a = true) (h8 : a % 8 = 4) (h : d.admitsWindow q a = true)
    (hheld : d.heldFor (reqNo q) a = some lo) :
    d.cmdWrite q a v = { ((((d.setReg (a - 4) lo).setReg a v).setWinUE a false).unhold (reqNo q)) with last := ⟨0, false⟩ } := by
  rw [Device.cmdWrite_seq v hseq (by omega) h, Device.seqWrite, if_neg (by omega), hheld]
  simp only [Device.setRegN_eq, BitVec.ofNat_toNat, BitVec.setWidth_eq]

theorem Device.heldFor_hold (d : Device) (q a : Nat) (w : Word) : (d.hold q a w).heldFor q a = some w := by
  simp [Device.heldFor, Device.hold]

theorem Device.heldFor_unhold (d : Device) (q a : Nat) : (d.unhold q).heldFor q a = none := by
  simp [Device.heldFor, Device.unhold]

theorem Device.heldFor_congr {e : Device} (h : e.wlatch = d.wlatch) (q a : Nat) : e.heldFor q a = d.heldFor q a := by
  unfold Device.heldFor
  rw [h]

theorem heldWriteLower_completes {addr : RegAddr} {v : Word} (hseq : isSeqWindow addr.toNat = true) (h8 : addr.toNat % 8 = 0)
    (h : s.dev.admitsWindow q addr.toNat = true) :
    Completes (.heldWriteLower q addr v) s (fun e => e.heldFor (reqNo q) (addr.toNat + 4) = some v ∧ e.last = ⟨0, false⟩ ∧
      e.regs = s.dev.regs ∧ MemSame s.dev e) := by
  refine Completes.of_run (fun d => d.cmdWrite q addr.toNat v) rfl (Device.write_seqLower (d := s.dev.fresh) v hseq h8 h) ⟨rfl, rfl, rfl⟩
    ⟨?_, Device.settle_last _, Device.settle_regs _, MemSame.settle rfl⟩
  exact (Device.heldFor_congr (Device.settle_wlatch _) _ _).trans (Device.heldFor_hold _ _ _ _)

theorem Device.winUE_setWinUE (d : Device) (a : Nat) (b : Bool) : (d.setWinUE a b).winUE a = b := by
  simp [Device.winUE, Device.setWinUE]

/-- What the ECC found of a word changes its poison alone. -/
theorem Device.noteUE_eq (d : Device) (a : Nat) (found : Bool) : ∃ p, d.noteUE a found = { d with poison := p } := by
  cases found
  · exact ⟨_, rfl⟩
  · exact ⟨_, rfl⟩

theorem heldWriteUpper_completes {addr : RegAddr} {v lo : Word} {ue : Bool} (hseq : isSeqWindow addr.toNat = true) (h8 : addr.toNat % 8 = 4)
    (h : s.dev.admitsWindow q addr.toNat = true) (hheld : s.dev.heldFor (reqNo q) addr.toNat = some lo) :
    Completes (.heldWriteUpper q addr v ue) s (fun e => e.reg addr.toNat = v ∧ e.reg (addr.toNat - 4) = lo ∧ e.winUE addr.toNat = false ∧
      e.heldFor (reqNo q) addr.toNat = none ∧ e.last = ⟨0, false⟩ ∧
      RegsBut (fun a => a = addr.toNat ∨ a = addr.toNat - 4) s.dev e ∧ MemSame s.dev e) := by
  have hne : addr.toNat - 4 ≠ addr.toNat := by omega
  obtain ⟨p, hp⟩ := s.dev.fresh.noteUE_eq addr.toNat (ue && isSeqWindow addr.toNat)
  have hw := Device.write_seqUpper (d := { s.dev.fresh with poison := p }) v hseq h8 h hheld
  refine Completes.of_run (fun d => (d.noteUE addr.toNat (ue && isSeqWindow addr.toNat)).cmdWrite q addr.toNat v) rfl
    ((congrArg (Device.cmdWrite · q addr.toNat v) hp).trans hw) ⟨rfl, rfl, rfl⟩ ⟨?_, ?_, ?_, ?_, Device.settle_last _, fun a ha => ?_, MemSame.settle rfl⟩
  · exact (Device.settle_reg _ _).trans (Tab.get_set_same _ _ _)
  · exact (Device.settle_reg _ _).trans ((Tab.get_set_other _ _ hne).trans (Tab.get_set_same _ _ _))
  · unfold Device.winUE
    rw [Device.settle_poison]
    exact Device.winUE_setWinUE { s.dev with poison := p } addr.toNat false
  · exact (Device.heldFor_congr (Device.settle_wlatch _) _ _).trans (Device.heldFor_unhold _ _ _)
  · obtain ⟨hup, hlow⟩ := not_or.mp ha
    exact (Device.settle_reg _ _).trans ((Tab.get_set_other _ _ hup).trans (Tab.get_set_other _ _ hlow))

/-- Settles O7: the latches of a requester take what one access leaves for the next, and nothing else changes before the second. -/
theorem splitAndHeld : Obligations.SplitAndHeld := by
  unfold Obligations.SplitAndHeld
  exact ⟨fun _ _ _ ha h => splitReadLow_completes ha h, fun _ _ _ _ hseq h8 h => heldWriteLower_completes hseq h8 h,
    fun _ _ _ _ _ _ hseq h8 h hheld => heldWriteUpper_completes hseq h8 h hheld⟩

end Sys2Proof.Machine
end

section
/-! SUPPORT. Fields and bits of a word after another of its fields was written. -/

namespace Sys2Proof

/-- A bit of a word after a field was put into it. -/
theorem Word.getLsbD_put (w : Word) (lo n v k : Nat) :
    (w.put lo n v).getLsbD k = if lo ≤ k ∧ k < lo + n ∧ k < 32 then v.testBit (k - lo) else w.getLsbD k := by
  by_cases hk : k < 32
  · by_cases hin : lo ≤ k ∧ k < lo + n
    · obtain ⟨h1, h2⟩ := hin
      have h3 : k - lo < n := by omega
      have h4 : (BitVec.ofNat n v).getLsbD (k - lo) = v.testBit (k - lo) := by rw [BitVec.getLsbD_ofNat]; simp [h3]
      have h5 : k - lo < 32 := by omega
      simp [Word.put, hk, h1, h2, h3, h4, h5, Nat.not_lt.mpr h1, -BitVec.getLsbD_eq_getElem]
    · rw [if_neg (by omega)]
      obtain h | h : k < lo ∨ n ≤ k - lo := by omega
      · simp [Word.put, hk, h]
      · simp [Word.put, hk, BitVec.getLsbD_of_ge _ _ h]
  · rw [if_neg (by omega), BitVec.getLsbD_of_ge _ _ (by omega), BitVec.getLsbD_of_ge _ _ (by omega)]

/-- A field reads as it was put. -/
theorem Word.get_put_same (w : Word) {lo n : Nat} (v : Nat) (h : lo + n ≤ 32) : (w.put lo n v).get lo n = v % 2 ^ n := by
  refine Nat.eq_of_testBit_eq fun k => ?_
  rw [Word.get, BitVec.testBit_toNat, BitVec.getLsbD_extractLsb', Word.getLsbD_put, Nat.testBit_mod_two_pow]
  by_cases hk : k < n
  · simp [hk]
    omega
  · simp [hk]

/-- A field that another one does not overlap keeps its value. -/
theorem Word.get_put_other (w : Word) {lo n lo' n' : Nat} (v : Nat) (h : lo' + n' ≤ lo ∨ lo + n ≤ lo') :
    (w.put lo n v).get lo' n' = w.get lo' n' := by
  refine congrArg BitVec.toNat (BitVec.eq_of_getLsbD_eq fun k hk => ?_)
  rw [BitVec.getLsbD_extractLsb', BitVec.getLsbD_extractLsb', Word.getLsbD_put, if_neg (by omega)]

/-- A bit outside the field that was put keeps its value. -/
theorem Word.bit_put_other (w : Word) {lo n k : Nat} (v : Nat) (h : k < lo ∨ lo + n ≤ k) : (w.put lo n v).bit k = w.bit k :=
  (Word.getLsbD_put w lo n v k).trans (if_neg (by omega))

/-- Another bit than the one that was set or cleared keeps its value. -/
theorem Word.bit_putBit_other (w : Word) {i k : Nat} (b : Bool) (h : k ≠ i) : (w.putBit i b).bit k = w.bit k := by
  by_cases hk : k < 32
  · cases b <;> simp [Word.putBit, Word.bit, hk] <;> omega
  · exact (BitVec.getLsbD_of_ge _ _ (by omega)).trans (BitVec.getLsbD_of_ge _ _ (by omega)).symm

/-- A field that holds none of the bit set or cleared keeps its value. -/
theorem Word.get_putBit_other (w : Word) {i lo n : Nat} (b : Bool) (h : i < lo ∨ lo + n ≤ i) : (w.putBit i b).get lo n = w.get lo n := by
  refine congrArg BitVec.toNat (BitVec.eq_of_getLsbD_eq fun k hk => ?_)
  rw [BitVec.getLsbD_extractLsb', BitVec.getLsbD_extractLsb']
  exact congrArg (_ && ·) (Word.bit_putBit_other w b (by omega))

end Sys2Proof
end

section
/-! PROOF. Requests for a power state (R22, R24, R25, R27). -/

namespace Sys2Proof.Machine

variable {d e : Device} {s : State} {q : Requester}

/-! ## What a request is refused for -/

/-- Whether a request is refused is read from STR_STATUS, IVM_STATUS, the DMA queues, and the contexts of streams, capture engines and the link (R22). -/
theorem Device.dozeRefusal_congr (hreg : ∀ a, a ≠ Reg.PWR_REQ → e.reg a = d.reg a) (hstr : e.str = d.str) (hcap : e.cap = d.cap)
    (htrs : e.trs = d.trs) : e.dozeRefusal = d.dozeRefusal := by
  have hfld {a lo n : Nat} (ha : a ≠ Reg.PWR_REQ) : e.fld a lo n = d.fld a lo n := congrArg (Word.get · lo n) (hreg a ha)
  have hbit {a k : Nat} (ha : a ≠ Reg.PWR_REQ) : e.bit a k = d.bit a k := congrArg (Word.bit · k) (hreg a ha)
  have hregN {a : Nat} (ha : a ≠ Reg.PWR_REQ) : e.regN a = d.regN a := congrArg BitVec.toNat (hreg a ha)
  have hstate : e.strState = d.strState := funext fun i => hfld (by unfold Reg.STR_STATUS Reg.PWR_REQ Page.STR Page.PWR; omega)
  have hmeter : e.ivmBusy = d.ivmBusy := funext fun i => by
    have : e.ivmState i = d.ivmState i := hfld (by unfold Reg.IVM_STATUS Reg.PWR_REQ Page.IVM Page.PWR; omega)
    unfold Device.ivmBusy
    rw [this]
  have hdma : e.dmaPosted = d.dmaPosted := by
    have hq (q : Nat) : e.dmaBusy q = d.dmaBusy q ∧ e.bit (Reg.TRS_DQ_CTRL q) 31 = d.bit (Reg.TRS_DQ_CTRL q) 31 ∧
        e.regN (Reg.TRS_DQ_HEAD q) = d.regN (Reg.TRS_DQ_HEAD q) ∧ e.regN (Reg.TRS_DQ_TAIL q) = d.regN (Reg.TRS_DQ_TAIL q) := by
      refine ⟨hbit ?_, hbit ?_, hregN ?_, hregN ?_⟩ <;>
        simp only [Reg.TRS_DQ_STAT, Reg.TRS_DQ_CTRL, Reg.TRS_DQ_HEAD, Reg.TRS_DQ_TAIL, Reg.PWR_REQ, Page.TRS, Page.PWR] <;> omega
    unfold Device.dmaPosted
    simp only [hq]
  unfold Device.dozeRefusal Device.halted Device.strOf Device.capOf
  rw [hstate, hmeter, hdma, hstr, hcap, htrs]

theorem Device.dozeRefusal_request (d : Device) (v : Word) : (d.setReg Reg.PWR_REQ v).dozeRefusal = d.dozeRefusal :=
  Device.dozeRefusal_congr (fun _ ha => Tab.get_set_other _ _ ha) rfl rfl rfl

/-- The codes with which a request is refused. -/
theorem Device.dozeRefusal_lt {c : Nat} (h : d.dozeRefusal = some c) : c < 256 := by
  unfold Device.dozeRefusal at h
  grind

/-! ## The request in each state -/

theorem Device.pwrState_request (d : Device) (v : Word) : (d.setReg Reg.PWR_REQ v).pwrState = d.pwrState :=
  congrArg (Word.get · 0 3) (Tab.get_set_other _ _ (by decide))

theorem Device.calState_request (d : Device) (v : Word) : (d.setReg Reg.PWR_REQ v).calState = d.calState :=
  congrArg (Word.get · 0 3) (Tab.get_set_other _ _ (by decide))

/-- A calibration that is IDLE has nothing to discard. -/
theorem Device.calDoze_idle (h : d.calState = 0) : d.calDoze = d := if_pos h

/-- While a transition is in progress the request is held (R27). -/
theorem Device.pwrReq_held {v : Nat} (h : d.pwrState = 4 ∨ d.pwrState = 5) :
    d.pwrReq v = (d.setReg Reg.PWR_REQ (BitVec.ofNat 32 (v % 8))).modPwr (fun p => { p with held := some (v % 8) }) := by
  unfold Device.pwrReq
  rw [Device.setRegN_eq, if_pos (by rwa [Device.pwrState_request])]

/-- With no transition in progress the request is acted on. -/
theorem Device.pwrReq_acts {v : Nat} (h : d.pwrState ≠ 4 ∧ d.pwrState ≠ 5) :
    d.pwrReq v = (d.setReg Reg.PWR_REQ (BitVec.ofNat 32 (v % 8))).pwrAct v := by
  unfold Device.pwrReq
  rw [Device.setRegN_eq, if_neg (by rw [Device.pwrState_request]; omega)]

/-- READY wakes the device from DOZE and from RETAIN (R24, R25). -/
theorem Device.pwrAct_wake {v : Nat} (hv : v % 4 = 0) (h : d.pwrState = 2 ∨ d.pwrState = 3) :
    d.pwrAct v = (d.setFld Reg.PWR_STATE 0 3 5).modPwr
      (fun p => { p with phase := 1, zfill := if d.pwrState = 3 then some (1 - p.keep) else none }) := by
  unfold Device.pwrAct
  simp only [hv, if_pos h]

/-- DOZE (`t = 1`) or RETAIN (`t = 2`), asked for in READY or RUN, is entered when nothing stands against it (R22, R250). -/
theorem Device.pwrAct_enter {v t : Nat} (hv : v % 4 = t) (ht : t = 1 ∨ t = 2) (h : d.pwrState ≤ 1) (hok : d.dozeRefusal = none) :
    d.pwrAct v = ((d.modPwr (fun p => { p with target := t, keep := v / 4 % 2 })).setFld Reg.PWR_STATE 0 3 4).calDoze := by
  have h2 : d.pwrState ≠ 2 := by omega
  have h3 : d.pwrState ≠ 3 := by omega
  unfold Device.pwrAct
  obtain rfl | rfl := ht
  · simp only [hv, if_neg h2, if_neg h3, hok]
  · simp only [hv, if_neg h3, hok]

/-- DOZE, asked for in READY or RUN, is refused with the code of what stands against it (R22). -/
theorem Device.pwrAct_refused {v c : Nat} (hv : v % 4 = 1) (h : d.pwrState ≤ 1) (hc : d.dozeRefusal = some c) :
    d.pwrAct v = d.pwrRefuse c := by
  have h2 : d.pwrState ≠ 2 := by omega
  have h3 : d.pwrState ≠ 3 := by omega
  unfold Device.pwrAct
  simp only [hv, if_neg h2, if_neg h3, hc]

/-- A request for DOZE or RETAIN that nothing stands against starts the entry. -/
theorem Device.pwrReq_enter {v t : Nat} (hv : v % 4 = t) (ht : t = 1 ∨ t = 2) (h : d.pwrState ≤ 1) (hok : d.dozeRefusal = none)
    (hcal : d.calState = 0) :
    d.pwrReq v = ((d.setReg Reg.PWR_REQ (BitVec.ofNat 32 (v % 8))).modPwr (fun p => { p with target := t, keep := v / 4 % 2 })).setFld
      Reg.PWR_STATE 0 3 4 := by
  rw [Device.pwrReq_acts (by omega), Device.pwrAct_enter hv ht (by rwa [Device.pwrState_request]) (by rwa [Device.dozeRefusal_request])]
  refine Device.calDoze_idle ?_
  have hkeep : (((d.setReg Reg.PWR_REQ (BitVec.ofNat 32 (v % 8))).modPwr (fun p => { p with target := t, keep := v / 4 % 2 })).setFld
      Reg.PWR_STATE 0 3 4).calState = (d.setReg Reg.PWR_REQ (BitVec.ofNat 32 (v % 8))).calState :=
    congrArg (Word.get · 0 3) (Tab.get_set_other _ _ (by decide))
  rw [hkeep, Device.calState_request, hcal]

/-- A request for DOZE that something stands against is refused. -/
theorem Device.pwrReq_refused {v c : Nat} (hv : v % 4 = 1) (h : d.pwrState ≤ 1) (hc : d.dozeRefusal = some c) :
    d.pwrReq v = (d.setReg Reg.PWR_REQ (BitVec.ofNat 32 (v % 8))).pwrRefuse c := by
  rw [Device.pwrReq_acts (by omega), Device.pwrAct_refused hv (by rwa [Device.pwrState_request]) (by rwa [Device.dozeRefusal_request])]

/-! ## The commands -/

/-- A command that sets a register changes no other. -/
theorem RegsBut.of_setReg {r : Nat} {v : Word} (h : e.regs = (d.setReg r v).regs) : RegsBut (· = r) d e.settle := fun a ha => by
  rw [Device.settle_reg, Device.reg, h]
  exact Tab.get_set_other _ _ ha

/-- A request changes PWR_REQ and a field of PWR_STATE. -/
theorem RegsBut.request {v w : Word} (h : e.regs = ((d.setReg Reg.PWR_REQ v).setReg Reg.PWR_STATE w).regs) :
    RegsBut (fun a => a = Reg.PWR_REQ ∨ a = Reg.PWR_STATE) d e.settle := fun a ha => by
  obtain ⟨hreq, hstate⟩ := not_or.mp ha
  rw [Device.settle_reg, Device.reg, h]
  exact (Tab.get_set_other _ _ hstate).trans (Tab.get_set_other _ _ hreq)

/-- A refused request leaves its code in PWR_STATE. -/
theorem Device.reg_pwrRefuse (d : Device) (v : Word) (c : Nat) :
    ((d.setReg Reg.PWR_REQ v).pwrRefuse c).reg Reg.PWR_STATE = (d.reg Reg.PWR_STATE).put 8 8 c := by
  have h1 : Reg.PWR_STATE ≠ Reg.PWR_REQ := by decide
  have h2 : Reg.PWR_STATE ≠ Reg.PG_EVT_RAW Page.PWR := by decide
  simp [Device.pwrRefuse, h1, h2]

/-- STATE of PWR_STATE reads as it was set. -/
theorem Device.pwrState_of_put {w : Word} {st : Nat} (h : e.reg Reg.PWR_STATE = w.put 0 3 st) (hst : st < 8) : e.settle.pwrState = st := by
  unfold Device.pwrState
  rw [Device.fld_eq, Device.settle_reg, h, Word.get_put_same _ _ (by decide)]
  exact Nat.mod_eq_of_lt hst

theorem pwrReqReady_completes (h : s.dev.admitsWrite q Reg.PWR_REQ = true) (hst : s.dev.pwrState = 2 ∨ s.dev.pwrState = 3) :
    Completes (.pwrReqReady q) s (fun e => e.pwrState = 5 ∧ e.pwr.phase = 1 ∧ e.last = ⟨0, false⟩ ∧
      e.pwr.zfill = (if s.dev.pwrState = 3 then some (1 - s.dev.pwr.keep) else none) ∧
      RegsBut (fun a => a = Reg.PWR_REQ ∨ a = Reg.PWR_STATE) s.dev e ∧ MemSame s.dev e) := by
  have hw := Device.write_PWR_REQ (d := s.dev.fresh) (0 : Word) h
  have hst' : s.dev.fresh.pwrState = 2 ∨ s.dev.fresh.pwrState = 3 := hst
  rw [Device.pwrReq_acts (d := s.dev.fresh) (by omega), Device.pwrAct_wake rfl (by rwa [Device.pwrState_request]), Device.pwrState_request] at hw
  refine Completes.of_run (fun d => d.cmdWrite q Reg.PWR_REQ 0) rfl hw ⟨rfl, rfl, rfl⟩
    ⟨Device.pwrState_of_put (Tab.get_set_same _ _ _) (by decide), ?_, Device.settle_last _, ?_,
      RegsBut.request rfl, MemSame.settle rfl⟩
  · rw [Device.settle_pwr]
    rfl
  · rw [Device.settle_pwr]
    rfl

/-- What an entry that is started leaves, whatever it is for. -/
theorem pwrReq_enter_completes {c : Instr} {v : Word} {t : Nat} (hx : exec c s = s.run (fun d => d.cmdWrite q Reg.PWR_REQ v))
    (hv : (v.toNat &&& 7) % 4 = t) (ht : t = 1 ∨ t = 2) (h : s.dev.admitsWrite q Reg.PWR_REQ = true) (hst : s.dev.pwrState ≤ 1)
    (hok : s.dev.dozeRefusal = none) (hcal : s.dev.calState = 0) :
    Completes c s (fun e => e.pwrState = 4 ∧ e.pwr.target = t ∧ e.pwr.keep = (v.toNat &&& 7) / 4 % 2 ∧ e.last = ⟨0, false⟩ ∧
      RegsBut (fun a => a = Reg.PWR_REQ ∨ a = Reg.PWR_STATE) s.dev e ∧ MemSame s.dev e) := by
  have hw := Device.write_PWR_REQ (d := s.dev.fresh) v h
  rw [Device.pwrReq_enter (d := s.dev.fresh) hv ht hst hok hcal] at hw
  refine Completes.of_run _ hx hw ⟨rfl, rfl, rfl⟩
    ⟨Device.pwrState_of_put (Tab.get_set_same _ _ _) (by decide), ?_, ?_, Device.settle_last _,
      RegsBut.request rfl, MemSame.settle rfl⟩
  · rw [Device.settle_pwr]
    rfl
  · rw [Device.settle_pwr]
    rfl

theorem Completes.mono {c : Instr} {P Q : Device → Prop} (h : Completes c s P) (hPQ : ∀ e, P e → Q e) : Completes c s Q := by
  obtain ⟨t, hx, hp, hP⟩ := h
  exact ⟨t, hx, hp, hPQ _ hP⟩

theorem pwrReqDoze_completes (h : s.dev.admitsWrite q Reg.PWR_REQ = true) (hst : s.dev.pwrState ≤ 1) (hok : s.dev.dozeRefusal = none)
    (hcal : s.dev.calState = 0) :
    Completes (.pwrReqDoze q) s (fun e => e.pwrState = 4 ∧ e.pwr.target = 1 ∧ e.last = ⟨0, false⟩ ∧
      RegsBut (fun a => a = Reg.PWR_REQ ∨ a = Reg.PWR_STATE) s.dev e ∧ MemSame s.dev e) :=
  (pwrReq_enter_completes (v := 1) rfl rfl (.inl rfl) h hst hok hcal).mono fun _ ⟨hstate, htarget, _, hrest⟩ => ⟨hstate, htarget, hrest⟩

theorem pwrReqRetain_completes {b : Bool} (h : s.dev.admitsWrite q Reg.PWR_REQ = true) (hst : s.dev.pwrState ≤ 1) (hok : s.dev.dozeRefusal = none)
    (hcal : s.dev.calState = 0) :
    Completes (.pwrReqRetain q b) s (fun e => e.pwrState = 4 ∧ e.pwr.target = 2 ∧ e.pwr.keep = (if b then 1 else 0) ∧ e.last = ⟨0, false⟩ ∧
      RegsBut (fun a => a = Reg.PWR_REQ ∨ a = Reg.PWR_STATE) s.dev e ∧ MemSame s.dev e) := by
  cases b
  · exact pwrReq_enter_completes (v := 2) rfl rfl (.inr rfl) h hst hok hcal
  · exact pwrReq_enter_completes (v := 6) rfl rfl (.inr rfl) h hst hok hcal

theorem pwrReqDoze_refused {c : Nat} (h : s.dev.admitsWrite q Reg.PWR_REQ = true) (hst : s.dev.pwrState ≤ 1) (hc : s.dev.dozeRefusal = some c) :
    Completes (.pwrReqDoze q) s (fun e => e.pwrState = s.dev.pwrState ∧ e.fld Reg.PWR_STATE 8 8 = c ∧
      e.bit (Reg.PG_EVT_RAW Page.PWR) 1 = true) := by
  have hw := Device.write_PWR_REQ (d := s.dev.fresh) (1 : Word) h
  rw [Device.pwrReq_refused (d := s.dev.fresh) rfl hst hc] at hw
  refine Completes.of_run (fun d => d.cmdWrite q Reg.PWR_REQ 1) rfl hw ⟨rfl, rfl, rfl⟩ ⟨?_, ?_, ?_⟩
  · rw [Device.pwrState, Device.fld_eq, Device.settle_reg]
    exact (congrArg (Word.get · 0 3) (Device.reg_pwrRefuse s.dev _ c)).trans (Word.get_put_other _ _ (.inl (by decide)))
  · rw [Device.fld_eq, Device.settle_reg]
    refine (congrArg (Word.get · 8 8) (Device.reg_pwrRefuse s.dev _ c)).trans ((Word.get_put_same _ _ (by decide)).trans ?_)
    exact Nat.mod_eq_of_lt (Device.dozeRefusal_lt hc)
  · rw [Device.bit_eq, Device.settle_reg]
    exact Device.bit_event ((s.dev.setReg Reg.PWR_REQ 1).setFld Reg.PWR_STATE 8 8 c) Page.PWR (by decide)

theorem pwrReqDoze_held (h : s.dev.admitsWrite q Reg.PWR_REQ = true) (hst : s.dev.pwrState = 4 ∨ s.dev.pwrState = 5) :
    Completes (.pwrReqDoze q) s (fun e => e.pwr = { s.dev.pwr with held := some 1 } ∧ RegsBut (· = Reg.PWR_REQ) s.dev e) := by
  have hw := Device.write_PWR_REQ (d := s.dev.fresh) (1 : Word) h
  rw [Device.pwrReq_held (d := s.dev.fresh) hst] at hw
  exact Completes.of_run (fun d => d.cmdWrite q Reg.PWR_REQ 1) rfl hw ⟨rfl, rfl, rfl⟩
    ⟨Device.settle_pwr _, RegsBut.of_setReg (v := 1) rfl⟩

/-- Settles O2: the state of the device, and what stands against DOZE, decide which of its four answers a request gets. -/
theorem powerRequests : Obligations.PowerRequests := by
  unfold Obligations.PowerRequests
  exact ⟨fun _ _ h hst => pwrReqReady_completes h hst, fun _ _ h hst hok hcal => pwrReqDoze_completes h hst hok hcal,
    fun _ _ _ h hst hok hcal => pwrReqRetain_completes h hst hok hcal, fun _ _ _ h hst hc => pwrReqDoze_refused h hst hc,
    fun _ _ h hst => pwrReqDoze_held h hst⟩

end Sys2Proof.Machine
end

section
/-! SUPPORT. What the operations behind a change of clock, power or safe state leave as it is: the CHIP, CLK and PWR pages but for STATE, the state
of the memory, SAFE_CAUSE but for causes that are added, tester time, the context of the power states, and channels that drive nothing while the TCLK
or the pier PLL is unlocked. -/

namespace Sys2Proof.Machine

/-- A register that the frame `Kept` lets change. -/
abbrev Loose (a : Nat) : Prop := 0x3000 ≤ a ∧ a ≠ Reg.MEM_STATUS ∧ a ≠ Reg.SAFE_CAUSE

/-- `e` comes after `d` with clocks, power and time as they were, no cause of the safe state gone, and no channel driven that was not, without both its clocks. -/
structure Kept (d e : Device) : Prop where
  regs : ∀ a, (a < 0x3000 ∧ a ≠ Reg.PWR_STATE) ∨ a = Reg.MEM_STATUS → e.reg a = d.reg a
  state : 2 ≤ d.pwrState → e.reg Reg.PWR_STATE = d.reg Reg.PWR_STATE
  cause : ∀ k, d.bit Reg.SAFE_CAUSE k = true → e.bit Reg.SAFE_CAUSE k = true
  time : e.ttime = d.ttime
  pwr : e.pwr = d.pwr
  rest : d.fld Reg.CLK_STATUS 0 2 ≠ 3 → ∀ n, (d.chanOf n).den = false → (e.chanOf n).den = false

/-! ## Registers that the frame lets change -/

theorem Loose.high {a : Nat} (h : 0x12000 ≤ a) : Loose a := by
  simp only [Loose, Reg.MEM_STATUS, Reg.SAFE_CAUSE, Page.MEM, Page.SAFE]
  omega

theorem Loose.mch {i o : Nat} : Loose (Page.MCH i + o) := .high (by unfold Page.MCH; omega)
theorem Loose.str {i o : Nat} : Loose (Page.STR i + o) := .high (by unfold Page.STR; omega)
theorem Loose.pier {i o : Nat} : Loose (Page.PIER i + o) := .high (by unfold Page.PIER; omega)
theorem Loose.cap {i o : Nat} : Loose (Page.CAP i + o) := .high (by unfold Page.CAP; omega)
theorem Loose.capTab {i o o' : Nat} : Loose (Page.CAP i + o + o') := .high (by unfold Page.CAP; omega)
theorem Loose.trg {i o : Nat} : Loose (Page.TRG i + o) := .high (by unfold Page.TRG; omega)
theorem Loose.ivm {i o : Nat} : Loose (Page.IVM i + o) := .high (by unfold Page.IVM; omega)
theorem Loose.chn {i o : Nat} : Loose (Page.CHN i + o) := .high (by unfold Page.CHN; omega)
theorem Loose.calKept {j : Nat} : Loose (Reg.CAL_KEPT j) := .high (by unfold Reg.CAL_KEPT Page.CAL; omega)
theorem Loose.task {i o : Nat} : Loose (tdAddr i o) := .high (by unfold tdAddr; omega)
theorem Loose.span {i w : Nat} : Loose (spanWord i w) := .high (by unfold spanWord; omega)

theorem Loose.lane {j : Nat} (h : j < 16) : Loose (Reg.TRS_LST j) := by
  simp only [Loose, Reg.TRS_LST, Reg.MEM_STATUS, Reg.SAFE_CAUSE, Page.TRS, Page.MEM, Page.SAFE]
  omega

theorem Loose.dmaHead {j : Nat} : Loose (Reg.TRS_DQ_HEAD j) := by
  simp only [Loose, Reg.TRS_DQ_HEAD, Reg.MEM_STATUS, Reg.SAFE_CAUSE, Page.TRS, Page.MEM, Page.SAFE]
  omega

theorem Loose.dmaTail {j : Nat} : Loose (Reg.TRS_DQ_TAIL j) := by
  simp only [Loose, Reg.TRS_DQ_TAIL, Reg.MEM_STATUS, Reg.SAFE_CAUSE, Page.TRS, Page.MEM, Page.SAFE]
  omega

theorem Loose.dmaStat {j : Nat} : Loose (Reg.TRS_DQ_STAT j) := by
  simp only [Loose, Reg.TRS_DQ_STAT, Reg.MEM_STATUS, Reg.SAFE_CAUSE, Page.TRS, Page.MEM, Page.SAFE]
  omega

theorem Loose.guard {j : Nat} (h : j < 32) : Loose (Reg.GRD_STATE j) := by
  simp only [Loose, Reg.GRD_STATE, Reg.MEM_STATUS, Reg.SAFE_CAUSE, Page.GRD, Page.MEM, Page.SAFE]
  omega

theorem Loose.strobe {j : Nat} (h : j < 4) : Loose (Reg.TSTR_CTRL j) := by
  simp only [Loose, Reg.TSTR_CTRL, Reg.MEM_STATUS, Reg.SAFE_CAUSE, Page.TIME, Page.MEM, Page.SAFE]
  omega

namespace Kept

variable {d e x : Device}

/-! ## The frame itself -/

theorem refl (d : Device) : Kept d d := ⟨fun _ _ => rfl, fun _ => rfl, fun _ h => h, rfl, rfl, fun _ _ h => h⟩

theorem trans (h : Kept d e) (hx : Kept e x) : Kept d x where
  regs a ha := (hx.regs a ha).trans (h.regs a ha)
  state hst := by
    have heq := h.state hst
    exact (hx.state (by rwa [Device.pwrState, Device.fld_eq, heq])).trans heq
  cause k hk := hx.cause k (h.cause k hk)
  time := hx.time.trans h.time
  pwr := hx.pwr.trans h.pwr
  rest hclk n hn := hx.rest (by rwa [Device.fld_eq, h.regs _ (.inl (by decide))]) n (h.rest hclk n hn)

/-- Operations that change no register, channel, time or power state. -/
theorem other (h : Kept d e) (hregs : x.regs = e.regs) (hchan : x.chan = e.chan) (htime : x.ttime = e.ttime) (hpwr : x.pwr = e.pwr) : Kept d x := by
  have hreg (a : Nat) : x.reg a = e.reg a := congrArg (Tab.get resetWord · a) hregs
  have hof (n : Nat) : x.chanOf n = e.chanOf n := congrArg (Tab.get (fun _ => ChanCtx.reset) · n) hchan
  exact h.trans ⟨fun a _ => hreg a, fun _ => hreg _, fun k hk => by rwa [Device.bit_eq, hreg], htime, hpwr, fun _ n hn => by rwa [hof]⟩

theorem ite {c : Prop} [Decidable c] {y : Device} (hx : Kept d x) (hy : Kept d y) : Kept d (if c then x else y) := by
  split
  · exact hx
  · exact hy

theorem ite_snd {α : Type} {c : Prop} [Decidable c] {p q : α × Device} (hp : Kept d p.2) (hq : Kept d q.2) : Kept d (if c then p else q).2 := by
  split
  · exact hp
  · exact hq

/-- An operation behind a condition. -/
theorem when {c : Prop} [Decidable c] (h : Kept d e) (hx : Kept d e → Kept d x) : Kept d (if c then x else e) := ite (hx h) h

/-- An operation behind the negation of a condition. -/
theorem skip {c : Prop} [Decidable c] (h : Kept d e) (hx : Kept d e → Kept d x) : Kept d (if c then e else x) := ite h (hx h)

/-- One of two operations. -/
theorem branch {c : Prop} [Decidable c] {y : Device} (h : Kept d e) (hx : Kept d e → Kept d x) (hy : Kept d e → Kept d y) :
    Kept d (if c then x else y) := ite (hx h) (hy h)

theorem foldl {α : Type} {f : Device → α → Device} {l : List α} (h : Kept d e) (hf : ∀ {x c}, Kept d x → Kept d (f x c)) : Kept d (l.foldl f e) :=
  foldl_keep (Kept d) f (fun _ _ hx => hf hx) l e h

theorem forN {n : Nat} {f : Device → Nat → Device} (h : Kept d e) (hf : ∀ {x i}, Kept d x → Kept d (f x i)) : Kept d (e.forN n f) := h.foldl hf

/-- A loop whose body needs the bound of its index. -/
theorem forN_lt {n : Nat} {f : Device → Nat → Device} (h : Kept d e) (hf : ∀ {x i}, i < n → Kept d x → Kept d (f x i)) : Kept d (e.forN n f) := by
  have hlist : ∀ l : List Nat, (∀ i ∈ l, i < n) → ∀ x, Kept d x → Kept d (l.foldl f x) := by
    intro l
    induction l with
    | nil => exact fun _ _ hx => hx
    | cons i l ih => exact fun hl x hx => ih (fun j hj => hl j (.tail _ hj)) _ (hf (hl i (.head _)) hx)
  exact hlist _ (fun _ hi => List.mem_range.mp hi) e h

/-! ## Registers and events -/

theorem setReg {a : Nat} {v : Word} (h : Kept d e) (ha : Loose a) : Kept d (e.setReg a v) := by
  obtain ⟨hlow, hmem, hcause⟩ := ha
  have hreg {b : Nat} (hb : b ≠ a) : (e.setReg a v).reg b = e.reg b := Tab.get_set_other _ _ hb
  refine h.trans ⟨fun b hb => hreg ?_, fun _ => hreg ?_, fun k hk => ?_, rfl, rfl, fun _ _ hn => hn⟩
  · rintro rfl
    omega
  · simp only [Reg.PWR_STATE, Page.PWR]
    omega
  · rwa [Device.bit_eq, hreg (Ne.symm hcause)]

theorem setRegN {a v : Nat} (h : Kept d e) (ha : Loose a) : Kept d (e.setRegN a v) := h.setReg ha
theorem setReg64 {lo hi v : Nat} (h : Kept d e) (hlo : Loose lo) (hhi : Loose hi) : Kept d (e.setReg64 lo hi v) := (h.setRegN hlo).setRegN hhi
theorem setFld {a lo n v : Nat} (h : Kept d e) (ha : Loose a) : Kept d (e.setFld a lo n v) := h.setReg ha
theorem addSat {a lo n k : Nat} (h : Kept d e) (ha : Loose a) : Kept d (e.addSat a lo n k) := h.setFld ha
theorem setBit {a i : Nat} {b : Bool} (h : Kept d e) (ha : Loose a) : Kept d (e.setBit a i b) := h.setReg ha
theorem event {p b : Nat} (h : Kept d e) (hp : Loose (Reg.PG_EVT_RAW p)) : Kept d (e.event p b) := h.setBit hp
theorem fault {p c : Nat} (h : Kept d e) (hcode : Loose (Reg.PG_FAULT_CODE p)) (hstat : Loose (Reg.PG_STATUS p)) : Kept d (e.fault p c) :=
  (h.setRegN hcode).setBit hstat

/-! ## Contexts -/

theorem modStr {s : Nat} {f : StrCtx → StrCtx} (h : Kept d e) : Kept d (e.modStr s f) := h.other rfl rfl rfl rfl
theorem modCap {p : Nat} {f : CapCtx → CapCtx} (h : Kept d e) : Kept d (e.modCap p f) := h.other rfl rfl rfl rfl
theorem setTrg {p : Nat} {c : TrgCtx} (h : Kept d e) : Kept d (e.setTrg p c) := h.other rfl rfl rfl rfl
theorem modIvm {i : Nat} {f : IvmCtx → IvmCtx} (h : Kept d e) : Kept d (e.modIvm i f) := h.other rfl rfl rfl rfl
theorem modCal {f : CalCtx → CalCtx} (h : Kept d e) : Kept d (e.modCal f) := h.other rfl rfl rfl rfl
theorem modDisp {f : DispCtx → DispCtx} (h : Kept d e) : Kept d (e.modDisp f) := h.other rfl rfl rfl rfl
theorem modCore {k : Nat} {f : CoreCtx → CoreCtx} (h : Kept d e) : Kept d (e.modCore k f) := h.modDisp
theorem modFlow {k : Nat} {f : FlowCtx → FlowCtx} (h : Kept d e) : Kept d (e.modFlow k f) := h.modDisp
theorem modLink {k : Nat} {f : LinkCtx → LinkCtx} (h : Kept d e) : Kept d (e.modLink k f) := h.other rfl rfl rfl rfl
theorem modTrs {f : TrsCtx → TrsCtx} (h : Kept d e) : Kept d (e.modTrs f) := h.other rfl rfl rfl rfl
theorem modDma {q : Nat} {f : DmaCtx → DmaCtx} (h : Kept d e) : Kept d (e.modDma q f) := h.modTrs
theorem modVia {f : ViaCtx → ViaCtx} (h : Kept d e) : Kept d (e.modVia f) := h.other rfl rfl rfl rfl
theorem modTwin {f : TwinCtx → TwinCtx} (h : Kept d e) : Kept d (e.modTwin f) := h.other rfl rfl rfl rfl
theorem modStrobe {k : Nat} {f : StrobeCtx → StrobeCtx} (h : Kept d e) : Kept d (e.modStrobe k f) := h.other rfl rfl rfl rfl
theorem setPeb {k : Nat} {c : PebPort} (h : Kept d e) : Kept d (e.setPeb k c) := h.other rfl rfl rfl rfl
theorem setApp {a : Nat} {v : Word} (h : Kept d e) : Kept d (e.setApp a v) := h.other rfl rfl rfl rfl
theorem hook {k v : Nat} (h : Kept d e) : Kept d (e.hook k v) := h.other rfl rfl rfl rfl
theorem draw (h : Kept d e) : Kept d e.draw.2 := h.other rfl rfl rfl rfl
theorem send {o : Out} (h : Kept d e) : Kept d (e.send o) := h.other rfl rfl rfl rfl
theorem emit {o : Out} (h : Kept d e) : Kept d (e.emit o) := h.when (·.send)

/-! ## Channels -/

/-- A channel that is set with CH_DEN deasserted. -/
theorem setChan {n : Nat} {c : ChanCtx} (h : Kept d e) (hc : c.den = false) : Kept d (e.setChan n c) := by
  refine h.trans ⟨fun _ _ => rfl, fun _ => rfl, fun _ hk => hk, rfl, rfl, fun _ m hm => ?_⟩
  rw [Device.chanOf_setChan]
  split
  · exact hc
  · exact hm

/-- A channel whose balls are left deasserted, or left when both PLLs are locked. -/
theorem leaveBalls {n : Nat} {den dhi : Bool} (h : Kept d e) (hden : den = true → e.fld Reg.CLK_STATUS 0 2 = 3) : Kept d (e.leaveBalls n den dhi) := by
  refine h.trans ⟨fun _ _ => rfl, fun _ => rfl, fun _ hk => hk, rfl, rfl, fun hclk m hm => ?_⟩
  rw [Device.leaveBalls, Device.chanOf_setChan]
  split
  · cases den
    · rfl
    · exact absurd (hden rfl) hclk
  · exact hm

theorem channelsOff (h : Kept d e) : Kept d e.channelsOff := h.forN (·.leaveBalls (by simp))

/-! ## Records and the event log -/

theorem recordAt {t ty sev src code p0 p1 p2 : Nat} (h : Kept d e) : Kept d (e.recordAt t ty sev src code p0 p1 p2) := by
  unfold Device.recordAt
  refine (h.setFld (by decide)).branch (·.other rfl rfl rfl rfl) fun h => ?_
  exact event (other (h.addSat (by decide)) rfl rfl rfl rfl) (by decide)

theorem record {ty src code p0 p1 p2 : Nat} (h : Kept d e) : Kept d (e.record ty src code p0 p1 p2) := h.recordAt

theorem logAdd {src code data : Nat} (h : Kept d e) : Kept d (e.logAdd src code data) := by
  unfold Device.logAdd
  refine h.branch (·.other rfl rfl rfl rfl) fun h => ?_
  exact when (event (setRegN (other h rfl rfl rfl rfl) (by decide)) (by decide)) (·.record)

theorem logWith {src code bits v : Nat} (h : Kept d e) : Kept d (e.logWith src code bits v) := by
  unfold Device.logWith
  exact logAdd (draw h)

end Kept
end Sys2Proof.Machine
end

section
/-! SUPPORT. The frame `Kept` of streams at their end, meters, calibration, tasks and cores. -/

namespace Sys2Proof.Machine.Kept

variable {d e x : Device}

/-! ## Calibration runs and meters -/

theorem burstRec {r : EndRec} {cal : Bool} (h : Kept d e) : Kept d (e.burstRec r cal) := h.recordAt

theorem burstFlush {cal : Bool} (h : Kept d e) : Kept d (e.burstFlush cal) := by
  unfold Device.burstFlush
  exact foldl h.modCal (·.burstRec)

theorem calFail {outcome p2 : Nat} (h : Kept d e) : Kept d (e.calFail outcome p2) := by
  unfold Device.calFail
  exact ((h.setRegN (by decide)).record).event (by decide)

theorem setCalState {v : Nat} (h : Kept d e) : Kept d (e.setCalState v) := (h.setFld (by decide)).setBit (by decide)

theorem setIvmState {i v : Nat} (h : Kept d e) : Kept d (e.setIvmState i v) := h.setFld .ivm

theorem ivmBegin {i seq : Nat} (h : Kept d e) : Kept d (e.ivmBegin i seq) := h.modIvm.setIvmState

theorem ivmArm {i : Nat} (h : Kept d e) : Kept d (e.ivmArm i) := by
  unfold Device.ivmArm
  split
  · exact h.branch (·.fault .ivm .ivm) (·.ivmBegin)
  · exact h.modIvm
  · exact h.fault .ivm .ivm

theorem ivmLoanEnd {i : Nat} (h : Kept d e) : Kept d (e.ivmLoanEnd i) := by
  unfold Device.ivmLoanEnd
  exact h.when fun h => h.setIvmState.modIvm.when (·.ivmArm)

theorem calReturn (h : Kept d e) : Kept d e.calReturn := h.forN fun h => h.when (·.ivmLoanEnd)

theorem calFreq {p2 mask : Nat} (h : Kept d e) : Kept d (e.calFreq p2 mask) := by
  unfold Device.calFreq
  exact h.skip fun h => h.branch (fun h => ((h.calReturn.calFail).event (by decide)).modCal.setCalState) fun h => h.when (·.modCal)

theorem borrow (h : Kept d e) : Kept d e.borrow := h.foldl (·.setFld .ivm)

theorem calGather (h : Kept d e) : Kept d e.calGather := by
  unfold Device.calGather
  exact h.branch (·.setCalState) fun h => (h.modCal.borrow.setFld (by decide)).setCalState

theorem calBegin {kind sel : Nat} {now req : Bool} (h : Kept d e) : Kept d (e.calBegin kind sel now req) := by
  unfold Device.calBegin
  refine branch (modCal (forN ?_ (·.setRegN .calKept))) (·.setCalState) (·.calGather)
  exact ((h.setFld (by decide)).setRegN (by decide)).setRegN (by decide)

theorem calIdle (h : Kept d e) : Kept d e.calIdle := by
  unfold Device.calIdle
  exact h.setCalState.when fun h => h.modCal.calBegin

theorem calAwake (h : Kept d e) : Kept d e.calAwake := h.when (·.calIdle)

theorem calRelease {s : Nat} (h : Kept d e) : Kept d (e.calRelease s) := by
  unfold Device.calRelease
  exact (h.modCal.setBit (by decide)).modStr

theorem calWrite (h : Kept d e) : Kept d e.calWrite := by
  unfold Device.calWrite
  exact h.modCal

theorem calStore (h : Kept d e) : Kept d e.calStore := by
  unfold Device.calStore
  refine h.skip fun h => ?_
  split
  · exact h.branch (·.modCal) (·.calWrite)
  · exact h.calWrite

theorem ivmAgain {i : Nat} {stop : Bool} (h : Kept d e) : Kept d (e.ivmAgain i stop) := by
  unfold Device.ivmAgain
  exact h.branch (·.ivmBegin) (·.setIvmState)

theorem ivmDone {i t flags res nst : Nat} (h : Kept d e) : Kept d (e.ivmDone i t flags res nst) := by
  unfold Device.ivmDone
  exact ((h.event .ivm).hook).when (·.recordAt)

theorem setIvmFifo {i : Nat} {q : List (Nat × Nat)} (h : Kept d e) : Kept d (e.setIvmFifo i q) := h.modIvm.setFld .ivm

theorem ivmPush {i v flags : Nat} (h : Kept d e) : Kept d (e.ivmPush i v flags) := by
  unfold Device.ivmPush
  exact h.branch (·.setIvmFifo) fun h => (h.addSat .ivm).event .ivm

theorem setIvmRes {i v flags : Nat} (h : Kept d e) : Kept d (e.setIvmRes i v flags) := (h.setReg64 .ivm .ivm).setRegN .ivm

theorem ivmInvalid {i flag nst : Nat} {stop : Bool} (h : Kept d e) : Kept d (e.ivmInvalid i flag nst stop) := by
  unfold Device.ivmInvalid
  exact ((when ((draw h).setIvmRes.setRegN .ivm) (·.ivmPush)).ivmDone).ivmAgain

theorem ivmSend {i t : Nat} (h : Kept d e) : Kept d (e.ivmSend i t) := by
  unfold Device.ivmSend
  exact h.skip fun h => h.foldl fun h => h.ivmPush.setIvmRes.modIvm

theorem ivmClockLost (h : Kept d e) : Kept d e.ivmClockLost := by
  unfold Device.ivmClockLost
  exact h.forN fun h => h.when fun h => h.ivmSend.ivmInvalid

theorem ivmSendDue {i : Nat} (h : Kept d e) : Kept d (e.ivmSendDue i) := h.when (·.ivmSend)

theorem ivmSendAll (h : Kept d e) : Kept d e.ivmSendAll := h.skip fun h => h.forN (·.ivmSendDue)

theorem ivmSync {i : Nat} (h : Kept d e) : Kept d (e.ivmSync i) := by
  unfold Device.ivmSync
  exact ((h.when (·.setIvmState)).skip (·.addSat .ivm)).modIvm

theorem ivmEvent {i src : Nat} {rise : Bool} {ball : Nat} {past : Bool} {code : Nat} (h : Kept d e) : Kept d (e.ivmEvent i src rise ball past code) := by
  unfold Device.ivmEvent
  refine h.skip fun h => h.modIvm.skip fun h => ivmSync (modIvm ?_)
  exact ite_snd h.draw h

theorem ivmExact {src t : Nat} {fall : Bool} (h : Kept d e) : Kept d (e.ivmExact src t fall) := h.forN (·.ivmEvent)

theorem ivmDeliver (h : Kept d e) : Kept d e.ivmDeliver := by
  unfold Device.ivmDeliver
  exact foldl (other h rfl rfl rfl rfl) (·.ivmExact)

/-! ## Tasks and cores -/

theorem setTaskState {i v : Nat} (h : Kept d e) : Kept d (e.setTaskState i v) := h.setFld .task

theorem markBad {i : Nat} (h : Kept d e) : Kept d (e.markBad i) := h.modDisp

theorem makeReady {i : Nat} (h : Kept d e) : Kept d (e.makeReady i) := by
  unfold Device.makeReady
  exact (h.when fun h => (h.setFld .task).modFlow).setTaskState.modDisp

theorem depZero {i : Nat} (h : Kept d e) : Kept d (e.depZero i) := by
  unfold Device.depZero
  exact h.branch (·.makeReady) fun h => h.setTaskState.modDisp

theorem enterWaiting {i : Nat} (h : Kept d e) : Kept d (e.enterWaiting i) := by
  unfold Device.enterWaiting
  exact ((h.setTaskState.setFld .task).setFld .task).when (·.depZero)

theorem taskDec {i : Nat} (h : Kept d e) : Kept d (e.taskDec i) := by
  unfold Device.taskDec
  exact h.branch (fun h => (h.setFld .task).when (·.depZero)) fun h =>
    h.branch (·.setFld .task) fun h => (h.addSat (by decide)).event (by decide)

theorem releaseOne {t : HeldTask} (h : Kept d e) : Kept d (e.releaseOne t) := by
  unfold Device.releaseOne
  exact branch (when (foldl h fun h => h.skip fun h => h.branch (·.markBad) (·.taskDec)) (·.record)) (·.enterWaiting) (·.setTaskState)

theorem releaseFlow {f n : Nat} (h : Kept d e) : Kept d (Device.releaseFlow f n e) := by
  induction n generalizing e with
  | zero => exact h
  | succ n ih =>
    unfold Device.releaseFlow
    dsimp only
    split
    · exact ih h.modFlow
    · split
      · exact h.branch (·.markBad) fun h => ih h.modDisp.modFlow.releaseOne
      · exact h

theorem cancelAs {i status : Nat} (h : Kept d e) : Kept d (e.cancelAs i status) := by
  unfold Device.cancelAs
  refine when (forN (modDisp ?_) (·.modCore)) fun h => h.modFlow.releaseFlow
  exact ((h.record.event (by decide)).setTaskState).setFld .task

theorem toHead {ts : List Nat} (h : Kept d e) : Kept d (e.toHead ts) := by
  unfold Device.toHead
  exact (h.foldl (·.setTaskState)).modDisp

/-- The registers of a core port go back to reset. -/
theorem dropPort {p : Nat → Bool} (h : Kept d e) (hp : ∀ a, p a = true → Loose a) : Kept d { e with regs := Tab.drop p e.regs } := by
  have hreg (a : Nat) (ha : ¬ Loose a) : ({ e with regs := Tab.drop p e.regs } : Device).reg a = e.reg a := by
    rw [Device.reg, Tab.get_drop, if_neg fun h => ha (hp a h)]
    rfl
  refine h.trans ⟨fun a ha => hreg a ?_, fun _ => hreg _ (by decide), fun k hk => ?_, rfl, rfl, fun _ _ hn => hn⟩
  · simp only [Loose, Reg.PWR_STATE, Page.PWR] at ha ⊢
    omega
  · rwa [Device.bit_eq, hreg _ (by decide)]

theorem coreReset {k : Nat} (h : Kept d e) : Kept d (e.coreReset k) := by
  unfold Device.coreReset
  refine modCore (dropPort ?_ fun a ha => .high ?_)
  · split <;> split
    · exact h.cancelAs.modCore.toHead
    · exact h.modCore.toHead
    · exact h.cancelAs
    · exact h
  · simp only [decide_eq_true_eq] at ha
    omega

theorem coresHold (h : Kept d e) : Kept d e.coresHold := h.forN fun h => (h.when (·.coreReset)).modCore

theorem coreRelease {k : Nat} (h : Kept d e) : Kept d (e.coreRelease k) := h.modCore

theorem coresFree (h : Kept d e) : Kept d e.coresFree := by
  unfold Device.coresFree
  exact h.when fun h => h.forN fun h => h.when fun h => h.branch (·.coreRelease) (·.modCore)

theorem descUE {i : Nat} (h : Kept d e) : Kept d (e.descUE i) := (h.logWith.cancelAs).event (by decide)

theorem descSettle {n : Nat} (h : Kept d e) : Kept d (Device.descSettle n e) := by
  induction n generalizing e with
  | zero => exact h
  | succ n ih =>
    unfold Device.descSettle
    split
    · exact h
    · exact ih h.modDisp.descUE

end Sys2Proof.Machine.Kept
end

section
/-! SUPPORT. The frame `Kept` of the capture engines, the trigger units and the cycles that a stream settles. -/

namespace Sys2Proof.Machine.Kept

variable {d e x : Device}

/-- A loop that gathers something beside the device. -/
theorem foldl_fst {α β : Type} {f : Device × β → α → Device × β} {l : List α} {b : Device × β} (h : Kept d b.1)
    (hf : ∀ {x c}, Kept d x.1 → Kept d (f x c).1) : Kept d (l.foldl f b).1 :=
  foldl_keep (fun b => Kept d b.1) f (fun _ _ hx => hf hx) l b h

/-- One of two operations that answer something beside the device. -/
theorem branch_fst {α : Type} {c : Prop} [Decidable c] {p q : Device × α} (h : Kept d e) (hp : Kept d e → Kept d p.1) (hq : Kept d e → Kept d q.1) :
    Kept d (if c then p else q).1 := by
  split
  · exact hp h
  · exact hq h

theorem meterQueue {q : List (Nat × Nat × Bool)} (h : Kept d e) : Kept d { e with ivmq := q } := h.other rfl rfl rfl rfl

/-! ## Capture -/

theorem touchRow {a : Nat} (h : Kept d e) : Kept d (e.touchRow a) := h.other rfl rfl rfl rfl

theorem touchRows {a n : Nat} (h : Kept d e) : Kept d (e.touchRows a n) := h.foldl (·.touchRow)

theorem memStore {a n v : Nat} (h : Kept d e) : Kept d (e.memStore a n v) := h.other rfl rfl rfl rfl

theorem capStore {p a v : Nat} (h : Kept d e) : Kept d (e.capStore p a v).1 := by
  unfold Device.capStore
  split
  · exact (h.addSat .cap).event .cap
  · exact h.memStore.touchRow

theorem charge {p sites : Nat} {up : Bool} (h : Kept d e) : Kept d (e.charge p sites up) := h.foldl fun h => h.when (·.setRegN .capTab)

theorem quotaRefresh {p : Nat} (h : Kept d e) : Kept d (e.quotaRefresh p) := h.modCap

theorem withhold {p overs t : Nat} (h : Kept d e) : Kept d (e.withhold p overs t) := by
  unfold Device.withhold
  exact h.foldl fun h => h.when fun h => (h.event .cap).recordAt.modCap

theorem flushRec {p : Nat} (h : Kept d e) : Kept d (e.flushRec p) := by
  unfold Device.flushRec
  dsimp only
  split
  · refine branch (withhold h) (·.modCap) fun h => ?_
    exact branch (capStore h) (fun h => quotaRefresh (modCap (charge (h.foldl (·.charge))))) (·.modCap)
  · exact h.modCap

theorem segClose {p close t : Nat} (h : Kept d e) : Kept d (e.segClose p close t) := by
  unfold Device.segClose
  dsimp only
  split
  · refine modCap (setBit (setBit (when (when (setFld (when (hook (event (capStore ?_) .cap)) (·.recordAt)) .cap) (·.setBit .cap)) fun h =>
      (h.setBit .cap).event .cap) .cap) .cap)
    exact (h.when (·.flushRec)).modCap
  · exact (h.when (·.flushRec)).modCap.modCap

theorem segCloseIf {p close t : Nat} (h : Kept d e) : Kept d (e.segCloseIf p close t) := by
  unfold Device.segCloseIf
  exact h.modCap.when (·.segClose)

theorem endRec {p t : Nat} (h : Kept d e) : Kept d (e.endRec p t) := by
  unfold Device.endRec
  exact h.when fun h => h.flushRec.when (·.segClose)

theorem capOff {p t : Nat} (h : Kept d e) : Kept d (e.capOff p t) := h.endRec.setBit .cap

theorem capOn {p : Nat} (h : Kept d e) : Kept d (e.capOn p) := h.when (·.setBit .cap)

theorem capRearmDone {p : Nat} (h : Kept d e) : Kept d (e.capRearmDone p) := h.setBit .cap

theorem bmQueue {p addr bits : Nat} (h : Kept d e) : Kept d (e.bmQueue p addr bits) := by
  unfold Device.bmQueue
  exact h.branch (·.modCap) fun h => h.branch (·.modCap) fun h => (h.addSat .cap).event .cap

theorem bmCycle {s p : Nat} {v : CycView} {a : ApgOut} {outs : List (Nat × ChanRes)} (h : Kept d e) : Kept d (e.bmCycle s p v a outs) := by
  unfold Device.bmCycle
  exact h.skip fun h => h.foldl fun h => h.foldl (·.bmQueue)

theorem countFails {p : Nat} {i : CapIn} (h : Kept d e) : Kept d (e.countFails p i) := by
  unfold Device.countFails
  refine h.skip fun h => skip (setReg64 (addSat (foldl (foldl h ?_) ?_) .cap) .cap .cap) fun h => (h.setReg64 .cap .cap).setRegN .cap
  · exact fun h => h.when (·.addSat .capTab)
  · exact fun h => h.when (·.addSat .capTab)

theorem segOpen {p : Nat} {i : CapIn} (h : Kept d e) : Kept d (e.segOpen p i) := by
  unfold Device.segOpen
  refine setTrg ?_
  split
  · exact meterQueue (setFld (modCap (setBit (setBit (setBit h .cap) .cap) .cap)) .trg)
  · exact setFld (modCap (setBit (setBit (setBit h .cap) .cap) .cap)) .trg

theorem capBegin {p : Nat} {i : CapIn} (h : Kept d e) : Kept d (e.capBegin p i) := by
  unfold Device.capBegin
  refine modCap (countFails (when ?_ (·.branch (·.modCap) (·.segOpen))))
  exact h.when fun h => (h.when (·.segClose)).when (·.modCap)

theorem capAddBlock {p : Nat} {r : OpenRec} {g : SegCtx} {i : CapIn} (h : Kept d e) : Kept d (e.capAddBlock p r g i) := by
  unfold Device.capAddBlock
  extract_lets block post r' added full reached ended
  have hended : Kept d ended := when h.modCap (·.endRec)
  split
  · exact hended.when (·.segClose)
  · exact hended

theorem capRecord {p : Nat} {i : CapIn} (h : Kept d e) : Kept d (e.capRecord p i) := by
  unfold Device.capRecord
  refine skip ?_ (·.modCap)
  split
  · refine h.branch (fun h => h.endRec.modCap) fun h => ?_
    split
    · exact h.capAddBlock
    · refine h.branch (fun h => ?_) (·.modCap)
      split
      · exact h.capAddBlock
      · exact h.modCap.segClose
  · exact h

theorem capTrigger {p : Nat} {i : CapIn} (h : Kept d e) : Kept d (e.capTrigger p i) := by
  unfold Device.capTrigger
  dsimp only
  split
  · exact h.skip fun h => (h.setBit .cap).modCap
  · exact h

/-! ## Triggers -/

theorem decCycle {p : Nat} {i : TrgIn} (h : Kept d e) : Kept d (e.decCycle p i).1 := by
  unfold Device.decCycle
  dsimp only
  split
  · exact h
  · refine when (addSat (addSat ?_ .trg) .trg) (·.event .trg)
    split
    · exact (((h.setTrg).setBit .trg).setReg64 .trg .trg).event .trg
    · exact h.setTrg.setBit .trg

theorem trgEval {p : Nat} {i : TrgIn} {t cycle : Nat} {failing : Bool} (h : Kept d e) : Kept d (e.trgEval p i t cycle failing).1 := by
  unfold Device.trgEval
  refine branch_fst (when (decCycle h) (·.setTrg)) id fun h => ?_
  exact hook (foldl (setRegN (setReg64 (meterQueue (setTrg (setFld h .trg))) .trg .trg) .trg) fun h => h.when (·.event .trg))

theorem matchCycle {s : Nat} {v : CycView} {parts : Nat} {outs : List (Nat × ChanRes)} (h : Kept d e) : Kept d (e.matchCycle s v parts outs) := by
  unfold Device.matchCycle
  split
  · exact h
  · exact h.skip (·.modStr)

theorem siteFails {s : Nat} {v : CycView} {outs : List (Nat × ChanRes)} (h : Kept d e) : Kept d (e.siteFails s v outs) := by
  unfold Device.siteFails
  exact h.skip (·.setReg64 .str .str)

/-! ## Cycles that are settled -/

theorem pierCycle {s : Nat} {v : CycView} {a : ApgOut} {outs : List (Nat × ChanRes)} (h : Kept d e) : Kept d (e.pierCycle s v a outs) := by
  unfold Device.pierCycle
  dsimp only
  refine when (when (foldl (when (foldl (foldl_fst (foldl (modStr h) (·.capBegin)) ?_) fun h => h.skip (·.setTrg)) fun h => h.foldl (·.capTrigger))
    fun h => h.capRecord.bmCycle) fun h => h.foldl (·.capOff)) (·.modStr)
  exact (·.trgEval)

theorem settleCycle {s : Nat} {f : Flight} (h : Kept d e) : Kept d (e.settleCycle s f) := by
  unfold Device.settleCycle
  exact h.siteFails.matchCycle.pierCycle

theorem settlePipe {s t : Nat} {i : Pipe} (h : Kept d e) : Kept d (e.settlePipe s t i) := by
  cases i with
  | cycle f => exact h.settleCycle
  | capOn => exact h.foldl (·.capOn)
  | capOff => exact h.foldl (·.capOff)
  | rearmed p => exact h.capRearmDone

theorem settleItems {s t : Nat} {now : Option Nat} {is : List Pipe} (h : Kept d e) : Kept d (e.settleItems s now t is) := by
  induction is generalizing e t with
  | nil => exact h.modStr
  | cons i is ih =>
    unfold Device.settleItems
    split
    · exact h.branch (fun h => ih h.settlePipe) (·.modStr)
    · exact ih h.settlePipe

theorem settleAll {s : Nat} (h : Kept d e) : Kept d (e.settleAll s) := h.skip (·.settleItems)

theorem settleDue {s now : Nat} (h : Kept d e) : Kept d (e.settleDue s now) := h.skip (·.settleItems)

theorem settlePlay (h : Kept d e) : Kept d e.settlePlay := h.skip fun h => h.forN (·.settleDue)

end Sys2Proof.Machine.Kept
end

section
/-! SUPPORT. The frame `Kept` of the end of streams, the safe state and the end of a calibration run. -/

namespace Sys2Proof.Machine.Kept

variable {d e x : Device}

/-! ## Streams that end -/

theorem vendDone (h : Kept d e) : Kept d e.vendDone := h.when fun h => (h.setBit (by decide)).event (by decide)

theorem vendMove {s : Nat} (h : Kept d e) : Kept d (e.vendMove s) := h.when fun h => (h.setFld (by decide)).vendDone

theorem setStrState {s v : Nat} (h : Kept d e) : Kept d (e.setStrState s v) := h.setFld .str

theorem strClear {s : Nat} (h : Kept d e) : Kept d (e.strClear s) := by
  unfold Device.strClear
  exact setBit (setFld (setBit (setBit h.modStr.modCal (by decide)) .str) .str) .str

theorem apgStep {s : Nat} (h : Kept d e) : Kept d (e.apgStep s) := by
  unfold Device.apgStep
  exact setFld (when (setReg64 (setRegN (setRegN (setRegN h .str) .str) .str) .str .str) (·.setBit .str)) .str

theorem apgSettle {s : Nat} (h : Kept d e) : Kept d (e.apgSettle s) := h.when (·.apgStep.modStr)

theorem setPendingCommit {p : Nat} {b : Bool} (h : Kept d e) (hp : Loose (Reg.PG_STATUS p)) : Kept d (e.setPendingCommit p b) := h.setBit hp

theorem commitPier {p : Nat} (h : Kept d e) : Kept d (e.commitPier p) := (h.setPendingCommit .pier).setApp.setApp

theorem boundaryCommits {s : Nat} (h : Kept d e) : Kept d (e.boundaryCommits s) := by
  unfold Device.boundaryCommits
  exact h.foldl fun h => h.when (·.commitPier)

theorem commitChn {n : Nat} (h : Kept d e) : Kept d (e.commitChn n) := by
  unfold Device.commitChn
  exact (h.setPendingCommit .chn).branch (·.fault .chn .chn) (·.setApp.setApp.setApp)

theorem releaseChn {n : Nat} (h : Kept d e) : Kept d (e.releaseChn n) := h.when (·.commitChn)

theorem burstEndCommits {s : Nat} (h : Kept d e) : Kept d (e.burstEndCommits s) := by
  unfold Device.burstEndCommits
  exact h.boundaryCommits.foldl (·.releaseChn)

theorem burstRecord {r : EndRec} {cal : Bool} (h : Kept d e) : Kept d (e.burstRecord r cal) := by
  unfold Device.burstRecord
  exact (h.branch (·.modCal) (·.burstRec)).event .str

theorem twinSend {ty addr data : Nat} (h : Kept d e) : Kept d (e.twinSend ty addr data) := by
  unfold Device.twinSend
  exact emit (h.other rfl rfl rfl rfl)

theorem snapSend {rs : List (Nat × Nat)} (h : Kept d e) : Kept d (e.snapSend rs) := h.other rfl rfl rfl rfl

theorem checkpoint {s status : Nat} (h : Kept d e) : Kept d (e.checkpoint s status) := by
  unfold Device.checkpoint
  exact h.when (·.twinSend.snapSend)

theorem staticDrives_clocks {p : Nat} (h : e.staticDrives p = true) : e.fld Reg.CLK_STATUS 0 2 = 3 := by
  simp only [Device.staticDrives, Bool.and_eq_true, decide_eq_true_eq] at h
  exact h.2

theorem restChan {n : Nat} (h : Kept d e) : Kept d (e.restChan n) := by
  have hoff : Kept d (e.leaveBalls n false false) := h.leaveBalls nofun
  unfold Device.restChan
  refine ite h (ite hoff ?_)
  split
  · dsimp only
    split
    · next hdrives => exact h.leaveBalls fun _ => staticDrives_clocks hdrives
    · exact hoff
  · split
    · exact ite h hoff
    · exact hoff

theorem restPier {p : Nat} (h : Kept d e) : Kept d (e.restPier p) := h.foldl (·.restChan)

theorem restStream {s : Nat} (h : Kept d e) : Kept d (e.restStream s) := h.foldl (·.restPier)

/-- Only READY and RUN follow the streams. -/
theorem syncRun (h : Kept d e) : Kept d e.syncRun := by
  unfold Device.syncRun
  split
  · next hready =>
    have hreg {a : Nat} {w : Word} (ha : a ≠ Reg.PWR_STATE) : (e.setReg Reg.PWR_STATE w).reg a = e.reg a := Tab.get_set_other _ _ ha
    refine h.trans ⟨fun a ha => hreg ?_, fun hst => by omega, fun k hk => ?_, rfl, rfl, fun _ _ hn => hn⟩
    · rintro rfl
      obtain ⟨_, hne⟩ | heq := ha
      · exact hne rfl
      · exact absurd heq (by decide)
    · rwa [Device.bit_eq, Device.setFld_eq, hreg (by decide)]
  · exact h

theorem endStream {s status close : Nat} {cal : Bool} (h : Kept d e) : Kept d (e.endStream s status close cal) := by
  unfold Device.endStream
  refine vendMove (syncRun (restStream (burstEndCommits (strClear (checkpoint (hook (when (burstRecord (setStrState (foldl ?_ (·.segCloseIf))))
    (·.event .str))))))))
  exact h.settleAll.apgSettle

/-! ## The safe state -/

theorem setRole {r : Nat} (h : Kept d e) : Kept d (e.setRole r) := by
  unfold Device.setRole Device.setActN
  exact h.skip fun h => ((h.setFld (by decide)).setBit (by decide)).event (by decide)

theorem twinRecord {ev detail mask : Nat} (h : Kept d e) : Kept d (e.twinRecord ev detail mask) := h.record

theorem awaitSnapshot (h : Kept d e) : Kept d e.awaitSnapshot := by
  unfold Device.awaitSnapshot
  exact other (h.setBit (by decide)) rfl rfl rfl rfl

theorem safeRecord {added : Bool} {low : Nat} (h : Kept d e) : Kept d (e.safeRecord added low) := h.record

/-- SAFE_CAUSE takes a value that holds every cause it held. -/
theorem setCause {v : Word} (h : Kept d e) (hv : ∀ k, e.bit Reg.SAFE_CAUSE k = true → v.bit k = true) : Kept d (e.setReg Reg.SAFE_CAUSE v) := by
  have hreg {a : Nat} (ha : a ≠ Reg.SAFE_CAUSE) : (e.setReg Reg.SAFE_CAUSE v).reg a = e.reg a := Tab.get_set_other _ _ ha
  refine h.trans ⟨fun a ha => hreg ?_, fun _ => hreg (by decide), fun k hk => ?_, rfl, rfl, fun _ _ hn => hn⟩
  · simp only [Reg.SAFE_CAUSE, Reg.MEM_STATUS, Page.SAFE, Page.MEM] at ha ⊢
    omega
  · rw [Device.bit_eq, Device.reg_setReg_same]
    exact hv k hk

theorem addCause {b : Nat} (h : Kept d e) : Kept d (e.setBit Reg.SAFE_CAUSE b true) := by
  refine h.setCause fun k hk => ?_
  by_cases hkb : k = b
  · subst hkb
    have hlt : k < 32 := BitVec.lt_of_getLsbD hk
    exact Word.bit_putBit _ true hlt
  · rw [Word.bit_putBit_other _ _ hkb]
    exact hk

theorem addCauses {mask : Nat} (h : Kept d e) : Kept d (e.setRegN Reg.SAFE_CAUSE (e.regN Reg.SAFE_CAUSE ||| mask)) := by
  refine h.setCause fun k hk => ?_
  have hlt : k < 32 := BitVec.lt_of_getLsbD hk
  rw [Word.bit, BitVec.getLsbD_ofNat, Nat.testBit_or, Device.regN_eq, BitVec.testBit_toNat]
  simp [hlt]
  exact .inl hk

theorem failover {mask : Nat} (h : Kept d e) : Kept d (e.failover mask) := by
  unfold Device.failover
  exact h.when fun h => ((h.twinSend.addCause.event (by decide)).setRole.twinRecord.awaitSnapshot).safeRecord

theorem keyReset (h : Kept d e) : Kept d e.keyReset := by
  unfold Device.keyReset
  exact other (h.setBit (by decide)) rfl rfl rfl rfl

theorem pebKick {k : Nat} (h : Kept d e) : Kept d (e.pebKick k) := by
  unfold Device.pebKick
  split
  · exact h.branch (·.setPeb) fun h => h.other rfl rfl rfl rfl
  · exact h

theorem pebPush {k : Nat} {f : Frame} (h : Kept d e) (hx : e.pebPush k f = some x) : Kept d x := by
  unfold Device.pebPush at hx
  simp only [Option.ite_none_right_eq_some, Option.some.injEq] at hx
  obtain ⟨-, rfl⟩ := hx
  exact h.setPeb.pebKick

theorem pebSafe {k : Nat} (h : Kept d e) : Kept d (e.pebSafe k) := by
  unfold Device.pebSafe
  refine h.setPeb.when fun h => ?_
  split
  · next hx => exact h.pebPush hx
  · exact h

theorem cutPlay {t : Nat} (h : Kept d e) : Kept d (e.cutPlay t) := by
  unfold Device.cutPlay
  exact h.skip fun h => h.draw.forN (·.modStr)

theorem channelsSafe (h : Kept d e) : Kept d e.channelsSafe := by
  unfold Device.channelsSafe
  exact h.cutPlay.forN (·.setChan rfl)

theorem guardRefresh (h : Kept d e) : Kept d e.guardRefresh := by
  unfold Device.guardRefresh
  exact ((h.setRegN (by decide)).forN_lt fun hi h => h.setBit (.guard hi)).setRegN (by decide)

theorem linesOff (h : Kept d e) : Kept d e.linesOff := by
  unfold Device.linesOff
  exact forN (other h rfl rfl rfl rfl) (·.modStr)

theorem setSafeState {v : Nat} (h : Kept d e) : Kept d (e.setSafeState v) := (h.setFld (by decide)).setBit (by decide)

theorem strobeLow {k : Nat} (h : Kept d e) (hk : k < 4) : Kept d (e.strobeLow k) := by
  unfold Device.strobeLow
  exact other (h.when (·.setBit (.strobe hk))) rfl rfl rfl rfl

theorem strobesOff {all : Bool} (h : Kept d e) : Kept d (e.strobesOff all) := h.forN_lt fun hi h => h.when (·.strobeLow hi)

theorem strobesStop (h : Kept d e) : Kept d e.strobesStop := h.forN_lt fun hi h => (h.setBit (.strobe hi)).modStrobe

theorem safeActions (h : Kept d e) : Kept d e.safeActions := by
  unfold Device.safeActions
  exact guardRefresh (strobesOff (linesOff (channelsSafe (forN (setSafeState (other h rfl rfl rfl rfl)) (·.setBit .pier)))))

theorem safeStamp {low : Nat} (h : Kept d e) : Kept d (e.safeStamp low) := by
  unfold Device.safeStamp
  exact addSat (setFld (other (h.setReg64 (by decide) (by decide)) rfl rfl rfl rfl) (by decide)) (by decide)

theorem checkpointCal (h : Kept d e) : Kept d e.checkpointCal := h.when (·.twinSend)

theorem calCommit (h : Kept d e) : Kept d e.calCommit := by
  unfold Device.calCommit
  refine calIdle (foldl (modCal (calStore (checkpointCal (hook (event (record (setRegN (skip (setReg64 (setBit (burstFlush h) ?_) ?_ ?_)
    (·.setFld ?_)) ?_)) ?_))))) (·.calRelease)) <;> decide

theorem safeStreams {own : List (Nat × Nat)} (h : Kept d e) : Kept d (e.safeStreams own) := by
  unfold Device.safeStreams
  refine when (forN h fun h => h.skip fun h => ?_) (·.calCommit)
  split
  · exact h.endStream
  · exact h.endStream

/-- An operation that keeps the frame at another tester time keeps it at this one. -/
theorem atTime {t : Nat} (h : Kept d e) (hx : Kept { e with ttime := t } x) : Kept d { x with ttime := e.ttime } :=
  h.trans ⟨hx.regs, hx.state, hx.cause, rfl, hx.pwr, hx.rest⟩

theorem underrunsToo {ss : List Nat} {t : Nat} (h : Kept d e) : Kept d (e.underrunsToo ss t) := by
  unfold Device.underrunsToo
  refine h.skip fun h => ?_
  have hcause := ((h.addCause (b := 3)).foldl (f := fun d s => d.setBit Reg.SAFE_STREAMS s true) (l := ss) (·.setBit (by decide))).event
    (p := Page.SAFE) (b := 0) (by decide)
  have htime : e.ttime = ((ss.foldl (fun d s => d.setBit Reg.SAFE_STREAMS s true) (e.setBit Reg.SAFE_CAUSE 3 true)).event Page.SAFE 0).ttime :=
    h.time.trans hcause.time.symm
  dsimp only
  rw [htime]
  exact hcause.atTime (safeRecord (.refl _))

/-- Once the causes that arrive are noted, the frame holds of what follows. -/
theorem safeArrive_noted {mask : Nat} {own : List (Nat × Nat)} (h : Kept d (e.setRegN Reg.SAFE_CAUSE (e.regN Reg.SAFE_CAUSE ||| mask))) :
    Kept d (e.safeArrive mask own) := by
  unfold Device.safeArrive
  extract_lets low was caused streams noted crit marked
  have hmarked : Kept d marked := when (when (event (foldl h (·.setBit (by decide))) (by decide)) (·.event (by decide))) (·.setBit (by decide))
  refine hmarked.branch (fun h => ?_) (fun h => ?_)
  · exact forN (underrunsToo (safeStreams (failover (safeRecord (safeActions (safeStamp (keyReset h))))))) (·.pebSafe)
  · exact (h.when (·.setSafeState)).safeRecord.safeStreams

theorem safeArrive {mask : Nat} {own : List (Nat × Nat)} (h : Kept d e) : Kept d (e.safeArrive mask own) := h.addCauses.safeArrive_noted

theorem safeCause {b : Nat} (h : Kept d e) : Kept d (e.safeCause b) := h.safeArrive

theorem calRequiredEnd {rejected : Bool} (h : Kept d e) : Kept d (e.calRequiredEnd rejected) := by
  unfold Device.calRequiredEnd
  exact h.modCal.when (·.safeCause)

theorem calEnd {outcome : Nat} (h : Kept d e) : Kept d (e.calEnd outcome) := by
  unfold Device.calEnd
  exact h.calReturn.calFail.calRequiredEnd.calIdle

theorem calDoze (h : Kept d e) : Kept d e.calDoze := h.skip (·.calEnd)

end Sys2Proof.Machine.Kept
end

section
/-! SUPPORT. The frame `Kept` of links that are lost, of the data link and of what follows a command. -/

namespace Sys2Proof.Machine.Kept

variable {d e x : Device}

/-! ## Links -/

theorem setLst {k v : Nat} (h : Kept d e) : Kept d (e.setLst k v) := by
  unfold Device.setLst
  exact h.skip fun h => h.modLink.when fun h => (h.setFld (by decide)).event (by decide)

theorem linkRec {code lane : Nat} (h : Kept d e) : Kept d (e.linkRec code lane) := h.record

theorem lanesDark (h : Kept d e) : Kept d e.lanesDark := h.forN_lt fun hi h => (h.setBit (.lane hi)).setBit (.lane hi)

theorem trsDown (h : Kept d e) : Kept d e.trsDown := by
  unfold Device.trsDown
  refine when (forN_lt (setFld (setFld (lanesDark (modTrs (modLink h))) (by decide)) (by decide)) fun hi h => ?_) (·.linkRec)
  exact (h.setBit (.lane hi)).setFld (.lane hi)

theorem hashAbandon (h : Kept d e) : Kept d e.hashAbandon := by
  unfold Device.hashAbandon Device.hashStale
  exact h.when fun h => ((((h.setBit (by decide)).setBit (by decide)).setBit (by decide)).setBit (by decide)).modTwin

theorem twinDown (h : Kept d e) : Kept d e.twinDown := by
  unfold Device.twinDown
  refine skip ((h.setBit (by decide)).setFld (by decide)) fun h => when ((h.event (by decide)).twinRecord.hashAbandon) fun h => ?_
  exact ((h.setRole.setBit (by decide)).modTwin.event (by decide)).twinRecord

theorem viaRec {code detail : Nat} (h : Kept d e) : Kept d (e.viaRec code detail) := h.record

theorem setTstate {v reason : Nat} (h : Kept d e) : Kept d (e.setTstate v reason) := by
  unfold Device.setTstate
  exact ((h.setFld (by decide)).setFld (by decide)).skip fun h => (h.event (by decide)).viaRec

theorem viaSend {port ty src dst t corr param : Nat} (h : Kept d e) : Kept d (e.viaSend port ty src dst t corr param) := by
  unfold Device.viaSend
  exact h.emit.modVia

theorem viaAddress (h : Kept d e) : Kept d e.viaAddress := by
  unfold Device.viaAddress
  exact h.branch (·.viaSend.modVia) fun h => (h.setFld (by decide)).modVia

theorem viaEnd {flag : Bool} {addr : Nat} (h : Kept d e) : Kept d (e.viaEnd flag addr) := h.when (·.viaSend)

theorem viaPort {port : Nat} {up : Bool} (h : Kept d e) : Kept d (e.viaPort port up) := by
  unfold Device.viaPort
  refine h.skip fun h => branch (viaRec (event (setBit h (by decide)) (by decide))) (·.branch (·.viaAddress) (·.viaEnd)) fun h => ?_
  exact h.branch (fun h => h.modVia.when fun h => (h.event (by decide)).viaRec.setTstate) fun h => h.modVia.when (·.setTstate)

theorem linkLost {k : Nat} (h : Kept d e) : Kept d (e.linkLost k) := by
  unfold Device.linkLost
  refine h.skip fun h => when (modLink (setLst ?_)) (·.twinDown)
  split
  · exact h.trsDown
  · exact h.when (·.viaPort)
  · exact h.when (·.viaPort)
  · exact h

/-! ## The data link -/

theorem dmaZero {q : Nat} (h : Kept d e) : Kept d (e.dmaZero q) := ((h.setRegN .dmaHead).setRegN .dmaTail).modDma

theorem queuePkt {ty tag status vec addr : Nat} {ws : List Word} (h : Kept d e) : Kept d (e.queuePkt ty tag status vec addr ws) := h.modTrs

theorem queueMrd {tag addr n : Nat} (h : Kept d e) : Kept d (e.queueMrd tag addr n) := h.modTrs

theorem dmaClose {q : Nat} (h : Kept d e) : Kept d (e.dmaClose q) := by
  unfold Device.dmaClose
  refine h.skip fun h => when (modDma (skip (when (event (setBit (setRegN h .dmaHead) .dmaStat) (by decide)) (·.queuePkt)) fun h => ?_)) (·.dmaZero)
  exact ((h.setBit .dmaStat).setFld .dmaStat).event (by decide)

theorem dmaEnd {q code : Nat} (h : Kept d e) : Kept d (e.dmaEnd q code) := by
  unfold Device.dmaEnd
  exact h.modTrs.modDma

theorem dmaWords {a n : Nat} (h : Kept d e) : Kept d (e.dmaWords a n).1 := by
  unfold Device.dmaWords
  exact foldl_fst h fun h => branch_fst h (·.draw) id

theorem memUEat {a o str syn : Nat} (h : Kept d e) : Kept d (e.memUEat a o str syn) := by
  unfold Device.memUEat
  exact record (event (setRegN (setRegN (addSat (addSat h .mch) (by decide)) (by decide)) (by decide)) .mch)

theorem memUEfree {a o str : Nat} (h : Kept d e) : Kept d (e.memUEfree a o str) := by
  unfold Device.memUEfree
  exact h.draw.memUEat

theorem dmaNext {q room : Nat} {r : Device × Nat} (h : Kept d e) (hr : e.dmaNext q room = some r) : Kept d r.1 := by
  unfold Device.dmaNext at hr
  dsimp only at hr
  split at hr
  · obtain ⟨t, -, rfl⟩ := Option.map_eq_some_iff.mp hr
    exact ((h.setBit .dmaStat).modTrs).queueMrd
  · split at hr
    · split at hr
      · obtain rfl := Option.some.inj hr
        exact branch (modDma (queuePkt (touchRows (dmaWords (h.foldl (·.memUEfree)))))) (·.branch (·.dmaEnd) (·.dmaEnd)) id
      · obtain ⟨t, -, rfl⟩ := Option.map_eq_some_iff.mp hr
        refine modDma (f := fun c => { c with sent := _ }) ?_
        exact h.modTrs.queueMrd
    · exact absurd hr nofun

theorem dmaServe (h : Kept d e) (hx : e.dmaServe = some x) : Kept d x := by
  unfold Device.dmaServe at hx
  dsimp only at hx
  split at hx
  · next hfirst =>
    obtain rfl := Option.some.inj hx
    obtain ⟨r, hr, rfl⟩ := Option.map_eq_some_iff.mp hfirst
    exact (h.dmaNext hr).modTrs
  · obtain ⟨r, hr, rfl⟩ := Option.map_eq_some_iff.mp hx
    exact (h.dmaNext hr).modTrs

theorem sendPkt {p : DataPkt} (h : Kept d e) : Kept d (e.sendPkt p) := by
  unfold Device.sendPkt
  exact h.modTrs.emit

theorem pumpN {n : Nat} (h : Kept d e) : Kept d (Device.pumpN n e) := by
  induction n generalizing e with
  | zero => exact h
  | succ n ih =>
    unfold Device.pumpN
    split
    · exact ih h.modTrs.sendPkt.dmaClose.dmaClose
    · refine ite ?_ h
      split
      · next hx => exact ih (h.dmaServe hx)
      · exact h

theorem pump (h : Kept d e) : Kept d e.pump := h.pumpN

/-! ## What follows a command -/

theorem burstSync (h : Kept d e) : Kept d e.burstSync := h.skip (·.burstFlush)

theorem caughtUp {d₀ : Device} (h : Kept d e) : Kept d (d₀.caughtUp e) := by
  unfold Device.caughtUp
  exact skip (when (skip (when (when h (·.settlePlay)) (·.burstSync)) (·.ivmDeliver)) (·.ivmSendAll)) (·.descSettle)

theorem settle (h : Kept d e) : Kept d e.settle := by
  obtain ⟨c, hc⟩ := e.settle_eq
  rw [hc]
  exact h.other rfl rfl rfl rfl

end Sys2Proof.Machine.Kept
end

section
/-! PROOF. Losing and regaining REFCLK and a PLL's lock (R18, R448). -/

namespace Sys2Proof.Machine

variable {d e x : Device} {s : State}

/-- A command is followed by what `Kept` frames. -/
theorem Completes.of_kept {c : Instr} {P : Device → Prop} (f : Device → Device) (hx : exec c s = s.run f)
    (hP : ∀ e, Kept (f s.dev.fresh) e → P e) : Completes c s P :=
  ⟨_, hx, rfl, hP _ (Kept.refl _).caughtUp.settle⟩

theorem Kept.clk (h : Kept d e) : e.reg Reg.CLK_STATUS = d.reg Reg.CLK_STATUS := h.regs _ (.inl (by decide))

/-! ## A PLL loses lock -/

/-- The lock of PLL `k` is gone, counted and told. -/
def Device.lockGone (d : Device) (k : Nat) : Device := ((d.setBit Reg.CLK_STATUS k false).addSat Reg.CLK_LOCKLOSS 0 16 1).event Page.CLK 0

theorem Device.reg_lockGone (d : Device) (k : Nat) : (d.lockGone k).reg Reg.CLK_STATUS = (d.reg Reg.CLK_STATUS).putBit k false := by
  have hcount : Reg.CLK_STATUS ≠ Reg.CLK_LOCKLOSS := by decide
  have hevent : Reg.CLK_STATUS ≠ Reg.PG_EVT_RAW Page.CLK := by decide
  simp [Device.lockGone, hcount, hevent]

/-- What follows the loss of a lock, after the channels that go off with the TCLK and the pier PLL. -/
theorem Device.pllDown_rest {k : Nat} (h : d.bit Reg.CLK_STATUS k = true) :
    Kept (if k ≤ 1 then ((d.lockGone k).burstFlush false).channelsOff else (d.lockGone k).burstFlush false) (d.pllDown k) := by
  unfold Device.pllDown
  rw [h, if_neg (by decide : ¬ (!true) = true)]
  refine (((((Kept.refl _).when ?_).when ?_).when ?_).when ?_).when ?_
  · exact fun h => h.strobesStop.ivmClockLost.setTstate
  · exact (·.calFreq)
  · exact (·.coresHold)
  · exact fun h => h.forN fun h => h.when (·.setFld .mch)
  · exact fun h => h.foldl (·.linkLost)

theorem Device.pllDown_kept {k : Nat} (h : d.bit Reg.CLK_STATUS k = true) : Kept (d.lockGone k) (d.pllDown k) :=
  ((Kept.refl (d.lockGone k)).burstFlush.when (·.channelsOff)).trans (Device.pllDown_rest h)

theorem Device.den_leaveBalls (d : Device) (m n : Nat) (dhi : Bool) :
    ((d.leaveBalls m false dhi).chanOf n).den = if n = m then false else (d.chanOf n).den := by
  rw [Device.leaveBalls, Device.chanOf_setChan]
  split <;> rfl

theorem Device.chanOf_channelsOff (d : Device) {n : Nat} (hn : n < 256) : (d.channelsOff.chanOf n).den = false := by
  have hlist : ∀ (l : List Nat) (e : Device), (n ∈ l ∨ (e.chanOf n).den = false) →
      ((l.foldl (fun d n => d.leaveBalls n false false) e).chanOf n).den = false := by
    intro l
    induction l with
    | nil => exact fun _ h => h.resolve_left List.not_mem_nil
    | cons m l ih =>
      intro e h
      refine ih _ ?_
      rw [Device.den_leaveBalls]
      by_cases hnm : n = m
      · exact .inr (if_pos hnm)
      · rw [if_neg hnm]
        exact h.imp_left fun hmem => (List.mem_cons.mp hmem).resolve_left hnm
  exact hlist _ _ (.inl (List.mem_range.mpr hn))

/-- Without the TCLK or the pier PLL both clocks cannot be locked. -/
theorem Word.get_clocks_ne {w : Word} {k : Nat} (hk : k ≤ 1) (h : w.bit k = false) : w.get 0 2 ≠ 3 := by
  intro heq
  have hbit : (w.get 0 2).testBit k = w.bit k := by
    rw [Word.get, BitVec.testBit_toNat, BitVec.getLsbD_extractLsb', Word.bit, Nat.zero_add]
    simp
    omega
  rw [heq, h] at hbit
  obtain rfl | rfl : k = 0 ∨ k = 1 := by omega
  · exact absurd hbit (by decide)
  · exact absurd hbit (by decide)

/-- The PLL that lost lock shows it, and one whose loss turns the channels off leaves them so. -/
theorem Device.pllDown_off {k n : Nat} (h : d.bit Reg.CLK_STATUS k = true) (hk : k ≤ 1) (hn : n < 256) (he : Kept (d.pllDown k) e) :
    (e.chanOf n).den = false := by
  have hoff := (Device.pllDown_rest h).trans he
  rw [if_pos hk] at hoff
  refine hoff.rest (Word.get_clocks_ne hk ?_) n (Device.chanOf_channelsOff _ hn)
  rw [(Kept.refl (d.lockGone k)).burstFlush.channelsOff.clk, Device.reg_lockGone]
  exact Word.bit_putBit _ false (by omega)

/-- A lock bit after the loss of one of them. -/
theorem Device.bit_pllDown (d : Device) {k : Nat} (hk : k < 32) (j : Nat) :
    (d.pllDown k).bit Reg.CLK_STATUS j = if j = k then false else d.bit Reg.CLK_STATUS j := by
  by_cases h : d.bit Reg.CLK_STATUS k = true
  · rw [Device.bit_eq, (Device.pllDown_kept h).clk, Device.reg_lockGone]
    by_cases hj : j = k
    · rw [if_pos hj, hj]
      exact Word.bit_putBit _ false hk
    · rw [if_neg hj]
      exact Word.bit_putBit_other _ _ hj
  · have hsame : d.pllDown k = d := by
      unfold Device.pllDown
      rw [if_pos (by simpa using h)]
    rw [hsame]
    by_cases hj : j = k
    · rw [if_pos hj, hj]
      exact (Bool.not_eq_true _).mp h
    · rw [if_neg hj]


/-- The cause of the safe state that arrives is noted (R355). -/
theorem Device.cause_safeCause {b : Nat} (hb : b < 32) (he : Kept (d.safeCause b) e) : e.bit Reg.SAFE_CAUSE b = true := by
  refine ((Kept.refl _).safeArrive_noted.trans he).cause b ?_
  rw [Device.bit_eq, Device.setRegN_eq, Device.reg_setReg_same, Word.bit, BitVec.getLsbD_ofNat, Nat.testBit_or, Nat.testBit_two_pow_self]
  simp [hb]

/-- The loss of PLL `k`: beside what follows any, the cause of the safe state of one of the first four. -/
theorem Device.pllLost_cases {k : Nat} (h : d.bit Reg.CLK_STATUS k = true) (he : Kept (d.pllLost k) e) :
    Kept (d.pllDown k) e ∧ (k ≤ 3 → e.bit Reg.SAFE_CAUSE 7 = true) := by
  unfold Device.pllLost at he
  rw [h] at he
  by_cases hk : k ≤ 3
  · rw [if_pos (by simpa using hk)] at he
    exact ⟨(Kept.refl _).safeCause.trans he, fun _ => Device.cause_safeCause (by decide) he⟩
  · rw [if_neg (by simpa using hk)] at he
    exact ⟨he, fun hk' => absurd hk' hk⟩

theorem pllLockLoss_completes {k : Fin 6} (h : s.dev.bit Reg.CLK_STATUS k.val = true) :
    Completes (.pllLockLoss k) s (fun e => e.bit Reg.CLK_STATUS k.val = false ∧ e.bit (Reg.PG_EVT_RAW Page.CLK) 0 = true ∧
      (k.val ≤ 1 → ∀ n < 256, (e.chanOf n).den = false) ∧ (k.val ≤ 3 → e.bit Reg.SAFE_CAUSE 7 = true)) := by
  refine Completes.of_kept (fun d => d.pllLost k.val) rfl fun e he => ?_
  obtain ⟨hdown, hcause⟩ := Device.pllLost_cases (d := s.dev.fresh) h he
  refine ⟨?_, ?_, fun hk n hn => Device.pllDown_off (d := s.dev.fresh) h hk hn hdown, hcause⟩
  · rw [Device.bit_eq, hdown.clk, ← Device.bit_eq, Device.bit_pllDown _ (by omega), if_pos rfl]
  · rw [Device.bit_eq, ((Device.pllDown_kept (d := s.dev.fresh) h).trans hdown).regs _ (.inl (by decide)), ← Device.bit_eq]
    exact Device.bit_event _ _ (by decide)

/-! ## REFCLK -/

/-- The loss of REFCLK is noted in CLK_STATUS, counted, told and logged. -/
def Device.refGone (d : Device) : Device :=
  ((((d.setBit Reg.CLK_STATUS 7 false).setBit Reg.CLK_STATUS 8 true).addSat Reg.CLK_LOCKLOSS 16 16 1).event Page.CLK 1).logWith 0x00020000 0x0051 0 0

theorem Device.reg_refGone (d : Device) : d.refGone.reg Reg.CLK_STATUS = ((d.reg Reg.CLK_STATUS).putBit 7 false).putBit 8 true := by
  have hcount : Reg.CLK_STATUS ≠ Reg.CLK_LOCKLOSS := by decide
  have hevent : Reg.CLK_STATUS ≠ Reg.PG_EVT_RAW Page.CLK := by decide
  rw [Device.refGone, ((Kept.refl _).logWith).clk]
  simp [hcount, hevent]

/-- The PLLs that REFCLK feeds lose lock one after the other. -/
def Device.pllsDown (d : Device) : Device := [0, 1, 2, 3, 4].foldl (fun d k => d.pllDown k) d

theorem Device.bit_pllsDown (d : Device) (j : Nat) : d.pllsDown.bit Reg.CLK_STATUS j = if j < 5 then false else d.bit Reg.CLK_STATUS j := by
  have hbit : d.pllsDown.bit Reg.CLK_STATUS j =
      if j = 4 then false else if j = 3 then false else if j = 2 then false else if j = 1 then false else if j = 0 then false
        else d.bit Reg.CLK_STATUS j := by
    simp only [Device.pllsDown, List.foldl, Device.bit_pllDown, Nat.reduceLT]
  rw [hbit]
  by_cases hj : j < 5
  · obtain rfl | rfl | rfl | rfl | rfl : j = 0 ∨ j = 1 ∨ j = 2 ∨ j = 3 ∨ j = 4 := by omega
    all_goals rfl
  · rw [if_neg hj, if_neg (by omega), if_neg (by omega), if_neg (by omega), if_neg (by omega), if_neg (by omega)]

theorem Device.refLoss_kept (h : d.bit Reg.CLK_STATUS 7 = true) : Kept d.refGone.pllsDown d.refLoss := by
  unfold Device.refLoss
  rw [h, if_neg (by decide : ¬ (!true) = true)]
  exact (Kept.refl _).setTstate.linkLost.when (·.safeCause)

theorem refclkLoss_completes (h : s.dev.bit Reg.CLK_STATUS 7 = true) :
    Completes .refclkLoss s (fun e => e.bit Reg.CLK_STATUS 7 = false ∧ e.bit Reg.CLK_STATUS 8 = true ∧ ∀ k < 5, e.bit Reg.CLK_STATUS k = false) := by
  refine Completes.of_kept (·.refLoss) rfl fun e he => ?_
  have hbit (j : Nat) : e.bit Reg.CLK_STATUS j = if j < 5 then false else s.dev.fresh.refGone.bit Reg.CLK_STATUS j := by
    rw [Device.bit_eq, ((Device.refLoss_kept (d := s.dev.fresh) h).trans he).clk, ← Device.bit_eq, Device.bit_pllsDown]
  refine ⟨?_, ?_, fun k hk => (hbit k).trans (if_pos hk)⟩
  · rw [hbit, if_neg (by decide), Device.bit_eq, Device.reg_refGone, Word.bit_putBit_other _ _ (by decide)]
    exact Word.bit_putBit _ false (by decide)
  · rw [hbit, if_neg (by decide), Device.bit_eq, Device.reg_refGone]
    exact Word.bit_putBit _ true (by decide)

theorem Device.reg_refReturn (d : Device) : d.refReturn.reg Reg.CLK_STATUS = ((d.reg Reg.CLK_STATUS).putBit 7 true).putBit 8 false := by
  simp [Device.refReturn]

theorem refclkReturn_completes :
    Completes .refclkReturn s (fun e => e.bit Reg.CLK_STATUS 7 = true ∧ e.bit Reg.CLK_STATUS 8 = false ∧
      (∀ k < 6, e.bit Reg.CLK_STATUS k = s.dev.bit Reg.CLK_STATUS k) ∧ RegsBut (· = Reg.CLK_STATUS) s.dev e ∧ OnlyRegs s.dev e) := by
  have hreg : s.dev.fresh.refReturn.settle.reg Reg.CLK_STATUS = ((s.dev.reg Reg.CLK_STATUS).putBit 7 true).putBit 8 false := by
    rw [Device.settle_reg]
    exact Device.reg_refReturn s.dev.fresh
  refine Completes.of_run (·.refReturn) rfl rfl ⟨rfl, rfl, rfl⟩ ⟨?_, ?_, fun k hk => ?_, fun a ha => ?_, OnlyRegs.settle rfl⟩
  · rw [Device.bit_eq, hreg, Word.bit_putBit_other _ _ (by decide)]
    exact Word.bit_putBit _ true (by decide)
  · rw [Device.bit_eq, hreg]
    exact Word.bit_putBit _ false (by decide)
  · rw [Device.bit_eq, hreg, Word.bit_putBit_other _ _ (by omega), Word.bit_putBit_other _ _ (by omega)]
    rfl
  · exact (Device.settle_reg _ _).trans ((Tab.get_set_other _ _ ha).trans (Tab.get_set_other _ _ ha))

/-! ## A PLL locks -/

/-- The CHIP and CLK pages keep their registers. -/
def ClkKept (d e : Device) : Prop := RegsBut (0x2000 ≤ ·) d e

theorem Kept.clkKept (h : Kept d e) : ClkKept d e := fun a ha => h.regs a (.inl ⟨by omega, by rintro rfl; exact ha (by decide)⟩)

namespace ClkKept

theorem refl (d : Device) : ClkKept d d := fun _ _ => rfl

theorem trans (h : ClkKept d e) (hx : ClkKept e x) : ClkKept d x := fun a ha => (hx a ha).trans (h a ha)

theorem setReg {a : Nat} {v : Word} (h : ClkKept d e) (ha : 0x2000 ≤ a) : ClkKept d (e.setReg a v) := fun b hb =>
  (Tab.get_set_other _ _ (by rintro rfl; exact hb ha)).trans (h b hb)

theorem modPwr {f : PwrCtx → PwrCtx} (h : ClkKept d e) : ClkKept d (e.modPwr f) := h

theorem ite {c : Prop} [Decidable c] {y : Device} (hx : ClkKept d x) (hy : ClkKept d y) : ClkKept d (if c then x else y) := by
  split
  · exact hx
  · exact hy

theorem govRequest {us : List Nat} (h : ClkKept d e) : ClkKept d (e.govRequest us) := by
  unfold Device.govRequest Device.govSync
  refine ite h (setReg (setReg (foldl_keep (ClkKept d) _ (fun b u hb => ?_) us e h) (by decide)) (by decide))
  exact ite hb hb

theorem pwrRefuse {c : Nat} (h : ClkKept d e) : ClkKept d (e.pwrRefuse c) := (h.setReg (by decide)).setReg (by decide)

theorem pwrEnter {f : PwrCtx → PwrCtx} (h : ClkKept d e) : ClkKept d ((e.modPwr f).setFld Reg.PWR_STATE 0 3 4).calDoze :=
  trans (setReg h.modPwr (by decide)) (Kept.refl _).calDoze.clkKept

theorem pwrAct {v : Nat} (h : ClkKept d e) : ClkKept d (e.pwrAct v) := by
  unfold Device.pwrAct
  dsimp only
  split
  · exact ite (h.setReg (by decide)) h
  · refine ite h (ite h.pwrRefuse ?_)
    split
    · exact h.pwrRefuse
    · exact h.pwrEnter
  · refine ite h ?_
    split
    · exact h.pwrRefuse
    · exact h.pwrEnter
  · exact h.pwrRefuse

theorem pwrDone (h : ClkKept d e) : ClkKept d e.pwrDone := by
  unfold Device.pwrDone
  have hdone : ClkKept d ((e.event Page.PWR 0).modPwr (fun p => { p with held := none })) := h.setReg (by decide)
  dsimp only
  split
  · exact hdone.pwrAct
  · exact hdone

theorem wakeStep (h : ClkKept d e) : ClkKept d e.wakeStep := by
  unfold Device.wakeStep
  extract_lets locks requested verified
  have hrequested : ClkKept d requested := ite h.modPwr.govRequest h
  have hverified : ClkKept d verified := ite (hrequested.modPwr.trans (Kept.refl _).calBegin.clkKept) hrequested
  refine ite h (ite (trans (pwrDone (trans ?_ (Kept.refl _).coresFree.calAwake.clkKept)) (Kept.refl _).pump.clkKept) hverified)
  exact setReg hverified.modPwr (by decide)

end ClkKept

theorem Kept.applyBin {n : Nat} (h : Kept d e) : Kept d (e.applyBin n) := by
  unfold Device.applyBin
  exact h.skip fun h => (h.setFld .mch).event .mch

/-- A PLL that locks shows it, whatever follows. -/
theorem Device.pllLock_clk {k : Nat} (h : d.bit Reg.CLK_STATUS k = false) (hk : k = 5 ∨ d.bit Reg.CLK_STATUS 7 = true) :
    ClkKept (d.setBit Reg.CLK_STATUS k true) (d.pllLock k) := by
  unfold Device.pllLock
  rw [if_neg (by rw [h]; simpa [-Device.bit_eq, imp_iff_not_or] using hk)]
  refine ClkKept.wakeStep (Kept.clkKept ((((Kept.refl _).when (·.coresFree)).when ?_).when (·.calFreq)))
  exact fun h => h.forN fun h => h.when fun h => (h.setFld .mch).applyBin

theorem pllLock_completes {k : Fin 6} (h : s.dev.bit Reg.CLK_STATUS k.val = false) (hk : k.val = 5 ∨ s.dev.bit Reg.CLK_STATUS 7 = true) :
    Completes (.pllLock k) s (fun e => e.bit Reg.CLK_STATUS k.val = true) := by
  refine Completes.of_kept (fun d => d.pllLock k.val) rfl fun e he => ?_
  rw [Device.bit_eq, ((Device.pllLock_clk (d := s.dev.fresh) h hk).trans he.clkKept) _ (by decide), Device.setBit_eq, Device.reg_setReg_same]
  exact Word.bit_putBit _ true (by omega)

/-- Settles O1: what a loss or a lock writes into CLK_STATUS stays, since all that follows it keeps the page, the causes of the safe state, and the channels
that are off without their clocks. -/
theorem clocksLostAndRegained : Obligations.ClocksLostAndRegained := by
  unfold Obligations.ClocksLostAndRegained
  exact ⟨fun _ h => refclkLoss_completes h, fun _ => refclkReturn_completes, fun _ _ h => pllLockLoss_completes h,
    fun _ _ h hk => pllLock_completes h hk⟩

end Sys2Proof.Machine
end

section
/-! SUPPORT. The step governor: what the requests, the gates and the sleep of a unit change (R352, R353). -/

namespace Sys2Proof.Machine

variable {d e x : Device}

/-- A register of the step governor, of the faults and events of its page, or the state or an event of a memory channel. -/
def GovReg (a : Nat) : Prop :=
  a = Reg.PWR_GOVQ ∨ a = Reg.PWR_AWAKE_M ∨ a = Reg.PWR_AWAKE_P ∨ a = Reg.PG_EVT_RAW Page.PWR ∨ a = Reg.PG_FAULT_CODE Page.PWR ∨
    a = Reg.PG_STATUS Page.PWR ∨ (∃ n, a = Reg.MCH_STATUS n) ∨ ∃ n, a = Reg.PG_EVT_RAW (Page.MCH n)

theorem GovReg.mchEvent (n : Nat) : GovReg (Reg.PG_EVT_RAW (Page.MCH n)) := .inr <| .inr <| .inr <| .inr <| .inr <| .inr <| .inr ⟨n, rfl⟩

/-- Beside registers, channels and the context of the power states nothing differs. -/
def PowerOnly (d e : Device) : Prop := ∃ r c p, e = { d with regs := r, chan := c, pwr := p }

/-- What the step governor does: of the registers only its own change. -/
structure Governed (d e : Device) : Prop where
  only : PowerOnly d e
  regs : RegsBut GovReg d e

theorem PowerOnly.refl (d : Device) : PowerOnly d d := ⟨_, _, _, rfl⟩

theorem PowerOnly.trans (h : PowerOnly d e) (hx : PowerOnly e x) : PowerOnly d x := by
  obtain ⟨_, _, _, rfl⟩ := h
  obtain ⟨_, _, _, rfl⟩ := hx
  exact ⟨_, _, _, rfl⟩

theorem PowerOnly.still (h : PowerOnly d e) : d.Still e := by
  obtain ⟨_, _, _, rfl⟩ := h
  exact ⟨rfl, rfl, rfl⟩

theorem PowerOnly.mem_eq (h : PowerOnly d e) : e.mem = d.mem := by
  obtain ⟨_, _, _, rfl⟩ := h
  rfl

theorem PowerOnly.setReg (d : Device) (a : Nat) (v : Word) : PowerOnly d (d.setReg a v) := ⟨_, _, _, rfl⟩

/-- The registers of a stream, a pier, the ledger, the DMA queues and the power states, and the gates, are not the governor's. -/
theorem not_govReg {a : Nat} (h : (a % 0x1000 ≠ 0x44 ∧ a % 0x1000 ≠ 0x10) ∨ a < 0x20000)
    (hp : a < 0x2000 ∨ 0x3000 ≤ a ∨ a = Reg.PWR_STATE ∨ a = Reg.PWR_SGATE ∨ a = Reg.PWR_PGATE) : ¬ GovReg a := by
  simp only [Reg.PWR_STATE, Reg.PWR_SGATE, Reg.PWR_PGATE, Page.PWR] at hp
  simp only [GovReg, Reg.PWR_GOVQ, Reg.PWR_AWAKE_M, Reg.PWR_AWAKE_P, Reg.PG_EVT_RAW, Reg.PG_FAULT_CODE, Reg.PG_STATUS, Reg.MCH_STATUS, Page.PWR,
    Page.MCH, not_or, not_exists]
  refine ⟨?_, ?_, ?_, ?_, ?_, ?_, fun n => ?_, fun n => ?_⟩ <;> omega

namespace Governed

theorem refl (d : Device) : Governed d d := ⟨.refl d, fun _ _ => rfl⟩

theorem trans (h : Governed d e) (hx : Governed e x) : Governed d x := ⟨h.only.trans hx.only, fun a ha => (hx.regs a ha).trans (h.regs a ha)⟩

theorem ite {c : Prop} [Decidable c] {y : Device} (hx : Governed d x) (hy : Governed d y) : Governed d (if c then x else y) := by
  split
  · exact hx
  · exact hy

theorem foldl {α : Type} {f : Device → α → Device} {l : List α} (h : Governed d e) (hf : ∀ x c, Governed d x → Governed d (f x c)) :
    Governed d (l.foldl f e) := foldl_keep (Governed d) f hf l e h

theorem setReg {a : Nat} {v : Word} (h : Governed d e) (ha : GovReg a) : Governed d (e.setReg a v) :=
  h.trans ⟨.setReg e a v, fun b hb => Tab.get_set_other _ _ (by rintro rfl; exact hb ha)⟩

theorem modPwr {f : PwrCtx → PwrCtx} (h : Governed d e) : Governed d (e.modPwr f) := h.trans ⟨⟨_, _, _, rfl⟩, fun _ _ => rfl⟩

theorem setBalls {n : Nat} {den dhi : Bool} (h : Governed d e) : Governed d (e.setBalls n den dhi) := h.trans ⟨⟨_, _, _, rfl⟩, fun _ _ => rfl⟩

theorem unitSleep {u : Nat} (h : Governed d e) : Governed d (e.unitSleep u) := by
  unfold Device.unitSleep
  refine ite ?_ (foldl (setReg h (by simp [GovReg])) fun _ _ h => h.setBalls)
  have hawake : Governed d (e.setBit Reg.PWR_AWAKE_M u false) := setReg h (by simp [GovReg])
  exact ite (setReg hawake (by simp [GovReg])) hawake

theorem applyBin {n : Nat} (h : Governed d e) : Governed d (e.applyBin n) := by
  unfold Device.applyBin
  exact ite h (setReg (setReg h (by simp [GovReg])) (.mchEvent n))

theorem restPier {p : Nat} (h : Governed d e) : Governed d (e.restPier p) := by
  obtain ⟨c, hc⟩ := e.restPier_eq p
  rw [hc]
  exact h.trans ⟨⟨_, _, _, rfl⟩, fun _ _ => rfl⟩

theorem govSync (h : Governed d e) : Governed d e.govSync := setReg (setReg h (by simp [GovReg])) (by simp [GovReg])

theorem govEmpty {had : Bool} (h : Governed d e) : Governed d (e.govEmpty had) := ite (setReg h (by simp [GovReg])) h

theorem govGate {us : List Nat} (h : Governed d e) : Governed d (e.govGate us) := by
  unfold Device.govGate
  exact govSync (govEmpty (foldl h fun _ _ h => ite h.modPwr h.modPwr.unitSleep))

theorem govRequest {us : List Nat} (h : Governed d e) : Governed d (e.govRequest us) := by
  unfold Device.govRequest
  exact ite h (govSync (foldl h fun _ _ h => ite h h.modPwr))

theorem fault {c : Nat} (h : Governed d e) : Governed d (e.fault Page.PWR c) := setReg (setReg h (by simp [GovReg])) (by simp [GovReg])

end Governed

/-! ## A unit that sleeps -/

/-- Setting the balls of channels changes channels alone. -/
theorem Device.foldl_setBalls (d : Device) (l : List Nat) (den dhi : Bool) : ∃ c, l.foldl (fun d n => d.setBalls n den dhi) d = { d with chan := c } := by
  refine foldl_keep (fun e => ∃ c, e = { d with chan := c }) _ ?_ _ _ ⟨d.chan, rfl⟩
  rintro _ n ⟨c, rfl⟩
  exact ⟨_, rfl⟩

theorem Device.pwr_unitSleep (d : Device) (u : Nat) : (d.unitSleep u).pwr = d.pwr := by
  unfold Device.unitSleep
  obtain ⟨c, hc⟩ := Device.foldl_setBalls (d.setBit Reg.PWR_AWAKE_P (u - 32) false) (pierChans (u - 32)) false false
  dsimp only
  rw [hc]
  split_ifs <;> rfl

/-- A memory channel that sleeps changes PWR_AWAKE_M, and its own state. -/
theorem Device.reg_unitSleep_low {u a : Nat} (hu : u < 32) (ha : a < 0x20000) :
    (d.unitSleep u).reg a = if a = Reg.PWR_AWAKE_M then (d.reg Reg.PWR_AWAKE_M).putBit u false else d.reg a := by
  have hmch : a ≠ Reg.MCH_STATUS u := by unfold Reg.MCH_STATUS Page.MCH; omega
  unfold Device.unitSleep
  rw [if_pos hu]
  by_cases hst : (d.setBit Reg.PWR_AWAKE_M u false).fld (Reg.MCH_STATUS u) 4 2 = 1
  · exact (congrArg (Device.reg · a) (if_pos hst)).trans ((Tab.get_set_other _ _ hmch).trans (Device.reg_setReg ..))
  · exact (congrArg (Device.reg · a) (if_neg hst)).trans (Device.reg_setReg ..)

/-- A pier that sleeps changes PWR_AWAKE_P. -/
theorem Device.reg_unitSleep_high {u a : Nat} (hu : ¬ u < 32) :
    (d.unitSleep u).reg a = if a = Reg.PWR_AWAKE_P then (d.reg Reg.PWR_AWAKE_P).putBit (u - 32) false else d.reg a := by
  obtain ⟨c, hc⟩ := Device.foldl_setBalls (d.setBit Reg.PWR_AWAKE_P (u - 32) false) (pierChans (u - 32)) false false
  unfold Device.unitSleep
  rw [if_neg hu]
  dsimp only
  rw [hc]
  exact Device.reg_setReg ..

theorem Device.unitAwake_unitSleep {u m : Nat} (hm : m < 48) :
    (d.unitSleep m).unitAwake u = if u = m then false else d.unitAwake u := by
  have hne : Reg.PWR_AWAKE_M ≠ Reg.PWR_AWAKE_P := by decide
  unfold Device.unitAwake
  simp only [Device.bit_eq]
  by_cases hlow : m < 32
  · rw [Device.reg_unitSleep_low hlow (by decide), Device.reg_unitSleep_low hlow (by decide), if_pos rfl, if_neg (Ne.symm hne)]
    by_cases hu : u = m
    · subst hu
      rw [if_pos hlow, if_pos rfl]
      exact Word.bit_putBit _ false hlow
    · rw [if_neg hu, Word.bit_putBit_other _ _ hu]
  · rw [Device.reg_unitSleep_high hlow, Device.reg_unitSleep_high hlow, if_neg hne, if_pos rfl]
    by_cases hu : u = m
    · subst hu
      rw [if_neg hlow, if_pos rfl]
      exact Word.bit_putBit _ false (by omega)
    · rw [if_neg hu]
      split
      · rfl
      · exact Word.bit_putBit_other _ _ (by omega)

/-! ## Every unit sleeps -/

/-- Every unit goes to sleep and no request is left, as on the entry to DOZE or RETAIN. -/
def Device.unitsSleep (d : Device) : Device := ((d.modPwr (fun p => { p with queue := [], waking := [] })).forN 48 (fun d u => d.unitSleep u)).govSync

theorem Device.unitsSleep_governed (d : Device) : Governed d d.unitsSleep :=
  ((Governed.refl d).modPwr.foldl fun _ _ h => h.unitSleep).govSync

theorem Device.pwr_govSync (d : Device) : d.govSync.pwr = d.pwr := rfl

theorem Device.pwr_unitsSleep (d : Device) : d.unitsSleep.pwr = { d.pwr with queue := [], waking := [] } := by
  have hloop (l : List Nat) (e : Device) : (l.foldl (fun d u => d.unitSleep u) e).pwr = e.pwr :=
    foldl_keep (fun x : Device => x.pwr = e.pwr) _ (fun x u hx => (x.pwr_unitSleep u).trans hx) l e rfl
  rw [Device.unitsSleep, Device.pwr_govSync, Device.forN, hloop]
  rfl

theorem Device.unitAwake_govSync (d : Device) (u : Nat) : d.govSync.unitAwake u = d.unitAwake u := by
  have hm : Reg.PWR_AWAKE_M ≠ Reg.PWR_GOVQ := by decide
  have hp : Reg.PWR_AWAKE_P ≠ Reg.PWR_GOVQ := by decide
  simp [Device.unitAwake, Device.govSync, hm, hp]

theorem Device.unitAwake_unitsSleep (d : Device) {u : Nat} (hu : u < 48) : d.unitsSleep.unitAwake u = false := by
  have hlist : ∀ (l : List Nat) (e : Device), (∀ m ∈ l, m < 48) → (u ∈ l ∨ e.unitAwake u = false) →
      (l.foldl (fun d u => d.unitSleep u) e).unitAwake u = false := by
    intro l
    induction l with
    | nil => exact fun _ _ h => h.resolve_left List.not_mem_nil
    | cons m l ih =>
      intro e hl h
      refine ih _ (fun i hi => hl i (.tail _ hi)) ?_
      rw [Device.unitAwake_unitSleep (hl m (.head _))]
      by_cases hum : u = m
      · exact .inr (if_pos hum)
      · rw [if_neg hum]
        exact h.imp_left fun hmem => (List.mem_cons.mp hmem).resolve_left hum
  exact (Device.unitAwake_govSync _ u).trans (hlist _ _ (fun _ hm => List.mem_range.mp hm) (.inl (List.mem_range.mpr hu)))

end Sys2Proof.Machine
end

section
/-! PROOF. The end of the entry to DOZE or RETAIN (R19, R24, R27). -/

namespace Sys2Proof.Machine

variable {d e x : Device} {s : State}

/-- On the way to DOZE or RETAIN: every unit sleeps, no request is left, three PLLs are stopped, and the stack that RETAIN gives up is lost. `p` is the
context of the power states before. -/
structure Entering (p : PwrCtx) (e : Device) : Prop where
  pwr : e.pwr = { p with queue := [], waking := [] }
  state : e.pwrState = 4
  units : ∀ u < 48, e.unitAwake u = false
  clocks : ∀ k < 4, k ≠ 2 → e.bit Reg.CLK_STATUS k = false
  stack : p.target = 2 → e.fld Reg.PWR_STATE 16 1 = p.keep % 2 ∧ e.bit Reg.MEM_STATUS (8 + (1 - p.keep)) = false

theorem Kept.unitAwake (h : Kept d e) (u : Nat) : e.unitAwake u = d.unitAwake u := by
  simp only [Device.unitAwake, Device.bit_eq, h.regs Reg.PWR_AWAKE_M (.inl (by decide)), h.regs Reg.PWR_AWAKE_P (.inl (by decide))]

theorem Entering.kept {p : PwrCtx} (hd : Entering p d) (h : Kept d e) : Entering p e := by
  have hstate : e.reg Reg.PWR_STATE = d.reg Reg.PWR_STATE := h.state (by rw [hd.state]; decide)
  refine ⟨h.pwr.trans hd.pwr, ?_, fun u hu => (h.unitAwake u).trans (hd.units u hu), fun k hk hk2 => ?_, fun ht => ?_⟩
  · rw [Device.pwrState, Device.fld_eq, hstate]
    exact hd.state
  · rw [Device.bit_eq, h.clk]
    exact hd.clocks k hk hk2
  · rw [Device.fld_eq, hstate, Device.bit_eq, h.regs _ (.inr rfl)]
    exact hd.stack ht

/-! ## The steps of the entry -/

/-- RETAIN gives up the stack that is not kept (R24). -/
def Device.giveUpStack (d : Device) (p : PwrCtx) : Device :=
  if p.target = 2 then (d.setFld Reg.PWR_STATE 16 1 p.keep).stackLost (1 - p.keep) else d

/-- The PLLs of the TCLK, the piers and the memory are stopped. -/
def Device.stopPlls (d : Device) : Device :=
  d.setReg Reg.CLK_STATUS ((((d.reg Reg.CLK_STATUS).putBit 0 false).putBit 1 false).putBit 3 false)

/-- The spans and capture regions in a stack are forgotten, and its channels lost. -/
def Device.stackForgotten (d : Device) (k : Nat) : Device :=
  let d := d.forN 65536 (fun d i => if d.spanReady i && decide (stackOf (d.spanAddr i) = k) then d.setBit (spanWord i 3) 31 false else d)
  let d := d.forN 16 (fun d p =>
    if d.regionIn k p then (d.modCap p (fun c => { c with region := none, fill := false })).setBit (Reg.CAP_STATUS p) 0 false else d)
  d.forN 16 (fun d j => d.setFld (Reg.MCH_STATUS (16 * k + j)) 4 2 3)

/-- What a stack held is gone, and it is out of service. -/
def Device.stackGone (d : Device) (k : Nat) : Device :=
  { d.setBit Reg.MEM_STATUS (8 + k) false with
    mem := Tab.drop (fun a => decide (stackOf a = k)) d.mem, mpoison := Tab.drop (fun w => decide (stackOf (8 * w) = k)) d.mpoison }

theorem Device.stackGone_kept (d : Device) (k : Nat) : Kept (d.setBit Reg.MEM_STATUS (8 + k) false) (d.stackGone k) :=
  (Kept.refl _).other rfl rfl rfl rfl

theorem Device.stackLost_eq (d : Device) (k : Nat) : d.stackLost k = (d.stackForgotten k).stackGone k := by
  unfold Device.stackLost Device.stackForgotten Device.stackGone
  rfl

/-- The loss of a stack clears its bit of MEM_STATUS; the frame holds before and after. -/
theorem Device.stackLost_kept (d : Device) (k : Nat) : ∃ x, Kept d x ∧ Kept (x.setBit Reg.MEM_STATUS (8 + k) false) (d.stackLost k) := by
  refine ⟨d.stackForgotten k, ?_, ?_⟩
  · unfold Device.stackForgotten
    exact (((Kept.refl d).forN fun h => h.when (·.setBit .span)).forN fun h => h.when fun h => h.modCap.setBit .cap).forN (·.setFld .mch)
  · rw [Device.stackLost_eq]
    exact Device.stackGone_kept _ k

theorem Device.reg_stackLost (d : Device) (k : Nat) {a : Nat} (ha : a < 0x3000) (hst : 2 ≤ d.pwrState) : (d.stackLost k).reg a = d.reg a := by
  obtain ⟨x, hx, hlost⟩ := d.stackLost_kept k
  have hmem : a ≠ Reg.MEM_STATUS := by simp only [Reg.MEM_STATUS, Page.MEM]; omega
  have hset : (x.setBit Reg.MEM_STATUS (8 + k) false).reg a = x.reg a := Tab.get_set_other _ _ hmem
  by_cases hstate : a = Reg.PWR_STATE
  · subst hstate
    have hx' := hx.state hst
    refine (hlost.state ?_).trans (hset.trans hx')
    rwa [Device.pwrState, Device.fld_eq, hset, hx']
  · exact (hlost.regs a (.inl ⟨ha, hstate⟩)).trans (hset.trans (hx.regs a (.inl ⟨ha, hstate⟩)))

theorem Device.pwr_stackLost (d : Device) (k : Nat) : (d.stackLost k).pwr = d.pwr := by
  obtain ⟨x, hx, hlost⟩ := d.stackLost_kept k
  exact hlost.pwr.trans hx.pwr

theorem Device.bit_stackLost (d : Device) {k : Nat} (hk : 8 + k < 32) : (d.stackLost k).bit Reg.MEM_STATUS (8 + k) = false := by
  obtain ⟨x, hx, hlost⟩ := d.stackLost_kept k
  rw [Device.bit_eq, hlost.regs _ (.inr rfl), Device.setBit_eq, Device.reg_setReg_same]
  exact Word.bit_putBit _ false hk

theorem Device.unitAwake_congr (hm : e.reg Reg.PWR_AWAKE_M = d.reg Reg.PWR_AWAKE_M) (hp : e.reg Reg.PWR_AWAKE_P = d.reg Reg.PWR_AWAKE_P) (u : Nat) :
    e.unitAwake u = d.unitAwake u := by
  simp only [Device.unitAwake, Device.bit_eq, hm, hp]

/-- A register of the power page but PWR_STATE, in a device in the middle of an entry, after a stack is given up. -/
theorem Device.giveUpStack_spec {p : PwrCtx} (hst : d.pwrState = 4) :
    (d.giveUpStack p).pwr = d.pwr ∧ (d.giveUpStack p).pwrState = 4 ∧ (∀ u, (d.giveUpStack p).unitAwake u = d.unitAwake u) ∧
      (p.target = 2 → (d.giveUpStack p).fld Reg.PWR_STATE 16 1 = p.keep % 2 ∧ (d.giveUpStack p).bit Reg.MEM_STATUS (8 + (1 - p.keep)) = false) := by
  unfold Device.giveUpStack
  by_cases ht : p.target = 2
  · rw [if_pos ht]
    have hkeep : (d.setFld Reg.PWR_STATE 16 1 p.keep).reg Reg.PWR_STATE = (d.reg Reg.PWR_STATE).put 16 1 p.keep := Device.reg_setReg_same ..
    have hstate : (d.setFld Reg.PWR_STATE 16 1 p.keep).pwrState = 4 := by
      rw [Device.pwrState, Device.fld_eq, hkeep, Word.get_put_other _ _ (.inl (by decide))]
      exact hst
    have hreg {a : Nat} (ha : a < 0x3000) := Device.reg_stackLost (d.setFld Reg.PWR_STATE 16 1 p.keep) (1 - p.keep) ha (by rw [hstate]; decide)
    refine ⟨Device.pwr_stackLost .., ?_, Device.unitAwake_congr ?_ ?_, fun _ => ⟨?_, Device.bit_stackLost _ (by omega)⟩⟩
    · rw [Device.pwrState, Device.fld_eq, hreg (by decide)]
      exact hstate
    · exact (hreg (by decide)).trans (Tab.get_set_other _ _ (by decide))
    · exact (hreg (by decide)).trans (Tab.get_set_other _ _ (by decide))
    · rw [Device.fld_eq, hreg (by decide), hkeep, Word.get_put_same _ _ (by decide)]
      rfl
  · rw [if_neg ht]
    exact ⟨rfl, hst, fun _ => rfl, fun h => absurd h ht⟩

/-- The steps up to the stop of the PLLs leave the device `Entering`. -/
theorem Device.stopPlls_entering (hst : d.pwrState = 4) : Entering d.pwr ((d.calDoze.unitsSleep).giveUpStack d.pwr).stopPlls := by
  have hcal : Kept d d.calDoze := (Kept.refl d).calDoze
  have hsleep : d.calDoze.unitsSleep.pwrState = 4 := by
    rw [Device.pwrState, Device.fld_eq, d.calDoze.unitsSleep_governed.regs _ (not_govReg (.inr (by decide)) (by simp)), hcal.state (by rw [hst]; decide)]
    exact hst
  obtain ⟨hpwr, hstate, hunits, hstack⟩ := Device.giveUpStack_spec (p := d.pwr) hsleep
  have hreg {a : Nat} (ha : a ≠ Reg.CLK_STATUS) (y : Device) : y.stopPlls.reg a = y.reg a := Tab.get_set_other _ _ ha
  refine ⟨?_, ?_, fun u hu => ?_, fun k hk hk2 => ?_, fun ht => ?_⟩
  · refine hpwr.trans ((Device.pwr_unitsSleep _).trans ?_)
    rw [hcal.pwr]
  · rw [Device.pwrState, Device.fld_eq, hreg (by decide)]
    exact hstate
  · rw [Device.unitAwake_congr (hreg (by decide) _) (hreg (by decide) _), hunits]
    exact Device.unitAwake_unitsSleep _ hu
  · rw [Device.bit_eq, Device.stopPlls, Device.reg_setReg_same]
    obtain rfl | rfl | rfl : k = 0 ∨ k = 1 ∨ k = 3 := by omega
    · rw [Word.bit_putBit_other _ _ (by decide), Word.bit_putBit_other _ _ (by decide), Word.bit_putBit _ _ (by decide)]
    · rw [Word.bit_putBit_other _ _ (by decide), Word.bit_putBit _ _ (by decide)]
    · rw [Word.bit_putBit _ _ (by decide)]
  · rw [Device.fld_eq, hreg (by decide), Device.bit_eq, hreg (by decide)]
    exact hstack ht

/-! ## The command -/

/-- Cores, channels, strobes and links stop with the PLLs. -/
def Device.allStop (d : Device) : Device := ((((d.coresHold.channelsOff).strobesOff true).linkLost 1).linkLost 2).linkLost 3

theorem Device.allStop_off (d : Device) : Kept d.coresHold.channelsOff d.allStop := (Kept.refl _).strobesOff.linkLost.linkLost.linkLost

/-- With nothing held, a transition that is done only tells so (R27). -/
theorem Device.pwrDone_unheld (h : d.pwr.held = none) : d.pwrDone = (d.event Page.PWR 0).modPwr (fun p => { p with held := none }) := by
  unfold Device.pwrDone
  rw [h]

theorem Device.pwrEntered_eq (hst : d.pwrState = 4) : d.pwrEntered =
    ((((d.calDoze.unitsSleep).giveUpStack d.pwr).stopPlls.allStop).setFld Reg.PWR_STATE 0 3 (if d.pwr.target = 2 then 3 else 2)).pwrDone := by
  unfold Device.pwrEntered
  rw [if_neg (not_not.mpr hst)]
  rfl

/-- The last step of an entry: STATE, and the event that tells it. -/
theorem Entering.done {p : PwrCtx} {st : Nat} (h : Entering p d) (hheld : p.held = none) (hst : st = 2 ∨ st = 3)
    (he : Kept (d.setFld Reg.PWR_STATE 0 3 st).pwrDone e) :
    e.pwrState = st ∧ e.bit (Reg.PG_EVT_RAW Page.PWR) 0 = true ∧ (∀ u < 48, e.unitAwake u = false) ∧ e.pwr.queue = [] ∧ e.pwr.waking = [] ∧
      (∀ k < 4, k ≠ 2 → e.bit Reg.CLK_STATUS k = false) ∧
      (p.target = 2 → e.fld Reg.PWR_STATE 16 1 = p.keep % 2 ∧ e.bit Reg.MEM_STATUS (8 + (1 - p.keep)) = false) := by
  have hpwr : (d.setFld Reg.PWR_STATE 0 3 st).pwr.held = none := (congrArg PwrCtx.held h.pwr).trans hheld
  rw [Device.pwrDone_unheld hpwr] at he
  have hstate : e.reg Reg.PWR_STATE = (d.reg Reg.PWR_STATE).put 0 3 st := by
    have hset : (((d.setFld Reg.PWR_STATE 0 3 st).event Page.PWR 0).modPwr (fun p => { p with held := none })).reg Reg.PWR_STATE =
        (d.reg Reg.PWR_STATE).put 0 3 st := (Tab.get_set_other _ _ (by decide)).trans (Device.reg_setReg_same ..)
    refine (he.state ?_).trans hset
    rw [Device.pwrState, Device.fld_eq, hset, Word.get_put_same _ _ (by decide)]
    obtain rfl | rfl := hst <;> decide
  have hreg {a : Nat} (ha : (a < 0x3000 ∧ a ≠ Reg.PWR_STATE) ∨ a = Reg.MEM_STATUS) (hev : a ≠ Reg.PG_EVT_RAW Page.PWR) : e.reg a = d.reg a := by
    have hne : a ≠ Reg.PWR_STATE := by
      rintro rfl
      obtain ⟨-, hne⟩ | heq := ha
      · exact hne rfl
      · exact absurd heq (by decide)
    exact (he.regs a ha).trans ((Tab.get_set_other _ _ hev).trans (Tab.get_set_other _ _ hne))
  refine ⟨?_, ?_, fun u hu => ?_, ?_, ?_, fun k hk hk2 => ?_, fun ht => ?_⟩
  · rw [Device.pwrState, Device.fld_eq, hstate, Word.get_put_same _ _ (by decide)]
    obtain rfl | rfl := hst <;> rfl
  · rw [Device.bit_eq, he.regs _ (.inl (by decide))]
    exact Device.bit_event (d.setFld Reg.PWR_STATE 0 3 st) Page.PWR (by decide)
  · rw [Device.unitAwake_congr (hreg (.inl (by decide)) (by decide)) (hreg (.inl (by decide)) (by decide))]
    exact h.units u hu
  · exact (congrArg PwrCtx.queue he.pwr).trans (congrArg PwrCtx.queue h.pwr)
  · exact (congrArg PwrCtx.waking he.pwr).trans (congrArg PwrCtx.waking h.pwr)
  · rw [Device.bit_eq, hreg (.inl (by decide)) (by decide)]
    exact h.clocks k hk hk2
  · obtain ⟨hkeep, hmem⟩ := h.stack ht
    rw [Device.fld_eq, hstate, Word.get_put_other _ _ (.inr (by decide)), Device.bit_eq, hreg (.inr rfl) (by decide)]
    exact ⟨hkeep, hmem⟩

/-- Channels that are off, in a device without its clocks, stay so to the end of the entry. -/
theorem Entering.off {p : PwrCtx} {st n : Nat} (h : Entering p d) (hheld : p.held = none) (hn : (d.chanOf n).den = false)
    (he : Kept (d.setFld Reg.PWR_STATE 0 3 st).pwrDone e) : (e.chanOf n).den = false := by
  have hpwr : (d.setFld Reg.PWR_STATE 0 3 st).pwr.held = none := (congrArg PwrCtx.held h.pwr).trans hheld
  rw [Device.pwrDone_unheld hpwr] at he
  refine he.rest ?_ n hn
  have hset : (((d.setFld Reg.PWR_STATE 0 3 st).event Page.PWR 0).modPwr (fun p => { p with held := none })).reg Reg.CLK_STATUS =
      d.reg Reg.CLK_STATUS := (Tab.get_set_other _ _ (by decide)).trans (Tab.get_set_other _ _ (by decide))
  rw [Device.fld_eq, hset]
  exact Word.get_clocks_ne (k := 0) (by decide) (h.clocks 0 (by decide) (by decide))

/-- All stop: the channels go off, and stay so without the clocks. -/
theorem Entering.allStop_off {p : PwrCtx} {n : Nat} (h : Entering p d) (hn : n < 256) : (d.allStop.chanOf n).den = false := by
  refine d.allStop_off.rest (Word.get_clocks_ne (k := 0) (by decide) ?_) n (Device.chanOf_channelsOff _ hn)
  rw [(Kept.refl d).coresHold.channelsOff.clk]
  exact h.clocks 0 (by decide) (by decide)

theorem powerEntryDone_completes (hst : s.dev.pwrState = 4) (hheld : s.dev.pwr.held = none) :
    Completes .powerEntryDone s (fun e => e.pwrState = (if s.dev.pwr.target = 2 then 3 else 2) ∧ e.bit (Reg.PG_EVT_RAW Page.PWR) 0 = true ∧
      (∀ n < 256, (e.chanOf n).den = false) ∧ (∀ u < 48, e.unitAwake u = false) ∧ e.pwr.queue = [] ∧ e.pwr.waking = [] ∧
      (∀ k < 4, k ≠ 2 → e.bit Reg.CLK_STATUS k = false) ∧
      (s.dev.pwr.target = 2 → e.fld Reg.PWR_STATE 16 1 = s.dev.pwr.keep % 2 ∧ e.bit Reg.MEM_STATUS (8 + (1 - s.dev.pwr.keep)) = false)) := by
  refine Completes.of_kept (·.pwrEntered) rfl fun e he => ?_
  rw [Device.pwrEntered_eq (d := s.dev.fresh) hst] at he
  have hstopped := Device.stopPlls_entering (d := s.dev.fresh) hst
  have hentering := hstopped.kept ((Kept.refl _).coresHold.channelsOff.trans (Device.allStop_off _))
  obtain ⟨hstate, hevent, hrest⟩ := hentering.done hheld (by split <;> simp) he
  exact ⟨hstate, hevent, fun n hn => hentering.off hheld (hstopped.allStop_off hn) he, hrest⟩

end Sys2Proof.Machine
end

section
/-! PROOF. The step governor's admission of a unit, the end of a unit's wake, and the gates (R352, R353). -/

namespace Sys2Proof.Machine

variable {d e x : Device} {s : State} {q : Requester}

theorem Device.Still.of_fresh (h : d.fresh.Still e) : d.Still e := ⟨h.time, h.meters, h.descriptors⟩

/-- A command is followed by what has become due. -/
theorem Completes.of_caughtUp {c : Instr} {P : Device → Prop} (f : Device → Device) (hx : exec c s = s.run f)
    (hP : P (s.dev.caughtUp (f s.dev.fresh)).settle) : Completes c s P := ⟨_, hx, rfl, hP⟩

/-! ## A unit is admitted -/

/-- The context of the power states after an admission at time `t`: the unit at the head of the queue is waking. -/
def PwrCtx.takeHead (p : PwrCtx) (u : Nat) (rest : List Nat) (t ns : Nat) : PwrCtx :=
  { p with queue := rest, waking := p.waking ++ [u], lastAdm := t, interval := ns }

/-- PWR_GOVQ names the unit that is admitted and follows the queue, and GATE_DONE is raised once that is empty. -/
def Device.govTell (d : Device) (u : Nat) : Device := ((d.setFld Reg.PWR_GOVQ 0 6 u).govEmpty true).govSync

theorem Device.reg_govTell (d : Device) (u a : Nat) : (d.govTell u).reg a =
    if a = Reg.PWR_GOVQ then (((d.reg Reg.PWR_GOVQ).put 0 6 u).put 16 6 d.pwr.queue.length).putBit 15 (!d.pwr.waking.isEmpty)
    else if d.pwr.queue = [] ∧ a = Reg.PG_EVT_RAW Page.PWR then (d.reg a).putBit 2 true
    else d.reg a := by
  have hne : Reg.PWR_GOVQ ≠ Reg.PG_EVT_RAW Page.PWR := by decide
  unfold Device.govTell Device.govSync Device.govEmpty
  cases hq : d.pwr.queue with
  | nil =>
    by_cases ha : a = Reg.PWR_GOVQ
    · simp [ha, hq, hne]
    · by_cases hev : a = Reg.PG_EVT_RAW Page.PWR
      · simp [hev, hq, hne.symm]
      · simp [ha, hev, hq]
  | cons v vs =>
    by_cases ha : a = Reg.PWR_GOVQ
    · simp [ha, hq]
    · simp [ha, hq]

theorem Device.govTell_eq (d : Device) (u : Nat) : ∃ r, d.govTell u = { d with regs := r } := by
  unfold Device.govTell Device.govEmpty
  split
  · exact ⟨_, rfl⟩
  · exact ⟨_, rfl⟩

/-- The context of the power states changes, at time `t`, as the head of the queue is admitted. -/
def Device.admitAt (d : Device) (u : Nat) (rest : List Nat) (t : Nat) : Device := { d with ttime := t, pwr := d.pwr.takeHead u rest t d.govNs }

theorem Device.govAdmit_eq {u : Nat} {rest : List Nat} (h : d.pwr.queue = u :: rest) : ∃ t, d.govAdmit = (d.admitAt u rest t).govTell u := by
  obtain ⟨t, ht⟩ : ∃ t, d.reach (d.pwr.lastAdm + d.pwr.interval * nsTicks) = { d with ttime := t } := by
    unfold Device.reach
    split
    · exact ⟨_, rfl⟩
    · exact ⟨_, rfl⟩
  refine ⟨t, ?_⟩
  unfold Device.govAdmit
  rw [h]
  dsimp only
  rw [ht]
  rfl

/-- PWR_GOVQ after an admission. -/
theorem Device.govqReg_admitted (d : Device) (u : Nat) (rest : List Nat) (t : Nat) : ((d.admitAt u rest t).govTell u).reg Reg.PWR_GOVQ =
    (((d.reg Reg.PWR_GOVQ).put 0 6 u).put 16 6 rest.length).putBit 15 true := by
  have hwaking : (d.pwr.waking ++ [u]).isEmpty = false := by simp
  rw [Device.reg_govTell, if_pos rfl]
  exact congrArg (Word.putBit _ 15) (congrArg (!·) hwaking)

/-- The registers of meters are not the governor's, so an admission leaves a quiet device quiet. -/
theorem Device.quiet_admitted (u : Nat) (rest : List Nat) (t : Nat) (h : d.quiet = true) : ((d.admitAt u rest t).govTell u).quiet = true := by
  have hreg {a : Nat} (ha : 0x80000 ≤ a) : ((d.admitAt u rest t).govTell u).reg a = d.reg a := by
    rw [Device.reg_govTell, if_neg (by simp only [Reg.PWR_GOVQ, Page.PWR]; omega), if_neg (by simp only [Reg.PG_EVT_RAW, Page.PWR]; omega)]
    rfl
  obtain ⟨r, hr⟩ := (d.admitAt u rest t).govTell_eq u
  have hmode : ((d.admitAt u rest t).govTell u).ivmMode = d.ivmMode := funext fun i =>
    congrArg (Word.get · 0 2) (hreg (by unfold Reg.IVM_CTRL Page.IVM; omega))
  have hstate : ((d.admitAt u rest t).govTell u).ivmState = d.ivmState := funext fun i =>
    congrArg (Word.get · 0 3) (hreg (by unfold Reg.IVM_STATUS Page.IVM; omega))
  have hstr : ((d.admitAt u rest t).govTell u).str = d.str := by rw [hr]; rfl
  have hcal : ((d.admitAt u rest t).govTell u).cal = d.cal := by rw [hr]; rfl
  unfold Device.quiet
  rw [hmode, hstate, hstr, hcal]
  exact h

theorem governorAdmit_completes {u : Nat} {rest : List Nat} (h : s.dev.pwr.queue = u :: rest) :
    Completes .governorAdmit s (fun e => e.pwr.queue = rest ∧ e.pwr.waking = s.dev.pwr.waking ++ [u] ∧ e.pwr.lastAdm = e.ttime ∧
      e.fld Reg.PWR_GOVQ 16 6 = rest.length % 64 ∧ e.fld Reg.PWR_GOVQ 0 6 = u % 64 ∧ e.bit Reg.PWR_GOVQ 15 = true ∧
      (rest = [] → e.bit (Reg.PG_EVT_RAW Page.PWR) 2 = true) ∧
      (s.dev.quiet = true → RegsBut (fun a => a = Reg.PWR_GOVQ ∨ (rest = [] ∧ a = Reg.PG_EVT_RAW Page.PWR)) s.dev e ∧ MemSame s.dev e)) := by
  obtain ⟨t, ht⟩ := Device.govAdmit_eq (d := s.dev.fresh) h
  refine Completes.of_caughtUp (·.govAdmit) rfl ?_
  rw [ht]
  have hkept := (Kept.refl ((s.dev.fresh.admitAt u rest t).govTell u)).caughtUp (d₀ := s.dev) |>.settle
  obtain ⟨r, hr⟩ := (s.dev.fresh.admitAt u rest t).govTell_eq u
  have hpwr : ((s.dev.fresh.admitAt u rest t).govTell u).pwr = s.dev.pwr.takeHead u rest t s.dev.fresh.govNs := by rw [hr]; rfl
  have htime : ((s.dev.fresh.admitAt u rest t).govTell u).ttime = t := by rw [hr]; rfl
  have hgovq := (hkept.regs Reg.PWR_GOVQ (.inl (by decide))).trans (Device.govqReg_admitted ..)
  refine ⟨?_, ?_, ?_, ?_, ?_, ?_, fun hnil => ?_, fun hquiet => ?_⟩
  · rw [hkept.pwr, hpwr]
    rfl
  · rw [hkept.pwr, hpwr]
    rfl
  · rw [hkept.pwr, hkept.time, hpwr, htime]
    rfl
  · rw [Device.fld_eq, hgovq, Word.get_putBit_other _ _ (.inl (by decide))]
    exact Word.get_put_same _ _ (by decide)
  · rw [Device.fld_eq, hgovq, Word.get_putBit_other _ _ (.inr (by decide)), Word.get_put_other _ _ (.inl (by decide))]
    exact Word.get_put_same _ _ (by decide)
  · rw [Device.bit_eq, hgovq]
    exact Word.bit_putBit _ true (by decide)
  · rw [Device.bit_eq, hkept.regs _ (.inl (by decide)), Device.reg_govTell, if_neg (by decide), if_pos ⟨hnil, rfl⟩]
    exact Word.bit_putBit _ true (by decide)
  · rw [Device.caughtUp_quiet (Device.quiet_admitted u rest t (d := s.dev.fresh) hquiet) (by rw [hr]; rfl) (by rw [hr]; rfl)]
    refine ⟨fun a ha => ?_, MemSame.settle (by rw [hr]; rfl)⟩
    obtain ⟨hq, hev⟩ := not_or.mp ha
    rw [Device.settle_reg, Device.reg_govTell, if_neg hq]
    exact if_neg hev

/-! ## A unit has woken -/

/-- Outside the wake of the device nothing waits for a unit. -/
theorem Device.wakeStep_idle (h : d.pwrState ≠ 5) : d.wakeStep = d := by
  unfold Device.wakeStep
  rw [if_pos h]

/-- A memory channel in self-refresh comes back with the memory's PLL, and takes its bin. -/
def Device.mchUp (d : Device) (n : Nat) : Device :=
  (if d.fld (Reg.MCH_STATUS n) 4 2 = 2 ∧ d.bit Reg.CLK_STATUS 3 then d.setFld (Reg.MCH_STATUS n) 4 2 1 else d).applyBin n

/-- Its own page apart, a memory channel that comes back changes nothing. -/
theorem Device.mchUp_spec (d : Device) (n : Nat) : (∃ r, d.mchUp n = { d with regs := r }) ∧ ∀ a < 0x20000, (d.mchUp n).reg a = d.reg a := by
  have happly (e : Device) : (∃ r, e.applyBin n = { e with regs := r }) ∧ ∀ a < 0x20000, (e.applyBin n).reg a = e.reg a := by
    unfold Device.applyBin
    generalize e.fld Reg.MEM_STATUS (if n < 16 then 16 else 24) 4 = bin
    dsimp only
    split
    · exact ⟨⟨_, rfl⟩, fun _ _ => rfl⟩
    · refine ⟨⟨_, rfl⟩, fun a ha => (Tab.get_set_other _ _ ?_).trans (Tab.get_set_other _ _ ?_)⟩
      · unfold Reg.PG_EVT_RAW Page.MCH
        omega
      · unfold Reg.MCH_STATUS Page.MCH
        omega
  unfold Device.mchUp
  split
  · obtain ⟨⟨r, hr⟩, hreg⟩ := happly (d.setFld (Reg.MCH_STATUS n) 4 2 1)
    refine ⟨⟨r, hr⟩, fun a ha => (hreg a ha).trans (Tab.get_set_other _ _ ?_)⟩
    unfold Reg.MCH_STATUS Page.MCH
    omega
  · exact happly d

/-- The unit is no longer waking, and is brought up. -/
def Device.unitUp (d : Device) (u : Nat) : Device :=
  let d := d.modPwr (fun p => { p with waking := p.waking.filter (fun v => v ≠ u) })
  if u < 32 then (d.setBit Reg.PWR_AWAKE_M u true).mchUp u else (d.setBit Reg.PWR_AWAKE_P (u - 32) true).restPier (u - 32)

theorem Governed.mchUp {n : Nat} (h : Governed d e) : Governed d (e.mchUp n) := (ite (setReg h (by simp [GovReg])) h).applyBin

theorem Device.unitUp_governed (d : Device) (u : Nat) : Governed d (d.unitUp u) := by
  have hup := (Governed.refl d).modPwr (f := fun p => { p with waking := p.waking.filter (fun v => v ≠ u) })
  unfold Device.unitUp
  exact .ite (hup.setReg (by simp [GovReg])).mchUp (hup.setReg (by simp [GovReg])).restPier

theorem Device.bit_setBit_true (d : Device) (a : Nat) {k : Nat} (hk : k < 32) : (d.setBit a k true).bit a k = true := by
  rw [Device.bit_eq, Device.setBit_eq, Device.reg_setReg_same]
  exact Word.bit_putBit _ true hk

/-- A unit that is brought up is awake. -/
theorem Device.unitAwake_unitUp (d : Device) {u : Nat} (hu : u < 48) : (d.unitUp u).unitAwake u = true := by
  unfold Device.unitUp Device.unitAwake
  by_cases hlow : u < 32
  · simp only [if_pos hlow]
    rw [Device.bit_eq, (Device.mchUp_spec _ u).2 _ (by decide), ← Device.bit_eq]
    exact Device.bit_setBit_true _ _ hlow
  · simp only [if_neg hlow]
    obtain ⟨c, hc⟩ := Device.restPier_eq ((d.modPwr (fun p => { p with waking := p.waking.filter (fun v => v ≠ u) })).setBit Reg.PWR_AWAKE_P (u - 32) true)
      (u - 32)
    rw [hc]
    exact Device.bit_setBit_true d _ (by omega)

/-- Beside the unit, which is no longer waking, the context of the power states is as it was. -/
theorem Device.pwr_unitUp (d : Device) (u : Nat) :
    (d.unitUp u).pwr = { d.pwr with waking := d.pwr.waking.filter (fun v => v ≠ u) } := by
  unfold Device.unitUp
  dsimp only
  split
  · obtain ⟨⟨r, hr⟩, -⟩ := Device.mchUp_spec ((d.modPwr (fun p => { p with waking := p.waking.filter (fun v => v ≠ u) })).setBit Reg.PWR_AWAKE_M u true) u
    rw [hr]
    rfl
  · obtain ⟨c, hc⟩ := Device.restPier_eq ((d.modPwr (fun p => { p with waking := p.waking.filter (fun v => v ≠ u) })).setBit Reg.PWR_AWAKE_P (u - 32) true)
      (u - 32)
    rw [hc]
    rfl

theorem unitWakeDone_completes {u : Fin 48} (hwake : s.dev.pwr.waking.contains u.val = true) (hgate : s.dev.unitGated u.val = false)
    (hst : s.dev.pwrState ≠ 5) :
    Completes (.unitWakeDone u) s (fun e => e.unitAwake u.val = true ∧ e.pwr.waking = s.dev.pwr.waking.filter (fun v => v ≠ u.val) ∧
      MemSame s.dev e) := by
  have hgov : Governed s.dev.fresh (s.dev.fresh.unitUp u.val).govSync := (Device.unitUp_governed _ _).govSync
  have hgated : (s.dev.fresh.unitUp u.val).unitGated u.val = false := by
    have hreg := (Device.unitUp_governed s.dev.fresh u.val).regs
    unfold Device.unitGated
    rw [Device.bit_eq, hreg _ (not_govReg (.inr (by decide)) (by simp)), Device.bit_eq, hreg _ (not_govReg (.inr (by decide)) (by simp))]
    exact hgate
  have hstate : (s.dev.fresh.unitUp u.val).govSync.pwrState ≠ 5 := by
    rw [Device.pwrState, Device.fld_eq, hgov.regs _ (not_govReg (.inr (by decide)) (by simp))]
    exact hst
  have hdone : s.dev.fresh.unitWakeDone u.val = (s.dev.fresh.unitUp u.val).govSync := by
    have heq : s.dev.fresh.unitWakeDone u.val = (if (s.dev.fresh.unitUp u.val).unitGated u.val then (s.dev.fresh.unitUp u.val).unitSleep u.val
        else s.dev.fresh.unitUp u.val).govSync.wakeStep := if_neg (by rw [show s.dev.fresh.pwr.waking = s.dev.pwr.waking from rfl, hwake]; decide)
    rw [heq, hgated, if_neg Bool.false_ne_true, Device.wakeStep_idle hstate]
  refine Completes.of_run (fun d => d.unitWakeDone u.val) rfl hdone ?_ ⟨?_, ?_, MemSame.settle hgov.only.mem_eq⟩
  · exact hgov.only.still.of_fresh
  · rw [Device.unitAwake_congr (Device.settle_reg _ _) (Device.settle_reg _ _), Device.unitAwake_govSync]
    exact Device.unitAwake_unitUp _ u.isLt
  · rw [Device.settle_pwr, Device.pwr_govSync, Device.pwr_unitUp]
    rfl

end Sys2Proof.Machine
end

section
/-! PROOF. Writes of the gates of the piers and of the stacks (R352). -/

namespace Sys2Proof.Machine

variable {d e x : Device} {s : State} {q : Requester}

/-- Beside what the step governor does, the gates of the register `g` may differ. -/
def Gated (g : Nat) (d e : Device) : Prop := PowerOnly d e ∧ RegsBut (fun a => a = g ∨ GovReg a) d e

theorem Gated.refl (g : Nat) (d : Device) : Gated g d d := ⟨.refl d, fun _ _ => rfl⟩

theorem Gated.trans {g : Nat} (h : Gated g d e) (hx : Gated g e x) : Gated g d x := ⟨h.1.trans hx.1, fun a ha => (hx.2 a ha).trans (h.2 a ha)⟩

theorem Governed.gated {g : Nat} (h : Governed d e) : Gated g d e := ⟨h.only, fun a ha => h.regs a (not_or.mp ha).2⟩

theorem Gated.setGate (g : Nat) (d : Device) (n : Nat) (b : Bool) : Gated g d (d.setBit g n b) :=
  ⟨.setReg d _ _, fun _ ha => Tab.get_set_other _ _ (not_or.mp ha).1⟩

/-- The write of one gate: one that is set may be refused, and the step governor puts its units to sleep; one that is cleared requests them. -/
def Device.gateOne (g v : Nat) (refused : Device → Nat → Bool) (units : Nat → List Nat) (d : Device) (n : Nat) : Device :=
  if natBit v n = d.bit g n then d
  else if natBit v n then
    if refused d n then d.fault Page.PWR 0x01 else (d.setBit g n true).govGate (units n)
  else (d.setBit g n false).govRequest (units n)

section

variable {g v : Nat} {refused : Device → Nat → Bool} {units : Nat → List Nat}

theorem Device.bit_setBit (d : Device) (a : Nat) {k n : Nat} (b : Bool) (hn : n < 32) : (d.setBit a n b).bit a k = if k = n then b else d.bit a k := by
  rw [Device.bit_eq, Device.setBit_eq, Device.reg_setReg_same]
  by_cases hk : k = n
  · rw [if_pos hk, hk]
    exact Word.bit_putBit _ b hn
  · rw [if_neg hk]
    exact Word.bit_putBit_other _ b hk

/-- Beside the governor's work, a gate takes the value written, unless setting it is refused. -/
theorem Device.gateOne_spec (hg : ¬ GovReg g) {n : Nat} (hn : n < 32) (d : Device) : Gated g d (d.gateOne g v refused units n) ∧
    ∀ k, (d.gateOne g v refused units n).bit g k = if k = n then natBit v n && (d.bit g n || !refused d n) else d.bit g k := by
  have hkeep {y z : Device} (h : Governed y z) (k : Nat) : z.bit g k = y.bit g k := congrArg (Word.bit · k) (h.regs g hg)
  unfold Device.gateOne
  by_cases hsame : natBit v n = d.bit g n
  · rw [if_pos hsame]
    refine ⟨.refl g d, fun k => ?_⟩
    split
    · next hk => cases hb : d.bit g n <;> simp only [hk, hsame, hb, Bool.false_and, Bool.true_and, Bool.true_or]
    · rfl
  rw [if_neg hsame]
  cases hwant : natBit v n with
  | false =>
    have hreq := (Governed.refl (d.setBit g n false)).govRequest (us := units n)
    rw [if_neg Bool.false_ne_true]
    exact ⟨(Gated.setGate g d n false).trans hreq.gated, fun k => (hkeep hreq k).trans (d.bit_setBit g false hn)⟩
  | true =>
    have hclear : d.bit g n = false := by
      rw [hwant] at hsame
      exact (Bool.not_eq_true _).mp fun h => hsame h.symm
    rw [if_pos rfl, hclear]
    cases hrefused : refused d n with
    | true =>
      have hfault := (Governed.refl d).fault (c := 0x01)
      rw [if_pos rfl]
      refine ⟨hfault.gated, fun k => (hkeep hfault k).trans ?_⟩
      split
      · next hk => rw [hk, hclear]; rfl
      · rfl
    | false =>
      have hgate := (Governed.refl (d.setBit g n true)).govGate (us := units n)
      rw [if_neg Bool.false_ne_true]
      exact ⟨(Gated.setGate g d n true).trans hgate.gated, fun k => (hkeep hgate k).trans (d.bit_setBit g true hn)⟩

theorem Device.forN_succ (d : Device) (n : Nat) (f : Device → Nat → Device) : d.forN (n + 1) f = f (d.forN n f) n := by
  simp [Device.forN, List.range_succ]

/-- The gates of a register are written one after the other; what refuses one does not depend on the others. -/
theorem Device.gates_spec (hg : ¬ GovReg g) (hcongr : ∀ e n, Gated g d e → refused e n = refused d n) (m : Nat) (hm : m ≤ 32) :
    Gated g d (d.forN m (Device.gateOne g v refused units)) ∧
      ∀ k, (d.forN m (Device.gateOne g v refused units)).bit g k = if k < m then natBit v k && (d.bit g k || !refused d k) else d.bit g k := by
  induction m with
  | zero => exact ⟨.refl g d, fun k => (if_neg (Nat.not_lt_zero k)).symm⟩
  | succ n ih =>
    obtain ⟨hgated, hbits⟩ := ih (by omega)
    obtain ⟨hstep, hbit⟩ := Device.gateOne_spec (v := v) (refused := refused) (units := units) (n := n) hg (by omega)
      (d.forN n (Device.gateOne g v refused units))
    rw [Device.forN_succ]
    refine ⟨hgated.trans hstep, fun k => ?_⟩
    rw [hbit, hbits, hbits, hcongr _ _ hgated, if_neg (Nat.lt_irrefl n)]
    by_cases hk : k = n
    · rw [if_pos hk, if_pos (by omega), hk]
    · rw [if_neg hk]
      by_cases hlt : k < n
      · rw [if_pos hlt, if_pos (by omega)]
      · rw [if_neg hlt, if_neg (by omega)]

end

/-! ## Piers -/

/-- A pier that a stream is assigned keeps its gate. -/
def Device.pierAssigned (d : Device) (p : Nat) : Bool := (d.streamOf p).isSome

theorem Device.pgateWrite_eq (d : Device) (v : Nat) : d.pgateWrite v = d.forN 16 (Device.gateOne Reg.PWR_PGATE v Device.pierAssigned (fun p => [32 + p])) := rfl

theorem not_govReg_pgate : ¬ GovReg Reg.PWR_PGATE := not_govReg (.inr (by decide)) (by simp)

theorem not_govReg_sgate : ¬ GovReg Reg.PWR_SGATE := not_govReg (.inr (by decide)) (by simp)

theorem Device.pierAssigned_congr (e : Device) (p : Nat) (h : Gated Reg.PWR_PGATE d e) : e.pierAssigned p = d.pierAssigned p := by
  have hreg : e.reg (Reg.PIER_CTRL p) = d.reg (Reg.PIER_CTRL p) := by
    refine h.2 _ (not_or.mpr ⟨?_, not_govReg (.inl ?_) ?_⟩)
    · unfold Reg.PIER_CTRL Reg.PWR_PGATE Page.PIER Page.PWR
      omega
    · unfold Reg.PIER_CTRL Page.PIER
      omega
    · refine .inr (.inl ?_)
      unfold Reg.PIER_CTRL Page.PIER
      omega
  unfold Device.pierAssigned Device.streamOf Device.bit Device.fld
  rw [hreg]

/-- A bit of a value that the mask covers. -/
theorem natBit_and {v : Word} {m k : Nat} (h : m.testBit k = true) : natBit (v.toNat &&& m) k = v.bit k := by
  rw [natBit, Nat.testBit_and, h, Bool.and_true, BitVec.testBit_toNat]
  rfl

theorem pwrPgateWrite_completes {v : Word} (h : s.dev.admitsWrite q Reg.PWR_PGATE = true) :
    Completes (.pwrPgateWrite q v) s (fun e =>
      (∀ p < 16, e.bit Reg.PWR_PGATE p = (v.bit p && (s.dev.bit Reg.PWR_PGATE p || (s.dev.streamOf p).isNone))) ∧ e.last = ⟨0, false⟩ ∧
      MemSame s.dev e) := by
  obtain ⟨hgated, hbits⟩ := Device.gates_spec (d := s.dev.fresh) (v := v.toNat &&& 0xFFFF) (units := fun p => [32 + p]) not_govReg_pgate
    (fun e p h => Device.pierAssigned_congr e p h) 16 (by decide)
  have hw := (Device.write_PWR_PGATE (d := s.dev.fresh) v h).trans (by rw [Device.pgateWrite_eq])
  refine Completes.of_run (fun d => d.cmdWrite q Reg.PWR_PGATE v) rfl hw ?_ ⟨fun p hp => ?_, Device.settle_last _, MemSame.settle hgated.1.mem_eq⟩
  · have hstill := hgated.1.still.of_fresh
    exact ⟨hstill.time, hstill.meters, hstill.descriptors⟩
  · have hmask : ∀ p < 16, (0xFFFF : Nat).testBit p = true := by decide
    rw [Device.bit_eq, Device.settle_reg]
    refine (hbits p).trans ?_
    rw [if_pos hp, natBit_and (hmask p hp), Device.pierAssigned, Option.not_isSome]
    rfl

/-! ## Stacks -/

/-- A stack keeps its gate while an admission charges it, it holds an installed region, or DMA is in progress. -/
def Device.stackUsed (d : Device) (k : Nat) : Bool :=
  (List.range 16).any (fun s => d.admitted s && decide (0 < (d.resOf s).charge k)) || (List.range 16).any (fun p => d.regionIn k p) ||
    d.dmaBusy 0 || d.dmaBusy 1

theorem Device.sgateWrite_eq (d : Device) (v : Nat) :
    d.sgateWrite v = d.forN 2 (Device.gateOne Reg.PWR_SGATE v Device.stackUsed (fun k => (List.range 16).map (fun j => 16 * k + j))) := rfl

theorem Device.stackUsed_congr (e : Device) (k : Nat) (h : Gated Reg.PWR_SGATE d e) : e.stackUsed k = d.stackUsed k := by
  have hreg {a : Nat} (hlo : 0x3000 ≤ a) (hhi : a < 0x20000) : e.reg a = d.reg a := by
    refine h.2 _ (not_or.mpr ⟨?_, not_govReg (.inr hhi) (.inr (.inl hlo))⟩)
    simp only [Reg.PWR_SGATE, Page.PWR]
    omega
  obtain ⟨r, c, p, rfl⟩ := h.1
  simp only [Device.stackUsed, Device.admitted, Device.dmaBusy, Device.bit_eq, hreg (a := Reg.LDG_ADMITTED) (by decide) (by decide),
    hreg (a := Reg.TRS_DQ_STAT 0) (by decide) (by decide), hreg (a := Reg.TRS_DQ_STAT 1) (by decide) (by decide)]
  rfl

theorem Device.stackUsed_false {k : Nat} (hchg : ∀ st < 16, ¬ (d.admitted st = true ∧ 0 < (d.resOf st).charge k)) (hreg : ∀ p < 16, d.regionIn k p = false)
    (h0 : d.dmaBusy 0 = false) (h1 : d.dmaBusy 1 = false) : d.stackUsed k = false := by
  have hadm : (List.range 16).any (fun s => d.admitted s && decide (0 < (d.resOf s).charge k)) = false := by
    simpa only [List.any_eq_false, List.mem_range, Bool.and_eq_true, decide_eq_true_eq] using hchg
  have hin : (List.range 16).any (fun p => d.regionIn k p) = false := by
    simpa only [List.any_eq_false, List.mem_range, Bool.not_eq_true] using hreg
  rw [Device.stackUsed, hadm, hin, h0, h1]
  rfl

theorem pwrSgateWrite_completes {v : Word} (h : s.dev.admitsWrite q Reg.PWR_SGATE = true)
    (hchg : ∀ k < 2, ∀ st < 16, ¬ (s.dev.admitted st = true ∧ 0 < (s.dev.resOf st).charge k)) (hreg : ∀ k < 2, ∀ p < 16, s.dev.regionIn k p = false)
    (h0 : s.dev.dmaBusy 0 = false) (h1 : s.dev.dmaBusy 1 = false) :
    Completes (.pwrSgateWrite q v) s (fun e => (∀ k < 2, e.bit Reg.PWR_SGATE k = v.bit k) ∧ e.last = ⟨0, false⟩ ∧ MemSame s.dev e) := by
  obtain ⟨hgated, hbits⟩ := Device.gates_spec (d := s.dev.fresh) (v := v.toNat &&& 0x3) (units := fun k => (List.range 16).map (fun j => 16 * k + j))
    not_govReg_sgate (fun e k h => Device.stackUsed_congr e k h) 2 (by decide)
  have hw := (Device.write_PWR_SGATE (d := s.dev.fresh) v h).trans (by rw [Device.sgateWrite_eq])
  refine Completes.of_run (fun d => d.cmdWrite q Reg.PWR_SGATE v) rfl hw ?_ ⟨fun k hk => ?_, Device.settle_last _, MemSame.settle hgated.1.mem_eq⟩
  · have hstill := hgated.1.still.of_fresh
    exact ⟨hstill.time, hstill.meters, hstill.descriptors⟩
  · have hmask : ∀ k < 2, (0x3 : Nat).testBit k = true := by decide
    have hfree : s.dev.fresh.stackUsed k = false := Device.stackUsed_false (d := s.dev) (hchg k hk) (hreg k hk) h0 h1
    rw [Device.bit_eq, Device.settle_reg]
    refine (hbits k).trans ?_
    rw [if_pos hk, natBit_and (hmask k hk), hfree, Bool.not_false, Bool.or_true, Bool.and_true]

end Sys2Proof.Machine
end

section
/-! SUPPORT. What the end of a wake leaves as it is (R24, R25): vector memory and the states of its stacks and channels, and the stack to be filled
with zeros. No command held enters DOZE or RETAIN at once, and nothing is left to catch up with. -/

namespace Sys2Proof.Machine

/-- What `Steady` says of the device beside its registers: the stack to be filled, vector memory, tester time, what waits for a meter, the descriptors
that could not be read, and whether the calibration run is required. -/
def Device.atRest (d : Device) := (d.pwr.zfill, d.mem, d.ttime, d.ivmq, d.disp.bad, d.cal.required)

/-- A register of the states of memory. -/
abbrev MemState (a : Nat) : Prop := a = Reg.MEM_STATUS ∨ ∃ n < 32, a = Reg.MCH_STATUS n

/-- A register that is neither the state of the device nor one of memory. -/
abbrev Apart (a : Nat) : Prop := a ≠ Reg.PWR_STATE ∧ ¬ MemState a

/-- DOZE or RETAIN. -/
def Device.resting (d : Device) : Prop := d.pwrState = 2 ∨ d.pwrState = 3

/-- `e` comes after `d` with memory, its states and the zero-fill as they were, without DOZE or RETAIN entered, and with nothing to catch up with; a
calibration run that was not required is not. -/
structure Steady (d e : Device) : Prop where
  still : d.Still e
  mem : e.mem = d.mem
  regs : ∀ a, MemState a → e.reg a = d.reg a
  awake : ¬ d.resting → ¬ e.resting
  zfill : e.pwr.zfill = d.pwr.zfill
  required : d.cal.required = false → e.cal.required = false

theorem Apart.mch {n o : Nat} (ho : o % 0x1000 ≠ 0x44) : Apart (Page.MCH n + o) := by
  simp only [Apart, MemState, Reg.PWR_STATE, Reg.MEM_STATUS, Reg.MCH_STATUS, Page.MCH, Page.PWR, Page.MEM, not_or, not_exists, not_and]
  exact ⟨by omega, by omega, fun m hm => by omega⟩

theorem Apart.ivm {n o : Nat} : Apart (Page.IVM n + o) := by
  simp only [Apart, MemState, Reg.PWR_STATE, Reg.MEM_STATUS, Reg.MCH_STATUS, Page.MCH, Page.PWR, Page.MEM, Page.IVM, not_or, not_exists, not_and]
  exact ⟨by omega, by omega, fun m hm => by omega⟩

theorem Apart.low {a : Nat} (hlo : 0x3000 ≤ a) (hhi : a < 0x20000) (hmem : a ≠ Reg.MEM_STATUS) : Apart a := by
  simp only [Apart, MemState, Reg.PWR_STATE, Reg.MCH_STATUS, Page.MCH, Page.PWR, not_or, not_exists, not_and]
  exact ⟨by omega, hmem, fun m hm => by omega⟩

/-- The registers of a DMA queue have offsets that no state of memory has. -/
theorem Apart.dma {a : Nat} (hlo : 0x3000 ≤ a) (ho : a % 0x20 ≠ 4) : Apart a := by
  simp only [Apart, MemState, Reg.PWR_STATE, Reg.MEM_STATUS, Reg.MCH_STATUS, Page.MCH, Page.PWR, Page.MEM, not_or, not_exists, not_and]
  exact ⟨by omega, by omega, fun m hm => by omega⟩

theorem Apart.dmaHead {q : Nat} : Apart (Reg.TRS_DQ_HEAD q) := by
  unfold Reg.TRS_DQ_HEAD Page.TRS
  exact .dma (by omega) (by omega)

theorem Apart.dmaTail {q : Nat} : Apart (Reg.TRS_DQ_TAIL q) := by
  unfold Reg.TRS_DQ_TAIL Page.TRS
  exact .dma (by omega) (by omega)

theorem Apart.dmaStat {q : Nat} : Apart (Reg.TRS_DQ_STAT q) := by
  unfold Reg.TRS_DQ_STAT Page.TRS
  exact .dma (by omega) (by omega)

theorem Apart.calKept {i : Nat} (hi : i < 8) : Apart (Reg.CAL_KEPT i) := by
  refine .low ?_ ?_ ?_ <;> simp only [Reg.CAL_KEPT, Reg.MEM_STATUS, Page.CAL, Page.MEM] <;> omega

namespace Steady

variable {d e x : Device}

/-! ## The frame itself -/

theorem refl (d : Device) : Steady d d := ⟨⟨rfl, rfl, rfl⟩, rfl, fun _ _ => rfl, id, rfl, id⟩

theorem trans (h : Steady d e) (hx : Steady e x) : Steady d x where
  still := ⟨hx.still.time.trans h.still.time, hx.still.meters.trans h.still.meters, hx.still.descriptors.trans h.still.descriptors⟩
  mem := hx.mem.trans h.mem
  regs a ha := (hx.regs a ha).trans (h.regs a ha)
  awake hd := hx.awake (h.awake hd)
  zfill := hx.zfill.trans h.zfill
  required hd := hx.required (h.required hd)

/-- Operations that change no register and nothing of what is at rest. -/
theorem other (h : Steady d e) (hregs : x.regs = e.regs) (hrest : x.atRest = e.atRest) : Steady d x := by
  have hreg (a : Nat) : x.reg a = e.reg a := congrArg (Tab.get resetWord · a) hregs
  simp only [Device.atRest, Prod.mk.injEq] at hrest
  obtain ⟨hzfill, hmem, htime, hmeters, hbad, hreq⟩ := hrest
  refine h.trans ⟨⟨htime, hmeters, hbad⟩, hmem, fun a _ => hreg a, fun hd => ?_, hzfill, fun hd => hreq.trans hd⟩
  rwa [Device.resting, Device.pwrState, Device.fld_eq, hreg]

theorem ite {c : Prop} [Decidable c] {y : Device} (hx : Steady d x) (hy : Steady d y) : Steady d (if c then x else y) := by
  split
  · exact hx
  · exact hy

/-- One of two operations. -/
theorem branch {c : Prop} [Decidable c] {y : Device} (h : Steady d e) (hx : Steady d e → Steady d x) (hy : Steady d e → Steady d y) :
    Steady d (if c then x else y) := ite (hx h) (hy h)

theorem foldl {α : Type} {f : Device → α → Device} (l : List α) (h : Steady d e) (hf : ∀ c ∈ l, ∀ {x}, Steady d x → Steady d (f x c)) :
    Steady d (l.foldl f e) := by
  induction l generalizing e with
  | nil => exact h
  | cons c l ih => exact ih (hf c (.head _) h) fun c hc => hf c (.tail _ hc)

/-! ## Registers, events and contexts -/

theorem setReg {a : Nat} {v : Word} (h : Steady d e) (ha : Apart a) : Steady d (e.setReg a v) := by
  have hreg {b : Nat} (hb : b ≠ a) : (e.setReg a v).reg b = e.reg b := Tab.get_set_other _ _ hb
  refine h.trans ⟨⟨rfl, rfl, rfl⟩, rfl, fun b hb => hreg ?_, fun hd => ?_, rfl, id⟩
  · rintro rfl
    exact ha.2 hb
  · rwa [Device.resting, Device.pwrState, Device.fld_eq, hreg (Ne.symm ha.1)]

theorem setFld {a lo n v : Nat} (h : Steady d e) (ha : Apart a) : Steady d (e.setFld a lo n v) := h.setReg ha
theorem setBit {a i : Nat} {b : Bool} (h : Steady d e) (ha : Apart a) : Steady d (e.setBit a i b) := h.setReg ha
theorem setRegN {a v : Nat} (h : Steady d e) (ha : Apart a) : Steady d (e.setRegN a v) := h.setReg ha
theorem addSat {a lo n k : Nat} (h : Steady d e) (ha : Apart a) : Steady d (e.addSat a lo n k) := h.setFld ha
theorem event {p b : Nat} (h : Steady d e) (hp : Apart (Reg.PG_EVT_RAW p)) : Steady d (e.event p b) := h.setBit hp
theorem fault {p c : Nat} (h : Steady d e) (hcode : Apart (Reg.PG_FAULT_CODE p)) (hstat : Apart (Reg.PG_STATUS p)) : Steady d (e.fault p c) :=
  (h.setRegN hcode).setBit hstat

/-- A field of PWR_STATE is set without DOZE or RETAIN being entered. -/
theorem setState {lo n v : Nat} (h : Steady d e) (hv : ¬ e.resting → ¬ (e.setFld Reg.PWR_STATE lo n v).resting) :
    Steady d (e.setFld Reg.PWR_STATE lo n v) := by
  refine h.trans ⟨⟨rfl, rfl, rfl⟩, rfl, fun a ha => Tab.get_set_other _ _ ?_, hv, rfl, id⟩
  obtain rfl | ⟨m, hm, rfl⟩ := ha
  · decide
  · unfold Reg.MCH_STATUS Page.MCH Reg.PWR_STATE Page.PWR
    omega

theorem modPwr {f : PwrCtx → PwrCtx} (h : Steady d e) (hf : (f e.pwr).zfill = e.pwr.zfill) : Steady d (e.modPwr f) :=
  h.trans ⟨⟨rfl, rfl, rfl⟩, rfl, fun _ _ => rfl, id, hf, id⟩

theorem modCal {f : CalCtx → CalCtx} (h : Steady d e) (hf : d.cal.required = false → (f e.cal).required = false) : Steady d (e.modCal f) where
  still := ⟨h.still.time, h.still.meters, h.still.descriptors⟩
  mem := h.mem
  regs := h.regs
  awake := h.awake
  zfill := h.zfill
  required := hf

theorem modIvm {i : Nat} {f : IvmCtx → IvmCtx} (h : Steady d e) : Steady d (e.modIvm i f) := h.other rfl rfl
theorem modCore {k : Nat} {f : CoreCtx → CoreCtx} (h : Steady d e) : Steady d (e.modCore k f) := h.other rfl rfl
theorem modTrs {f : TrsCtx → TrsCtx} (h : Steady d e) : Steady d (e.modTrs f) := h.other rfl rfl
theorem modDma {q : Nat} {f : DmaCtx → DmaCtx} (h : Steady d e) : Steady d (e.modDma q f) := h.modTrs
theorem draw (h : Steady d e) : Steady d e.draw.2 := h.other rfl rfl
theorem emit {o : Out} (h : Steady d e) : Steady d (e.emit o) := ite (h.other rfl rfl) h

theorem recordAt {t ty sev src code p0 p1 p2 : Nat} (h : Steady d e) : Steady d (e.recordAt t ty sev src code p0 p1 p2) := by
  unfold Device.recordAt
  have hseq := h.setFld (a := Reg.EVQ_SEQ) (lo := 0) (n := 15) (v := e.fld Reg.EVQ_SEQ 0 15 + 1) (by decide)
  exact ite (hseq.other rfl rfl) (event (other (hseq.addSat (by decide)) rfl rfl) (by decide))

theorem record {ty src code p0 p1 p2 : Nat} (h : Steady d e) : Steady d (e.record ty src code p0 p1 p2) := h.recordAt

/-! ## Calibration -/

theorem setCalState {v : Nat} (h : Steady d e) : Steady d (e.setCalState v) := (h.setFld (by decide)).setBit (by decide)

theorem calGather (h : Steady d e) : Steady d e.calGather := by
  unfold Device.calGather Device.borrow
  refine ite h.setCalState (((h.modCal h.required).foldl _ fun _ _ _ h => ?_).setFld (by decide)).setCalState
  exact h.setFld .ivm

/-- A run begins; only one that is required makes a difference to what `Steady` says. -/
theorem calBegin {kind sel : Nat} {now req : Bool} (h : Steady d e) (hreq : d.cal.required = false → req = false) :
    Steady d (e.calBegin kind sel now req) := by
  unfold Device.calBegin
  extract_lets run kept begun
  have hrun : Steady d run := ((h.setFld (by decide)).setRegN (by decide)).setRegN (by decide)
  have hkept : Steady d kept := hrun.foldl _ fun i hi _ h => h.setRegN (.calKept (List.mem_range.mp hi))
  have hbegun : Steady d begun := hkept.modCal hreq
  exact ite hbegun.setCalState hbegun.calGather

theorem calIdle (h : Steady d e) : Steady d e.calIdle := by
  unfold Device.calIdle
  exact ite ((h.setCalState.modCal h.required).calBegin fun _ => rfl) h.setCalState

theorem calAwake (h : Steady d e) : Steady d e.calAwake := ite h.calIdle h

theorem ivmBegin {i seq : Nat} (h : Steady d e) : Steady d (e.ivmBegin i seq) := h.modIvm.setFld .ivm

theorem ivmArm {i : Nat} (h : Steady d e) : Steady d (e.ivmArm i) := by
  unfold Device.ivmArm
  split
  · exact ite (h.fault .ivm .ivm) h.ivmBegin
  · exact h.modIvm
  · exact h.fault .ivm .ivm

theorem ivmLoanEnd {i : Nat} (h : Steady d e) : Steady d (e.ivmLoanEnd i) := by
  have hidle := (h.setFld (a := Reg.IVM_STATUS i) (lo := 0) (n := 3) (v := 0) .ivm).modIvm (i := i) (f := fun c => { c with armHeld := false })
  exact ite (ite hidle.ivmArm hidle) h

theorem calReturn (h : Steady d e) : Steady d e.calReturn := h.foldl _ fun _ _ _ h => ite h.ivmLoanEnd h

theorem calFail {outcome p2 : Nat} (h : Steady d e) : Steady d (e.calFail outcome p2) := by
  unfold Device.calFail
  exact ((h.setRegN (by decide)).record).event (by decide)

/-- A run that is not required is no cause of the safe state at its end. -/
theorem calRequiredEnd {rejected : Bool} (h : Steady d e) (hreq : e.cal.required = false) : Steady d (e.calRequiredEnd rejected) := by
  unfold Device.calRequiredEnd
  simp only [hreq, Bool.false_and, Bool.false_eq_true, if_false]
  exact h.modCal fun _ => rfl

theorem calDoze (h : Steady d e) (hreq : e.cal.required = false) : Steady d e.calDoze := by
  have hfail (c : Nat) := ((refl e).calReturn.calFail (outcome := c) (p2 := 0))
  unfold Device.calDoze Device.calEnd
  exact ite h (calIdle ((h.trans (hfail 6)).calRequiredEnd ((hfail 6).required hreq)))

/-! ## The device is READY -/

theorem coresFree (h : Steady d e) : Steady d e.coresFree := by
  unfold Device.coresFree
  exact ite (h.foldl _ fun _ _ _ h => ite (ite h.modCore h.modCore) h) h

theorem pwrRefuse {c : Nat} (h : Steady d e) : Steady d (e.pwrRefuse c) := by
  refine (h.setState fun hd => ?_).event (by decide)
  rwa [Device.resting, Device.pwrState, Device.fld_eq, Device.setFld_eq, Device.reg_setReg_same, Word.get_put_other _ _ (.inl (by decide))]

/-- A request acted on outside DOZE and RETAIN wakes nothing. -/
theorem pwrAct {v : Nat} (h : Steady d e) (hst : ¬ e.resting) (hreq : e.cal.required = false) : Steady d (e.pwrAct v) := by
  have henter (t : Nat) : Steady d (((e.modPwr (fun p => { p with target := t, keep := v / 4 % 2 })).setFld Reg.PWR_STATE 0 3 4).calDoze) := by
    refine ((h.modPwr rfl).setState fun _ => ?_).calDoze hreq
    rw [Device.resting, Device.pwrState, Device.fld_eq, Device.setFld_eq, Device.reg_setReg_same, Word.get_put_same _ _ (by decide)]
    decide
  unfold Device.pwrAct
  dsimp only
  split
  · split
    · next hc => exact absurd hc hst
    · exact h
  · refine ite h (ite h.pwrRefuse ?_)
    split
    · exact h.pwrRefuse
    · exact henter 1
  · refine ite h ?_
    split
    · exact h.pwrRefuse
    · exact henter 2
  · exact h.pwrRefuse

theorem pwrDone (h : Steady d e) (hst : ¬ e.resting) (hreq : e.cal.required = false) : Steady d e.pwrDone := by
  have htold := ((refl e).event (p := Page.PWR) (b := 0) (by decide)).modPwr (f := fun p => { p with held := none }) rfl
  unfold Device.pwrDone
  dsimp only
  split
  · exact (h.trans htold).pwrAct (htold.awake hst) (htold.required hreq)
  · exact h.trans htold

/-! ## The data link -/

theorem memUEfree {a o str : Nat} (h : Steady d e) : Steady d (e.memUEfree a o str) := by
  unfold Device.memUEfree Device.memUEat
  exact record (event (setRegN (setRegN (addSat (addSat h.draw (.mch (by decide))) (by decide)) (by decide)) (by decide)) (.mch (by decide)))

theorem dmaWords {a n : Nat} (h : Steady d e) : Steady d (e.dmaWords a n).1 := by
  refine foldl_keep (fun b : Device × List Word => Steady d b.1) _ (fun b i hb => ?_) _ _ h
  dsimp only
  split
  · exact hb.draw
  · exact hb

theorem touchRows {a n : Nat} (h : Steady d e) : Steady d (e.touchRows a n) := h.foldl _ fun _ _ _ h => h.other rfl rfl

theorem queuePkt {ty tag status vec addr : Nat} {ws : List Word} (h : Steady d e) : Steady d (e.queuePkt ty tag status vec addr ws) := h.modTrs

theorem queueMrd {tag addr n : Nat} (h : Steady d e) : Steady d (e.queueMrd tag addr n) := h.modTrs

theorem dmaEnd {q code : Nat} (h : Steady d e) : Steady d (e.dmaEnd q code) := by
  unfold Device.dmaEnd
  exact h.modTrs.modDma

theorem dmaNext {q room : Nat} {r : Device × Nat} (h : Steady d e) (hr : e.dmaNext q room = some r) : Steady d r.1 := by
  unfold Device.dmaNext at hr
  dsimp only at hr
  split at hr
  · obtain ⟨t, -, rfl⟩ := Option.map_eq_some_iff.mp hr
    exact ((h.setBit .dmaStat).modTrs).queueMrd
  · split at hr
    · split at hr
      · obtain rfl := Option.some.inj hr
        exact branch (modDma (queuePkt (touchRows (dmaWords (h.foldl _ fun _ _ _ h => h.memUEfree))))) (·.branch (·.dmaEnd) (·.dmaEnd)) id
      · obtain ⟨t, -, rfl⟩ := Option.map_eq_some_iff.mp hr
        refine modDma (f := fun c => { c with sent := _ }) ?_
        exact h.modTrs.queueMrd
    · exact absurd hr nofun

theorem dmaServe (h : Steady d e) (hx : e.dmaServe = some x) : Steady d x := by
  unfold Device.dmaServe at hx
  dsimp only at hx
  split at hx
  · next hfirst =>
    obtain rfl := Option.some.inj hx
    obtain ⟨r, hr, rfl⟩ := Option.map_eq_some_iff.mp hfirst
    exact (h.dmaNext hr).modTrs
  · obtain ⟨r, hr, rfl⟩ := Option.map_eq_some_iff.mp hx
    exact (h.dmaNext hr).modTrs

theorem sendPkt {p : DataPkt} (h : Steady d e) : Steady d (e.sendPkt p) := by
  unfold Device.sendPkt
  exact h.modTrs.emit

theorem dmaZero {q : Nat} (h : Steady d e) : Steady d (e.dmaZero q) := ((h.setRegN .dmaHead).setRegN .dmaTail).modDma

/-- The status of a descriptor that has been written. -/
theorem dmaClose {q : Nat} (h : Steady d e) : Steady d (e.dmaClose q) := by
  have hstop {y : Device} {c : Nat} (hy : Steady d y) :
      Steady d (((y.setBit (Reg.TRS_DQ_STAT q) 8 true).setFld (Reg.TRS_DQ_STAT q) 0 8 c).event Page.TRS 4) :=
    ((hy.setBit .dmaStat).setFld .dmaStat).event (by decide)
  unfold Device.dmaClose
  extract_lets c code size head done told sent stopped reset closed
  have htold : Steady d told := ((h.setRegN .dmaHead).setBit .dmaStat).event (by decide)
  have hsent : Steady d sent := ite htold.queuePkt htold
  have hstopped : Steady d stopped := ite hsent (hstop hsent)
  have hclosed : Steady d closed := hstopped.modDma
  exact ite h (ite hclosed.dmaZero hclosed)

theorem pumpN {n : Nat} (h : Steady d e) : Steady d (Device.pumpN n e) := by
  induction n generalizing e with
  | zero => exact h
  | succ n ih =>
    unfold Device.pumpN
    split
    · exact ih h.modTrs.sendPkt.dmaClose.dmaClose
    · refine ite ?_ h
      split
      · next hx => exact ih (h.dmaServe hx)
      · exact h

theorem pump (h : Steady d e) : Steady d e.pump := h.pumpN

end Steady
end Sys2Proof.Machine
end

section
/-! PROOF. The end of the zero-fill of the stack that RETAIN gave up (R24, R25), and the steps of the power states. -/

namespace Sys2Proof.Machine

variable {d e : Device} {s : State}

/-! ## The wake moves on -/

theorem Device.required_borrow (d : Device) : d.borrow.cal.required = d.cal.required :=
  foldl_keep (fun x : Device => x.cal.required = d.cal.required) (fun d i => d.setFld (Reg.IVM_STATUS i) 0 3 4) (fun _ _ hx => hx) d.lendable d rfl

theorem Device.required_calGather (d : Device) : d.calGather.cal.required = d.cal.required := by
  unfold Device.calGather
  split
  · rfl
  · exact Device.required_borrow _

/-- A wake whose units are awake verifies the calibration, and has to (R25). -/
def Device.wakeVerify (d : Device) : Device := (d.modPwr (fun p => { p with phase := 3 })).calBegin 2 allChans false true

/-- The end of a wake. -/
def Device.wakeReady (d : Device) : Device :=
  (((d.modPwr (fun p => { p with phase := 0 })).setFld Reg.PWR_STATE 0 3 0).coresFree).calAwake.pwrDone.pump

theorem Device.required_wakeVerify (d : Device) : d.wakeVerify.cal.required = true := by
  unfold Device.wakeVerify Device.calBegin
  rw [if_neg (by decide), Device.required_calGather]
  rfl

/-- Once its units are requested, a wake verifies the calibration, ends, or waits. -/
theorem Device.wakeStep_cases (hphase : 2 ≤ d.pwr.phase) : d.wakeStep = d ∨ d.wakeStep = d.wakeVerify ∨ (d.cal.required = false ∧ d.wakeStep = d.wakeReady) := by
  have hlocks (b : Bool) : ¬ (decide (d.pwr.phase = 1) && b) = true := by
    rw [decide_eq_false (by omega), Bool.false_and]
    exact Bool.false_ne_true
  unfold Device.wakeStep
  split
  · exact .inl rfl
  · dsimp only
    rw [if_neg (hlocks _)]
    by_cases hup : d.pwr.phase = 2 ∧ d.pwr.queue = [] ∧ d.pwr.waking = []
    · refine .inr (.inl ?_)
      rw [if_pos hup]
      refine if_neg ?_
      rw [show ((d.modPwr (fun p => { p with phase := 3 })).calBegin 2 allChans false true).cal.required = true from d.required_wakeVerify]
      simp
    · rw [if_neg hup]
      split
      · next hready =>
        simp only [Bool.and_eq_true, Bool.not_eq_true'] at hready
        obtain ⟨⟨-, hreq⟩, -⟩ := hready
        exact .inr (.inr ⟨hreq, rfl⟩)
      · exact .inl rfl

/-- The start of the verification makes it required, and is steady from a device where it is. -/
theorem Steady.wakeVerify (d : Device) : Steady (d.modCal (fun c => { c with required := true })) d.wakeVerify :=
  calBegin (e := (d.modCal (fun c => { c with required := true })).modPwr (fun p => { p with phase := 3 })) ((refl _).modPwr rfl) nofun

theorem Steady.wakeReady (hreq : d.cal.required = false) : Steady d d.wakeReady := by
  have hstate : Steady d ((d.modPwr (fun p => { p with phase := 0 })).setFld Reg.PWR_STATE 0 3 0) := by
    refine ((Steady.refl d).modPwr rfl).setState fun _ => ?_
    rw [Device.resting, Device.pwrState, Device.fld_eq, Device.setFld_eq, Device.reg_setReg_same, Word.get_put_same _ _ (by decide)]
    decide
  have hcal := hstate.coresFree.calAwake
  have hready : ¬ ((d.modPwr (fun p => { p with phase := 0 })).setFld Reg.PWR_STATE 0 3 0).resting := by
    rw [Device.resting, Device.pwrState, Device.fld_eq, Device.setFld_eq, Device.reg_setReg_same, Word.get_put_same _ _ (by decide)]
    decide
  exact (hcal.pwrDone ((Steady.refl _).coresFree.calAwake.awake hready) (hcal.required hreq)).pump

/-- What a wake does once its units are requested leaves memory and its states as they are, and nothing to catch up with. -/
theorem Device.wakeStep_late (hphase : 2 ≤ d.pwr.phase) : d.Still d.wakeStep ∧ d.wakeStep.mem = d.mem ∧ d.wakeStep.pwr.zfill = d.pwr.zfill ∧
    ∀ a, MemState a → d.wakeStep.reg a = d.reg a := by
  obtain h | h | ⟨hreq, h⟩ := Device.wakeStep_cases hphase
  · rw [h]
    exact ⟨⟨rfl, rfl, rfl⟩, rfl, rfl, fun _ _ => rfl⟩
  · have hsteady := Steady.wakeVerify d
    rw [h]
    exact ⟨⟨hsteady.still.time, hsteady.still.meters, hsteady.still.descriptors⟩, hsteady.mem, hsteady.zfill, hsteady.regs⟩
  · have hsteady := Steady.wakeReady hreq
    rw [h]
    exact ⟨hsteady.still, hsteady.mem, hsteady.zfill, hsteady.regs⟩

/-! ## The zero-fill ends -/

/-- The stack `k` is in service, with nothing left to fill. -/
def Device.stackBack (d : Device) (k : Nat) : Device := (d.modPwr (fun p => { p with zfill := none })).setBit Reg.MEM_STATUS (8 + k) true

/-- The channels of the stack `k` are back with it, those of a gated stack in self-refresh (R24). -/
def Device.stackFilled (d : Device) (k : Nat) : Device :=
  (d.stackBack k).forN 16
    (fun d j => d.setFld (Reg.MCH_STATUS (16 * k + j)) 4 2 (if d.unitGated (16 * k + j) then 2 else 1))

theorem Device.retainFilled_eq {k : Nat} (hz : d.pwr.zfill = some k) (hphase : 2 ≤ d.pwr.phase) : d.retainFilled = (d.stackFilled k).wakeStep := by
  unfold Device.retainFilled
  rw [hz]
  exact if_neg (by omega)

/-- The gate of a memory channel is that of its stack. -/
theorem Device.unitGated_congr {u : Nat} (hu : u < 32) (h : e.reg Reg.PWR_SGATE = d.reg Reg.PWR_SGATE) : e.unitGated u = d.unitGated u := by
  unfold Device.unitGated
  rw [if_pos hu, if_pos hu, Device.bit_eq, h, ← Device.bit_eq]

/-- The channels of a stack take their states one after the other: the gates are on another page. -/
theorem Device.mchStates_spec (k : Nat) (hk : k < 2) (m : Nat) (hm : m ≤ 16) (e : Device) :
    ∃ r, e.forN m (fun d j => d.setFld (Reg.MCH_STATUS (16 * k + j)) 4 2 (if d.unitGated (16 * k + j) then 2 else 1)) = { e with regs := r } ∧
      (∀ a < 0x20000, Tab.get resetWord r a = e.reg a) ∧
      ∀ j < m, (Tab.get resetWord r (Reg.MCH_STATUS (16 * k + j))).get 4 2 = (if e.unitGated (16 * k + j) then 2 else 1) := by
  induction m with
  | zero => exact ⟨e.regs, rfl, fun _ _ => rfl, nofun⟩
  | succ n ih =>
    obtain ⟨r, hr, hlow, hstates⟩ := ih (by omega)
    have hgate : ({ e with regs := r } : Device).unitGated (16 * k + n) = e.unitGated (16 * k + n) :=
      Device.unitGated_congr (by omega) (hlow _ (by decide))
    rw [Device.forN_succ, hr, hgate]
    refine ⟨_, rfl, fun a ha => (Tab.get_set_other _ _ ?_).trans (hlow a ha), fun j hj => ?_⟩
    · unfold Reg.MCH_STATUS Page.MCH
      omega
    · by_cases hjn : j = n
      · subst hjn
        refine (congrArg (Word.get · 4 2) (Tab.get_set_same _ _ _)).trans ((Word.get_put_same _ _ (by decide)).trans ?_)
        split <;> rfl
      · refine (congrArg (Word.get · 4 2) (Tab.get_set_other _ _ ?_)).trans (hstates j (by omega))
        unfold Reg.MCH_STATUS Page.MCH
        omega

theorem retainZeroFillDone_completes {k : Nat} (hk : k < 2) (hz : s.dev.pwr.zfill = some k) (hphase : 2 ≤ s.dev.pwr.phase) :
    Completes .retainZeroFillDone s (fun e => e.pwr.zfill = none ∧ e.bit Reg.MEM_STATUS (8 + k) = true ∧
      (∀ j < 16, e.fld (Reg.MCH_STATUS (16 * k + j)) 4 2 = (if s.dev.unitGated (16 * k + j) then 2 else 1)) ∧ MemSame s.dev e) := by
  obtain ⟨r, hr, hlow, hstates⟩ := Device.mchStates_spec k hk 16 (by decide) (s.dev.fresh.stackBack k)
  have hfilled : s.dev.fresh.stackFilled k = { s.dev.fresh.stackBack k with regs := r } := hr
  have hlate : 2 ≤ (s.dev.fresh.stackFilled k).pwr.phase := by rw [hfilled]; exact hphase
  obtain ⟨hstill, hmem, hzfill, hregs⟩ := Device.wakeStep_late hlate
  refine Completes.of_run (·.retainFilled) rfl (Device.retainFilled_eq (d := s.dev.fresh) hz hphase) ?_ ⟨?_, ?_, fun j hj => ?_, MemSame.settle ?_⟩
  · rw [hfilled] at hstill ⊢
    exact ⟨hstill.time, hstill.meters, hstill.descriptors⟩
  · rw [Device.settle_pwr, hzfill, hfilled]
    rfl
  · rw [Device.bit_eq, Device.settle_reg, hregs _ (.inl rfl), hfilled]
    exact (congrArg (Word.bit · (8 + k)) (hlow _ (by decide))).trans (Device.bit_setBit_true _ _ (by omega))
  · rw [Device.fld_eq, Device.settle_reg, hregs _ (.inr ⟨_, by omega, rfl⟩), hfilled]
    have hsgate : (s.dev.fresh.stackBack k).reg Reg.PWR_SGATE = s.dev.reg Reg.PWR_SGATE := Tab.get_set_other _ _ (by decide)
    have hgate : (s.dev.fresh.stackBack k).unitGated (16 * k + j) = s.dev.unitGated (16 * k + j) := Device.unitGated_congr (by omega) hsgate
    exact hgate ▸ hstates j hj
  · rw [hmem, hfilled]
    rfl

/-- Settles O3: the six clauses one by one. The end of an entry goes by the frame `Kept` of all that stops with the PLLs, the zero-fill by the frame
`Steady` of the end of a wake, and the step governor and the gates by `Governed`, what the governor's own operations change. -/
theorem powerSteps : Obligations.PowerSteps := by
  unfold Obligations.PowerSteps
  exact ⟨fun _ hst hheld => powerEntryDone_completes hst hheld, fun _ _ hk hz hphase => retainZeroFillDone_completes hk hz hphase,
    fun _ _ _ h => governorAdmit_completes h, fun _ _ hwake hgate hst => unitWakeDone_completes hwake hgate hst,
    fun _ _ _ h => pwrPgateWrite_completes h, fun _ _ _ h hchg hreg h0 h1 => pwrSgateWrite_completes h hchg hreg h0 h1⟩

end Sys2Proof.Machine
end

section
/-! PROOF. Sequence instructions that queue one action for their boundary (R57, R85, R105, R108). -/

namespace Sys2Proof.Machine

variable {d e : Device} {s pc op : Nat} {S : Nat → Prop} {c : StrCtx} {ft : Fetched} {f : Device → Nat → Nat → Device}

/-! ## Changes of one stream -/

theorem Device.strOf_modStr (d : Device) (s : Nat) (g : StrCtx → StrCtx) : (d.modStr s g).strOf s = g (d.strOf s) := Tab.get_set_same _ _ _

theorem Device.strOf_modStr_other (d : Device) {s j : Nat} (g : StrCtx → StrCtx) (h : j ≠ s) : (d.modStr s g).strOf j = d.strOf j :=
  Tab.get_set_other _ _ h

theorem StreamTo.modStr (g : StrCtx → StrCtx) (h : StreamTo d e s pc S c) : StreamTo d (e.modStr s g) s pc S (g c) := by
  obtain ⟨hctx, hpc, hother, hregs, hframe⟩ := h
  refine ⟨(Device.strOf_modStr e s g).trans (congrArg g hctx), hpc, fun j hj => (Device.strOf_modStr_other e g hj).trans (hother j hj), hregs, ?_⟩
  exact congrArg (fun x : Device => x.modStr s g) hframe

/-- An action that waits for its boundary goes to the end of the queue (R105). -/
theorem StreamTo.bnd {b : Bnd} {a : Nat} (h : StreamTo d e s pc S c) : StreamTo d (e.bnd s b a) s pc S { c with queue := c.queue ++ [.act b a] } := h.modStr _

/-- A fault goes to the end of the queue and nothing beyond it is executed (R105). -/
theorem StreamTo.engFault {code a : Nat} (h : StreamTo d e s pc S c) :
    StreamTo d (e.engFault s code a) s pc S { c with queue := c.queue ++ [.act (.fault code) a], eng := .done } :=
  StreamTo.modStr (fun c => { c with eng := .done }) h.bnd

theorem StreamTo.settle (h : StreamTo d e s pc S c) : StreamTo d e.settle s pc S c := by
  obtain ⟨hctx, hpc, hother, hregs, hframe⟩ := h
  refine ⟨(Device.settle_strOf e s).trans hctx, ?_, fun j hj => (Device.settle_strOf e j).trans (hother j hj), hregs.settle, ?_⟩
  · unfold Device.strPc at hpc ⊢
    rwa [Device.fld_eq, Device.settle_reg]
  · obtain ⟨i, hi⟩ := e.settle_eq
    rw [hi]
    exact congrArg (fun x : Device => { x with intc := i }) hframe

theorem StreamTo.still (h : StreamTo d e s pc S c) : d.Still e := by
  obtain ⟨-, -, -, -, hframe⟩ := h
  exact ⟨(congrArg Device.ttime hframe :), (congrArg Device.ivmq hframe :), (congrArg (·.disp.bad) hframe :)⟩

/-- A command that changes one stream alone leaves nothing to catch up with. -/
theorem Completes.of_stream {i : Instr} {x : State} (g : Device → Device) (hx : exec i x = x.run g) (h : StreamTo x.dev.fresh (g x.dev.fresh) s pc S c) :
    Completes i x (fun e => StreamTo x.dev e s pc S c) := by
  have hto : StreamTo x.dev (g x.dev.fresh) s pc S c := h
  exact Completes.of_run g hx rfl hto.still hto.settle

/-! ## The dispatch of a vendor instruction -/

/-- The device once the next instruction of stream `s`, one of the vendor's, is dispatched: STR_PC is past it, and uPC is the ENTRY of its dispatch entry (R128). -/
def Device.dispatched (d : Device) (s : Nat) : Device :=
  (d.fetchIR s (d.insWord s) (d.strPc s)).modMicro s (fun m =>
    { m with upc := d.csWord (d.entryOf s (insOp (d.insWord s))) % 2 ^ 14, flagsOk := false })

theorem Device.strOf_dispatched (d : Device) (s : Nat) : (d.dispatched s).strOf s = d.fetched s := by
  unfold Device.dispatched Device.modMicro Device.fetchIR Device.modMicro
  rw [Device.strOf_modStr, Device.strOf_modStr]
  rfl

theorem RegsBut.dispatched (d : Device) (s : Nat) : RegsBut (· = Reg.STR_PC s) d (d.dispatched s) :=
  RegsBut.setReg d (Reg.STR_PC s) (BitVec.ofNat 32 ((d.strPc s + 1) % seqSize))

theorem Device.strPc_setPc (d : Device) (s a : Nat) : (d.setPc s a).strPc s = a % seqSize := by
  unfold Device.setPc Device.strPc
  rw [Device.setRegN_eq, Device.fld_eq, Device.reg_setReg_same]
  simp [Word.get, seqSize]

/-- A dispatch changes its stream's context and STR_PC (R128). -/
theorem StreamTo.dispatched (d : Device) (s : Nat) : StreamTo d (d.dispatched s) s ((d.strPc s + 1) % seqSize) (fun _ => False) (d.fetched s) := by
  refine ⟨d.strOf_dispatched s, Device.strPc_setPc d s _, fun j hj => ?_, fun a ha => RegsBut.dispatched d s a (not_or.mp ha).1, rfl⟩
  unfold Device.dispatched Device.modMicro Device.fetchIR Device.modMicro
  rw [Device.strOf_modStr_other _ _ hj, Device.strOf_modStr_other _ _ hj]
  rfl

/-- A running engine that has room goes on. -/
theorem Device.engRoom_of_room (h : e.noRoom s = false ∨ (e.strOf s).eng ≠ .running) : e.engRoom s = e := by
  unfold Device.engRoom
  rw [if_neg]
  rintro ⟨hrun, hfull⟩
  rcases h with h | h
  · rw [h] at hfull
    cases hfull
  · exact h hrun

/-- A fetch changes STR_PC alone among the registers (R128). -/
theorem RegsBut.fetchIR (d : Device) (s w a : Nat) : RegsBut (· = Reg.STR_PC s) d (d.fetchIR s w a) := RegsBut.setReg d (Reg.STR_PC s) _

theorem Device.csWord_fetchIR (hs : s < 16) (w a k : Nat) : (d.fetchIR s w a).csWord k = d.csWord k := by
  refine congrArg BitVec.toNat (RegsBut.fetchIR d s w a _ ?_)
  unfold Reg.STR_PC Page.STR
  omega

theorem Device.vendHalf_fetchIR (hs : s < 16) (w a : Nat) : (d.fetchIR s w a).vendHalf s = d.vendHalf s := by
  refine congrArg (Word.get · s 1) (RegsBut.fetchIR d s w a Reg.UCS_VSEL ?_)
  unfold Reg.STR_PC Page.STR Reg.UCS_VSEL Page.UCS
  omega

theorem Device.entryOf_fetchIR (hs : s < 16) (w a o : Nat) : (d.fetchIR s w a).entryOf s o = d.entryOf s o := by
  unfold Device.entryOf
  rw [Device.vendHalf_fetchIR hs]

theorem Device.routineWords_fetchIR (hs : s < 16) (w a u : Nat) (l : List (BitVec 14 × Ecc)) :
    (d.fetchIR s w a).routineWords s u l = d.routineWords s u l := by
  unfold Device.routineWords
  rw [Device.vendHalf_fetchIR hs]

/-- Words that are all read without an error bring nothing but themselves (R137). -/
theorem Device.fetchWords_good {a : Nat} {l : List (Nat × Ecc)} {g : Device → Device} (h : l.all (fun e => decide (e.2 = .good) && !d.csUE e.1) = true) :
    d.fetchWords s a l g = g d := by
  have hgood : ∀ x ∈ l, x.2 = .good ∧ d.csUE x.1 = false := by simpa using h
  have hnone : l.find? (fun e => e.2 = .bad || d.csUE e.1) = none := by
    rw [List.find?_eq_none]
    intro x hx
    obtain ⟨h1, h2⟩ := hgood x hx
    simp [h1, h2]
  unfold Device.fetchWords
  rw [hnone]
  refine congrArg g (foldl_id _ _ _ fun x hx => ?_)
  simp [(hgood x hx).1]

/-- A dispatch goes on to what the vendor instruction does where its entry is VALID and the entry and the routine's words are read without an error (R128, R137). -/
theorem Device.dispatch_good {w a : Nat} {g : Device → Device} (hword : ft.word = .good) (hue : d.csUE (d.entryOf s (insOp w)) = false)
    (hvalid : natBit (d.csWord (d.entryOf s (insOp w))) 31 = true) (hvend : insOp w < 0xC0)
    (hall : (d.routineWords s (d.csWord (d.entryOf s (insOp w)) % 2 ^ 14) ft.routine).all (fun e => decide (e.2 = .good) && !d.csUE e.1) = true) :
    d.dispatch s ft w a g = g (d.modMicro s (fun m => { m with upc := d.csWord (d.entryOf s (insOp w)) % 2 ^ 14, flagsOk := false })) := by
  have hflags : ∀ b, (b && decide (0xC0 ≤ insOp w)) = false := by simp [hvend]
  unfold Device.dispatch
  simp only [hword, hue, hvalid, hvend, reduceCtorEq, decide_false, Bool.or_self, Bool.false_eq_true, Bool.not_true, if_true, if_false, hflags]
  exact Device.fetchWords_good hall

/-- What `Device.executes` says of the next instruction of stream `s`, one of the vendor's that is dispatched without an error (R97, R98, R103, R128, R137). -/
structure Executable (d : Device) (s : Nat) (ft : Fetched) (op : Nat) : Prop where
  running : (d.strOf s).eng = .running
  read : d.winUE (seqAddr (d.strPc s)) = false
  condition : insField (d.insWord s) 52 4 < 10
  taken : d.condHolds s (insField (d.insWord s) 52 4) = true
  opcode : insOp (d.insWord s) = op
  entryRead : d.csUE (d.entryOf s op) = false
  entryValid : natBit (d.csWord (d.entryOf s op)) 31 = true
  vendor : op < 0xC0
  assigned : (insUsed op).isSome = true
  reserved : insReserved (d.insWord s) ((insUsed op).getD 0) = false
  room : d.noRoom s = false
  fetched : ft.ue = false
  entryGood : ft.word = .good
  routine : (d.routineWords s (d.csWord (d.entryOf s op) % 2 ^ 14) ft.routine).all (fun e => decide (e.2 = .good) && !d.csUE e.1) = true

theorem Executable.of_executes (h : d.executes s ft op = true) : Executable d s ft op := by
  simp only [Device.executes, Device.dispatches, Bool.and_eq_true, decide_eq_true_eq, Bool.not_eq_true'] at h
  obtain ⟨⟨⟨⟨⟨⟨⟨⟨⟨⟨⟨⟨⟨hrun, hread⟩, hcond⟩, htaken⟩, hop⟩, hent⟩, hvalid⟩, hvend⟩, hused⟩, hres⟩, hroom⟩, hue⟩, hword⟩, hall⟩ := h
  exact ⟨hrun, hread, hcond, htaken, hop, hent, hvalid, hvend, hused, hres, hroom, hue, hword, hall⟩

/-- Without an error of its words, the dispatch of a vendor instruction goes on to what the instruction does (R128, R137). -/
theorem Executable.dispatch {g : Device → Device} (hs : s < 16) (h : Executable d s ft op) :
    (d.fetchIR s (d.insWord s) (d.strPc s)).dispatch s ft (d.insWord s) (d.strPc s) g = g (d.dispatched s) := by
  have hop := h.opcode
  subst hop
  rw [Device.dispatch_good h.entryGood ?_ ?_ h.vendor ?_, Device.csWord_fetchIR hs, Device.entryOf_fetchIR hs]
  · rfl
  · rw [Device.entryOf_fetchIR hs]
    exact h.entryRead
  · rw [Device.entryOf_fetchIR hs, Device.csWord_fetchIR hs]
    exact h.entryValid
  · rw [Device.entryOf_fetchIR hs, Device.csWord_fetchIR hs, Device.routineWords_fetchIR hs]
    exact h.routine

/-- A vendor instruction that meets no error is dispatched, does what its rule states, and its engine waits if the queue is full then (R98, R103, R128). -/
theorem Executable.engStep {mine : Nat → Bool} (hs : s < 16) (h : Executable d s ft op) (hmine : mine (d.insWord s) = true) :
    d.engStep s ft mine f = (f (d.dispatched s) (d.insWord s) (d.strPc s)).engRoom s := by
  have hw : d.seqWord (d.strPc s) = d.insWord s := rfl
  obtain ⟨used, hu⟩ := Option.isSome_iff_exists.mp h.assigned
  have hres := h.reserved
  rw [hu, Option.getD_some] at hres
  have hassigned : unassigned op = false := by simp [unassigned, hu]
  simp only [Device.engStep, hw, h.running, h.fetched, h.read, Nat.not_le.mpr h.condition, h.taken, h.opcode, hassigned, hmine, hu, hres, h.dispatch hs, ne_eq,
    not_true_eq_false, Bool.or_self, Bool.not_true, Bool.false_eq_true, if_false]

/-! ## Actions at the boundary -/

/-- An action is no request (R98). -/
theorem requests_append_act (l : List QItem) (b : Bnd) (a : Nat) : requests (l ++ [.act b a]) = requests l := List.countP_append

/-- An action holds no byte of the stream buffer (R98). -/
theorem bufBytes_append_act (l : List QItem) (b : Bnd) (a : Nat) : ((l ++ [QItem.act b a]).map QItem.bufBytes).sum = (l.map QItem.bufBytes).sum := by
  rw [List.map_append, List.sum_append]
  rfl

/-- An action that joins the queue takes none of the room there was (R98). -/
theorem Device.noRoom_bnd {b : Bnd} {a : Nat} (hs : s < 16) : ((d.dispatched s).bnd s b a).noRoom s = d.noRoom s := by
  have hreg : ∀ k, k ≠ Reg.STR_PC s → ((d.dispatched s).bnd s b a).reg k = d.reg k := RegsBut.dispatched d s
  have hctx : ((d.dispatched s).bnd s b a).strOf s = { d.fetched s with queue := (d.strOf s).queue ++ [.act b a] } :=
    (StreamTo.dispatched d s).bnd.1
  have hjump : ((d.dispatched s).bnd s b a).jumpBytes = d.jumpBytes := by
    funext n
    unfold Device.jumpBytes Device.spanSize64 Device.fld
    rw [hreg _ (by unfold Reg.STR_PC Page.STR spanWord; omega)]
  have hstat : ((d.dispatched s).bnd s b a).reg (Reg.STR_STATUS s) = d.reg (Reg.STR_STATUS s) :=
    hreg _ (by unfold Reg.STR_PC Reg.STR_STATUS; omega)
  have hpos : StrCtx.posBytes { d.fetched s with queue := (d.strOf s).queue ++ [.act b a] } = (d.strOf s).posBytes := rfl
  unfold Device.noRoom Device.bufBytes Device.bit
  rw [hctx, hstat, hjump]
  simp only [hpos, requests_append_act, bufBytes_append_act]
  rfl

variable {x : State} {i : Fin 16} {k : Instr} {mine : Nat → Bool}

/-- A vendor instruction changes its stream as its rule states, where its engine need not wait for room then (R98, R103, R128). -/
theorem Completes.of_executes {y : Device} (hx : exec k x = x.run (fun d => d.engStep i.val ft mine f)) (h : x.dev.executes i.val ft op = true)
    (hmine : mine (x.dev.insWord i.val) = true) (hf : f (x.dev.fresh.dispatched i.val) (x.dev.insWord i.val) (x.dev.strPc i.val) = y)
    (hroom : y.noRoom i.val = false ∨ (y.strOf i.val).eng ≠ .running) (hy : StreamTo x.dev.fresh y i.val pc S c) :
    Completes k x (fun e => StreamTo x.dev e i.val pc S c) := by
  have hstep : x.dev.fresh.engStep i.val ft mine f = y := by
    have hexec : Executable x.dev.fresh i.val ft op := .of_executes h
    exact (hexec.engStep i.isLt hmine).trans ((congrArg (Device.engRoom · i.val) hf).trans (Device.engRoom_of_room hroom))
  exact Completes.of_stream _ hx (hstep ▸ hy)

/-- A vendor instruction that queues one action for the boundary after the preceding span, and does nothing else (R105). -/
theorem Completes.of_bnd {b : Bnd} (hx : exec k x = x.run (fun d => d.engStep i.val ft mine f)) (h : x.dev.executes i.val ft op = true)
    (hmine : mine (x.dev.insWord i.val) = true)
    (hf : f (x.dev.fresh.dispatched i.val) (x.dev.insWord i.val) (x.dev.strPc i.val) = (x.dev.fresh.dispatched i.val).bnd i.val b (x.dev.strPc i.val)) :
    Completes k x (fun e => StreamTo x.dev e i.val ((x.dev.strPc i.val + 1) % seqSize) (fun _ => False)
      { x.dev.fetched i.val with queue := (x.dev.fetched i.val).queue ++ [.act b (x.dev.strPc i.val)] }) := by
  have hroom : x.dev.fresh.noRoom i.val = false := (Executable.of_executes h).room
  exact Completes.of_executes hx h hmine hf (.inl ((Device.noRoom_bnd i.isLt).trans hroom)) (StreamTo.dispatched x.dev.fresh i.val).bnd

/-- A vendor instruction that is a sequencer fault at the boundary after the preceding span; nothing beyond it is executed (R105). -/
theorem Completes.of_engFault {code : Nat} (hx : exec k x = x.run (fun d => d.engStep i.val ft mine f)) (h : x.dev.executes i.val ft op = true)
    (hmine : mine (x.dev.insWord i.val) = true)
    (hf : f (x.dev.fresh.dispatched i.val) (x.dev.insWord i.val) (x.dev.strPc i.val) = (x.dev.fresh.dispatched i.val).engFault i.val code (x.dev.strPc i.val)) :
    Completes k x (fun e => StreamTo x.dev e i.val ((x.dev.strPc i.val + 1) % seqSize) (fun _ => False)
      { x.dev.fetched i.val with queue := (x.dev.fetched i.val).queue ++ [.act (.fault code) (x.dev.strPc i.val)], eng := .done }) := by
  have hfault := (StreamTo.dispatched x.dev.fresh i.val).engFault (code := code) (a := x.dev.strPc i.val)
  refine Completes.of_executes hx h hmine hf (.inr ?_) hfault
  have heng := congrArg StrCtx.eng hfault.1
  rw [heng]
  nofun

theorem isOp_of_executes (h : d.executes s ft op = true) : isOp op (d.insWord s) = true := decide_eq_true (Executable.of_executes h).opcode

theorem isCapop_of_executes {o : Nat} (h : d.executes s ft 0x1C = true) (ho : insField (d.insWord s) 32 2 = o ∨ insField (d.insWord s) 32 2 = 3) :
    isCapop o (d.insWord s) = true := by
  simp [isCapop, (Executable.of_executes h).opcode, ho]

/-- General registers are read as they stand: the dispatch changes none of them (R128). -/
theorem Device.g_dispatched (s r : Nat) : (d.dispatched s).g s r = d.g s r := by
  refine congrArg BitVec.toNat (RegsBut.dispatched d s _ ?_)
  unfold Reg.STR_G Reg.STR_PC
  omega

theorem Device.engCapop_acts {w a o : Nat} {b : Bnd} (ho : insField w 32 2 = o) (h3 : o ≠ 3) : d.engCapop s w b a = d.bnd s b a :=
  if_neg (ho ▸ h3)

/-- Settles O17: each instruction is dispatched and leaves one action at the end of the queue, which takes neither a request's place nor bytes of the stream
buffer, so that the engine goes on; CAPOP of the reserved OP leaves a fault there and the engine stops. -/
theorem sequenceActions : Obligations.SequenceActions := by
  unfold Obligations.SequenceActions
  rintro s i ft _ _ _ _ rfl rfl rfl rfl
  refine ⟨fun h ho => ?_, fun h ho => ?_, fun h ho => ?_, fun h ho => ?_, fun h => ?_, fun h => ?_, fun h => ?_, fun h => ?_⟩
  · exact Completes.of_bnd rfl h (isCapop_of_executes h (.inl ho)) (Device.engCapop_acts ho (by decide))
  · exact Completes.of_bnd rfl h (isCapop_of_executes h (.inl ho)) (Device.engCapop_acts ho (by decide))
  · exact Completes.of_bnd rfl h (isCapop_of_executes h (.inl ho)) (Device.engCapop_acts ho (by decide))
  · exact Completes.of_engFault rfl h (isCapop_of_executes h (.inr ho)) (if_pos ho)
  · exact Completes.of_bnd rfl h (isOp_of_executes h) rfl
  · exact Completes.of_bnd rfl h (isOp_of_executes h) rfl
  · refine Completes.of_bnd rfl h (isOp_of_executes h) ?_
    unfold Device.engSetpe
    rw [Device.g_dispatched]
    rfl
  · refine Completes.of_bnd rfl h (isOp_of_executes h) ?_
    rw [Device.g_dispatched]
    rfl

end Sys2Proof.Machine
end

section
/-! PROOF. ENABLE, FREEZE, COMMIT and SOFT_RESET of a page (R32, R40, R53, R416). -/

namespace Sys2Proof.Machine

variable {d e : Device} {q : Requester} {page : BitVec 12} {p : PageRow} {i : Nat}

/-! ## Pages -/

/-- A page of a block is one of those that the block has, and lies where its number says (R411). -/
theorem pageAt_pageBase (h : pageAt (pageBase page) = some (p, i)) : p ∈ pageTable ∧ i < p.count ∧ pageBase page = p.base + 0x1000 * i := by
  unfold pageAt at h
  split at h
  · next r hr =>
    obtain ⟨rfl, rfl⟩ : r = p ∧ (pageBase page - r.base) / 0x1000 = i := by simpa using h
    have hmem := List.mem_of_find?_eq_some hr
    have hin := List.find?_some hr
    have hal := pageTable_aligned r hmem
    simp only [Bool.and_eq_true, decide_eq_true_eq] at hin
    unfold pageBase at hin ⊢
    exact ⟨hmem, by omega, by omega⟩
  · cases h

/-- What the page table says of the pages of a block (R413, R421). -/
theorem pageAt_of_pageIs {n b : Nat} {blk : Block} {en sh : Bool}
    (hrow : ∀ p ∈ pageTable, p.block = blk → p.enctl = en ∧ p.shadow = sh ∧ p.base = b) (h : pageIs (pageBase page) blk n = true) :
    ∃ p, pageAt (pageBase page) = some (p, n) ∧ p.block = blk ∧ p.enctl = en ∧ p.shadow = sh ∧ pageBase page = b + 0x1000 * n := by
  unfold pageIs at h
  split at h
  · next p j hat =>
    obtain ⟨hblk, rfl⟩ := of_decide_eq_true h
    obtain ⟨hmem, -, hbase⟩ := pageAt_pageBase hat
    obtain ⟨hen, hsh, hb⟩ := hrow p hmem hblk
    exact ⟨p, hat, hblk, hen, hsh, hb ▸ hbase⟩
  · cases h

/-- A page of channel `n`: ENABLE and shadowed registers (R413). -/
structure ChnPage (p : PageRow) (n : Nat) (page : BitVec 12) : Prop where
  at_base : pageAt (pageBase page) = some (p, n)
  block : p.block = .chn
  enctl : p.enctl = true
  shadow : p.shadow = true
  base : pageBase page = Page.CHN n

theorem ChnPage.of_pageIs {n : Nat} (h : pageIs (pageBase page) .chn n = true) : ∃ p, ChnPage p n page := by
  obtain ⟨p, hat, hblk, hen, hsh, hbase⟩ := pageAt_of_pageIs (en := true) (sh := true) (b := 0x100000) (by decide) h
  exact ⟨p, hat, hblk, hen, hsh, hbase⟩

/-! ## Writes of PG_CTRL -/

/-- The device once an access that carries no data has completed without an error (R9). -/
def Device.accessDone (d : Device) : Device := { d with last := ⟨0, false⟩ }

theorem Device.app_accessDone (d : Device) (a : Nat) : d.accessDone.app a = d.app a := rfl

theorem Device.pendingCommit_accessDone (d : Device) (base : Nat) : d.accessDone.pendingCommit base = d.pendingCommit base := rfl

/-- An admitted write of PG_CTRL (R415, R416). -/
theorem Device.write_PG_CTRL (v : Word) (h : d.admitsWrite q (Reg.PG_CTRL (pageBase page)) = true) (hp : pageAt (pageBase page) = some (p, i)) :
    d.cmdWrite q (Reg.PG_CTRL (pageBase page)) v = (d.pgCtrl p i (pageBase page) v.toNat).accessDone := by
  obtain ⟨hmem, hi, hbase⟩ := pageAt_pageBase hp
  unfold Reg.PG_CTRL at h ⊢
  rw [hbase] at h ⊢
  exact Device.cmdWrite_head v hmem hi (by decide) (by decide) h

theorem natBit_toNat (v : Word) (k : Nat) : natBit v.toNat k = v.bit k := BitVec.testBit_toNat v

/-- An admitted write of PG_CTRL that neither clears a fault nor resets the page, of a page with shadowed registers (R416). -/
theorem Device.write_PG_CTRL_shadow {v : Word} {on freeze commit : Bool} (h : d.admitsWrite q (Reg.PG_CTRL (pageBase page)) = true)
    (hp : pageAt (pageBase page) = some (p, i)) (hsh : p.shadow = true) (h0 : v.bit 0 = on) (h1 : v.bit 1 = false) (h2 : v.bit 2 = freeze)
    (h3 : v.bit 3 = commit) (h4 : v.bit 4 = false) :
    d.cmdWrite q (Reg.PG_CTRL (pageBase page)) v =
      ((if p.enctl then d.pageEnable p i (pageBase page) on else d).pageShadow p i (pageBase page) freeze commit).accessDone := by
  subst h0 h2 h3
  rw [Device.write_PG_CTRL v h hp]
  unfold Device.pgCtrl
  simp only [natBit_toNat, h1, h4, hsh, Bool.false_eq_true, if_true, if_false]

/-- ENABLE and FREEZE as they stand: what a command bit is added to (R416). -/
theorem Word.bit_enableFreeze (w : Word) :
    (w &&& 5).bit 0 = w.bit 0 ∧ (w &&& 5).bit 1 = false ∧ (w &&& 5).bit 2 = w.bit 2 ∧ (w &&& 5).bit 3 = false ∧ (w &&& 5).bit 4 = false := by
  simp [Word.bit]

/-- Command bits beside ENABLE and FREEZE (R416). -/
theorem Word.bit_command {w : Word} {k : Nat} {b : Bool} (bits : Word) (h : (w &&& 5).bit k = b) : ((w &&& 5) ||| bits).bit k = (b || bits.bit k) :=
  h ▸ BitVec.getLsbD_or

/-- ENABLE written as it stands changes nothing (R32). -/
theorem Device.pageEnable_same (d : Device) (p : PageRow) (i base : Nat) : d.pageEnable p i base ((d.reg (Reg.PG_CTRL base)).bit 0) = d := if_pos rfl

/-- PG_FREEZE leaves ENABLE as it is (R416). -/
theorem Device.pgFreeze_eq {on : Bool} (h : d.admitsWrite q (Reg.PG_CTRL (pageBase page)) = true) (hp : pageAt (pageBase page) = some (p, i))
    (hsh : p.shadow = true) : d.pgSwitch q page 2 on = (d.pageShadow p i (pageBase page) on false).accessDone := by
  obtain ⟨h0, h1, -, h3, h4⟩ := Word.bit_enableFreeze (d.reg (Reg.PG_CTRL (pageBase page)))
  have hother : ∀ k, k ≠ 2 → _ := fun k hk => Word.bit_putBit_other (d.reg (Reg.PG_CTRL (pageBase page)) &&& 5) on hk
  have hw := Device.write_PG_CTRL_shadow h hp hsh ((hother 0 (by decide)).trans h0) ((hother 1 (by decide)).trans h1) (Word.bit_putBit _ on (by decide))
    ((hother 3 (by decide)).trans h3) ((hother 4 (by decide)).trans h4)
  rwa [Device.pageEnable_same, ite_self] at hw

/-- PG_ENABLE leaves FREEZE as it is (R416). -/
theorem Device.pgEnable_eq {on : Bool} (h : d.admitsWrite q (Reg.PG_CTRL (pageBase page)) = true) (hp : pageAt (pageBase page) = some (p, i))
    (hsh : p.shadow = true) (hen : p.enctl = true) : d.pgSwitch q page 0 on =
      ((d.pageEnable p i (pageBase page) on).pageShadow p i (pageBase page) (d.frozen (pageBase page)) false).accessDone := by
  obtain ⟨-, h1, h2, h3, h4⟩ := Word.bit_enableFreeze (d.reg (Reg.PG_CTRL (pageBase page)))
  have hother : ∀ k, k ≠ 0 → _ := fun k hk => Word.bit_putBit_other (d.reg (Reg.PG_CTRL (pageBase page)) &&& 5) on hk
  have hw := Device.write_PG_CTRL_shadow h hp hsh (Word.bit_putBit _ on (by decide)) ((hother 1 (by decide)).trans h1) ((hother 2 (by decide)).trans h2)
    ((hother 3 (by decide)).trans h3) ((hother 4 (by decide)).trans h4)
  rwa [if_pos hen] at hw

/-- PG_COMMIT leaves ENABLE and FREEZE as they are (R416). -/
theorem Device.pgCommit_eq (h : d.admitsWrite q (Reg.PG_CTRL (pageBase page)) = true) (hp : pageAt (pageBase page) = some (p, i)) (hsh : p.shadow = true) :
    d.pgCommand q page 8 = (d.pageShadow p i (pageBase page) (d.frozen (pageBase page)) true).accessDone := by
  obtain ⟨h0, h1, h2, h3, h4⟩ := Word.bit_enableFreeze (d.reg (Reg.PG_CTRL (pageBase page)))
  have hw := Device.write_PG_CTRL_shadow h hp hsh ((Word.bit_command 8 h0).trans (Bool.or_false _)) (Word.bit_command 8 h1)
    ((Word.bit_command 8 h2).trans (Bool.or_false _)) (Word.bit_command 8 h3) (Word.bit_command 8 h4)
  rwa [Device.pageEnable_same, ite_self] at hw

/-! ## What PG_CTRL leaves -/

/-- A header register lies below the registers of the page's block (R413). -/
theorem pageBase_header {a o : Nat} (ho : o < 0x40) (ha : 0x40 ≤ a % 0x1000) : a ≠ pageBase page + o := by
  unfold pageBase
  omega

/-- Whether a pier's stream is halted goes by registers of the PIER and STR blocks (R30, R90). -/
theorem Device.pierHalted_congr (h : ∀ a, 0x40 ≤ a % 0x1000 → e.reg a = d.reg a) (n : Nat) : e.pierHalted n = d.pierHalted n := by
  have hctrl : e.reg (Reg.PIER_CTRL n) = d.reg (Reg.PIER_CTRL n) := h _ (by unfold Reg.PIER_CTRL Page.PIER; omega)
  have hstate : ∀ s, e.halted s = d.halted s := fun s => by
    unfold Device.halted Device.strState Device.fld
    rw [h (Reg.STR_STATUS s) (by unfold Reg.STR_STATUS Page.STR; omega)]
  unfold Device.pierHalted Device.streamOf Device.bit Device.fld
  rw [hctrl]
  split <;> simp only [hstate]

theorem Device.reg_restChan (d : Device) (n a : Nat) : (d.restChan n).reg a = d.reg a := by
  obtain hr | ⟨den, dhi, hr⟩ := d.restChan_cases n <;> rw [hr]
  rfl

/-- A disabled channel holds CH_DEN deasserted, but for the safe state (R32). -/
theorem Device.restChan_off {n : Nat} (hsafe : d.bit (Reg.PIER_STATUS (n / 16)) 3 = false) (hoff : d.chanOn n = false) :
    ((d.restChan n).chanOf n).den = false := by
  have hrest : d.restChan n = d.leaveBalls n false false := by
    unfold Device.restChan
    simp only [hsafe, hoff, Bool.false_eq_true, Bool.not_false, if_true, if_false]
  rw [hrest]
  exact congrArg ChanCtx.den (Tab.get_set_same _ _ _)

/-- A change of ENABLE brings the channel to rest (R32). -/
theorem ChnPage.pageEnable_changed {n : Nat} {on : Bool} (h : ChnPage p n page) (hne : d.bit (Reg.PG_CTRL (pageBase page)) 0 ≠ on) :
    d.pageEnable p n (pageBase page) on = (d.setBit (Reg.PG_CTRL (pageBase page)) 0 on).restChan n := by
  unfold Device.pageEnable
  rw [if_neg hne, h.block]

/-- ENABLE of a channel takes the value written; PG_CTRL and channels apart, nothing changes (R32). -/
theorem ChnPage.pageEnable_spec {n : Nat} (h : ChnPage p n page) (d : Device) (on : Bool) :
    (∃ r c, d.pageEnable p n (pageBase page) on = { d with regs := r, chan := c }) ∧ (d.pageEnable p n (pageBase page) on).bit (Reg.PG_CTRL (pageBase page)) 0 = on ∧
      RegsBut (· = Reg.PG_CTRL (pageBase page)) d (d.pageEnable p n (pageBase page) on) := by
  by_cases hsame : d.bit (Reg.PG_CTRL (pageBase page)) 0 = on
  · have heq : d.pageEnable p n (pageBase page) on = d := if_pos hsame
    rw [heq]
    exact ⟨⟨d.regs, d.chan, rfl⟩, hsame, fun _ _ => rfl⟩
  · rw [h.pageEnable_changed hsame]
    refine ⟨?_, ?_, fun a ha => (Device.reg_restChan _ n a).trans (RegsBut.setReg d _ _ a ha)⟩
    · obtain hr | ⟨den, dhi, hr⟩ := Device.restChan_cases (d.setBit (Reg.PG_CTRL (pageBase page)) 0 on) n
      · exact ⟨_, d.chan, hr⟩
      · exact ⟨_, _, hr⟩
    · rw [Device.bit_eq, Device.reg_restChan]
      exact (Device.bit_setBit d _ on (by decide)).trans (if_pos rfl)

/-- A channel that is disabled outside the safe state holds CH_DEN deasserted (R32). -/
theorem ChnPage.pageDisable_den {n : Nat} (h : ChnPage p n page) (hon : d.bit (Reg.PG_CTRL (pageBase page)) 0 = true)
    (hsafe : d.bit (Reg.PIER_STATUS (n / 16)) 3 = false) : ((d.pageEnable p n (pageBase page) false).chanOf n).den = false := by
  rw [h.pageEnable_changed (by rw [hon]; decide)]
  refine Device.restChan_off ?_ ?_
  · have hne : Reg.PIER_STATUS (n / 16) ≠ Reg.PG_CTRL (pageBase page) := pageBase_header (by decide) (by unfold Reg.PIER_STATUS Page.PIER; omega)
    exact (congrArg (Word.bit · 3) (RegsBut.setReg d _ _ _ hne)).trans hsafe
  · unfold Device.chanOn
    rw [← h.base]
    exact (Device.bit_setBit d _ false (by decide)).trans (if_pos rfl)

/-! ## Shadowed registers -/

/-- FREEZE and COMMIT as PG_CTRL and PG_STATUS hold them once written, before anything is applied (R40, R53, R416). -/
def Device.shadowWritten (d : Device) (base : Nat) (freeze commit : Bool) : Device :=
  if commit then (d.setBit (Reg.PG_CTRL base) 2 freeze).setPendingCommit base true else d.setBit (Reg.PG_CTRL base) 2 freeze

/-- What the release of a held commit is on CHN and PIER pages alike: `apply`, once FREEZE is 0 and the stream of pier `n` is halted (R40, R53, R416). -/
def Device.release (d : Device) (base n : Nat) (apply : Device → Device) : Device :=
  if d.pendingCommit base && !d.frozen base && d.pierHalted n then apply d else d

/-- A page with shadowed registers, whose commits `apply` performs once the stream of pier `n` is halted (R40, R53). -/
structure ShadowPage (p : PageRow) (i : Nat) (page : BitVec 12) (n : Nat) (apply : Device → Device) : Prop where
  at_base : pageAt (pageBase page) = some (p, i)
  shadow : p.shadow = true
  write : ∀ d freeze commit, Device.pageShadow d p i (pageBase page) freeze commit = (d.shadowWritten (pageBase page) freeze commit).release (pageBase page) n apply

theorem ChnPage.shadowPage {n : Nat} (h : ChnPage p n page) : ShadowPage p n page (n / 16) (·.commitChn n) := by
  refine ⟨h.at_base, h.shadow, fun d freeze commit => ?_⟩
  unfold Device.pageShadow
  rw [h.block, h.base]
  rfl

theorem ShadowPage.of_pier {n : Nat} (h : pageIs (pageBase page) .pier n = true) :
    pageBase page = Page.PIER n ∧ ∃ p, ShadowPage p n page n (·.commitPier n) := by
  obtain ⟨p, hat, hblk, -, hsh, hbase⟩ := pageAt_of_pageIs (en := false) (sh := true) (b := 0x50000) (by decide) h
  have hpage : pageBase page = Page.PIER n := hbase
  refine ⟨hpage, p, hat, hsh, fun d freeze commit => ?_⟩
  unfold Device.pageShadow
  rw [hblk, hpage]
  rfl

theorem Device.pendingCommit_setPendingCommit (d : Device) (base : Nat) (b : Bool) : (d.setPendingCommit base b).pendingCommit base = b :=
  (Device.bit_setBit d _ b (by decide)).trans (if_pos rfl)

/-- FREEZE neither asks for a commit nor drops one (R416). -/
theorem Device.pendingCommit_freeze (d : Device) (base : Nat) (on : Bool) : (d.shadowWritten base on false).pendingCommit base = d.pendingCommit base :=
  congrArg (Word.bit · 4) (RegsBut.setReg d (Reg.PG_CTRL base) _ (Reg.PG_STATUS base) (by unfold Reg.PG_CTRL Reg.PG_STATUS; omega))

theorem Device.pendingCommit_commit (d : Device) (base : Nat) (freeze : Bool) : (d.shadowWritten base freeze true).pendingCommit base = true :=
  Device.pendingCommit_setPendingCommit _ _ _

theorem Device.frozen_commit (d : Device) (base : Nat) (freeze : Bool) : (d.shadowWritten base freeze true).frozen base = freeze := by
  refine Eq.trans (congrArg (Word.bit · 2) (RegsBut.setReg _ (Reg.PG_STATUS base) _ (Reg.PG_CTRL base) (by unfold Reg.PG_CTRL Reg.PG_STATUS; omega))) ?_
  exact (Device.bit_setBit d _ freeze (by decide)).trans (if_pos rfl)

/-- A commit that is asked for changes the header alone. -/
theorem Device.reg_commit {a : Nat} (d : Device) (freeze : Bool) (ha : 0x40 ≤ a % 0x1000) : (d.shadowWritten (pageBase page) freeze true).reg a = d.reg a :=
  (RegsBut.setReg _ _ _ a (pageBase_header (by decide) ha)).trans (RegsBut.setReg d _ _ a (pageBase_header (by decide) ha))

/-- FREEZE written while no commit is pending releases none (R416). -/
theorem ShadowPage.freeze {n : Nat} {apply : Device → Device} (h : ShadowPage p i page n apply) (hpend : d.pendingCommit (pageBase page) = false) (on : Bool) :
    d.pageShadow p i (pageBase page) on false = d.setBit (Reg.PG_CTRL (pageBase page)) 2 on := by
  rw [h.write]
  refine if_neg ?_
  rw [Device.pendingCommit_freeze, hpend]
  exact Bool.false_ne_true

/-- COMMIT is held while the page is frozen (R40, R416). -/
theorem ShadowPage.commit_frozen {n : Nat} {apply : Device → Device} (h : ShadowPage p i page n apply) :
    d.pageShadow p i (pageBase page) true true = d.shadowWritten (pageBase page) true true := by
  rw [h.write]
  refine if_neg ?_
  rw [Device.frozen_commit, Bool.not_true, Bool.and_false, Bool.false_and]
  exact Bool.false_ne_true

/-- COMMIT applies at once where the page is not frozen and the stream is halted (R40, R53). -/
theorem ShadowPage.commit_halted {n : Nat} {apply : Device → Device} (h : ShadowPage p i page n apply) (hh : d.pierHalted n = true) :
    d.pageShadow p i (pageBase page) false true = apply (d.shadowWritten (pageBase page) false true) := by
  have hhalted := (Device.pierHalted_congr (fun a ha => d.reg_commit (page := page) false ha) n).trans hh
  rw [h.write]
  refine if_pos ?_
  rw [Device.frozen_commit, Device.pendingCommit_commit, hhalted]
  rfl

/-! ## ENABLE and FREEZE -/

variable {s : State} {n : Nat}

theorem pgEnable_completes {on : Bool} (h : s.dev.admitsWrite q (Reg.PG_CTRL (pageBase page)) = true) (hpage : pageIs (pageBase page) .chn n = true)
    (hpend : s.dev.bit (Reg.PG_STATUS (pageBase page)) 4 = false) :
    Completes (.pgEnable q page on) s (fun e => e.bit (Reg.PG_CTRL (pageBase page)) 0 = on ∧
      (on = false → s.dev.bit (Reg.PG_CTRL (pageBase page)) 0 = true → s.dev.bit (Reg.PIER_STATUS (n / 16)) 3 = false → (e.chanOf n).den = false) ∧
      RegsBut (· = Reg.PG_CTRL (pageBase page)) s.dev e ∧ MemSame s.dev e) := by
  obtain ⟨p, hp⟩ := ChnPage.of_pageIs hpage
  obtain ⟨⟨r, c, hframe⟩, hbit, hregs⟩ := hp.pageEnable_spec s.dev.fresh on
  have hnone : (s.dev.fresh.pageEnable p n (pageBase page) on).pendingCommit (pageBase page) = false :=
    (congrArg (Word.bit · 4) (hregs (Reg.PG_STATUS (pageBase page)) (by unfold Reg.PG_CTRL Reg.PG_STATUS; omega))).trans hpend
  have hw := Device.pgEnable_eq (d := s.dev.fresh) (on := on) h hp.at_base hp.shadow hp.enctl
  rw [hp.shadowPage.freeze hnone] at hw
  refine Completes.of_run (fun d => d.pgSwitch q page 0 on) rfl hw (by rw [hframe]; exact ⟨rfl, rfl, rfl⟩) ⟨?_, fun hoff hon hsafe => ?_, ?_, MemSame.settle ?_⟩
  · rw [Device.bit_eq, Device.settle_reg]
    exact (Device.bit_setBit _ _ _ (by decide)).trans hbit
  · subst hoff
    rw [Device.settle_chanOf]
    exact hp.pageDisable_den (d := s.dev.fresh) hon hsafe
  · exact RegsBut.settle fun a ha => (RegsBut.setReg _ _ _ a ha).trans (hregs a ha)
  · exact (congrArg Device.mem hframe :)

/-- A write of FREEZE that releases no commit completes as the change of its bit (R416). -/
theorem ShadowPage.pgFreeze_completes {on : Bool} {apply : Device → Device} (hp : ShadowPage p i page n apply)
    (h : s.dev.admitsWrite q (Reg.PG_CTRL (pageBase page)) = true) (hpend : s.dev.bit (Reg.PG_STATUS (pageBase page)) 4 = false) :
    Completes (.pgFreeze q page on) s (fun e => e.bit (Reg.PG_CTRL (pageBase page)) 2 = on ∧
      RegsBut (· = Reg.PG_CTRL (pageBase page)) s.dev e ∧ MemSame s.dev e) := by
  have hw := Device.pgFreeze_eq (d := s.dev.fresh) (on := on) h hp.at_base hp.shadow
  rw [hp.freeze (d := s.dev.fresh) hpend] at hw
  refine Completes.of_run (fun d => d.pgSwitch q page 2 on) rfl hw ⟨rfl, rfl, rfl⟩ ⟨?_, RegsBut.settle (RegsBut.setReg s.dev _ _), MemSame.settle rfl⟩
  rw [Device.bit_eq, Device.settle_reg]
  exact (Device.bit_setBit s.dev _ _ (by decide)).trans (if_pos rfl)

theorem pgFreeze_completes {on : Bool} (h : s.dev.admitsWrite q (Reg.PG_CTRL (pageBase page)) = true)
    (hpage : pageIs (pageBase page) .chn n = true ∨ pageIs (pageBase page) .pier n = true) (hpend : s.dev.bit (Reg.PG_STATUS (pageBase page)) 4 = false) :
    Completes (.pgFreeze q page on) s (fun e => e.bit (Reg.PG_CTRL (pageBase page)) 2 = on ∧
      RegsBut (· = Reg.PG_CTRL (pageBase page)) s.dev e ∧ MemSame s.dev e) := by
  obtain hchn | hpier := hpage
  · obtain ⟨p, hp⟩ := ChnPage.of_pageIs hchn
    exact hp.shadowPage.pgFreeze_completes h hpend
  · obtain ⟨-, p, hp⟩ := ShadowPage.of_pier hpier
    exact hp.pgFreeze_completes h hpend

/-! ## COMMIT -/

theorem Device.app_setApp (d : Device) (a b : Nat) (v : Word) : (d.setApp a v).app b = if b = a then v else d.app b := Tab.get_set d.applied a b v

theorem Device.settle_app (d : Device) (a : Nat) : d.settle.app a = d.app a := congrArg (Tab.get resetWord · a) d.settle_applied

theorem Device.settle_pendingCommit (d : Device) (base : Nat) : d.settle.pendingCommit base = d.pendingCommit base := by
  unfold Device.pendingCommit
  rw [Device.bit_eq, Device.settle_reg, ← Device.bit_eq]

/-- What a commit of a pier applies: both halves of the site mask together (R53). -/
theorem Device.commitPier_spec (d : Device) (n : Nat) : (d.commitPier n).app (Reg.PIER_SITE_EN_LO n) = d.reg (Reg.PIER_SITE_EN_LO n) ∧
    (d.commitPier n).app (Reg.PIER_SITE_EN_HI n) = d.reg (Reg.PIER_SITE_EN_HI n) ∧ (d.commitPier n).pendingCommit (Page.PIER n) = false := by
  have hne : Reg.PIER_SITE_EN_LO n ≠ Reg.PIER_SITE_EN_HI n := by
    unfold Reg.PIER_SITE_EN_LO Reg.PIER_SITE_EN_HI
    omega
  refine ⟨?_, (Device.app_setApp _ _ _ _).trans (if_pos rfl), Device.pendingCommit_setPendingCommit d _ false⟩
  unfold Device.commitPier
  rw [Device.app_setApp, if_neg hne, Device.app_setApp, if_pos rfl]

/-- The delays of a channel as their registers hold them are applied together (R40). -/
def Device.applyDelays (d : Device) (n : Nat) : Device :=
  (((d.setPendingCommit (Page.CHN n) false).setApp (Reg.CHN_DRV_DLY n) (d.reg (Reg.CHN_DRV_DLY n))).setApp (Reg.CHN_RTD n) (d.reg (Reg.CHN_RTD n))).setApp
    (Reg.CHN_DEN_OFS n) (d.reg (Reg.CHN_DEN_OFS n))

/-- A commit of delays that are in range applies them (R40). -/
theorem Device.commitChn_inRange (hle : d.fld (Reg.CHN_DRV_DLY n) 0 17 ≤ d.fld (Reg.CHN_RTD n) 0 18) (hdly : d.fld (Reg.CHN_DRV_DLY n) 0 17 ≤ 81920)
    (hrtd : d.fld (Reg.CHN_RTD n) 0 18 ≤ 163840) : d.commitChn n = d.applyDelays n := by
  have hreg : ∀ o, 0x40 ≤ o → (d.setPendingCommit (Page.CHN n) false).reg (Page.CHN n + o) = d.reg (Page.CHN n + o) := fun o ho =>
    RegsBut.setReg d _ _ _ (by unfold Reg.PG_STATUS; omega)
  unfold Device.commitChn
  refine (if_neg (by omega)).trans ?_
  unfold Reg.CHN_DRV_DLY Reg.CHN_RTD Reg.CHN_DEN_OFS
  rw [hreg _ (by decide), hreg _ (by decide), hreg _ (by decide)]
  rfl

theorem Device.applyDelays_spec (d : Device) (n : Nat) : (d.applyDelays n).app (Reg.CHN_DRV_DLY n) = d.reg (Reg.CHN_DRV_DLY n) ∧
    (d.applyDelays n).app (Reg.CHN_RTD n) = d.reg (Reg.CHN_RTD n) ∧ (d.applyDelays n).app (Reg.CHN_DEN_OFS n) = d.reg (Reg.CHN_DEN_OFS n) ∧
    (d.applyDelays n).pendingCommit (Page.CHN n) = false := by
  have hdr : Reg.CHN_DRV_DLY n ≠ Reg.CHN_RTD n := by unfold Reg.CHN_DRV_DLY Reg.CHN_RTD; omega
  have hdo : Reg.CHN_DRV_DLY n ≠ Reg.CHN_DEN_OFS n := by unfold Reg.CHN_DRV_DLY Reg.CHN_DEN_OFS; omega
  have hro : Reg.CHN_RTD n ≠ Reg.CHN_DEN_OFS n := by unfold Reg.CHN_RTD Reg.CHN_DEN_OFS; omega
  refine ⟨?_, ?_, (Device.app_setApp _ _ _ _).trans (if_pos rfl), Device.pendingCommit_setPendingCommit d _ false⟩
  · unfold Device.applyDelays
    rw [Device.app_setApp, if_neg hdo, Device.app_setApp, if_neg hdr, Device.app_setApp, if_pos rfl]
  · unfold Device.applyDelays
    rw [Device.app_setApp, if_neg hro, Device.app_setApp, if_pos rfl]

theorem pgCommit_pier_completes (h : s.dev.admitsWrite q (Reg.PG_CTRL (pageBase page)) = true) (hpage : pageIs (pageBase page) .pier n = true)
    (hfree : s.dev.frozen (pageBase page) = false) (hh : s.dev.pierHalted n = true) :
    Completes (.pgCommit q page) s (fun e => e.app (Reg.PIER_SITE_EN_LO n) = s.dev.reg (Reg.PIER_SITE_EN_LO n) ∧
      e.app (Reg.PIER_SITE_EN_HI n) = s.dev.reg (Reg.PIER_SITE_EN_HI n) ∧ e.pendingCommit (pageBase page) = false ∧ MemSame s.dev e) := by
  obtain ⟨hbase, p, hp⟩ := ShadowPage.of_pier hpage
  have hw := Device.pgCommit_eq (d := s.dev.fresh) h hp.at_base hp.shadow
  rw [show s.dev.fresh.frozen (pageBase page) = false from hfree, hp.commit_halted (d := s.dev.fresh) hh] at hw
  obtain ⟨hlo, hhi, hpend⟩ := Device.commitPier_spec (s.dev.fresh.shadowWritten (pageBase page) false true) n
  refine Completes.of_run (fun d => d.pgCommand q page 8) rfl hw ⟨rfl, rfl, rfl⟩ ⟨?_, ?_, ?_, MemSame.settle rfl⟩
  · rw [Device.settle_app, Device.app_accessDone, hlo, Device.reg_commit _ _ (by unfold Reg.PIER_SITE_EN_LO Page.PIER; omega)]
    rfl
  · rw [Device.settle_app, Device.app_accessDone, hhi, Device.reg_commit _ _ (by unfold Reg.PIER_SITE_EN_HI Page.PIER; omega)]
    rfl
  · rw [Device.settle_pendingCommit, Device.pendingCommit_accessDone]
    exact (congrArg (Device.pendingCommit _) hbase).trans hpend

theorem pgCommit_chn_completes (h : s.dev.admitsWrite q (Reg.PG_CTRL (pageBase page)) = true) (hpage : pageIs (pageBase page) .chn n = true)
    (hfree : s.dev.frozen (pageBase page) = false) (hh : s.dev.pierHalted (n / 16) = true)
    (hle : s.dev.fld (Reg.CHN_DRV_DLY n) 0 17 ≤ s.dev.fld (Reg.CHN_RTD n) 0 18) (hdly : s.dev.fld (Reg.CHN_DRV_DLY n) 0 17 ≤ 81920)
    (hrtd : s.dev.fld (Reg.CHN_RTD n) 0 18 ≤ 163840) :
    Completes (.pgCommit q page) s (fun e => e.app (Reg.CHN_DRV_DLY n) = s.dev.reg (Reg.CHN_DRV_DLY n) ∧ e.app (Reg.CHN_RTD n) = s.dev.reg (Reg.CHN_RTD n) ∧
      e.app (Reg.CHN_DEN_OFS n) = s.dev.reg (Reg.CHN_DEN_OFS n) ∧ e.pendingCommit (pageBase page) = false ∧ MemSame s.dev e) := by
  obtain ⟨p, hp⟩ := ChnPage.of_pageIs hpage
  have hregD := Device.reg_commit (page := page) (a := Reg.CHN_DRV_DLY n) s.dev.fresh false (by unfold Reg.CHN_DRV_DLY Page.CHN; omega)
  have hregR := Device.reg_commit (page := page) (a := Reg.CHN_RTD n) s.dev.fresh false (by unfold Reg.CHN_RTD Page.CHN; omega)
  have hregO := Device.reg_commit (page := page) (a := Reg.CHN_DEN_OFS n) s.dev.fresh false (by unfold Reg.CHN_DEN_OFS Page.CHN; omega)
  have hD := congrArg (Word.get · 0 17) hregD
  have hR := congrArg (Word.get · 0 18) hregR
  have hcommit : (s.dev.fresh.shadowWritten (pageBase page) false true).commitChn n = (s.dev.fresh.shadowWritten (pageBase page) false true).applyDelays n :=
    Device.commitChn_inRange (hD.trans_le (hle.trans_eq hR.symm)) (hD.trans_le hdly) (hR.trans_le hrtd)
  have hw := Device.pgCommit_eq (d := s.dev.fresh) h hp.at_base hp.shadow
  rw [show s.dev.fresh.frozen (pageBase page) = false from hfree, hp.shadowPage.commit_halted (d := s.dev.fresh) hh, hcommit] at hw
  obtain ⟨hd, hr, ho, hpend⟩ := Device.applyDelays_spec (s.dev.fresh.shadowWritten (pageBase page) false true) n
  refine Completes.of_run (fun d => d.pgCommand q page 8) rfl hw ⟨rfl, rfl, rfl⟩ ⟨?_, ?_, ?_, ?_, MemSame.settle rfl⟩
  · rw [Device.settle_app, Device.app_accessDone, hd, hregD]
    rfl
  · rw [Device.settle_app, Device.app_accessDone, hr, hregR]
    rfl
  · rw [Device.settle_app, Device.app_accessDone, ho, hregO]
    rfl
  · rw [Device.settle_pendingCommit, Device.pendingCommit_accessDone]
    exact (congrArg (Device.pendingCommit _) hp.base).trans hpend

theorem pgCommit_frozen_completes (h : s.dev.admitsWrite q (Reg.PG_CTRL (pageBase page)) = true) (hpage : pageIs (pageBase page) .chn n = true)
    (hfrozen : s.dev.frozen (pageBase page) = true) :
    Completes (.pgCommit q page) s (fun e => e.pendingCommit (pageBase page) = true ∧ e.applied = s.dev.applied) := by
  obtain ⟨p, hp⟩ := ChnPage.of_pageIs hpage
  have hw := Device.pgCommit_eq (d := s.dev.fresh) h hp.at_base hp.shadow
  rw [show s.dev.fresh.frozen (pageBase page) = true from hfrozen, hp.shadowPage.commit_frozen] at hw
  refine Completes.of_run (fun d => d.pgCommand q page 8) rfl hw ⟨rfl, rfl, rfl⟩ ⟨?_, Device.settle_applied _⟩
  rw [Device.settle_pendingCommit, Device.pendingCommit_accessDone]
  exact Device.pendingCommit_commit _ _ _

/-! ## SOFT_RESET -/

/-- Between `d` and `e` registers alone changed. -/
def RegsOnly (d e : Device) : Prop := ∃ r, e = { d with regs := r }

theorem RegsOnly.setReg {a : Nat} {v : Word} (h : RegsOnly d e) : RegsOnly d (e.setReg a v) := by
  obtain ⟨r, rfl⟩ := h
  exact ⟨_, rfl⟩

/-- Between `d` and `e` registers alone changed: those in `S` are at reset, the others as they were. -/
def ResetTo (S : Nat → Prop) (d e : Device) : Prop :=
  RegsOnly d e ∧ (∀ a, S a → e.reg a = resetWord a) ∧ RegsBut S d e

theorem ResetTo.refl (d : Device) : ResetTo (fun _ => False) d d := ⟨⟨d.regs, rfl⟩, fun _ h => h.elim, fun _ _ => rfl⟩

/-- One more register returns to reset. -/
theorem ResetTo.setReg {S T : Nat → Prop} {a : Nat} (h : ResetTo S d e) (hT : ∀ b, T b ↔ S b ∨ b = a) : ResetTo T d (e.setReg a (resetWord a)) := by
  obtain ⟨honly, hreset, hbut⟩ := h
  refine ⟨honly.setReg, fun b hb => ?_, fun b hb => ?_⟩
  · rw [Device.reg_setReg]
    split
    · next hba => rw [hba]
    · next hba => exact hreset b (((hT b).mp hb).resolve_right hba)
  · rw [hT, not_or] at hb
    obtain ⟨hS, hne⟩ := hb
    rw [Device.reg_setReg, if_neg hne]
    exact hbut b hS

/-- The register at `a` is one of row `r`'s, on a page at `base`. -/
def Covers (base : Nat) (r : RegRow) (a : Nat) : Prop := ∃ j < max 1 r.count, a = base + r.off + r.stride * j

/-- A register that the block defines is one of its rows' (R413). -/
theorem covers_of_findRow {rows : List RegRow} {o : Nat} (base : Nat) (h : (findRow rows o).isSome = true) : ∃ r ∈ rows, Covers base r (base + o) := by
  induction rows with
  | nil => cases h
  | cons r rs ih =>
    unfold findRow at h
    split at h
    · next j hj =>
      refine ⟨r, List.mem_cons_self, ?_⟩
      unfold RegRow.index? at hj
      split at hj
      · cases hj
      split at hj
      · next hs =>
        obtain rfl : o = r.off := by
          by_contra hne
          rw [if_neg hne] at hj
          cases hj
        exact ⟨0, by omega, by omega⟩
      split at hj
      · next hlt hs hin =>
        obtain ⟨hmod, hcount⟩ := hin
        have hmul := Nat.mul_div_cancel' (Nat.dvd_of_mod_eq_zero hmod)
        exact ⟨(o - r.off) / r.stride, by omega, by omega⟩
      · cases hj
    · obtain ⟨x, hx, hc⟩ := ih h
      exact ⟨x, List.mem_cons_of_mem _ hx, hc⟩

/-- A mask of no bits takes nothing from the value (R10). -/
theorem Word.merge_zero (v w : Word) : Word.merge 0 v w = w := by
  change v &&& 0#32 ||| w &&& ~~~0#32 = w
  rw [BitVec.and_zero, BitVec.zero_or, BitVec.not_zero, BitVec.and_allOnes]

/-- An array of registers returns to reset. -/
theorem ResetTo.forN {S : Nat → Prop} (f : Nat → Nat) (m : Nat) (h : ResetTo S d e) :
    ResetTo (fun a => S a ∨ ∃ j < m, a = f j) d (e.forN m (fun x j => x.setReg (f j) (resetWord (f j)))) := by
  induction m with
  | zero => simpa [Device.forN] using h
  | succ m ih =>
    rw [Device.forN_succ]
    refine ih.setReg fun b => ?_
    simp only [Nat.lt_succ_iff_lt_or_eq, or_and_right, exists_or, exists_eq_left, or_assoc]

/-! ### The page of a trigger engine -/

/-- A page of a trigger engine: neither ENABLE nor shadowed registers (R413). -/
structure TrgPage (p : PageRow) (n : Nat) (page : BitVec 12) : Prop where
  at_base : pageAt (pageBase page) = some (p, n)
  block : p.block = .trg
  enctl : p.enctl = false
  shadow : p.shadow = false

theorem TrgPage.of_pageAt (h : pageAt (pageBase page) = some (p, n)) (hblk : p.block = .trg) : TrgPage p n page := by
  have hrow : ∀ p ∈ pageTable, p.block = .trg → p.enctl = false ∧ p.shadow = false := by decide
  obtain ⟨hmem, -, -⟩ := pageAt_pageBase h
  obtain ⟨hen, hsh⟩ := hrow p hmem hblk
  exact ⟨h, hblk, hen, hsh⟩

/-- PG_SOFT_RESET on a page of a trigger engine is its soft reset and nothing else (R416). -/
theorem TrgPage.pgSoftReset (hp : TrgPage p n page) (h : d.admitsWrite q (Reg.PG_CTRL (pageBase page)) = true) :
    d.pgCommand q page 2 = (d.softReset p n (pageBase page)).accessDone := by
  obtain ⟨-, h1, -, -, h4⟩ := Word.bit_enableFreeze (d.reg (Reg.PG_CTRL (pageBase page)))
  have hbit1 := Word.bit_command 2 h1
  have hbit4 := Word.bit_command 2 h4
  unfold Device.pgCommand
  rw [Device.write_PG_CTRL _ h hp.at_base]
  unfold Device.pgCtrl
  simp only [natBit_toNat, hbit1, hbit4, hp.enctl, hp.shadow]
  rfl

/-- The registers of one row of a page return to reset, as a soft reset takes them (R12, R416). -/
def Device.rowReset (p : PageRow) (base : Nat) (d : Device) (r : RegRow) : Device :=
  if r.acc = .rws then d
  else d.forN (max 1 r.count) (fun d j =>
    let a := base + r.off + r.stride * j
    let keep : Word := if r.acc = .ro then BitVec.ofNat 32 (liveMask p.block r.off) else 0
    let d := d.setReg a (Word.merge keep (d.reg a) (resetWord a))
    if p.shadow then d.setApp a (resetWord a) else d)

/-- A row of a trigger engine's page returns to reset whole: none of its bits shows what lies outside the page (R416, log entry 42). -/
theorem TrgPage.rowReset {S : Nat → Prop} {r : RegRow} (hp : TrgPage p n page) (hrws : r.acc ≠ .rws) (h : ResetTo S d e) :
    ResetTo (fun a => S a ∨ Covers (pageBase page) r a) d (Device.rowReset p (pageBase page) e r) := by
  have hkeep : (if r.acc = .ro then BitVec.ofNat 32 (liveMask p.block r.off) else (0 : Word)) = 0 := by
    rw [hp.block]
    exact ite_self _
  unfold Device.rowReset
  simp only [if_neg hrws, hkeep, hp.shadow, Word.merge_zero, Bool.false_eq_true, if_false]
  exact h.forN (fun j => pageBase page + r.off + r.stride * j) _

theorem TrgPage.rowsReset (hp : TrgPage p n page) (d : Device) (rows : List RegRow) (hrws : ∀ r ∈ rows, r.acc ≠ .rws) :
    ResetTo (fun a => ∃ r ∈ rows, Covers (pageBase page) r a) d (rows.foldl (Device.rowReset p (pageBase page)) d) := by
  have key : ∀ (S : Nat → Prop) (e : Device), ResetTo S d e →
      ResetTo (fun a => S a ∨ ∃ r ∈ rows, Covers (pageBase page) r a) d (rows.foldl (Device.rowReset p (pageBase page)) e) := by
    induction rows with
    | nil => simp
    | cons r rs ih =>
      intro S e h
      have hr := ih (fun x hx => hrws x (List.mem_cons_of_mem _ hx)) _ _ (hp.rowReset (hrws r List.mem_cons_self) h)
      simpa only [List.foldl_cons, List.mem_cons, or_and_right, exists_or, exists_eq_left, or_assoc] using hr
  simpa using key _ d (.refl d)

/-- What a soft reset of a trigger engine's page does once the registers of the block are at reset: RAW, the fault, a pending commit and PG_CTRL, then the
engine (R416). -/
def Device.trgCleared (d : Device) (n base : Nat) : Device :=
  ((((d.setRegN (Reg.PG_EVT_RAW base) 0).faultClear base).setPendingCommit base false).setReg (Reg.PG_CTRL base) (resetWord (Reg.PG_CTRL base))).setTrg n
    TrgCtx.reset

theorem TrgPage.softReset_eq (hp : TrgPage p n page) (hok : d.softOk p n (pageBase page) = true) :
    d.softReset p n (pageBase page) = (p.block.rows.foldl (Device.rowReset p (pageBase page)) d).trgCleared n (pageBase page) := by
  have hblk := hp.block
  have hbefore : d.softBefore p.block = d := by rw [hblk]; rfl
  have hengines : ∀ x : Device, x.softEngines p.block n = x.setTrg n TrgCtx.reset := fun x => by rw [hblk]; rfl
  have hfuse : p.block ≠ .fuse := by rw [hblk]; decide
  unfold Device.softReset
  rw [if_neg (by rw [hblk]; decide), if_pos hok, if_neg (by rw [hblk]; decide), hbefore, hengines]
  unfold Device.softRegs
  simp only [if_neg hfuse]
  rfl

/-- Of the header, a soft reset changes RAW, the fault, PG_STATUS and PG_CTRL, and RAW and the fault are clear then (R416). -/
theorem Device.trgCleared_header (d : Device) (n base : Nat) : (d.trgCleared n base).reg (Reg.PG_EVT_RAW base) = 0 ∧
    (d.trgCleared n base).reg (Reg.PG_FAULT_CODE base) = 0 ∧
    RegsBut (fun a => a = Reg.PG_EVT_RAW base ∨ a = Reg.PG_FAULT_CODE base ∨ a = Reg.PG_STATUS base ∨ a = Reg.PG_CTRL base) d (d.trgCleared n base) := by
  unfold Device.trgCleared Device.faultClear Device.setPendingCommit
  simp only [Device.setBit_eq, Device.setRegN_eq]
  refine ⟨?_, ?_, fun a ha => ?_⟩
  · simp [Reg.PG_EVT_RAW, Reg.PG_FAULT_CODE, Reg.PG_STATUS, Reg.PG_CTRL]
  · simp [Reg.PG_FAULT_CODE, Reg.PG_STATUS, Reg.PG_CTRL]
  · obtain ⟨hraw, hcode, hstat, hctrl⟩ : a ≠ _ ∧ a ≠ _ ∧ a ≠ _ ∧ a ≠ _ := by simpa only [not_or] using ha
    simp [hraw, hcode, hstat, hctrl]

theorem RegsOnly.trgCleared (h : RegsOnly d e) (n base : Nat) : ∃ r c, e.trgCleared n base = { d with regs := r, trg := c } := by
  obtain ⟨r, hr⟩ : RegsOnly d (((((e.setRegN (Reg.PG_EVT_RAW base) 0).faultClear base).setPendingCommit base false).setReg (Reg.PG_CTRL base)
    (resetWord (Reg.PG_CTRL base)))) := h.setReg.setReg.setReg.setReg.setReg
  unfold Device.trgCleared
  rw [hr]
  exact ⟨_, _, rfl⟩

theorem Device.trgOf_trgCleared (d : Device) (n base : Nat) : (d.trgCleared n base).trgOf n = TrgCtx.reset :=
  (Device.trgOf_setTrg _ n n _).trans (if_pos rfl)

/-- The registers of the block lie above the header (R413). -/
theorem TrgPage.covers {a : Nat} {r : RegRow} (hp : TrgPage p n page) (hr : r ∈ p.block.rows) (h : Covers (pageBase page) r a) :
    pageBase page + 0x40 ≤ a ∧ a < pageBase page + 0x1000 := by
  have hin : ∀ r ∈ Block.trg.rows, ∀ j < max 1 r.count, 0x40 ≤ r.off + r.stride * j ∧ r.off + r.stride * j < 0x1000 := by decide
  obtain ⟨j, hj, rfl⟩ := h
  obtain ⟨hlo, hhi⟩ := hin r (hp.block ▸ hr) j hj
  omega

/-- Between `d` and `e` trigger engine `n`, whose page of block rows `rows` lies at `base`, was reset: it and the block's registers
are at reset, RAW and the fault are clear, PG_EVT_EN and PG_LOCK stand, and nothing beside the page's registers and trigger engines has changed (R416). -/
structure TrgReset (rows : List RegRow) (n base : Nat) (d e : Device) : Prop where
  frame : ∃ r c, e = { d with regs := r, trg := c }
  engine : e.trgOf n = TrgCtx.reset
  raw : e.reg (Reg.PG_EVT_RAW base) = 0
  code : e.reg (Reg.PG_FAULT_CODE base) = 0
  kept : ∀ a, a = Reg.PG_EVT_EN base ∨ a = Reg.PG_LOCK base → e.reg a = d.reg a
  block : ∀ o, (findRow rows o).isSome = true → e.reg (base + o) = resetWord (base + o)
  others : RegsBut (fun a => base ≤ a ∧ a < base + 0x1000) d e

/-- The rows' registers at reset, then the header and the engine. -/
theorem TrgPage.cleared (hp : TrgPage p n page) (hx : ResetTo (fun a => ∃ r ∈ p.block.rows, Covers (pageBase page) r a) d e) :
    TrgReset p.block.rows n (pageBase page) d (e.trgCleared n (pageBase page)) := by
  obtain ⟨honly, hreset, hrows⟩ := hx
  obtain ⟨hraw, hcode, hheader⟩ := e.trgCleared_header n (pageBase page)
  unfold Reg.PG_EVT_RAW Reg.PG_FAULT_CODE Reg.PG_STATUS Reg.PG_CTRL at hheader
  refine ⟨honly.trgCleared n _, e.trgOf_trgCleared n _, hraw, hcode, fun a ha => ?_, fun o ho => ?_, fun a ha => ?_⟩
  · unfold Reg.PG_EVT_EN Reg.PG_LOCK at ha
    refine (hheader a (by omega)).trans (hrows a ?_)
    rintro ⟨r, hr, hc⟩
    obtain ⟨hlo, -⟩ := hp.covers hr hc
    omega
  · obtain ⟨r, hr, hc⟩ := covers_of_findRow (pageBase page) ho
    obtain ⟨hlo, -⟩ := hp.covers hr hc
    exact (hheader _ (by omega)).trans (hreset _ ⟨r, hr, hc⟩)
  · refine (hheader a (by omega)).trans (hrows a ?_)
    rintro ⟨r, hr, hc⟩
    exact ha ((hp.covers hr hc).imp (by omega) id)

theorem TrgPage.softReset_spec (hp : TrgPage p n page) (hok : d.softOk p n (pageBase page) = true) :
    TrgReset p.block.rows n (pageBase page) d (d.softReset p n (pageBase page)) := by
  have hrws : ∀ r ∈ p.block.rows, r.acc ≠ .rws := by
    rw [hp.block]
    decide
  rw [hp.softReset_eq hok]
  exact hp.cleared (hp.rowsReset d p.block.rows hrws)

/-- Whether the registers of a trigger engine's page would take their reset values does not go by what was sent before (R416). -/
theorem TrgPage.softOk_fresh (hp : TrgPage p n page) (d : Device) (base : Nat) : d.fresh.softOk p n base = d.softOk p n base := by
  unfold Device.softOk Device.writeRule
  simp only [hp.block, reduceCtorEq, decide_false, Bool.false_and]
  rfl

theorem pgSoftReset_completes {r : PageRow} (h : s.dev.admitsWrite q (Reg.PG_CTRL (pageBase page)) = true) (hat : pageAt (pageBase page) = some (r, n))
    (hblk : r.block = .trg) (hok : s.dev.softOk r n (pageBase page) = true) :
    Completes (.pgSoftReset q page) s (fun e => e.trgOf n = TrgCtx.reset ∧ e.reg (Reg.PG_EVT_RAW (pageBase page)) = 0 ∧
      e.reg (Reg.PG_FAULT_CODE (pageBase page)) = 0 ∧ e.reg (Reg.PG_EVT_EN (pageBase page)) = s.dev.reg (Reg.PG_EVT_EN (pageBase page)) ∧
      e.reg (Reg.PG_LOCK (pageBase page)) = s.dev.reg (Reg.PG_LOCK (pageBase page)) ∧
      (∀ o < 0x1000, (findRow r.block.rows o).isSome = true → e.reg (pageBase page + o) = resetWord (pageBase page + o)) ∧
      RegsBut (fun a => pageBase page ≤ a ∧ a < pageBase page + 0x1000) s.dev e ∧ MemSame s.dev e) := by
  have hp := TrgPage.of_pageAt hat hblk
  have hw := hp.pgSoftReset (d := s.dev.fresh) h
  have hspec := hp.softReset_spec ((hp.softOk_fresh s.dev _).trans hok)
  generalize s.dev.fresh.softReset r n (pageBase page) = x at hw hspec
  obtain ⟨⟨rs, c, rfl⟩, hengine, hraw, hcode, hkept, hblock, hothers⟩ := hspec
  refine Completes.of_run (fun d => d.pgCommand q page 2) rfl hw ⟨rfl, rfl, rfl⟩ ?_
  exact ⟨(Device.settle_trgOf _ n).trans hengine, (Device.settle_reg _ _).trans hraw, (Device.settle_reg _ _).trans hcode,
    (Device.settle_reg _ _).trans (hkept _ (.inl rfl)), (Device.settle_reg _ _).trans (hkept _ (.inr rfl)),
    fun o _ ho => (Device.settle_reg _ _).trans (hblock o ho), RegsBut.settle hothers, MemSame.settle rfl⟩

/-- Settles O6: each clause is one write of PG_CTRL. FREEZE written without a pending commit releases none; a commit is held by FREEZE alone, since the stream
is halted; and a soft reset of a TRG page is a fold over the rows of its block, all of which lie above the header. -/
theorem pageControls : Obligations.PageControls := by
  unfold Obligations.PageControls
  exact ⟨fun _ _ _ _ _ h hpage hpend => pgEnable_completes h hpage hpend, fun _ _ _ _ _ h hpage hpend => pgFreeze_completes h hpage hpend,
    fun _ _ _ _ h hpage hfree hh => pgCommit_pier_completes h hpage hfree hh,
    fun _ _ _ _ h hpage hfree hh hle hdly hrtd => pgCommit_chn_completes h hpage hfree hh hle hdly hrtd,
    fun _ _ _ _ h hpage hfrozen => pgCommit_frozen_completes h hpage hfrozen,
    fun _ _ _ _ _ h hat hblk _ hok => pgSoftReset_completes h hat hblk hok⟩

end Sys2Proof.Machine
end

section
/-! PROOF. Writes to the windows (R71, R94, R136, R264). -/

namespace Sys2Proof

/-- A write through a mask, worked out on numbers. -/
theorem Word.ofNat_merge {m : Nat} (hm : m < 2 ^ 32) (v w : Word) :
    BitVec.ofNat 32 (v.toNat &&& m ||| w.toNat &&& (0xFFFFFFFF - m)) = Word.merge (BitVec.ofNat 32 m) v w := by
  have hmask : m % 2 ^ 32 = m := Nat.mod_eq_of_lt hm
  have hlt : v.toNat &&& m ||| w.toNat &&& (0xFFFFFFFF - m) < 2 ^ 32 :=
    Nat.or_lt_two_pow (Nat.and_lt_two_pow _ hm) (Nat.and_lt_two_pow _ (by omega))
  refine BitVec.eq_of_toNat_eq ?_
  rw [BitVec.toNat_ofNat, Nat.mod_eq_of_lt hlt, Word.merge, BitVec.toNat_or, BitVec.toNat_and, BitVec.toNat_and, BitVec.toNat_not, BitVec.toNat_ofNat,
    hmask]

end Sys2Proof

namespace Sys2Proof.Machine

variable {d : Device} {s : State} {q : Requester}

/-! ## The way to a window -/

/-- A write by `q` of the window word at `a` that no twin pair turns away or journals and that waits behind nothing (R399, R401). -/
structure DirectWrite (d : Device) (q : Requester) (a : Nat) : Prop where
  alone : q = .host → mirrored a = true → d.role = 0
  first : q = .host → d.hostWaits = false

theorem DirectWrite.of_admitsWindow {a : Nat} (h : d.admitsWindow q a = true) : DirectWrite d q a ∧ d.reachable (reqNo q) none = true := by
  simp only [Device.admitsWindow, Bool.and_eq_true, Bool.not_eq_true', Bool.and_eq_false_iff, decide_eq_false_iff_not, Decidable.not_not] at h
  obtain ⟨⟨hreach, hrole⟩, hwait⟩ := h
  refine ⟨⟨fun hq hm => ?_, fun hq => hwait.resolve_left (not_not.mpr hq)⟩, hreach⟩
  rw [hm] at hrole
  exact (hrole.resolve_right nofun).resolve_left (not_not.mpr hq)

/-- Outside what a twin pair mirrors only the host's writes that wait can come before (R398, R399). -/
theorem DirectWrite.of_unmirrored {a : Nat} (hm : mirrored a = false) (hwait : q = .host → d.hostWaits = false) : DirectWrite d q a :=
  ⟨fun _ h => absurd (hm.symm.trans h) nofun, hwait⟩

/-- A write as its requester finds it done: the answer says whether it was an error. -/
def Wrote.answered (r : Wrote) : Device := { r.dev with last := ⟨0, r.error⟩ }

/-- A direct write is what its target makes of it, and the target's answer. -/
theorem DirectWrite.cmdWrite {a : Nat} (h : DirectWrite d q a) (v : Word) (h4 : a % 4 = 0) (hlow : a < 0x1000000) :
    d.cmdWrite q a v = (d.targetWrite (reqNo q) a v.toNat).answered := by
  have hwait : ¬ (reqNo q = 0 ∧ d.hostWaits = true) := fun ⟨h0, hw⟩ => Bool.false_ne_true ((h.first (reqNo_eq_zero.mp h0)).symm.trans hw)
  have hturned : ¬ (reqNo q = 0 ∧ (d.role = 2 ∨ d.role = 3) ∧ mirrored a = true) := fun ⟨h0, hr, hm⟩ => by
    have := h.alone (reqNo_eq_zero.mp h0) hm
    omega
  unfold Device.cmdWrite Device.writeReg Device.writeAt
  rw [if_neg (by decide), if_neg hwait, if_neg (not_not.mpr h4), if_neg (Nat.not_le.mpr hlow), if_neg hturned]
  dsimp only
  split
  · next hj =>
    obtain ⟨h0, hr, -⟩ := hj
    have hm : mirrored a = false := Bool.eq_false_iff.mpr fun hm => by
      have := h.alone (reqNo_eq_zero.mp h0) hm
      omega
    rw [Device.journal_unmirrored _ _ hm]
    rfl
  · rfl

/-- A direct write of a window word that can be reached. -/
theorem DirectWrite.window {a : Nat} (h : DirectWrite d q a) (hreach : d.reachable (reqNo q) none = true) (v : Word) (h4 : a % 4 = 0) (hwin : isWindow a = true) :
    d.cmdWrite q a v = (d.windowWrite (reqNo q) a v.toNat).answered := by
  have hlow : a < 0x1000000 := by
    simp only [isWindow, Bool.or_eq_true, decide_eq_true_eq] at hwin
    omega
  have htarget : d.targetWrite (reqNo q) a v.toNat = d.windowWrite (reqNo q) a v.toNat := by
    unfold Device.targetWrite
    rw [if_pos hwin, if_pos hreach]
  rw [h.cmdWrite v h4 hlow, htarget]

/-! ## What each window does -/

theorem tsmemAddr_mem (ch st : BitVec 8) (w : BitVec 3) :
    0x200000 ≤ tsmemAddr ch.toNat st.toNat w.toNat ∧ tsmemAddr ch.toNat st.toNat w.toNat < 0x400000 ∧ tsmemAddr ch.toNat st.toNat w.toNat % 4 = 0 := by
  unfold tsmemAddr
  omega

theorem Device.windowWrite_tsmem {a r : Nat} (v : Word) (ha : a < 0x400000) (hue : d.winUE a = false) :
    d.windowWrite r a v.toNat = ⟨d.setReg a (v &&& 0xE1FFFFFF#32), false, true⟩ := by
  have hv : BitVec.ofNat 32 (v.toNat &&& 0xE1FFFFFF) = v &&& 0xE1FFFFFF#32 := BitVec.eq_of_toNat_eq (by simp)
  unfold Device.windowWrite
  rw [if_pos ha, if_neg (by rw [hue]; nofun), Device.setRegN_eq, hv]

theorem Device.windowWrite_tsmem_bad {a r v : Nat} (ha : a < 0x400000) (hue : d.winUE a = true) : d.windowWrite r a v = ⟨d, true, false⟩ := by
  unfold Device.windowWrite
  rw [if_pos ha, if_pos hue]

/-- A span word other than word 3, of a span that no stream holds and that is not READY (R94, R95, R403). -/
theorem Device.windowWrite_span (r : Nat) {n : Nat} (v : Word) (hn : n < 0x10000) (hue : d.winUE (spanWord n 1) = false)
    (hactive : d.spanActive n = false) (hready : d.spanReady n = false) :
    ∃ e, d.windowWrite r (spanWord n 1) v.toNat = ⟨e, false, true⟩ ∧
      (e = d.setReg (spanWord n 1) v ∨ e = (d.setReg (spanWord n 1) v).hashStale) := by
  have ha : spanWord n 1 = 0x600000 + 16 * n + 4 := rfl
  have hspan : spanWord n 1 % 0x100000 / 16 = n := by omega
  have hword : spanWord n 1 % 16 = 4 := by omega
  have hv : BitVec.ofNat 32 (v.toNat &&& 0xFFFFFFFF) = v := BitVec.eq_of_toNat_eq (by
    rw [BitVec.toNat_ofNat, show 0xFFFFFFFF = 2 ^ 32 - 1 by decide, Nat.and_two_pow_sub_one_eq_mod]
    omega)
  unfold Device.windowWrite
  rw [if_neg (by omega), if_neg (by omega), if_pos (by omega)]
  unfold Device.spanWrite
  simp only [hspan, hword, hue, hactive, hready, Bool.and_false, Bool.or_self, Bool.false_eq_true, if_false, Device.setRegN_eq, hv]
  refine ⟨_, rfl, ?_⟩
  split
  · exact .inr rfl
  · exact .inl rfl

theorem Device.windowWrite_ctrlStore {a r v : Nat} (hlo : 0x700000 ≤ a) (hhi : a < 0x710000) : d.windowWrite r a v = ⟨d, true, false⟩ := by
  unfold Device.windowWrite
  rw [if_neg (by omega), if_neg (by omega), if_neg (by omega), if_pos hhi]

/-- A word of a task that is IDLE takes its writable bits (R264). -/
theorem Device.windowWrite_task (r : Nat) {t w : Nat} (v : Word) (ht : t < 0x1000) (hw : w < 16) (hidle : d.taskState t = 0)
    (hue : d.winUE (tdAddr t (4 * w)) = false) :
    d.windowWrite r (tdAddr t (4 * w)) v.toNat =
      ⟨d.setReg (tdAddr t (4 * w)) (Word.merge (BitVec.ofNat 32 (taskMask (4 * w))) v (d.reg (tdAddr t (4 * w)))), false, true⟩ := by
  have hmask : taskMask (4 * w) < 2 ^ 32 := by
    unfold taskMask
    split <;> decide
  have ha : tdAddr t (4 * w) = 0x740000 + 64 * t + 4 * w := rfl
  have htask : (tdAddr t (4 * w) - 0x740000) / 64 = t := by omega
  have hword : tdAddr t (4 * w) % 64 = 4 * w := by omega
  unfold Device.windowWrite
  rw [if_neg (by omega), if_neg (by omega), if_neg (by omega), if_neg (by omega)]
  simp only [htask, hword, hidle, hue, ne_eq, not_true_eq_false, Bool.false_eq_true, if_false, Device.setRegN_eq, Device.regN_eq]
  rw [Word.ofNat_merge hmask]

/-! ## The commands -/

/-- A write that its target turns down leaves the answer alone. -/
theorem Completes.of_turnedDown {c : Instr} {b : Bool} (f : Device → Device) (hx : exec c s = s.run f)
    (hf : f s.dev.fresh = Wrote.answered ⟨s.dev.fresh, true, b⟩) :
    Completes c s (fun e => e.last = ⟨0, true⟩ ∧ e.regs = s.dev.regs ∧ OnlyRegs s.dev e) :=
  Completes.of_run f hx hf ⟨rfl, rfl, rfl⟩ ⟨Device.settle_last _, Device.settle_regs _, OnlyRegs.settle rfl⟩

/-- A word that is set, and the answer of the access, are all that a command leaves. -/
theorem Completes.of_stored {c : Instr} {a : Nat} {w : Word} (f : Device → Device) (hx : exec c s = s.run f)
    (hf : f s.dev.fresh = Wrote.answered ⟨s.dev.fresh.setReg a w, false, true⟩) :
    Completes c s (fun e => e.reg a = w ∧ e.last = ⟨0, false⟩ ∧ RegsBut (· = a) s.dev e ∧ OnlyRegs s.dev e) :=
  Completes.of_run f hx hf ⟨rfl, rfl, rfl⟩ ⟨(Device.settle_reg _ _).trans (Device.reg_setReg_same s.dev a w), Device.settle_last _,
    RegsBut.settle (RegsBut.setReg s.dev a w), OnlyRegs.settle rfl⟩

theorem tsmemWrite_stored {ch st : BitVec 8} {w : BitVec 3} {v : Word} (h : s.dev.admitsWindow q (tsmemAddr ch.toNat st.toNat w.toNat) = true)
    (hue : s.dev.winUE (tsmemAddr ch.toNat st.toNat w.toNat) = false) :
    Completes (.tsmemWrite q ch st w v .good) s (fun e => e.reg (tsmemAddr ch.toNat st.toNat w.toNat) = v &&& 0xE1FFFFFF#32 ∧ e.last = ⟨0, false⟩ ∧
      RegsBut (· = tsmemAddr ch.toNat st.toNat w.toNat) s.dev e ∧ OnlyRegs s.dev e) := by
  obtain ⟨hlo, hhi, h4⟩ := tsmemAddr_mem ch st w
  obtain ⟨hdirect, hreach⟩ := DirectWrite.of_admitsWindow (d := s.dev.fresh) h
  have hw := hdirect.window hreach v h4 (by simp [isWindow]; omega)
  rw [Device.windowWrite_tsmem (d := s.dev.fresh) v hhi hue] at hw
  exact Completes.of_stored (fun d => d.cmdWrite q (tsmemAddr ch.toNat st.toNat w.toNat) v) rfl hw

theorem tsmemWrite_bad {ch st : BitVec 8} {w : BitVec 3} {v : Word} (h : s.dev.admitsWindow q (tsmemAddr ch.toNat st.toNat w.toNat) = true) :
    Completes (.tsmemWrite q ch st w v .bad) s (fun e => e.last = ⟨0, true⟩ ∧ e.regs = s.dev.regs ∧ MemSame s.dev e) := by
  obtain ⟨hlo, hhi, h4⟩ := tsmemAddr_mem ch st w
  obtain ⟨hdirect, hreach⟩ := DirectWrite.of_admitsWindow (d := s.dev.fresh.setWinUE (tsmemAddr ch.toNat st.toNat w.toNat) true) h
  have hw := hdirect.window hreach v h4 (by simp [isWindow]; omega)
  rw [Device.windowWrite_tsmem_bad hhi (Device.winUE_setWinUE _ _ _)] at hw
  exact Completes.of_run (fun d => (d.setWinUE (tsmemAddr ch.toNat st.toNat w.toNat) true).cmdWrite q (tsmemAddr ch.toNat st.toNat w.toNat) v) rfl hw
    ⟨rfl, rfl, rfl⟩ ⟨Device.settle_last _, Device.settle_regs _, MemSame.settle rfl⟩

theorem spanDescWrite_stored {n : BitVec 16} {v : Word} (h : s.dev.admitsWindow q (spanWord n.toNat 1) = true)
    (hue : s.dev.winUE (spanWord n.toNat 1) = false) (hactive : s.dev.spanActive n.toNat = false) (hready : s.dev.spanReady n.toNat = false) :
    Completes (.spanDescWrite q n 1 v false) s (fun e => e.reg (spanWord n.toNat 1) = v ∧ e.last = ⟨0, false⟩ ∧
      RegsBut (fun a => a = spanWord n.toNat 1 ∨ a = Reg.TWN_HSTAT) s.dev e ∧ OnlyRegs s.dev e) := by
  have ha : spanWord n.toNat 1 = 0x600000 + 16 * n.toNat + 4 := rfl
  have hne : spanWord n.toNat 1 ≠ Reg.TWN_HSTAT := by
    unfold Reg.TWN_HSTAT Page.TWN
    omega
  obtain ⟨hdirect, hreach⟩ := DirectWrite.of_admitsWindow (d := s.dev.fresh) h
  obtain ⟨e, hwrite, he⟩ := Device.windowWrite_span (d := s.dev.fresh) (reqNo q) v n.isLt hue hactive hready
  have hw := hdirect.window hreach v (by omega) (by simp [isWindow]; omega)
  rw [hwrite] at hw
  obtain rfl | rfl := he
  · refine (Completes.of_stored (fun d => d.cmdWrite q (spanWord n.toNat 1) v) rfl hw).mono fun e ⟨hreg, hlast, hregs, honly⟩ => ?_
    exact ⟨hreg, hlast, fun a hn => hregs a (not_or.mp hn).1, honly⟩
  · refine Completes.of_run (fun d => d.cmdWrite q (spanWord n.toNat 1) v) rfl hw ⟨rfl, rfl, rfl⟩
      ⟨?_, Device.settle_last _, fun a hn => ?_, OnlyRegs.settle rfl⟩
    · exact (Device.settle_reg _ _).trans ((Tab.get_set_other _ _ hne).trans (Tab.get_set_same _ _ _))
    · obtain ⟨hspan, hstat⟩ := not_or.mp hn
      exact (Device.settle_reg _ _).trans ((Tab.get_set_other _ _ hstat).trans (Tab.get_set_other _ _ hspan))

/-- The control store is written by loads alone (R136). -/
theorem ctrlStoreWrite_refused {w : BitVec 14} {v : Word} (hwait : q = .host → s.dev.hostWaits = false) :
    Completes (.ctrlStoreWrite q w v) s (fun e => e.last = ⟨0, true⟩ ∧ e.regs = s.dev.regs ∧ OnlyRegs s.dev e) := by
  have hlt := w.isLt
  have hdirect : DirectWrite s.dev.fresh q (0x700000 + 4 * w.toNat) := .of_unmirrored (by simp [mirrored]; omega) hwait
  have htarget : s.dev.fresh.targetWrite (reqNo q) (0x700000 + 4 * w.toNat) v.toNat = ⟨s.dev.fresh, true, false⟩ := by
    unfold Device.targetWrite
    rw [if_pos (by simp [isWindow]; omega), Device.windowWrite_ctrlStore (by omega) (by omega), ite_self]
  have hw := hdirect.cmdWrite v (by omega) (by omega)
  rw [htarget] at hw
  exact Completes.of_turnedDown (fun d => d.cmdWrite q (0x700000 + 4 * w.toNat) v) rfl hw

theorem taskRamWrite_stored {t : BitVec 12} {w : BitVec 4} {v : Word} (hreach : s.dev.reachable (reqNo q) none = true)
    (hwait : q = .host → s.dev.hostWaits = false) (hidle : s.dev.taskState t.toNat = 0) (hue : s.dev.winUE (tdAddr t.toNat (4 * w.toNat)) = false) :
    Completes (.taskRamWrite q t w ⟨v, .good⟩) s (fun e => e.last = ⟨0, false⟩ ∧
      e.reg (tdAddr t.toNat (4 * w.toNat)) =
        Word.merge (BitVec.ofNat 32 (taskMask (4 * w.toNat))) v (s.dev.reg (tdAddr t.toNat (4 * w.toNat))) ∧
      RegsBut (· = tdAddr t.toNat (4 * w.toNat)) s.dev e ∧ OnlyRegs s.dev e) := by
  have ha : tdAddr t.toNat (4 * w.toNat) = 0x740000 + 64 * t.toNat + 4 * w.toNat := rfl
  have hecc : s.dev.fresh.winEcc (reqNo q) (tdAddr t.toNat (4 * w.toNat)) .good = s.dev.fresh := by
    unfold Device.winEcc
    rw [if_neg (by omega : ¬ tdAddr t.toNat (4 * w.toNat) < 0x400000), if_pos (by omega : 0x740000 ≤ tdAddr t.toNat (4 * w.toNat))]
    exact ite_self _
  have hdirect : DirectWrite s.dev.fresh q (tdAddr t.toNat (4 * w.toNat)) := .of_unmirrored (by simp [mirrored]; omega) hwait
  have hw := hdirect.window hreach v (by omega) (by simp [isWindow]; omega)
  rw [Device.windowWrite_task (d := s.dev.fresh) _ v t.isLt w.isLt hidle hue] at hw
  refine (Completes.of_stored (fun d => (if d.taskState t.toNat = 0 then d.winEcc (reqNo q) (tdAddr t.toNat (4 * w.toNat)) .good else d).cmdWrite q
    (tdAddr t.toNat (4 * w.toNat)) v) rfl ?_).mono fun e ⟨hreg, hlast, hregs, honly⟩ => ⟨hlast, hreg, hregs, honly⟩
  rw [if_pos (show s.dev.fresh.taskState t.toNat = 0 from hidle), hecc]
  exact hw

/-- Settles O8: a window word is written past the rules of the twin pair and of its window, and of the control store no write comes through. -/
theorem windowWrites : Obligations.WindowWrites := by
  unfold Obligations.WindowWrites
  exact ⟨fun _ _ _ _ _ _ h hue => tsmemWrite_stored h hue, fun _ _ _ _ _ _ h => tsmemWrite_bad h,
    fun _ _ _ _ h hue hactive hready => spanDescWrite_stored h hue hactive hready, fun _ _ _ _ hwait => ctrlStoreWrite_refused hwait,
    fun _ _ _ _ _ hreach hwait hidle hue => taskRamWrite_stored hreach hwait hidle hue⟩

end Sys2Proof.Machine
end

section
/-! SUPPORT. What the results of cycles, and whatever else comes of time that passes, leave of the streams: their registers but for STR_SITEFAIL, and their
contexts but for what follows the cycles through the compare pipeline (R40, R51, R112). -/

namespace Sys2Proof.Machine

/-- A register that results may change: one of no stream's page, or a half of STR_SITEFAIL. -/
abbrev OffStream (a : Nat) : Prop := a < 0x40000 ∨ 0x50000 ≤ a ∨ a % 0x1000 = 0x80 ∨ a % 0x1000 = 0x84

/-- The context of a stream apart from its compare pipeline and the MATCH and segment start that results decide. -/
def StrCtx.besideResults (c : StrCtx) : StrCtx := { c with flights := [], mtch := none, segNext := false }

/-- `e` comes after `d` with the streams where they were, but for results of cycles that have become known; no MATCH has begun. -/
structure StreamsKept (d e : Device) : Prop where
  regs : ∀ a, ¬ OffStream a → e.reg a = d.reg a
  ctx : ∀ s, (e.strOf s).besideResults = (d.strOf s).besideResults
  noMatch : ∀ s, (d.strOf s).mtch = none → (e.strOf s).mtch = none

theorem OffStream.high {a : Nat} (h : 0x50000 ≤ a) : OffStream a := .inr (.inl h)
theorem OffStream.cap {i o : Nat} : OffStream (Page.CAP i + o) := .high (by unfold Page.CAP; omega)
theorem OffStream.capTab {i o o' : Nat} : OffStream (Page.CAP i + o + o') := .high (by unfold Page.CAP; omega)
theorem OffStream.trg {i o : Nat} : OffStream (Page.TRG i + o) := .high (by unfold Page.TRG; omega)
theorem OffStream.ivm {i o : Nat} : OffStream (Page.IVM i + o) := .high (by unfold Page.IVM; omega)
theorem OffStream.task {i o : Nat} : OffStream (tdAddr i o) := .high (by unfold tdAddr; omega)
theorem OffStream.siteFailLo {i : Nat} : OffStream (Reg.STR_SITEFAIL_LO i) := .inr (.inr (.inl (by unfold Reg.STR_SITEFAIL_LO Page.STR; omega)))
theorem OffStream.siteFailHi {i : Nat} : OffStream (Reg.STR_SITEFAIL_HI i) := .inr (.inr (.inr (by unfold Reg.STR_SITEFAIL_HI Page.STR; omega)))

namespace StreamsKept

variable {d e x : Device}

/-! ## The frame itself -/

theorem refl (d : Device) : StreamsKept d d := ⟨fun _ _ => rfl, fun _ => rfl, fun _ h => h⟩

theorem trans (h : StreamsKept d e) (hx : StreamsKept e x) : StreamsKept d x where
  regs a ha := (hx.regs a ha).trans (h.regs a ha)
  ctx s := (hx.ctx s).trans (h.ctx s)
  noMatch s hs := hx.noMatch s (h.noMatch s hs)

/-- Operations that change neither a register nor a stream. -/
theorem other (h : StreamsKept d e) (hregs : x.regs = e.regs) (hstr : x.str = e.str) : StreamsKept d x := by
  have hctx (s : Nat) : x.strOf s = e.strOf s := congrArg (Tab.get _ · s) hstr
  exact h.trans ⟨fun a _ => Device.reg_congr hregs a, fun s => by rw [hctx], fun s hs => by rwa [hctx]⟩

theorem ite {c : Prop} [Decidable c] {y : Device} (hx : StreamsKept d x) (hy : StreamsKept d y) : StreamsKept d (if c then x else y) := by
  split
  · exact hx
  · exact hy

theorem ite_fst {α : Type} {c : Prop} [Decidable c] {p q : Device × α} (hp : StreamsKept d p.1) (hq : StreamsKept d q.1) :
    StreamsKept d (if c then p else q).1 := by
  split
  · exact hp
  · exact hq

theorem ite_snd {α : Type} {c : Prop} [Decidable c] {p q : α × Device} (hp : StreamsKept d p.2) (hq : StreamsKept d q.2) :
    StreamsKept d (if c then p else q).2 := by
  split
  · exact hp
  · exact hq

/-- An operation that is done under a condition. -/
theorem when {c : Prop} [Decidable c] (h : StreamsKept d e) (hx : StreamsKept d e → StreamsKept d x) : StreamsKept d (if c then x else e) := ite (hx h) h

/-- An operation that a condition passes over. -/
theorem skip {c : Prop} [Decidable c] (h : StreamsKept d e) (hx : StreamsKept d e → StreamsKept d x) : StreamsKept d (if c then e else x) := ite h (hx h)

/-- One of two operations. -/
theorem branch {c : Prop} [Decidable c] {y : Device} (h : StreamsKept d e) (hx : StreamsKept d e → StreamsKept d x)
    (hy : StreamsKept d e → StreamsKept d y) : StreamsKept d (if c then x else y) := ite (hx h) (hy h)

theorem foldl {α : Type} {f : Device → α → Device} {l : List α} (h : StreamsKept d e) (hf : ∀ {x c}, StreamsKept d x → StreamsKept d (f x c)) :
    StreamsKept d (l.foldl f e) := foldl_keep (StreamsKept d) f (fun _ _ hx => hf hx) l e h

/-- A loop that gathers something beside the device. -/
theorem foldl_fst {α β : Type} {f : Device × β → α → Device × β} {l : List α} {b : Device × β} (h : StreamsKept d b.1)
    (hf : ∀ {x c}, StreamsKept d x.1 → StreamsKept d (f x c).1) : StreamsKept d (l.foldl f b).1 :=
  foldl_keep (fun b => StreamsKept d b.1) f (fun _ _ hx => hf hx) l b h

theorem forN {n : Nat} {f : Device → Nat → Device} (h : StreamsKept d e) (hf : ∀ {x i}, StreamsKept d x → StreamsKept d (f x i)) :
    StreamsKept d (e.forN n f) := h.foldl hf

/-! ## Registers and contexts -/

theorem setReg {a : Nat} {v : Word} (h : StreamsKept d e) (ha : OffStream a) : StreamsKept d (e.setReg a v) :=
  h.trans ⟨fun _ hb => Tab.get_set_other _ _ fun heq => hb (heq ▸ ha), fun _ => rfl, fun _ hs => hs⟩

theorem setRegN {a v : Nat} (h : StreamsKept d e) (ha : OffStream a) : StreamsKept d (e.setRegN a v) := h.setReg ha
theorem setReg64 {lo hi v : Nat} (h : StreamsKept d e) (hlo : OffStream lo) (hhi : OffStream hi) : StreamsKept d (e.setReg64 lo hi v) :=
  (h.setReg hlo).setReg hhi
theorem setFld {a lo n v : Nat} (h : StreamsKept d e) (ha : OffStream a) : StreamsKept d (e.setFld a lo n v) := h.setReg ha
theorem addSat {a lo n k : Nat} (h : StreamsKept d e) (ha : OffStream a) : StreamsKept d (e.addSat a lo n k) := h.setReg ha
theorem setBit {a i : Nat} {b : Bool} (h : StreamsKept d e) (ha : OffStream a) : StreamsKept d (e.setBit a i b) := h.setReg ha
theorem event {p b : Nat} (h : StreamsKept d e) (hp : OffStream (Reg.PG_EVT_RAW p)) : StreamsKept d (e.event p b) := h.setReg hp

/-- A stream whose compare pipeline moves on. -/
theorem modStr {s : Nat} {f : StrCtx → StrCtx} (h : StreamsKept d e) (hf : ∀ c, (f c).besideResults = c.besideResults)
    (hm : (e.strOf s).mtch = none → (f (e.strOf s)).mtch = none) : StreamsKept d (e.modStr s f) := by
  refine h.trans ⟨fun _ _ => rfl, fun j => ?_, fun j hj => ?_⟩
  · rw [Device.modStr, Device.strOf_setStr]
    split
    · next heq => rw [heq, hf]
    · rfl
  · rw [Device.modStr, Device.strOf_setStr]
    split
    · next heq => exact hm (heq ▸ hj)
    · exact hj

theorem modCap {p : Nat} {f : CapCtx → CapCtx} (h : StreamsKept d e) : StreamsKept d (e.modCap p f) := h.other rfl rfl
theorem setTrg {p : Nat} {c : TrgCtx} (h : StreamsKept d e) : StreamsKept d (e.setTrg p c) := h.other rfl rfl
theorem modIvm {i : Nat} {f : IvmCtx → IvmCtx} (h : StreamsKept d e) : StreamsKept d (e.modIvm i f) := h.other rfl rfl
theorem modCal {f : CalCtx → CalCtx} (h : StreamsKept d e) : StreamsKept d (e.modCal f) := h.other rfl rfl
theorem modDisp {f : DispCtx → DispCtx} (h : StreamsKept d e) : StreamsKept d (e.modDisp f) := h.other rfl rfl
theorem modCore {k : Nat} {f : CoreCtx → CoreCtx} (h : StreamsKept d e) : StreamsKept d (e.modCore k f) := h.modDisp
theorem modFlow {k : Nat} {f : FlowCtx → FlowCtx} (h : StreamsKept d e) : StreamsKept d (e.modFlow k f) := h.modDisp
theorem hook {k v : Nat} (h : StreamsKept d e) : StreamsKept d (e.hook k v) := h.other rfl rfl
theorem draw (h : StreamsKept d e) : StreamsKept d e.draw.2 := h.other rfl rfl
theorem meterQueue {q : List (Nat × Nat × Bool)} (h : StreamsKept d e) : StreamsKept d { e with ivmq := q } := h.other rfl rfl

theorem recordAt {t ty sev src code p0 p1 p2 : Nat} (h : StreamsKept d e) : StreamsKept d (e.recordAt t ty sev src code p0 p1 p2) := by
  unfold Device.recordAt
  refine (h.setFld (by decide)).branch (·.other rfl rfl) fun h => ?_
  exact event (other (h.addSat (by decide)) rfl rfl) (by decide)

theorem record {ty src code p0 p1 p2 : Nat} (h : StreamsKept d e) : StreamsKept d (e.record ty src code p0 p1 p2) := h.recordAt

theorem logWith {src code bits v : Nat} (h : StreamsKept d e) : StreamsKept d (e.logWith src code bits v) := by
  unfold Device.logWith Device.logAdd
  refine h.draw.branch (·.other rfl rfl) fun h => ?_
  exact when (event (setRegN (other h rfl rfl) (by decide)) (by decide)) (·.record)

/-! ## Capture -/

theorem touchRow {a : Nat} (h : StreamsKept d e) : StreamsKept d (e.touchRow a) := h.other rfl rfl

theorem capStore {p a v : Nat} (h : StreamsKept d e) : StreamsKept d (e.capStore p a v).1 := by
  unfold Device.capStore
  split
  · exact (h.addSat .cap).event .cap
  · exact touchRow (h.other rfl rfl)

theorem charge {p sites : Nat} {up : Bool} (h : StreamsKept d e) : StreamsKept d (e.charge p sites up) := h.foldl (·.when (·.setRegN .capTab))

theorem quotaRefresh {p : Nat} (h : StreamsKept d e) : StreamsKept d (e.quotaRefresh p) := h.modCap

theorem withhold {p overs t : Nat} (h : StreamsKept d e) : StreamsKept d (e.withhold p overs t) := by
  unfold Device.withhold
  exact h.foldl (·.when fun h => (h.event .cap).recordAt.modCap)

theorem flushRec {p : Nat} (h : StreamsKept d e) : StreamsKept d (e.flushRec p) := by
  unfold Device.flushRec
  dsimp only
  split
  · refine branch (withhold h) (·.modCap) fun h => ?_
    exact branch (capStore h) (fun h => quotaRefresh (modCap (charge (h.foldl (·.charge))))) (·.modCap)
  · exact h.modCap

theorem segClose {p close t : Nat} (h : StreamsKept d e) : StreamsKept d (e.segClose p close t) := by
  have hflushed : StreamsKept d (if (e.capOf p).openRec.isSome then e.flushRec p else e) := h.when (·.flushRec)
  unfold Device.segClose
  dsimp only
  split
  · refine modCap (setBit (setBit (when (when (setFld (when (hook (event (capStore hflushed.modCap) .cap)) (·.recordAt)) .cap) (·.setBit .cap)) fun h =>
      (h.setBit .cap).event .cap) .cap) .cap)
  · exact hflushed.modCap.modCap

theorem endRec {p t : Nat} (h : StreamsKept d e) : StreamsKept d (e.endRec p t) := by
  unfold Device.endRec
  exact h.when (·.flushRec.when (·.segClose))

theorem capOff {p t : Nat} (h : StreamsKept d e) : StreamsKept d (e.capOff p t) := h.endRec.setBit .cap

theorem capOn {p : Nat} (h : StreamsKept d e) : StreamsKept d (e.capOn p) := h.when (·.setBit .cap)

theorem bmQueue {p addr bits : Nat} (h : StreamsKept d e) : StreamsKept d (e.bmQueue p addr bits) := by
  unfold Device.bmQueue
  exact h.branch (·.modCap) (·.branch (·.modCap) fun h => (h.addSat .cap).event .cap)

theorem bmCycle {s p : Nat} {v : CycView} {a : ApgOut} {outs : List (Nat × ChanRes)} (h : StreamsKept d e) : StreamsKept d (e.bmCycle s p v a outs) := by
  unfold Device.bmCycle
  exact h.skip (·.foldl (·.foldl (·.bmQueue)))

theorem countFails {p : Nat} {i : CapIn} (h : StreamsKept d e) : StreamsKept d (e.countFails p i) := by
  unfold Device.countFails
  refine h.skip fun h => skip (setReg64 (addSat (foldl (foldl h ?_) ?_) .cap) .cap .cap) fun h => (h.setReg64 .cap .cap).setRegN .cap
  · exact (·.when (·.addSat .capTab))
  · exact (·.when (·.addSat .capTab))

theorem segOpen {p : Nat} {i : CapIn} (h : StreamsKept d e) : StreamsKept d (e.segOpen p i) := by
  have hopen {f : CapCtx → CapCtx} : StreamsKept d (((((e.setBit (Reg.CAP_STATUS p) 1 true).setBit (Reg.CAP_STATUS p) 3 true).setBit (Reg.CAP_STATUS p) 4
      false).modCap p f).setFld (Reg.TRG_STATUS p) 0 4 0) := setFld (modCap (((h.setBit .cap).setBit .cap).setBit .cap)) .trg
  unfold Device.segOpen
  refine setTrg ?_
  split
  · exact hopen.meterQueue
  · exact hopen

theorem capBegin {p : Nat} {i : CapIn} (h : StreamsKept d e) : StreamsKept d (e.capBegin p i) := by
  unfold Device.capBegin
  refine modCap (countFails (when ?_ (·.branch (·.modCap) (·.segOpen))))
  exact h.when fun h => (h.when (·.segClose)).when (·.modCap)

theorem capAddBlock {p : Nat} {r : OpenRec} {g : SegCtx} {i : CapIn} (h : StreamsKept d e) : StreamsKept d (e.capAddBlock p r g i) := by
  unfold Device.capAddBlock
  extract_lets block post r' added full reached ended
  have hended : StreamsKept d ended := when h.modCap (·.endRec)
  split
  · exact hended.when (·.segClose)
  · exact hended

theorem capRecord {p : Nat} {i : CapIn} (h : StreamsKept d e) : StreamsKept d (e.capRecord p i) := by
  unfold Device.capRecord
  refine skip ?_ (·.modCap)
  split
  · refine h.branch (·.endRec.modCap) fun h => ?_
    split
    · exact h.capAddBlock
    · refine h.branch (fun h => ?_) (·.modCap)
      split
      · exact h.capAddBlock
      · exact h.modCap.segClose
  · exact h

theorem capTrigger {p : Nat} {i : CapIn} (h : StreamsKept d e) : StreamsKept d (e.capTrigger p i) := by
  unfold Device.capTrigger
  dsimp only
  split
  · exact h.skip fun h => (h.setBit .cap).modCap
  · exact h

/-! ## Triggers -/

theorem decCycle {p : Nat} {i : TrgIn} (h : StreamsKept d e) : StreamsKept d (e.decCycle p i).1 := by
  unfold Device.decCycle
  dsimp only
  split
  · exact h
  · refine when (addSat (addSat ?_ .trg) .trg) (·.event .trg)
    split
    · exact ((h.setTrg.setBit .trg).setReg64 .trg .trg).event .trg
    · exact h.setTrg.setBit .trg

theorem trgEval {p : Nat} {i : TrgIn} {t cycle : Nat} {failing : Bool} (h : StreamsKept d e) : StreamsKept d (e.trgEval p i t cycle failing).1 := by
  have hdec : StreamsKept d (if failing then (e.decCycle p i).1.setTrg p { (e.decCycle p i).1.trgOf p with segFails := ((e.decCycle p i).1.trgOf p).segFails + 1 }
      else (e.decCycle p i).1) := h.decCycle.when (·.setTrg)
  unfold Device.trgEval
  refine ite_fst hdec ?_
  exact hook (foldl (setRegN (setReg64 (meterQueue (setTrg (setFld hdec .trg))) .trg .trg) .trg) (·.when (·.event .trg)))

/-! ## Cycles whose results are known -/

theorem siteFails {s : Nat} {v : CycView} {outs : List (Nat × ChanRes)} (h : StreamsKept d e) : StreamsKept d (e.siteFails s v outs) := by
  unfold Device.siteFails
  exact h.skip (·.setReg64 .siteFailLo .siteFailHi)

theorem matchCycle {s : Nat} {v : CycView} {parts : Nat} {outs : List (Nat × ChanRes)} (h : StreamsKept d e) :
    StreamsKept d (e.matchCycle s v parts outs) := by
  unfold Device.matchCycle
  split
  · exact h
  · next m hm => exact h.skip (·.modStr (fun _ => rfl) fun hnone => absurd (hm.symm.trans hnone) nofun)

theorem pierCycle {s : Nat} {v : CycView} {a : ApgOut} {outs : List (Nat × ChanRes)} (h : StreamsKept d e) : StreamsKept d (e.pierCycle s v a outs) := by
  unfold Device.pierCycle
  dsimp only
  refine when (when (foldl (when (foldl (foldl_fst (foldl (modStr h ?_ ?_) (·.capBegin)) ?_) (·.skip (·.setTrg))) (·.foldl (·.capTrigger)))
    (·.capRecord.bmCycle)) (·.foldl (·.capOff))) (·.modStr ?_ ?_)
  · exact fun _ => rfl
  · exact id
  · exact (·.trgEval)
  · exact fun _ => rfl
  · exact id

theorem settlePipe {s t : Nat} {i : Pipe} (h : StreamsKept d e) : StreamsKept d (e.settlePipe s t i) := by
  cases i with
  | cycle f => exact h.siteFails.matchCycle.pierCycle
  | capOn => exact h.foldl (·.capOn)
  | capOff => exact h.foldl (·.capOff)
  | rearmed p => exact h.setBit .cap

theorem settleItems {s t : Nat} {now : Option Nat} {is : List Pipe} (h : StreamsKept d e) : StreamsKept d (e.settleItems s now t is) := by
  induction is generalizing e t with
  | nil => exact h.modStr (fun _ => rfl) id
  | cons i is ih =>
    unfold Device.settleItems
    split
    · exact h.branch (ih ·.settlePipe) (·.modStr (fun _ => rfl) id)
    · exact ih h.settlePipe

theorem settleDue {s now : Nat} (h : StreamsKept d e) : StreamsKept d (e.settleDue s now) := h.skip (·.settleItems)

theorem settlePlay (h : StreamsKept d e) : StreamsKept d e.settlePlay := h.skip (·.forN (·.settleDue))

theorem burstSync (h : StreamsKept d e) : StreamsKept d e.burstSync := by
  unfold Device.burstSync Device.burstFlush
  exact h.skip fun h => foldl h.modCal (·.recordAt)

/-! ## Meters -/

theorem setIvmState {i v : Nat} (h : StreamsKept d e) : StreamsKept d (e.setIvmState i v) := h.setFld .ivm

theorem ivmPush {i v flags : Nat} (h : StreamsKept d e) : StreamsKept d (e.ivmPush i v flags) := by
  unfold Device.ivmPush Device.setIvmFifo
  exact h.branch (·.modIvm.setFld .ivm) fun h => (h.addSat .ivm).event .ivm

theorem ivmSend {i t : Nat} (h : StreamsKept d e) : StreamsKept d (e.ivmSend i t) := by
  unfold Device.ivmSend Device.setIvmRes
  exact h.skip (·.foldl fun h => ((h.ivmPush.setReg64 .ivm .ivm).setRegN .ivm).modIvm)

theorem ivmSendAll (h : StreamsKept d e) : StreamsKept d e.ivmSendAll := h.skip (·.forN (·.when (·.ivmSend)))

theorem ivmSync {i : Nat} (h : StreamsKept d e) : StreamsKept d (e.ivmSync i) := by
  unfold Device.ivmSync
  exact ((h.when (·.setIvmState)).skip (·.addSat .ivm)).modIvm

theorem ivmEvent {i src : Nat} {rise : Bool} {ball : Nat} {past : Bool} {code : Nat} (h : StreamsKept d e) :
    StreamsKept d (e.ivmEvent i src rise ball past code) := by
  unfold Device.ivmEvent
  exact h.skip fun h => h.modIvm.skip fun h => ivmSync (modIvm (ite_snd h.draw h))

theorem ivmDeliver (h : StreamsKept d e) : StreamsKept d e.ivmDeliver := by
  unfold Device.ivmDeliver Device.ivmExact
  exact foldl (other h rfl rfl) (·.forN (·.ivmEvent))

/-! ## Tasks whose descriptor cannot be read -/

theorem setTaskState {i v : Nat} (h : StreamsKept d e) : StreamsKept d (e.setTaskState i v) := h.setFld .task

theorem depZero {i : Nat} (h : StreamsKept d e) : StreamsKept d (e.depZero i) := by
  unfold Device.depZero Device.makeReady
  exact h.branch (fun h => (h.when (·.setFld .task |>.modFlow)).setTaskState.modDisp) (·.setTaskState.modDisp)

theorem enterWaiting {i : Nat} (h : StreamsKept d e) : StreamsKept d (e.enterWaiting i) := by
  unfold Device.enterWaiting
  exact ((h.setTaskState.setFld .task).setFld .task).when (·.depZero)

theorem taskDec {i : Nat} (h : StreamsKept d e) : StreamsKept d (e.taskDec i) := by
  unfold Device.taskDec
  exact h.branch (fun h => (h.setFld .task).when (·.depZero)) (·.branch (·.setFld .task) fun h => (h.addSat (by decide)).event (by decide))

theorem releaseOne {t : HeldTask} (h : StreamsKept d e) : StreamsKept d (e.releaseOne t) := by
  unfold Device.releaseOne
  exact branch (when (foldl h (·.skip (·.branch (·.modDisp) (·.taskDec)))) (·.record)) (·.enterWaiting) (·.setTaskState)

theorem releaseFlow {f n : Nat} (h : StreamsKept d e) : StreamsKept d (Device.releaseFlow f n e) := by
  induction n generalizing e with
  | zero => exact h
  | succ n ih =>
    unfold Device.releaseFlow
    dsimp only
    split
    · exact ih h.modFlow
    · split
      · exact h.branch (·.modDisp) fun h => ih h.modDisp.modFlow.releaseOne
      · exact h

theorem cancelAs {i status : Nat} (h : StreamsKept d e) : StreamsKept d (e.cancelAs i status) := by
  unfold Device.cancelAs
  refine when (forN (modDisp ?_) (·.modCore)) (·.modFlow.releaseFlow)
  exact ((h.record.event (by decide)).setTaskState).setFld .task

theorem descSettle {n : Nat} (h : StreamsKept d e) : StreamsKept d (Device.descSettle n e) := by
  induction n generalizing e with
  | zero => exact h
  | succ n ih =>
    unfold Device.descSettle Device.descUE
    split
    · exact h
    · exact ih (h.modDisp.logWith.cancelAs.event (by decide))

/-! ## What follows a command -/

theorem caughtUp {d₀ : Device} (h : StreamsKept d e) : StreamsKept d (d₀.caughtUp e) := by
  unfold Device.caughtUp
  exact skip (when (skip (when (when h (·.settlePlay)) (·.burstSync)) (·.ivmDeliver)) (·.ivmSendAll)) (·.descSettle)

theorem settle (h : StreamsKept d e) : StreamsKept d e.settle := by
  obtain ⟨c, hc⟩ := e.settle_eq
  rw [hc]
  exact h.other rfl rfl

end StreamsKept
end Sys2Proof.Machine
end

section
/-! SUPPORT. Time that moves on, and devices in which nothing waits for it. -/

namespace Sys2Proof

/-- A value that a table holds is its default or listed. -/
theorem Tab.get_default_or_mem {α : Type} {dflt : Nat → α} (t : Tab α) (k : Nat) : Tab.get dflt t k = dflt k ∨ (k, Tab.get dflt t k) ∈ t := by
  induction t with
  | nil => exact .inl rfl
  | cons e t ih =>
    obtain ⟨j, v⟩ := e
    unfold Tab.get
    split
    · next heq => exact .inr (heq ▸ .head _)
    · exact ih.imp_right (.tail _)

/-- What a table lists after a change was listed before or is the new value. -/
theorem Tab.mem_set {α : Type} [DecidableEq α] {dflt : Nat → α} {t : Tab α} {k : Nat} {v : α} {e : Nat × α} (h : e ∈ Tab.set dflt t k v) :
    e = (k, v) ∨ e ∈ t := by
  unfold Tab.set at h
  split at h
  · exact .inr (Tab.mem_erase.mp h).1
  · exact Tab.mem_put h

theorem Word.join_lt (lo hi : Word) : Word.join lo hi < 2 ^ 64 := by
  have := lo.isLt
  have := hi.isLt
  unfold Word.join
  omega

end Sys2Proof

namespace Sys2Proof.Machine

variable {d e x : Device} {s : State}

theorem Device.reg64_setReg64 (d : Device) {lo hi : Nat} (h : lo ≠ hi) (n : Nat) : (d.setReg64 lo hi n).reg64 lo hi = n % 2 ^ 64 := by
  simp only [Device.setReg64, Device.reg64, Device.setRegN_eq, Device.reg_setReg, if_pos, if_neg h, Word.join, BitVec.toNat_ofNat]
  omega

theorem RegsBut.setReg64 (d : Device) (lo hi n : Nat) : RegsBut (fun a => a = lo ∨ a = hi) d (d.setReg64 lo hi n) := fun a ha => by
  obtain ⟨hlo, hhi⟩ := not_or.mp ha
  exact (RegsBut.setReg _ hi _ a hhi).trans (RegsBut.setReg d lo _ a hlo)

theorem Device.reg64_congr (h : e.regs = d.regs) (lo hi : Nat) : e.reg64 lo hi = d.reg64 lo hi :=
  congrArg₂ Word.join (Device.reg_congr h lo) (Device.reg_congr h hi)

theorem Device.strState_congr (h : e.regs = d.regs) (i : Nat) : e.strState i = d.strState i :=
  congrArg (Word.get · 0 4) (Device.reg_congr h _)

theorem Device.regs_modStr (d : Device) (i : Nat) (f : StrCtx → StrCtx) : (d.modStr i f).regs = d.regs := rfl

theorem RegsBut.of_regs {S : Nat → Prop} (h : RegsBut S d e) (hx : x.regs = e.regs) : RegsBut S d x := fun a ha =>
  (Device.reg_congr hx a).trans (h a ha)

theorem RegsBut.from_regs {S : Nat → Prop} (h : RegsBut S d e) (hx : d.regs = x.regs) : RegsBut S x e := fun a ha =>
  (h a ha).trans (Device.reg_congr hx a)

theorem Device.strState_setStrState (d : Device) (s : Nat) {v : Nat} (hv : v < 16) : (d.setStrState s v).strState s = v := by
  unfold Device.setStrState Device.strState
  rw [Device.setFld_eq, Device.fld_eq, Device.reg_setReg_same, Word.get_put_same _ _ (by decide), Nat.mod_eq_of_lt (b := 2 ^ 4) hv]

/-! ## Time -/

/-- Time that moves on changes TTIME alone (R310). -/
theorem Device.reach_eq (d : Device) (t : Nat) : ∃ u, d.reach t = { d with ttime := u } := by
  unfold Device.reach
  split
  · exact ⟨_, rfl⟩
  · exact ⟨d.ttime, rfl⟩

@[simp] theorem Device.strOf_reach (d : Device) (t s : Nat) : (d.reach t).strOf s = d.strOf s := by
  obtain ⟨u, hu⟩ := d.reach_eq t
  rw [hu]
  rfl

@[simp] theorem Device.regs_reach (d : Device) (t : Nat) : (d.reach t).regs = d.regs := by
  obtain ⟨u, hu⟩ := d.reach_eq t
  rw [hu]

theorem StreamsKept.reach (d : Device) (t : Nat) : StreamsKept d (d.reach t) := by
  obtain ⟨u, hu⟩ := d.reach_eq t
  rw [hu]
  exact (StreamsKept.refl d).other rfl rfl

/-! ## What a stream keeps -/

/-- A register of a stream's page, by its offset, that results of cycles leave as it was. -/
theorem StreamsKept.reg_of_page (h : StreamsKept d e) {i o : Nat} (hi : i < 16) (ho : o < 0x1000) (hlo : o ≠ 0x80) (hhi : o ≠ 0x84) :
    e.reg (Page.STR i + o) = d.reg (Page.STR i + o) := by
  refine h.regs _ ?_
  unfold OffStream Page.STR
  omega

theorem StreamsKept.strState (h : StreamsKept d e) {i : Nat} (hi : i < 16) : e.strState i = d.strState i :=
  congrArg (Word.get · 0 4) (h.reg_of_page hi (o := 0x44) (by decide) (by decide) (by decide))

theorem StreamsKept.site (h : StreamsKept d e) {i : Nat} (hi : i < 16) :
    e.reg64 (Reg.STR_SITE_LO i) (Reg.STR_SITE_HI i) = d.reg64 (Reg.STR_SITE_LO i) (Reg.STR_SITE_HI i) :=
  congrArg₂ Word.join (h.reg_of_page hi (o := 0x78) (by decide) (by decide) (by decide)) (h.reg_of_page hi (o := 0x7C) (by decide) (by decide) (by decide))

theorem StreamsKept.cycles (h : StreamsKept d e) {i : Nat} (hi : i < 16) :
    e.reg64 (Reg.STR_CYCLES_LO i) (Reg.STR_CYCLES_HI i) = d.reg64 (Reg.STR_CYCLES_LO i) (Reg.STR_CYCLES_HI i) :=
  congrArg₂ Word.join (h.reg_of_page hi (o := 0x90) (by decide) (by decide) (by decide)) (h.reg_of_page hi (o := 0x94) (by decide) (by decide) (by decide))

/-- A field of a stream's context that results of cycles leave as it was. -/
theorem StreamsKept.field {α : Type} (h : StreamsKept d e) (i : Nat) (f : StrCtx → α) (hf : ∀ c, f c.besideResults = f c) : f (e.strOf i) = f (d.strOf i) := by
  rw [← hf, h.ctx, hf]

/-! ## Quiet devices -/

theorem Device.quiet_iff : d.quiet = true ↔
    (∀ c ∈ d.str, c.2.flights = []) ∧ d.cal.ends = [] ∧ ∀ i < 32, ¬ (d.ivmMode i = 1 ∧ d.ivmState i = 3) := by
  simp [Device.quiet, and_assoc, ← imp_iff_not_or]

/-- No cycle of a quiet device is in a compare pipeline. -/
theorem Device.quiet_flights (h : d.quiet = true) (i : Nat) : (d.strOf i).flights = [] := by
  rcases Tab.get_default_or_mem (dflt := fun _ => StrCtx.reset) d.str i with hdef | hmem
  · exact congrArg StrCtx.flights hdef
  · exact (Device.quiet_iff.mp h).1 _ hmem

theorem Device.settleDue_quiet (h : d.quiet = true) (i t : Nat) : d.settleDue i t = d := if_pos (d.quiet_flights h i)

/-- `e` comes after `d`, a quiet device, and brings nothing for time to settle; vector memory is as it was. -/
structure Hushed (d e : Device) : Prop where
  quiet : e.quiet = true
  meters : e.ivmq = d.ivmq
  descriptors : e.disp.bad = d.disp.bad
  mem : e.mem = d.mem

namespace Hushed

theorem refl (h : d.quiet = true) : Hushed d d := ⟨h, rfl, rfl, rfl⟩

/-- Operations that touch no register of a meter and put no cycle into a pipeline. -/
theorem other (h : Hushed d e) (hregs : ∀ a, 0x80000 ≤ a → x.reg a = e.reg a) (hstr : ∀ c ∈ x.str, c ∈ e.str ∨ c.2.flights = [])
    (hrest : (x.cal.ends, x.ivmq, x.disp.bad, x.mem) = (e.cal.ends, e.ivmq, e.disp.bad, e.mem)) : Hushed d x := by
  simp only [Prod.mk.injEq] at hrest
  obtain ⟨hends, hmeters, hbad, hmem⟩ := hrest
  obtain ⟨hpipe, hcal, hivm⟩ := Device.quiet_iff.mp h.quiet
  refine ⟨Device.quiet_iff.mpr ⟨fun c hc => (hstr c hc).elim (hpipe c) id, hends.trans hcal, fun i hi => ?_⟩, hmeters.trans h.meters,
    hbad.trans h.descriptors, hmem.trans h.mem⟩
  have hmode : x.ivmMode i = e.ivmMode i := congrArg (Word.get · 0 2) (hregs _ (by unfold Reg.IVM_CTRL Page.IVM; omega))
  have hstate : x.ivmState i = e.ivmState i := congrArg (Word.get · 0 3) (hregs _ (by unfold Reg.IVM_STATUS Page.IVM; omega))
  rw [hmode, hstate]
  exact hivm i hi

theorem setReg {a : Nat} {v : Word} (h : Hushed d e) (ha : a < 0x80000) : Hushed d (e.setReg a v) :=
  h.other (fun b hb => Tab.get_set_other _ _ (by omega)) (fun _ hc => .inl hc) rfl

theorem setRegN {a v : Nat} (h : Hushed d e) (ha : a < 0x80000) : Hushed d (e.setRegN a v) := h.setReg ha
theorem setReg64 {lo hi v : Nat} (h : Hushed d e) (hlo : lo < 0x80000) (hhi : hi < 0x80000) : Hushed d (e.setReg64 lo hi v) := (h.setReg hlo).setReg hhi
theorem setFld {a lo n v : Nat} (h : Hushed d e) (ha : a < 0x80000) : Hushed d (e.setFld a lo n v) := h.setReg ha
theorem event {p b : Nat} (h : Hushed d e) (hp : Reg.PG_EVT_RAW p < 0x80000) : Hushed d (e.event p b) := h.setReg hp
theorem hook {k v : Nat} (h : Hushed d e) : Hushed d (e.hook k v) := h.other (fun _ _ => rfl) (fun _ hc => .inl hc) rfl

theorem modStr {i : Nat} {f : StrCtx → StrCtx} (h : Hushed d e) (hf : ∀ c, (f c).flights = c.flights) : Hushed d (e.modStr i f) := by
  refine h.other (fun _ _ => rfl) (fun c hc => ?_) rfl
  rcases Tab.mem_set (dflt := fun _ => StrCtx.reset) hc with rfl | hold
  · exact .inr ((hf _).trans (e.quiet_flights h.quiet i))
  · exact .inl hold

theorem reach (h : Hushed d e) (t : Nat) : Hushed d (e.reach t) := by
  obtain ⟨u, hu⟩ := e.reach_eq t
  rw [hu]
  exact h.other (fun _ _ => rfl) (fun _ hc => .inl hc) rfl

theorem caughtUp (h : Hushed d e) : d.caughtUp e = e := Device.caughtUp_quiet h.quiet h.meters h.descriptors

end Hushed

/-! ## Commands -/

/-- What a command of the player does to its stream stands through whatever time that passes brings. -/
theorem Completes.of_streamsKept {k : Instr} {P : Device → Prop} (f : Device → Device) (hx : exec k s = s.run f) (hf : f s.dev.fresh = x)
    (hP : ∀ e, StreamsKept x e → P e) : Completes k s P := by
  refine Completes.of_caughtUp f hx ?_
  rw [hf]
  exact hP _ (StreamsKept.refl x).caughtUp.settle

/-- A command of the player: what it does to its stream stands through whatever time that passes brings, and is all it does in a quiet device. -/
theorem Completes.of_played {k : Instr} {P Q : Device → Prop} (f : Device → Device) (hx : exec k s = s.run f) (hf : f s.dev.fresh = x)
    (hP : ∀ e, StreamsKept x e → P e) (hhush : s.dev.quiet = true → Hushed s.dev x) (hQ : s.dev.quiet = true → Q x.settle) :
    Completes k s (fun e => P e ∧ (s.dev.quiet = true → Q e)) := by
  refine Completes.of_caughtUp f hx ?_
  rw [hf]
  refine ⟨hP _ (StreamsKept.refl x).caughtUp.settle, fun hq => ?_⟩
  rw [(hhush hq).caughtUp]
  exact hQ hq

/-- A command that reads nothing of what it sends finds the device as the command before it left it. -/
theorem Hushed.fresh (h : s.dev.quiet = true) : Hushed s.dev s.dev.fresh :=
  (Hushed.refl h).other (fun _ _ => rfl) (fun _ hc => .inl hc) rfl

end Sys2Proof.Machine
end

section
/-! SUPPORT. Gaps that end, actions at a boundary, and bitmap updates (R105, R108, R111, R182). -/

namespace Sys2Proof.Machine

variable {d e x y : Device} {s : State} {i : Nat}

/-! ## The end of a gap (R111) -/

/-- A stream's context after its gap has ended at `t`: the lattice goes on from there, and starts there where no cycle came before. -/
def StrCtx.resumed (c : StrCtx) (t : Nat) : StrCtx :=
  { c with gap := .none, sInt := t, sFrac := 0, t0 := if c.first then t else c.t0, lastEnd := if c.first then t else c.lastEnd }

/-- The first step of `Device.leaveGap`. -/
def Device.gapClosed (d : Device) (i t : Nat) : Device := (d.reach t).modStr i (fun c => { c with gap := .none, sInt := t, sFrac := 0 })

/-- The second step of `Device.leaveGap`: STATE GAP ends. -/
def Device.gapState (d : Device) (i t : Nat) : Device :=
  if (d.gapClosed i t).strState i = 4 then (d.gapClosed i t).setStrState i 3 else d.gapClosed i t

theorem Device.leaveGap_eq (d : Device) (i t : Nat) : d.leaveGap i t =
    if ((d.gapState i t).strOf i).first then (d.gapState i t).modStr i (fun c => { c with t0 := t, lastEnd := t }) else d.gapState i t := rfl

theorem Device.strOf_gapState (d : Device) (i t : Nat) : (d.gapState i t).strOf i = { d.strOf i with gap := .none, sInt := t, sFrac := 0 } := by
  have hclosed : (d.gapClosed i t).strOf i = { d.strOf i with gap := .none, sInt := t, sFrac := 0 } := by
    rw [Device.gapClosed, Device.strOf_modStr, Device.strOf_reach]
  unfold Device.gapState
  split
  · exact hclosed
  · exact hclosed

theorem Device.strOf_leaveGap (d : Device) (i t : Nat) : (d.leaveGap i t).strOf i = (d.strOf i).resumed t := by
  rw [Device.leaveGap_eq, Device.strOf_gapState]
  split
  · next hfirst => rw [Device.strOf_modStr, Device.strOf_gapState, StrCtx.resumed, if_pos hfirst, if_pos hfirst]
  · next hfirst => rw [Device.strOf_gapState, StrCtx.resumed, if_neg hfirst, if_neg hfirst]

theorem Device.regs_leaveGap (d : Device) (i t : Nat) : (d.leaveGap i t).regs = (d.gapState i t).regs := by
  rw [Device.leaveGap_eq]
  split
  · rw [Device.regs_modStr]
  · rfl

theorem Device.regs_gapClosed (d : Device) (i t : Nat) : (d.gapClosed i t).regs = d.regs := d.regs_reach t

/-- A gap that ends changes no register but STR_STATUS. -/
theorem RegsBut.leaveGap (d : Device) (i t : Nat) : RegsBut (· = Reg.STR_STATUS i) d (d.leaveGap i t) := fun a ha => by
  have hclosed : (d.gapClosed i t).reg a = d.reg a := Device.reg_congr (d.regs_gapClosed i t) a
  rw [Device.reg_congr (d.regs_leaveGap i t), Device.gapState]
  split
  · exact (RegsBut.setReg _ _ _ a ha).trans hclosed
  · exact hclosed

/-- STATE returns to RUNNING (R90). -/
theorem Device.strState_leaveGap (t : Nat) (h : d.strState i = 4) : (d.leaveGap i t).strState i = 3 := by
  have hclosed : (d.gapClosed i t).strState i = 4 := (Device.strState_congr (d.regs_gapClosed i t) i).trans h
  rw [Device.strState_congr (d.regs_leaveGap i t), Device.gapState, if_pos hclosed, Device.strState_setStrState _ _ (by decide)]

theorem Hushed.leaveGap (h : Hushed d e) (hi : i < 16) (t : Nat) : Hushed d (e.leaveGap i t) := by
  have hclosed : Hushed d (e.gapClosed i t) := (h.reach t).modStr fun _ => rfl
  have hstate : Hushed d (e.gapState i t) := by
    unfold Device.gapState
    split
    · exact hclosed.setFld (by unfold Reg.STR_STATUS Page.STR; omega)
    · exact hclosed
  rw [Device.leaveGap_eq]
  split
  · exact hstate.modStr fun _ => rfl
  · exact hstate

/-- Nothing acts at the end of a gap when no action leads the queue. -/
theorem Device.leadActs_of_none (h : headActs (d.strOf i).queue = false) : d.leadActs i = d := by
  unfold Device.leadActs
  cases hq : (d.strOf i).queue with
  | nil => rfl
  | cons item items =>
    cases item with
    | act b a =>
      rw [hq] at h
      cases h
    | play => rfl
    | matchPlay => rfl

theorem Device.gapEnd_of_till {t : Nat} (h : (d.strOf i).gap = .till t) : d.gapEnd i = (d.leaveGap i t).leadActs i := by
  unfold Device.gapEnd
  dsimp only
  rw [h]

/-- A primed stream leaves its gap at the instant planned, where that has not passed (R113). -/
theorem Device.gapEnd_of_primed {t : Nat} {post : List GapAdj} (h : (d.strOf i).gap = .primed t post) (hprimed : d.isPrimed i = true)
    (hplanned : d.ttime ≤ d.planned i) : d.gapEnd i = (d.leaveGap i (d.planned i)).leadActs i := by
  unfold Device.gapEnd
  dsimp only
  rw [h]
  dsimp only
  rw [if_pos hprimed, if_pos hplanned]

/-- A gap ends at `t` ahead of a request. -/
theorem gapEnd_leaves {k : Instr} {t : Nat} (hi : i < 16) (hx : exec k s = s.run (·.gapEnd i)) (hstate : s.dev.strState i = 4)
    (hacts : headActs (s.dev.strOf i).queue = false) (hend : s.dev.fresh.gapEnd i = (s.dev.fresh.leaveGap i t).leadActs i) :
    Completes k s (fun e => (e.strState i = 3 ∧ (e.strOf i).gap = .none ∧ (e.strOf i).sInt = t ∧ (e.strOf i).sFrac = 0 ∧
      (e.strOf i).queue = (s.dev.strOf i).queue) ∧ (s.dev.quiet = true → RegsBut (· = Reg.STR_STATUS i) s.dev e ∧ MemSame s.dev e)) := by
  have hctx : (s.dev.fresh.leaveGap i t).strOf i = (s.dev.strOf i).resumed t := Device.strOf_leaveGap ..
  have hdone : s.dev.fresh.gapEnd i = s.dev.fresh.leaveGap i t := hend.trans (Device.leadActs_of_none (by rw [hctx]; exact hacts))
  have hhush (hq : s.dev.quiet = true) : Hushed s.dev (s.dev.fresh.leaveGap i t) := (Hushed.fresh hq).leaveGap hi t
  refine Completes.of_played (·.gapEnd i) hx hdone ?_ hhush ?_
  · intro e he
    have hkept {α : Type} (f : StrCtx → α) (hf : ∀ c, f c.besideResults = f c) : f (e.strOf i) = f ((s.dev.strOf i).resumed t) :=
      (he.field i f hf).trans (congrArg f hctx)
    exact ⟨(he.strState hi).trans (Device.strState_leaveGap t hstate), hkept StrCtx.gap fun _ => rfl, hkept StrCtx.sInt fun _ => rfl,
      hkept StrCtx.sFrac fun _ => rfl, hkept StrCtx.queue fun _ => rfl⟩
  · intro hq
    exact ⟨RegsBut.settle (RegsBut.leaveGap s.dev.fresh i t), MemSame.settle (hhush hq).mem⟩

/-! ## The results that a gap has waited for (R110) -/

/-- The device in which a gap that waits for results ends at `t`. -/
def Device.drained (d : Device) (i t : Nat) : Device := (d.reach t).settleDue i t

theorem StreamsKept.drained (d : Device) (i t : Nat) : StreamsKept d (d.drained i t) := (StreamsKept.reach d t).settleDue

theorem Hushed.drained (h : Hushed d e) (i t : Nat) : Hushed d (e.drained i t) := by
  rw [Device.drained, Device.settleDue_quiet (h.reach t).quiet]
  exact h.reach t

theorem Device.regs_drained_quiet (h : Hushed d e) (i t : Nat) : (e.drained i t).regs = e.regs := by
  rw [Device.drained, Device.settleDue_quiet (h.reach t).quiet, Device.regs_reach]

theorem Device.strOf_drained_quiet (h : Hushed d e) (i t j : Nat) : (e.drained i t).strOf j = e.strOf j := by
  rw [Device.drained, Device.settleDue_quiet (h.reach t).quiet, Device.strOf_reach]

theorem Device.regs_engOn (d : Device) (i : Nat) : (d.engOn i).regs = d.regs := by
  rw [Device.engOn, Device.setEng, Device.regs_modStr]

theorem Hushed.engOn (h : Hushed d e) (i : Nat) : Hushed d (e.engOn i) := by
  unfold Device.engOn Device.setEng
  exact h.modStr fun _ => rfl

theorem Device.gapEnd_of_drain {t : Nat} (h : (d.strOf i).gap = .drain t) : d.gapEnd i = ((d.drained i t).leaveGap i t).engOn i := by
  unfold Device.gapEnd
  dsimp only
  rw [h]
  rfl

/-- A drain ends, and the micro-engine goes on (R110). -/
theorem gapEnd_drain {k : Instr} {t : Nat} (hi : i < 16) (hx : exec k s = s.run (·.gapEnd i)) (hstate : s.dev.strState i = 4)
    (hgap : (s.dev.strOf i).gap = .drain t) :
    Completes k s (fun e => (e.strState i = 3 ∧ (e.strOf i).gap = .none ∧ (e.strOf i).sInt = t ∧ (e.strOf i).sFrac = 0 ∧
      (e.strOf i).eng = (s.dev.strOf i).goOn) ∧ (s.dev.quiet = true → RegsBut (· = Reg.STR_STATUS i) s.dev e ∧ MemSame s.dev e)) := by
  have hdrained := StreamsKept.drained s.dev.fresh i t
  have hdone : s.dev.fresh.gapEnd i = ((s.dev.fresh.drained i t).leaveGap i t).engOn i := Device.gapEnd_of_drain hgap
  have hon : (((s.dev.fresh.drained i t).strOf i).resumed t).goOn = (s.dev.strOf i).goOn := hdrained.field i StrCtx.goOn fun _ => rfl
  have hctx : (((s.dev.fresh.drained i t).leaveGap i t).engOn i).strOf i =
      { ((s.dev.fresh.drained i t).strOf i).resumed t with eng := (s.dev.strOf i).goOn } := by
    rw [Device.engOn, Device.setEng, Device.strOf_modStr, Device.strOf_leaveGap, hon]
  have hhush (hq : s.dev.quiet = true) : Hushed s.dev (((s.dev.fresh.drained i t).leaveGap i t).engOn i) :=
    (((Hushed.fresh hq).drained i t).leaveGap hi t).engOn i
  refine Completes.of_played (·.gapEnd i) hx hdone ?_ hhush ?_
  · intro e he
    have hrun : (((s.dev.fresh.drained i t).leaveGap i t).engOn i).strState i = 3 :=
      (Device.strState_congr (Device.regs_engOn _ i) i).trans (Device.strState_leaveGap t ((hdrained.strState hi).trans hstate))
    have hkept {α : Type} (f : StrCtx → α) (hf : ∀ c, f c.besideResults = f c) := (he.field i f hf).trans (congrArg f hctx)
    exact ⟨(he.strState hi).trans hrun, hkept StrCtx.gap fun _ => rfl, hkept StrCtx.sInt fun _ => rfl, hkept StrCtx.sFrac fun _ => rfl,
      hkept StrCtx.eng fun _ => rfl⟩
  · intro hq
    have hregs : RegsBut (· = Reg.STR_STATUS i) s.dev (((s.dev.fresh.drained i t).leaveGap i t).engOn i) :=
      ((RegsBut.leaveGap (s.dev.fresh.drained i t) i t).of_regs (Device.regs_engOn _ i)).from_regs (Device.regs_drained_quiet (Hushed.fresh hq) i t)
    exact ⟨hregs.settle, MemSame.settle (hhush hq).mem⟩

/-- The site mask in play loses the sites that have failed (R108). -/
def Device.sitesDropped (d : Device) (i : Nat) : Device :=
  d.setReg64 (Reg.STR_SITE_LO i) (Reg.STR_SITE_HI i)
    (d.reg64 (Reg.STR_SITE_LO i) (Reg.STR_SITE_HI i) - (d.reg64 (Reg.STR_SITE_LO i) (Reg.STR_SITE_HI i) &&& d.siteFail i))

theorem Device.site_sitesDropped (d : Device) (i : Nat) : (d.sitesDropped i).reg64 (Reg.STR_SITE_LO i) (Reg.STR_SITE_HI i) =
    d.reg64 (Reg.STR_SITE_LO i) (Reg.STR_SITE_HI i) - (d.reg64 (Reg.STR_SITE_LO i) (Reg.STR_SITE_HI i) &&& d.siteFail i) := by
  have hlt : d.reg64 (Reg.STR_SITE_LO i) (Reg.STR_SITE_HI i) < 2 ^ 64 := Word.join_lt _ _
  rw [Device.sitesDropped, Device.reg64_setReg64 _ (by unfold Reg.STR_SITE_LO Reg.STR_SITE_HI; omega), Nat.mod_eq_of_lt (by omega)]

/-- A site mask lies apart from the register that a gap's end changes. -/
theorem Device.site_leaveGap (d : Device) (i t : Nat) :
    (d.leaveGap i t).reg64 (Reg.STR_SITE_LO i) (Reg.STR_SITE_HI i) = d.reg64 (Reg.STR_SITE_LO i) (Reg.STR_SITE_HI i) :=
  congrArg₂ Word.join (RegsBut.leaveGap d i t _ (by unfold Reg.STR_SITE_LO Reg.STR_STATUS; omega))
    (RegsBut.leaveGap d i t _ (by unfold Reg.STR_SITE_HI Reg.STR_STATUS; omega))

theorem Hushed.sitesDropped (h : Hushed d e) (hi : i < 16) : Hushed d (e.sitesDropped i) :=
  h.setReg64 (by unfold Reg.STR_SITE_LO Page.STR; omega) (by unfold Reg.STR_SITE_HI Page.STR; omega)

/-- The mask in program order loses the sites of `f` (R108). -/
def Device.maskLess (d : Device) (i f : Nat) : Device := d.modStr i (fun c => { c with mask := c.mask - (c.mask &&& f) })

theorem Hushed.maskLess (h : Hushed d e) (i f : Nat) : Hushed d (e.maskLess i f) := h.modStr fun _ => rfl

theorem Device.regs_maskLess (d : Device) (i f : Nat) : (d.maskLess i f).regs = d.regs := Device.regs_modStr ..

/-- The device in which the gap of a SITEDROP has ended at `t`, `d` holding the results it waited for. -/
def Device.dropDone (d : Device) (i t : Nat) : Device := (((d.sitesDropped i).leaveGap i t).engOn i).maskLess i (d.siteFail i)

theorem Device.strOf_dropDone (d : Device) (i t : Nat) : (d.dropDone i t).strOf i =
    { (d.strOf i).resumed t with eng := (d.strOf i).goOn, mask := (d.strOf i).mask - ((d.strOf i).mask &&& d.siteFail i) } := by
  have hctx : ((d.sitesDropped i).leaveGap i t).strOf i = (d.strOf i).resumed t := Device.strOf_leaveGap ..
  have hon : (((d.sitesDropped i).leaveGap i t).engOn i).strOf i = { (d.strOf i).resumed t with eng := (d.strOf i).goOn } := by
    rw [Device.engOn, Device.setEng, Device.strOf_modStr, hctx]
    rfl
  rw [Device.dropDone, Device.maskLess, Device.strOf_modStr, hon]
  rfl

theorem Device.site_dropDone (d : Device) (i t : Nat) : (d.dropDone i t).reg64 (Reg.STR_SITE_LO i) (Reg.STR_SITE_HI i) =
    d.reg64 (Reg.STR_SITE_LO i) (Reg.STR_SITE_HI i) - (d.reg64 (Reg.STR_SITE_LO i) (Reg.STR_SITE_HI i) &&& d.siteFail i) := by
  have hregs : (d.dropDone i t).regs = ((d.sitesDropped i).leaveGap i t).regs := by
    rw [Device.dropDone, Device.regs_maskLess, Device.regs_engOn]
  rw [Device.reg64_congr hregs, Device.site_leaveGap, d.site_sitesDropped]

theorem Device.gapEnd_of_drop {t : Nat} (h : (d.strOf i).gap = .drop t) : d.gapEnd i = (d.drained i t).dropDone i t := by
  unfold Device.gapEnd
  dsimp only
  rw [h]
  rfl

/-- SITEDROP ends its gap: failed sites leave both masks (R108). -/
theorem gapEnd_drop {k : Instr} {t m f : Nat} (hi : i < 16) (hx : exec k s = s.run (·.gapEnd i)) (hgap : (s.dev.strOf i).gap = .drop t)
    (hm : m = (s.dev.fresh.drained i t).reg64 (Reg.STR_SITE_LO i) (Reg.STR_SITE_HI i)) (hf : f = (s.dev.fresh.drained i t).siteFail i) :
    Completes k s (fun e => (e.reg64 (Reg.STR_SITE_LO i) (Reg.STR_SITE_HI i) = m - (m &&& f) ∧
      (e.strOf i).mask = (s.dev.strOf i).mask - ((s.dev.strOf i).mask &&& f) ∧ (e.strOf i).gap = .none ∧ (e.strOf i).sInt = t) ∧
      (s.dev.quiet = true → MemSame s.dev e)) := by
  subst hm hf
  have hdone : s.dev.fresh.gapEnd i = (s.dev.fresh.drained i t).dropDone i t := Device.gapEnd_of_drop hgap
  have hhush (hq : s.dev.quiet = true) : Hushed s.dev ((s.dev.fresh.drained i t).dropDone i t) :=
    (((((Hushed.fresh hq).drained i t).sitesDropped hi).leaveGap hi t).engOn i).maskLess i _
  refine Completes.of_played (·.gapEnd i) hx hdone ?_ hhush fun hq => MemSame.settle (hhush hq).mem
  intro e he
  have hmask : ((s.dev.fresh.drained i t).strOf i).mask = (s.dev.strOf i).mask :=
    (StreamsKept.drained s.dev.fresh i t).field i StrCtx.mask fun _ => rfl
  have hkept {α : Type} (f : StrCtx → α) (hf : ∀ c, f c.besideResults = f c) :=
    (he.field i f hf).trans (congrArg f (Device.strOf_dropDone (s.dev.fresh.drained i t) i t))
  refine ⟨(he.site hi).trans (Device.site_dropDone ..), (hkept StrCtx.mask fun _ => rfl).trans ?_, hkept StrCtx.gap fun _ => rfl, hkept StrCtx.sInt fun _ => rfl⟩
  exact congrArg (fun n => n - (n &&& (s.dev.fresh.drained i t).siteFail i)) hmask

/-! ## Actions at a boundary (R105) -/

/-- Play stands at a boundary with one action queued and nothing else to do there. -/
structure LoneAction (d : Device) (i : Nat) (b : Bnd) (a : Nat) : Prop where
  plays : d.playing i = true
  noGap : (d.strOf i).gap = .none
  noSpan : (d.strOf i).pos = none
  noJump : (d.strOf i).jumpReq = none
  noStop : (d.strOf i).stop = 0
  stepped : (d.strOf i).apgDue = false
  queued : (d.strOf i).queue = [.act b a]

/-- The action has left the queue. -/
def Device.unqueued (d : Device) (i : Nat) : Device := d.modStr i (fun c => { c with queue := [] })

theorem LoneAction.runActs {b : Bnd} {a : Nat} (h : LoneAction d i b a) : d.runActs i 1 = (d.unqueued i).bndAct i b a := by
  have hplays : d.halted i = false := by
    have hplays := h.plays
    simp only [Device.playing, Bool.or_eq_true, decide_eq_true_eq] at hplays
    simp only [Device.halted, Bool.or_eq_false_iff, decide_eq_false_iff_not]
    omega
  unfold Device.runActs
  rw [hplays, h.queued]
  rfl

theorem LoneAction.boundaryActs {b : Bnd} {a : Nat} (h : LoneAction d i b a) : d.boundaryActs i = (d.unqueued i).bndAct i b a := by
  have hsettled : d.apgSettle i = d := if_neg (by rw [h.stepped]; decide)
  unfold Device.boundaryActs
  rw [hsettled, h.queued]
  exact h.runActs

/-- What cycles before the boundary have yielded changes nothing of that. -/
theorem LoneAction.kept {b : Bnd} {a : Nat} (h : LoneAction d i b a) (hi : i < 16) (hk : StreamsKept d e) : LoneAction e i b a where
  plays := by
    have := h.plays
    rwa [Device.playing, hk.strState hi]
  noGap := (hk.field i StrCtx.gap fun _ => rfl).trans h.noGap
  noSpan := (hk.field i StrCtx.pos fun _ => rfl).trans h.noSpan
  noJump := (hk.field i StrCtx.jumpReq fun _ => rfl).trans h.noJump
  noStop := (hk.field i StrCtx.stop fun _ => rfl).trans h.noStop
  stepped := (hk.field i StrCtx.apgDue fun _ => rfl).trans h.stepped
  queued := (hk.field i StrCtx.queue fun _ => rfl).trans h.queued

/-- No jump is requested, so none is taken in a gap. -/
theorem Device.gapJump_of_none (h : (d.strOf i).jumpReq = none) : d.gapJump i = d := by
  unfold Device.gapJump
  rw [h]

/-- The two devices differ at most in how the table of the stream contexts lists that of stream `i`. -/
def SameStreams (i : Nat) (d e : Device) : Prop := e = d ∨ e = d.modStr i id

namespace SameStreams

theorem strOf (h : SameStreams i d e) (j : Nat) : e.strOf j = d.strOf j := by
  rcases h with rfl | rfl
  · rfl
  · rw [Device.modStr, Device.strOf_setStr]
    split
    · next heq => rw [heq, id]
    · rfl

theorem regs (h : SameStreams i d e) : e.regs = d.regs := by
  rcases h with rfl | rfl
  · rfl
  · exact Device.regs_modStr ..

theorem hooks (h : SameStreams i d e) : e.hooks = d.hooks := by
  rcases h with rfl | rfl
  · rfl
  · rfl

theorem kept (h : SameStreams i d e) : StreamsKept d e := by
  rcases h with rfl | rfl
  · exact .refl _
  · exact (StreamsKept.refl d).modStr (fun _ => rfl) id

theorem hushed (h : SameStreams i d e) (hd : Hushed x d) : Hushed x e := by
  rcases h with rfl | rfl
  · exact hd
  · exact hd.modStr fun _ => rfl

end SameStreams

/-- An APG register that reads as it did is not listed by `Device.apgKeep` (R157). -/
theorem Device.apgKeep_same {old : Device} (hregs : ∀ k < 62, d.reg (Reg.APG_CTRL i + 4 * k) = old.reg (Reg.APG_CTRL i + 4 * k))
    (hseen : (d.strOf i).apgSeen = (old.strOf i).apgSeen) : SameStreams i d (d.apgKeep old i) := by
  unfold Device.apgKeep
  split
  · exact .inl rfl
  · have hnew (p : Nat → Bool) : ((List.range 62).map (fun k => Reg.APG_CTRL i + 4 * k)).filter (fun a => decide (d.reg a ≠ old.reg a) && p a) = [] := by
      refine List.filter_eq_nil_iff.mpr fun a ha => ?_
      obtain ⟨k, hk, rfl⟩ := List.mem_map.mp ha
      simp [hregs k (List.mem_range.mp hk)]
    dsimp only
    rw [hnew, List.map_nil, List.append_nil, ← hseen]
    exact .inr rfl

/-- The boundary of a lone action, which changes no APG register and asks for no jump (R105). -/
theorem LoneAction.spanBoundary {b : Bnd} {a : Nat} (h : LoneAction d i b a) (hi : i < 16)
    (hx : x = ((d.drained i (d.strOf i).sInt).unqueued i).bndAct i b a) (hctx : x.strOf i = ((d.drained i (d.strOf i).sInt).unqueued i).strOf i)
    (hregs : ∀ k < 62, x.reg (Reg.APG_CTRL i + 4 * k) = (d.drained i (d.strOf i).sInt).reg (Reg.APG_CTRL i + 4 * k)) :
    SameStreams i x (d.spanBoundary i) := by
  have hdrained : LoneAction (d.drained i (d.strOf i).sInt) i b a := h.kept hi (StreamsKept.drained d i _)
  have hstream : x.strOf i = { (d.drained i (d.strOf i).sInt).strOf i with queue := [] } := hctx.trans (Device.strOf_modStr ..)
  have hkeep : SameStreams i x (x.apgKeep (d.drained i (d.strOf i).sInt) i) := Device.apgKeep_same hregs (by rw [hstream])
  have hjump : ((x.apgKeep (d.drained i (d.strOf i).sInt) i).strOf i).jumpReq = none := by
    rw [hkeep.strOf, hstream]
    exact hdrained.noJump
  have hnone : (d.strOf i).jumpsHere = false := by
    unfold StrCtx.jumpsHere
    rw [h.noJump]
    rfl
  have hdone : d.spanBoundary i = (x.apgKeep (d.drained i (d.strOf i).sInt) i).gapJump i := by
    unfold Device.spanBoundary
    rw [if_pos (by simp [h.plays, h.noGap, h.noSpan])]
    dsimp only
    rw [hnone, h.noStop, hx, ← hdrained.boundaryActs]
    rfl
  rw [hdone, Device.gapJump_of_none hjump]
  exact hkeep

end Sys2Proof.Machine
end

section
/-! SUPPORT. A SITEMSK and a SIGNAL at their boundary, and bitmap updates (R105, R108, R182). -/

namespace Sys2Proof.Machine

variable {d e x y : Device} {s : State} {i : Nat}

/-- What is read from where a number has been stored (R8). -/
theorem memGet_memPut (m : List Host.Cell) (a v n : Nat) : memGet (memPut m a v n) a n = v % 256 ^ n := by
  induction n generalizing m a v with
  | zero => rw [pow_zero, Nat.mod_one]; rfl
  | succ n ih =>
    have hbyte : (memByte (memPut (memSetByte m a (BitVec.ofNat 8 v)) (a + 1) (v / 256) n) a).toNat = v % 256 := by
      rw [memByte_memPut_outside _ (.inl a.lt_succ_self), memByte, memSetByte, Tab.get_set_same, BitVec.toNat_ofNat]
    rw [memPut, memGet, hbyte, ih, pow_succ', Nat.mod_mul]

/-- SITEMSK leaves a mask of 64 sites (R108). -/
theorem siteOp_lt {op v : Nat} (half : Bool) (m : Nat) (hop : op < 4) (hv : v < 2 ^ 32) : siteOp op half v m < 2 ^ 64 := by
  have hor {o : Nat} (ho : o < 2 ^ 32) : o ||| v < 2 ^ 32 := Nat.or_lt_two_pow ho hv
  have hand {o w : Nat} (ho : o < 2 ^ 32) : o &&& w < 2 ^ 32 := Nat.and_le_left.trans_lt ho
  have hlo : m % 2 ^ 32 < 2 ^ 32 := Nat.mod_lt _ (by decide)
  have hhi : m / 2 ^ 32 % 2 ^ 32 < 2 ^ 32 := Nat.mod_lt _ (by decide)
  have hjoin {a b : Nat} (ha : a < 2 ^ 32) (hb : b < 2 ^ 32) : a + b * 2 ^ 32 < 2 ^ 64 := by omega
  match op, half with
  | 0, false => exact hjoin hv hhi
  | 1, false => exact hjoin (hor hlo) hhi
  | 2, false => exact hjoin (hand hlo) hhi
  | _ + 3, false => exact hjoin (hand hlo) hhi
  | 0, true => exact hjoin hlo hv
  | 1, true => exact hjoin hlo (hor hhi)
  | 2, true => exact hjoin hlo (hand hhi)
  | _ + 3, true => exact hjoin hlo (hand hhi)

/-! ## A lone action in a command -/

theorem Device.strOf_unqueued (d : Device) (i : Nat) : (d.unqueued i).strOf i = { d.strOf i with queue := [] } := Device.strOf_modStr ..

/-- The device in which the action at a boundary acts. -/
def Device.atBoundary (d : Device) (i : Nat) : Device := (d.drained i (d.strOf i).sInt).unqueued i

theorem Device.strOf_atBoundary_quiet (h : Hushed d e) (i : Nat) : (e.atBoundary i).strOf i = { e.strOf i with queue := [] } := by
  rw [Device.atBoundary, Device.strOf_unqueued, Device.strOf_drained_quiet h]

theorem Device.regs_atBoundary_quiet (h : Hushed d e) (i : Nat) : (e.atBoundary i).regs = e.regs :=
  (Device.regs_modStr ..).trans (Device.regs_drained_quiet h i _)

theorem Device.hooks_atBoundary_quiet (h : Hushed d e) (i : Nat) : (e.atBoundary i).hooks = e.hooks := by
  obtain ⟨u, hu⟩ := e.reach_eq (e.strOf i).sInt
  have hdrained : (e.drained i (e.strOf i).sInt).hooks = e.hooks := by
    rw [Device.drained, Device.settleDue_quiet (h.reach _).quiet, hu]
  exact hdrained

theorem Hushed.atBoundary (h : Hushed d e) (i : Nat) : Hushed d (e.atBoundary i) := by
  unfold Device.atBoundary Device.unqueued
  exact (h.drained i _).modStr fun _ => rfl

theorem Device.site_atBoundary (d : Device) (hi : i < 16) :
    (d.atBoundary i).reg64 (Reg.STR_SITE_LO i) (Reg.STR_SITE_HI i) = d.reg64 (Reg.STR_SITE_LO i) (Reg.STR_SITE_HI i) :=
  (Device.reg64_congr (Device.regs_modStr ..) _ _).trans ((StreamsKept.drained d i _).site hi)

/-- An action that changes no context and no register from APG_CTRL on acts alone at its boundary (R105). -/
theorem LoneAction.completes {k : Instr} {b : Bnd} {a : Nat} {P Q : Device → Prop} {S : Nat → Prop} (h : LoneAction s.dev.fresh i b a) (hi : i < 16)
    (hx : exec k s = s.run (·.spanBoundary i)) (hact : x = (s.dev.fresh.atBoundary i).bndAct i b a)
    (hctx : x.strOf i = (s.dev.fresh.atBoundary i).strOf i) (hregs : RegsBut S (s.dev.fresh.atBoundary i) x) (hS : ∀ k, ¬ S (Reg.APG_CTRL i + 4 * k))
    (hhush : s.dev.quiet = true → Hushed s.dev x) (hP : ∀ e, StreamsKept x e → P e)
    (hQ : s.dev.quiet = true → ∀ z, SameStreams i x z → Q z.settle) : Completes k s (fun e => P e ∧ (s.dev.quiet = true → Q e)) := by
  have hsame : SameStreams i x (s.dev.fresh.spanBoundary i) := h.spanBoundary hi hact hctx fun k _ =>
    (hregs _ (hS k)).trans (Device.reg_congr (Device.regs_modStr ..) _)
  exact Completes.of_played (·.spanBoundary i) hx rfl (fun e he => hP e (hsame.kept.trans he)) (fun hq => hsame.hushed (hhush hq))
    fun hq => hQ hq _ hsame

/-- SITEMSK at its boundary (R108). -/
theorem spanBoundary_siteMask {k : Instr} {op v a : Nat} {half : Bool} (h : LoneAction s.dev.fresh i (.siteMask op half v) a) (hi : i < 16)
    (hop : op < 4) (hv : v < 2 ^ 32) (hx : exec k s = s.run (·.spanBoundary i)) :
    Completes k s (fun e => e.reg64 (Reg.STR_SITE_LO i) (Reg.STR_SITE_HI i) = siteOp op half v (s.dev.reg64 (Reg.STR_SITE_LO i) (Reg.STR_SITE_HI i)) ∧
      (s.dev.quiet = true → e.strOf i = { s.dev.strOf i with queue := [] } ∧
        RegsBut (fun x => x = Reg.STR_SITE_LO i ∨ x = Reg.STR_SITE_HI i) s.dev e ∧ MemSame s.dev e)) := by
  have hregs : RegsBut (fun x => x = Reg.STR_SITE_LO i ∨ x = Reg.STR_SITE_HI i) (s.dev.fresh.atBoundary i)
      ((s.dev.fresh.atBoundary i).siteMaskAct i op half v) := RegsBut.setReg64 _ _ _ _
  have hhush (hq : s.dev.quiet = true) : Hushed s.dev ((s.dev.fresh.atBoundary i).siteMaskAct i op half v) :=
    ((Hushed.fresh hq).atBoundary i).setReg64 (by unfold Reg.STR_SITE_LO Page.STR; omega) (by unfold Reg.STR_SITE_HI Page.STR; omega)
  refine h.completes hi hx (x := (s.dev.fresh.atBoundary i).siteMaskAct i op half v) rfl rfl hregs ?_ hhush (fun e he => ?_) fun hq z hz => ⟨?_, ?_, ?_⟩
  · unfold Reg.APG_CTRL Reg.STR_SITE_LO Reg.STR_SITE_HI
    omega
  · rw [he.site hi, Device.siteMaskAct, Device.reg64_setReg64 _ (by unfold Reg.STR_SITE_LO Reg.STR_SITE_HI; omega),
      Nat.mod_eq_of_lt (siteOp_lt half _ hop hv), Device.site_atBoundary _ hi]
    rfl
  · rw [Device.settle_strOf, hz.strOf]
    exact Device.strOf_atBoundary_quiet (Hushed.fresh hq) i
  · exact RegsBut.settle ((hregs.of_regs hz.regs).from_regs (Device.regs_atBoundary_quiet (Hushed.fresh hq) i))
  · exact MemSame.settle (hz.hushed (hhush hq)).mem

/-- The device after SIGNAL has acted (R109). -/
def Device.signalled (d : Device) (i code : Nat) : Device := ((d.setRegN (Reg.STR_SIGNAL i) code).event (Page.STR i) 3).hook (16 + i) code

theorem RegsBut.signalled (d : Device) (i code : Nat) :
    RegsBut (fun x => x = Reg.STR_SIGNAL i ∨ x = Reg.PG_EVT_RAW (Page.STR i)) d (d.signalled i code) := fun a ha => by
  obtain ⟨hsignal, hraw⟩ := not_or.mp ha
  exact (RegsBut.setReg _ _ _ a hraw).trans (RegsBut.setReg d _ _ a hsignal)

theorem Hushed.signalled (h : Hushed d e) (hi : i < 16) (code : Nat) : Hushed d (e.signalled i code) :=
  ((h.setRegN (by unfold Reg.STR_SIGNAL Page.STR; omega)).event (by unfold Reg.PG_EVT_RAW Page.STR; omega)).hook

theorem Device.regN_signalled (d : Device) (i : Nat) {code : Nat} (h : code < 2 ^ 16) : (d.signalled i code).regN (Reg.STR_SIGNAL i) = code := by
  have hreg : (d.signalled i code).reg (Reg.STR_SIGNAL i) = BitVec.ofNat 32 code :=
    (RegsBut.setReg _ _ _ _ (by unfold Reg.STR_SIGNAL Reg.PG_EVT_RAW; omega)).trans (Device.reg_setReg_same ..)
  rw [Device.regN_eq, hreg, BitVec.toNat_ofNat, Nat.mod_eq_of_lt (by omega)]

theorem Device.bit_signalled (d : Device) (i code : Nat) : (d.signalled i code).bit (Reg.PG_EVT_RAW (Page.STR i)) 3 = true :=
  Device.bit_event _ _ (by decide)

/-- SIGNAL at its boundary (R109). -/
theorem spanBoundary_signal {k : Instr} {code a : Nat} (h : LoneAction s.dev.fresh i (.signal code) a) (hi : i < 16) (hcode : code < 2 ^ 16)
    (hx : exec k s = s.run (·.spanBoundary i)) :
    Completes k s (fun e => (e.regN (Reg.STR_SIGNAL i) = code ∧ e.bit (Reg.PG_EVT_RAW (Page.STR i)) 3 = true) ∧
      (s.dev.quiet = true → e.strOf i = { s.dev.strOf i with queue := [] } ∧ e.hooks = s.dev.hooks ++ [(16 + i, code)] ∧ MemSame s.dev e)) := by
  have hhush (hq : s.dev.quiet = true) : Hushed s.dev ((s.dev.fresh.atBoundary i).signalled i code) := ((Hushed.fresh hq).atBoundary i).signalled hi code
  refine h.completes hi hx (x := (s.dev.fresh.atBoundary i).signalled i code) rfl rfl (RegsBut.signalled _ i code) ?_ hhush (fun e he => ⟨?_, ?_⟩)
    fun hq z hz => ⟨?_, ?_, ?_⟩
  · unfold Reg.APG_CTRL Reg.STR_SIGNAL Reg.PG_EVT_RAW
    omega
  · have hreg : e.reg (Reg.STR_SIGNAL i) = ((s.dev.fresh.atBoundary i).signalled i code).reg (Reg.STR_SIGNAL i) :=
      he.reg_of_page hi (by decide) (by decide) (by decide)
    rw [Device.regN_eq, hreg]
    exact Device.regN_signalled _ i hcode
  · have hreg : e.reg (Reg.PG_EVT_RAW (Page.STR i)) = ((s.dev.fresh.atBoundary i).signalled i code).reg (Reg.PG_EVT_RAW (Page.STR i)) :=
      he.reg_of_page hi (by decide) (by decide) (by decide)
    rw [Device.bit_eq, hreg]
    exact Device.bit_signalled ..
  · rw [Device.settle_strOf, hz.strOf]
    exact Device.strOf_atBoundary_quiet (Hushed.fresh hq) i
  · have hcall : ((s.dev.fresh.atBoundary i).signalled i code).hooks = (s.dev.fresh.atBoundary i).hooks ++ [(16 + i, code % 2 ^ 32)] := rfl
    rw [Device.settle_hooks, hz.hooks, hcall, Device.hooks_atBoundary_quiet (Hushed.fresh hq), Nat.mod_eq_of_lt (by omega)]
    rfl
  · exact MemSame.settle (hz.hushed (hhush hq)).mem

/-! ## Bitmap updates (R182) -/

/-- A unit of 32 bytes after the bits of an update are set in it. -/
def Device.bmUnit (d : Device) (p : Nat) (u : BmUpdate) (us : List BmUpdate) : Device :=
  ((d.modCap p (fun c => { c with bmq := us })).memStore u.addr 32 (d.memRead u.addr 32 ||| u.bits)).touchRow u.addr

theorem Device.bmWrite_eq {p : Nat} {u : BmUpdate} {us : List BmUpdate} (hq : (d.capOf p).bmq = u :: us) (hue : d.memUE u.addr 32 = false) :
    d.bmWrite p false = d.bmUnit p u us := by
  unfold Device.bmWrite
  rw [hq]
  exact if_neg (by rw [Bool.false_or]; exact Bool.eq_false_iff.mp hue)

theorem Device.capOf_bmUnit (d : Device) (p : Nat) (u : BmUpdate) (us : List BmUpdate) : ((d.bmUnit p u us).capOf p).bmq = us :=
  congrArg CapCtx.bmq (Tab.get_set_same ..)

theorem Device.memRead_bmUnit (d : Device) (p : Nat) (u : BmUpdate) (us : List BmUpdate) :
    (d.bmUnit p u us).memRead u.addr 32 = (d.memRead u.addr 32 ||| u.bits) % 2 ^ 256 := memGet_memPut ..

end Sys2Proof.Machine
end

section
/-! SUPPORT. What comes before a cycle: fetches, a request taken into play, and the plan of the cycle count no cycle (R75, R98, R99, R101). -/

namespace Sys2Proof.Machine

/-- A register that is no half of an STR_CYCLES. -/
abbrev OffCycles (a : Nat) : Prop := a < 0x40000 ∨ 0x50000 ≤ a ∨ (a % 0x1000 ≠ 0x90 ∧ a % 0x1000 ≠ 0x94)

/-- Between `d` and `e` no cycle has played, and no MATCH has begun. -/
structure Unplayed (d e : Device) : Prop where
  regs : ∀ a, ¬ OffCycles a → e.reg a = d.reg a
  noMatch : ∀ s, (d.strOf s).mtch = none → (e.strOf s).mtch = none

variable {d e x : Device}

theorem StreamsKept.unplayed (h : StreamsKept d e) : Unplayed d e where
  regs a ha := h.regs a (by unfold OffCycles at ha; unfold OffStream; omega)
  noMatch := h.noMatch

/-- The cycles that a stream has played (R125). -/
abbrev Device.cycles (d : Device) (s : Nat) : Nat := d.reg64 (Reg.STR_CYCLES_LO s) (Reg.STR_CYCLES_HI s)

theorem not_offCycles_lo {s : Nat} (hs : s < 16) : ¬ OffCycles (Reg.STR_CYCLES_LO s) := by
  unfold OffCycles Reg.STR_CYCLES_LO Page.STR
  omega

theorem not_offCycles_hi {s : Nat} (hs : s < 16) : ¬ OffCycles (Reg.STR_CYCLES_HI s) := by
  unfold OffCycles Reg.STR_CYCLES_HI Page.STR
  omega

theorem OffCycles.page {p o : Nat} (h : o < 0x90) (hp : p % 0x1000 = 0) : OffCycles (p + o) := by
  unfold OffCycles
  omega

theorem OffCycles.str {i o : Nat} (h : o < 0x1000) (hlo : o ≠ 0x90) (hhi : o ≠ 0x94) : OffCycles (Page.STR i + o) := by
  unfold OffCycles Page.STR
  omega

namespace Unplayed

/-! ## The frame itself -/

theorem refl (d : Device) : Unplayed d d := ⟨fun _ _ => rfl, fun _ h => h⟩

theorem trans (h : Unplayed d e) (hx : Unplayed e x) : Unplayed d x where
  regs a ha := (hx.regs a ha).trans (h.regs a ha)
  noMatch s hs := hx.noMatch s (h.noMatch s hs)

theorem cycles (h : Unplayed d e) {s : Nat} (hs : s < 16) : e.cycles s = d.cycles s :=
  congrArg₂ Word.join (h.regs _ (not_offCycles_lo hs)) (h.regs _ (not_offCycles_hi hs))

/-- Operations that change neither a register nor a stream. -/
theorem other (h : Unplayed d e) (hregs : x.regs = e.regs) (hstr : x.str = e.str) : Unplayed d x := by
  have hctx (s : Nat) : x.strOf s = e.strOf s := congrArg (Tab.get _ · s) hstr
  exact h.trans ⟨fun a _ => Device.reg_congr hregs a, fun s hs => by rwa [hctx]⟩

theorem ite {c : Prop} [Decidable c] {y : Device} (hx : Unplayed d x) (hy : Unplayed d y) : Unplayed d (if c then x else y) := by
  split
  · exact hx
  · exact hy

/-- An operation that is done under a condition. -/
theorem when {c : Prop} [Decidable c] (h : Unplayed d e) (hx : Unplayed d e → Unplayed d x) : Unplayed d (if c then x else e) := ite (hx h) h

/-- One of two operations. -/
theorem branch {c : Prop} [Decidable c] {y : Device} (h : Unplayed d e) (hx : Unplayed d e → Unplayed d x) (hy : Unplayed d e → Unplayed d y) :
    Unplayed d (if c then x else y) := ite (hx h) (hy h)

theorem foldl {α : Type} {f : Device → α → Device} {l : List α} (h : Unplayed d e) (hf : ∀ {x c}, Unplayed d x → Unplayed d (f x c)) :
    Unplayed d (l.foldl f e) := foldl_keep (Unplayed d) f (fun _ _ hx => hf hx) l e h

/-! ## Registers and contexts -/

theorem setReg {a : Nat} {v : Word} (h : Unplayed d e) (ha : OffCycles a) : Unplayed d (e.setReg a v) :=
  h.trans ⟨fun _ hb => Tab.get_set_other _ _ fun heq => hb (heq ▸ ha), fun _ hs => hs⟩

theorem setRegN {a v : Nat} (h : Unplayed d e) (ha : OffCycles a) : Unplayed d (e.setRegN a v) := h.setReg ha
theorem setReg64 {lo hi v : Nat} (h : Unplayed d e) (hlo : OffCycles lo) (hhi : OffCycles hi) : Unplayed d (e.setReg64 lo hi v) :=
  (h.setReg hlo).setReg hhi
theorem setFld {a lo n v : Nat} (h : Unplayed d e) (ha : OffCycles a) : Unplayed d (e.setFld a lo n v) := h.setReg ha
theorem addSat {a lo n k : Nat} (h : Unplayed d e) (ha : OffCycles a) : Unplayed d (e.addSat a lo n k) := h.setReg ha
theorem setBit {a i : Nat} {b : Bool} (h : Unplayed d e) (ha : OffCycles a) : Unplayed d (e.setBit a i b) := h.setReg ha
theorem event {p b : Nat} (h : Unplayed d e) (hp : OffCycles (Reg.PG_EVT_RAW p)) : Unplayed d (e.event p b) := h.setReg hp

theorem modStr {s : Nat} {f : StrCtx → StrCtx} (h : Unplayed d e) (hf : ∀ c, (f c).mtch = c.mtch) : Unplayed d (e.modStr s f) := by
  refine h.trans ⟨fun _ _ => rfl, fun j hj => ?_⟩
  rw [Device.modStr, Device.strOf_setStr]
  split
  · next heq => exact (hf _).trans (heq ▸ hj)
  · exact hj

theorem setApp {a : Nat} {v : Word} (h : Unplayed d e) : Unplayed d (e.setApp a v) := h.other rfl rfl
theorem setChan {n : Nat} {c : ChanCtx} (h : Unplayed d e) : Unplayed d (e.setChan n c) := h.other rfl rfl
theorem setWinUE {a : Nat} {b : Bool} (h : Unplayed d e) : Unplayed d (e.setWinUE a b) := h.other rfl rfl
theorem draw (h : Unplayed d e) : Unplayed d e.draw.2 := h.other rfl rfl

theorem reach (h : Unplayed d e) {t : Nat} : Unplayed d (e.reach t) := h.trans (StreamsKept.reach e t).unplayed

theorem settleDue {s t : Nat} (h : Unplayed d e) : Unplayed d (e.settleDue s t) := h.trans (StreamsKept.refl e).settleDue.unplayed

theorem record {ty src code p0 p1 p2 : Nat} (h : Unplayed d e) : Unplayed d (e.record ty src code p0 p1 p2) :=
  h.trans (StreamsKept.refl e).record.unplayed

/-! ## Fetches (R98, R99, R224) -/

theorem memUEfree {a o str : Nat} (h : Unplayed d e) : Unplayed d (e.memUEfree a o str) := by
  have hpage (o : Nat) (ho : o < 0x90) : OffCycles (Page.MCH (mchOf a) + o) := .page ho (by unfold Page.MCH; omega)
  unfold Device.memUEfree Device.memUEat
  exact record (event (setRegN (setRegN (addSat (addSat h.draw (hpage 0x4C (by decide))) (by decide)) (by decide)) (by decide)) (hpage 0x10 (by decide)))

theorem touchRows {a n : Nat} (h : Unplayed d e) : Unplayed d (e.touchRows a n) := h.foldl (·.other rfl rfl)

theorem fetchNotes {s n lo hi : Nat} (h : Unplayed d e) : Unplayed d (e.fetchNotes s n lo hi) := h.touchRows.foldl (·.memUEfree)

theorem spend {s n : Nat} (h : Unplayed d e) : Unplayed d (e.spend s n) := by
  unfold Device.spend
  exact h.modStr fun _ => rfl

theorem setWaiting {s : Nat} {f : Fetch} (h : Unplayed d e) : Unplayed d (e.setWaiting s f) := h.modStr fun _ => rfl

theorem setFetching {s : Nat} {f : Fetch} (h : Unplayed d e) : Unplayed d (e.setFetching s f) := h.modStr fun _ => rfl

theorem fetchRelease {s n : Nat} (h : Unplayed d e) : Unplayed d (e.fetchRelease s n) := h.modStr fun _ => rfl

theorem fetchReady {s n : Nat} {cache : Bool} (h : Unplayed d e) : Unplayed d (e.fetchReady s n cache) := by
  unfold Device.fetchReady
  exact fetchRelease (h.setFetching.modStr fun _ => rfl)

theorem engRoom {s : Nat} (h : Unplayed d e) : Unplayed d (e.engRoom s) := h.when (·.modStr fun _ => rfl)

theorem fetchArrive {s n : Nat} (h : Unplayed d e) : Unplayed d (e.fetchArrive s n) := by
  unfold Device.fetchArrive
  split
  · exact h.fetchNotes.spend.branch (fun h => fetchRelease (h.modStr fun _ => rfl)) (·.modStr fun _ => rfl)
  · split
    · exact h
    · split
      · exact engRoom (h.fetchNotes.spend.branch (·.fetchReady) (·.setFetching))
      · exact h

theorem noteUE {a : Nat} {found : Bool} (h : Unplayed d e) : Unplayed d (e.noteUE a found) := h.when (·.setWinUE)

/-- The load of a span into the loop cache begins (R99). -/
theorem cacheLoad {s n : Nat} (h : Unplayed d e) :
    Unplayed d (((e.setBit (Reg.STR_STATUS s) 8 true).setFld (Reg.STR_STATUS s) 16 16 n).modStr s (fun c => { c with lc := none })) :=
  ((h.setBit (.str (by decide) (by decide) (by decide))).setFld (.str (by decide) (by decide) (by decide))).modStr fun _ => rfl

theorem fetchBegin {s : Nat} {ue : Bool} (h : Unplayed d e) : Unplayed d (e.fetchBegin s ue) := by
  unfold Device.fetchBegin
  dsimp only
  split
  · exact h
  · split
    · exact h
    · have htaken : Unplayed d (e.modStr s (fun c => { c with jumpBuf := none })) := h.modStr fun _ => rfl
      refine ite ?_ (ite h (ite htaken.noteUE.setWaiting (ite htaken (ite htaken.setWaiting (ite htaken.setWaiting ?_)))))
      · split
        · exact h.setWaiting.fetchRelease
        · exact h
      · refine when (when (modStr (setWaiting htaken) ?_) (·.cacheLoad)) (·.fetchReady)
        exact fun _ => rfl

/-! ## A request taken into play (R99, R101) -/

theorem handOver {s : Nat} (h : Unplayed d e) : Unplayed d (e.handOver s) := by
  unfold Device.handOver
  split
  · exact h.when (·.fetchBegin)
  · exact h

/-! ## The plan of a cycle (R53, R75, R150) -/

theorem commitPier {p : Nat} (h : Unplayed d e) : Unplayed d (e.commitPier p) :=
  ((h.setBit (.page (by decide) (by unfold Page.PIER; omega))).setApp).setApp

theorem boundaryCommits {s : Nat} (h : Unplayed d e) : Unplayed d (e.boundaryCommits s) := by
  unfold Device.boundaryCommits
  exact h.foldl (·.when (·.commitPier))

theorem apgStep {s : Nat} (h : Unplayed d e) : Unplayed d (e.apgStep s) := by
  have hpage (o : Nat) (ho : 0x200 ≤ o ∧ o < 0x1000) : OffCycles (Page.STR s + o) := .str ho.2 (by omega) (by omega)
  unfold Device.apgStep
  refine setFld (when (setReg64 (setRegN (setRegN (setRegN h ?_) ?_) ?_) ?_ ?_) (·.setBit ?_)) ?_
  all_goals exact hpage _ (by decide)

theorem apgSettle {s : Nat} (h : Unplayed d e) : Unplayed d (e.apgSettle s) := h.when fun h => h.apgStep.modStr fun _ => rfl

theorem firstCycle {s : Nat} (h : Unplayed d e) : Unplayed d (e.firstCycle s) := by
  unfold Device.firstCycle Device.apgFill
  dsimp only
  refine modStr (modStr (foldl h ?_) ?_) ?_
  · exact (·.when (·.setChan))
  · exact fun _ => rfl
  · exact fun _ => rfl

theorem tsEcc {a : Nat} {x : Ecc} (h : Unplayed d e) : Unplayed d (e.tsEcc a x) := by
  cases x with
  | good => exact h
  | corrected => exact h.other rfl rfl
  | bad => exact h.setWinUE

theorem cyclePlan {s : Nat} {pos : PlayPos} {unfit : Bool} {samples : List Sample} {ueVec : Bool} {eccTs : List (Nat × Ecc)} (h : Unplayed d e) :
    Unplayed d (e.cyclePlan s pos unfit samples ueVec eccTs).dev := by
  unfold Device.cyclePlan
  refine foldl (modStr (when (when h.reach.settleDue.boundaryCommits.apgSettle (·.firstCycle)) (·.modStr ?_)) ?_) (·.when (·.tsEcc))
  · exact fun _ => rfl
  · exact fun _ => rfl

theorem fly {s : Nat} {v : CycView} {a : ApgOut} {outs : List (Nat × ChanPlay)} (h : Unplayed d e) : Unplayed d (e.fly s v a outs) := by
  unfold Device.fly
  exact h.modStr fun _ => rfl

end Unplayed

/-- A request that is taken into play changes no register (R101). -/
theorem Device.regs_enterPlay {s : Nat} {i : QItem} {b : SpanBuf} {cached : Bool} {pos : PlayPos} (h : e.enterPlay s i b cached = .at d pos) :
    d.regs = e.regs := by
  cases i with
  | play span a f =>
    cases h
    rfl
  | matchPlay span a f req =>
    unfold Device.enterPlay Device.matchStart at h
    dsimp only at h
    split at h
    · cases h
    · cases h
      rfl
  | act b a => cases h

theorem Device.regs_takeRequest {s : Nat} {pos : PlayPos} (h : e.takeRequest s = .at d pos) : d.regs = e.regs := by
  unfold Device.takeRequest at h
  dsimp only at h
  split at h
  · cases h
  · split at h
    · cases h
    · split at h
      · cases h
      · split at h
        · cases h
        · cases h
        · split at h <;> cases h
        · exact (Device.regs_enterPlay h).trans (Device.regs_modStr ..)
        · exact (Device.regs_enterPlay h).trans (Device.regs_modStr ..)
        · exact (Device.regs_enterPlay h).trans (Device.regs_modStr ..)

end Sys2Proof.Machine
end

section
/-! PROOF. Cycles, boundaries, gaps and the fail bitmap (R75, R105, R108, R110, R111, R182). -/

namespace Sys2Proof.Machine

variable {d e x : Device} {s : State}

/-! ## A cycle that plays (R75) -/

/-- A cycle of stream `i` outside a MATCH has played: `n` cycles are counted and the lattice stands at `t`. -/
structure Played (i n t : Nat) (d : Device) : Prop where
  cycles : d.cycles i = n
  lattice : (d.strOf i).sInt = t
  begun : (d.strOf i).first = false
  noMatch : (d.strOf i).mtch = none

theorem Played.modStr {i n t : Nat} {f : StrCtx → StrCtx} (h : Played i n t d) (hf : ∀ c, ((f c).sInt, (f c).first, (f c).mtch) = (c.sInt, c.first, c.mtch)) :
    Played i n t (d.modStr i f) := by
  obtain ⟨hcycles, hint, hfirst, hmatch⟩ := h
  have hctx := hf (d.strOf i)
  rw [hint, hfirst, hmatch] at hctx
  simp only [Prod.mk.injEq] at hctx
  obtain ⟨hint', hfirst', hmatch'⟩ := hctx
  refine ⟨(Device.reg64_congr (Device.regs_modStr ..) _ _).trans hcycles, ?_, ?_, ?_⟩
  all_goals rw [Device.strOf_modStr]
  · exact hint'
  · exact hfirst'
  · exact hmatch'

theorem Device.cycles_counted (d : Device) (i n : Nat) :
    (d.setReg64 (Reg.STR_CYCLES_LO i) (Reg.STR_CYCLES_HI i) n).cycles i = n % 2 ^ 64 :=
  Device.reg64_setReg64 _ (by unfold Reg.STR_CYCLES_LO Reg.STR_CYCLES_HI; omega) _

/-- A cycle that plays is counted and moves the lattice on by its period (R75, R125). -/
theorem Played.playCycle {i : Nat} (pos : PlayPos) (newSpan : Bool) (data : List Nat) (k : CycCfg) (outs : List (Nat × ChanOut))
    (hm : (d.strOf i).mtch = none) :
    Played i ((d.cycles i + 1) % 2 ^ 64) (((d.strOf i).sInt * 65536 + (d.strOf i).sFrac + k.per) / 65536) (d.playCycle i pos newSpan data k outs) := by
  unfold Device.playCycle
  extract_lets c cycle next tEnd mark v placed counted flown timed moved stepped
  have hplaced : Unplayed d placed := (Unplayed.refl d).foldl (·.when (·.setChan))
  have hcounted : counted.cycles i = (d.cycles i + 1) % 2 ^ 64 := Device.cycles_counted ..
  have hnone : (timed.strOf i).mtch = none := (Unplayed.refl counted).fly.noMatch i (hplaced.noMatch i hm)
  have hmoved : Played i ((d.cycles i + 1) % 2 ^ 64) tEnd moved := by
    have hregs : moved.regs = counted.regs := rfl
    refine ⟨(Device.reg64_congr hregs _ _).trans hcounted, ?_, ?_, ?_⟩
    all_goals rw [Device.strOf_modStr]
    exact hnone
  have hstepped : Played i ((d.cycles i + 1) % 2 ^ 64) tEnd stepped := by
    refine iteInduction (fun _ => ?_) fun _ => hmoved
    exact Played.modStr (Played.modStr hmoved fun _ => rfl) fun _ => rfl
  rw [hstepped.noMatch]
  refine iteInduction (fun _ => hstepped.modStr fun _ => rfl) fun _ => hstepped

/-- Where `Device.cycleStart` finds the position it plays from, the fetch having arrived in `d`. -/
def CycleFrom (d : Device) (i : Nat) (pos : PlayPos) (e : Device) : Prop :=
  ((d.strOf i).pos = some pos ∧ d.recordAbsent i = false ∧ e = d) ∨ ((d.strOf i).pos = none ∧ (d.handOver i).takeRequest i = .at e pos)

theorem CycleFrom.cycles {i : Nat} {pos : PlayPos} (h : CycleFrom d i pos e) (hi : i < 16) : e.cycles i = d.cycles i := by
  rcases h with ⟨-, -, rfl⟩ | ⟨-, htaken⟩
  · rfl
  · exact (Device.reg64_congr (Device.regs_takeRequest htaken) _ _).trans ((Unplayed.refl d).handOver.cycles hi)

/-- A stream that plays, outside a gap and with no stop at a cycle's end, plays the cycle at its position (R75, R101). -/
theorem CycleFrom.cycleStart {i n : Nat} {pos : PlayPos} {samples : List Sample} {ueVec : Bool} {eccTs : List (Nat × Ecc)}
    (h : CycleFrom (d.fetchArrive i n) i pos e) (hplay : (d.fetchArrive i n).playing i = true) (hgap : ((d.fetchArrive i n).strOf i).gap = .none)
    (hstop : ((d.fetchArrive i n).strOf i).stop ≠ 2) : d.cycleStart i samples n ueVec eccTs = e.cycleAt i pos false samples ueVec eccTs := by
  unfold Device.cycleStart
  dsimp only
  rw [if_neg (by simp [hplay, hgap]), if_neg hstop]
  rcases h with ⟨hpos, habsent, rfl⟩ | ⟨hpos, htaken⟩
  · rw [hpos]
    exact if_neg (by rw [habsent]; decide)
  · rw [hpos]
    dsimp only
    rw [htaken]

theorem Device.cycleAt_of_noFault {i : Nat} {pos : PlayPos} {unfit : Bool} {samples : List Sample} {ueVec : Bool} {eccTs : List (Nat × Ecc)} {k : CycPlan}
    (hk : k = d.cyclePlan i pos unfit samples ueVec eccTs) (h : k.fault = none) :
    d.cycleAt i pos unfit samples ueVec eccTs = k.dev.playCycle i k.pos k.newSpan k.data k.cfg k.outs := by
  subst hk
  unfold Device.cycleAt
  dsimp only
  rw [h]

/-- A cycle that plays without a fault, in a command. -/
theorem cycleStart_plays {c : Instr} {i n : Nat} {pos : PlayPos} {samples : List Sample} {ueVec : Bool} {eccTs : List (Nat × Ecc)} {k : CycPlan}
    (hi : i < 16) (hx : exec c s = s.run (·.cycleStart i samples n ueVec eccTs)) (h : CycleFrom (s.dev.fresh.fetchArrive i n) i pos d)
    (hplay : (s.dev.fresh.fetchArrive i n).playing i = true) (hgap : ((s.dev.fresh.fetchArrive i n).strOf i).gap = .none)
    (hstop : ((s.dev.fresh.fetchArrive i n).strOf i).stop ≠ 2) (hm : (d.strOf i).mtch = none)
    (hk : k = d.cyclePlan i pos false samples ueVec eccTs) (hfault : k.fault = none) :
    Completes c s (fun e => e.cycles i = (s.dev.cycles i + 1) % 2 ^ 64 ∧ (e.strOf i).sInt = (k.cfg.sInt * 65536 + k.cfg.sFrac + k.cfg.per) / 65536 ∧
      (e.strOf i).first = false) := by
  have hdone : s.dev.fresh.cycleStart i samples n ueVec eccTs = k.dev.playCycle i k.pos k.newSpan k.data k.cfg k.outs :=
    (h.cycleStart hplay hgap hstop).trans (Device.cycleAt_of_noFault hk hfault)
  have hplan : Unplayed d k.dev := hk ▸ (Unplayed.refl d).cyclePlan
  have hbefore : k.dev.cycles i = s.dev.cycles i :=
    ((hplan.cycles hi).trans (h.cycles hi)).trans ((Unplayed.refl s.dev.fresh).fetchArrive.cycles hi)
  have hint : (k.dev.strOf i).sInt = k.cfg.sInt := by rw [hk]; rfl
  have hfrac : (k.dev.strOf i).sFrac = k.cfg.sFrac := by rw [hk]; rfl
  obtain ⟨hcycles, hlattice, hbegun, -⟩ := Played.playCycle k.pos k.newSpan k.data k.cfg k.outs (hplan.noMatch i hm)
  rw [hbefore] at hcycles
  rw [hint, hfrac] at hlattice
  refine Completes.of_streamsKept (·.cycleStart i samples n ueVec eccTs) hx hdone fun e hkept => ?_
  exact ⟨(hkept.cycles hi).trans hcycles, (hkept.field i StrCtx.sInt fun _ => rfl).trans hlattice, (hkept.field i StrCtx.first fun _ => rfl).trans hbegun⟩

/-! ## A bitmap update in a command (R182) -/

theorem bitmapUpdateWrite_completes {p : Fin 16} {u : BmUpdate} {us : List BmUpdate} (hq : (s.dev.capOf p.val).bmq = u :: us)
    (hue : s.dev.memUE u.addr 32 = false) :
    Completes (.bitmapUpdateWrite p false) s (fun e => (e.capOf p.val).bmq = us ∧
      e.memRead u.addr 32 = (s.dev.memRead u.addr 32 ||| u.bits) % 2 ^ 256 ∧
      (∀ a, (a < u.addr ∨ u.addr + 32 ≤ a) → memByte e.mem a = memByte s.dev.mem a) ∧ e.regs = s.dev.regs) := by
  refine Completes.of_run (·.bmWrite p.val false) rfl (Device.bmWrite_eq (d := s.dev.fresh) hq hue) ⟨rfl, rfl, rfl⟩ ⟨?_, ?_, fun a ha => ?_, ?_⟩
  · rw [Device.settle_capOf]
    exact Device.capOf_bmUnit ..
  · rw [Device.memRead, Device.settle_mem]
    exact s.dev.fresh.memRead_bmUnit p.val u us
  · rw [Device.settle_mem]
    exact memByte_memPut_outside _ ha
  · exact Device.settle_regs _

/-! ## The obligation -/

/-- Settles O26: a cycle by what its plan leaves and what playing it does, an action and the end of a gap by the frame of what time brings to the streams. -/
theorem cyclesAndGaps : Obligations.CyclesAndGaps := by
  unfold Obligations.CyclesAndGaps
  refine ⟨?_, ?_, ?_, ?_, ?_, ?_, ?_, ?_⟩
  · rintro s i samples n ueVec eccTs c pos k d1 d rfl rfl hplay hgap hstop hfrom hm hk hfault
    exact cycleStart_plays i.isLt rfl hfrom hplay hgap hstop hm hk hfault
  · rintro s i c op a v half rfl hplay hgap hpos hjump hstop hapg hop hv hq
    exact spanBoundary_siteMask ⟨hplay, hgap, hpos, hjump, hstop, hapg, hq⟩ i.isLt hop hv rfl
  · rintro s i c a code rfl hplay hgap hpos hjump hstop hapg hcode hq
    exact (spanBoundary_signal ⟨hplay, hgap, hpos, hjump, hstop, hapg, hq⟩ i.isLt hcode rfl).mono fun _ ⟨⟨hsignal, hevent⟩, hquiet⟩ =>
      ⟨hsignal, hevent, hquiet⟩
  · rintro s i c t rfl hgap hstate hacts
    exact (gapEnd_leaves i.isLt rfl hstate hacts (Device.gapEnd_of_till hgap)).mono fun _ ⟨⟨hrun, hnone, hint, hfrac, hq⟩, hquiet⟩ =>
      ⟨hrun, hnone, hint, hfrac, hq, hquiet⟩
  · rintro s i c t post rfl hgap hstate hprimed hplanned hacts
    exact (gapEnd_leaves i.isLt rfl hstate hacts (Device.gapEnd_of_primed hgap hprimed hplanned)).mono fun _ ⟨h, _⟩ => h
  · rintro s i c t rfl hgap hstate
    exact (gapEnd_drain i.isLt rfl hstate hgap).mono fun _ ⟨⟨hrun, hnone, hint, hfrac, heng⟩, hquiet⟩ => ⟨hrun, hnone, hint, hfrac, heng, hquiet⟩
  · rintro s i c d t m f rfl hgap rfl hm hf
    exact (gapEnd_drop i.isLt rfl hgap hm hf).mono fun _ ⟨⟨hsite, hmask, hnone, hint⟩, hquiet⟩ => ⟨hsite, hmask, hnone, hint, hquiet⟩
  · exact fun s p u us hq hue => bitmapUpdateWrite_completes hq hue

end Sys2Proof.Machine
end

section
/-! PROOF. Writes of span descriptors that are READY or ACTIVE (R94, R95, R403). -/

namespace Sys2Proof.Machine

variable {d e : Device} {s : State} {q : Requester} {n : Nat} {w : BitVec 2} {v : Word}

/-- The defined bits of word `w` of a span descriptor, ACTIVE apart (R94). -/
def spanBits (w : BitVec 2) : Word := if w = 0 then 0x3FFFFFFF else if w = 1 then 0xFFFFFFFF else if w = 2 then 0x0FFFFFFF else 0xBC1FFFFF

theorem spanWord_eq (n w : Nat) : spanWord n w = 0x600000 + 16 * n + 4 * w := rfl

theorem Device.windowWrite_spanWord (r u : Nat) (hn : n < 0x10000) : d.windowWrite r (spanWord n w.toNat) u = d.spanWrite (spanWord n w.toNat) u := by
  have hw := w.isLt
  unfold Device.windowWrite
  rw [spanWord_eq, if_neg (by omega), if_neg (by omega), if_pos (by omega)]

/-- A write of a descriptor word that is held is turned down, and told to a stream that holds the span, or to S0 (R95). -/
theorem Device.spanWrite_held (u : Nat) (hn : n < 0x10000) (hue : d.winUE (spanWord n w.toNat) = false)
    (h : d.spanActive n = true ∨ (w ≠ 3 ∧ d.spanReady n = true)) :
    d.spanWrite (spanWord n w.toNat) u = ⟨d.event (Page.STR ((d.spanHolder n).getD 0)) 6, true, false⟩ := by
  have hw := w.isLt
  have hspan : spanWord n w.toNat % 0x100000 / 16 = n := by rw [spanWord_eq]; omega
  have hword : spanWord n w.toNat % 16 = 4 * w.toNat := by rw [spanWord_eq]; omega
  have h3 : w ≠ 3 → 4 * w.toNat ≠ 12 := fun hne h12 => hne (BitVec.eq_of_toNat_eq (show w.toNat = 3 by omega))
  have hheld : (d.spanActive n || (decide (4 * w.toNat ≠ 12) && d.spanReady n)) = true := by
    rcases h with hactive | ⟨hne, hready⟩
    · rw [hactive, Bool.true_or]
    · rw [hready, decide_eq_true (h3 hne), Bool.and_self, Bool.or_true]
  unfold Device.spanWrite
  simp only [hspan, hword, hue, hheld, Bool.false_eq_true, if_false, if_true]

/-- A write of a descriptor word that is not held stores its defined bits; one in the range of a hash check makes its result stale (R95, R403). -/
theorem Device.spanWrite_free (hn : n < 0x10000) (hue : d.winUE (spanWord n w.toNat) = false) (hactive : d.spanActive n = false)
    (hready : w = 3 ∨ d.spanReady n = false) :
    ∃ e, d.spanWrite (spanWord n w.toNat) v.toNat = ⟨e, false, true⟩ ∧
      (e = d.setReg (spanWord n w.toNat) (v &&& spanBits w) ∨ e = (d.setReg (spanWord n w.toNat) (v &&& spanBits w)).hashStale) := by
  have hw := w.isLt
  have hspan : spanWord n w.toNat % 0x100000 / 16 = n := by rw [spanWord_eq]; omega
  have hword : spanWord n w.toNat % 16 = 4 * w.toNat := by rw [spanWord_eq]; omega
  have hfree : (d.spanActive n || (decide (4 * w.toNat ≠ 12) && d.spanReady n)) = false := by
    rcases hready with rfl | hready
    · rw [hactive]; rfl
    · rw [hactive, hready, Bool.and_false, Bool.or_self]
  have hcases : ∀ w : BitVec 2, (4 * w.toNat = 0 ∧ spanBits w = 0x3FFFFFFF#32) ∨ (4 * w.toNat = 4 ∧ spanBits w = 0xFFFFFFFF#32) ∨
      (4 * w.toNat = 8 ∧ spanBits w = 0x0FFFFFFF#32) ∨ (4 * w.toNat = 12 ∧ spanBits w = 0xBC1FFFFF#32) := by decide
  unfold Device.spanWrite
  dsimp only
  rw [hspan, hword, if_neg (by rw [hue]; nofun), hfree, if_neg nofun]
  rcases hcases w with hw | hw | hw | hw
  all_goals
    obtain ⟨hoff, hbits⟩ := hw
    rw [hoff, hbits]
    simp only [Device.setRegN_eq, ofNat_toNat_and]
    refine ⟨_, rfl, ?_⟩
    split
    · exact .inr rfl
    · exact .inl rfl

/-- ACTIVE of a span is 1 while a stream holds it (R94). -/
theorem Device.spanActive_eq_any (d : Device) (n : Nat) : d.spanActive n = (List.range 16).any (fun i => d.holdsSpan i n) :=
  Bool.eq_iff_iff.mpr (by rw [Device.spanActive, Device.spanHolder, List.find?_isSome, List.any_eq_true])

/-- The stream that a refused write is told to: one that holds the span, or S0 (R95). -/
theorem Device.spanHolder_spec (d : Device) (n : Nat) :
    (d.spanHolder n).getD 0 < 16 ∧ (d.holdsSpan ((d.spanHolder n).getD 0) n = true ∨ (d.spanActive n = false ∧ (d.spanHolder n).getD 0 = 0)) := by
  cases h : d.spanHolder n with
  | none => exact ⟨by decide, .inr ⟨by rw [Device.spanActive, h]; rfl, rfl⟩⟩
  | some i => exact ⟨List.mem_range.mp (List.mem_of_find?_eq_some h), .inl (List.find?_some (p := fun s => d.holdsSpan s n) h)⟩

/-- The write of a span descriptor as its window performs it. -/
theorem Device.cmdWrite_span (v : Word) (hn : n < 0x10000) (h : d.admitsWindow q (spanWord n w.toNat) = true) :
    d.cmdWrite q (spanWord n w.toNat) v = (d.spanWrite (spanWord n w.toNat) v.toNat).answered := by
  have hw := w.isLt
  obtain ⟨hdirect, hreach⟩ := DirectWrite.of_admitsWindow h
  rw [hdirect.window hreach v (by rw [spanWord_eq]; omega) (Bool.or_eq_true_iff.mpr (.inl (decide_eq_true (by rw [spanWord_eq]; omega)))), Device.windowWrite_spanWord _ _ hn]

theorem spanDescWrite_held {n : BitVec 16} (h : s.dev.admitsWindow q (spanWord n.toNat w.toNat) = true) (hue : s.dev.winUE (spanWord n.toNat w.toNat) = false)
    (hheld : s.dev.spanActive n.toNat = true ∨ (w ≠ 3 ∧ s.dev.spanReady n.toNat = true)) :
    Completes (.spanDescWrite q n w v false) s (fun e => e.last = ⟨0, true⟩ ∧
      ∃ h < 16, (s.dev.holdsSpan h n.toNat = true ∨ (s.dev.spanActive n.toNat = false ∧ h = 0)) ∧ e.bit (Reg.PG_EVT_RAW (Page.STR h)) 6 = true ∧
        RegsBut (· = Reg.PG_EVT_RAW (Page.STR h)) s.dev e ∧ OnlyRegs s.dev e) := by
  have hw : s.dev.fresh.cmdWrite q (spanWord n.toNat w.toNat) v = _ :=
    (Device.cmdWrite_span (d := s.dev.fresh) v n.isLt h).trans (congrArg Wrote.answered (Device.spanWrite_held (d := s.dev.fresh) v.toNat n.isLt hue hheld))
  obtain ⟨hlt, hholds⟩ := s.dev.spanHolder_spec n.toNat
  refine Completes.of_run (fun d => d.cmdWrite q (spanWord n.toNat w.toNat) v) rfl hw ⟨rfl, rfl, rfl⟩
    ⟨Device.settle_last _, (s.dev.spanHolder n.toNat).getD 0, hlt, hholds, ?_, RegsBut.settle (RegsBut.setReg s.dev _ _), OnlyRegs.settle rfl⟩
  rw [Device.bit_eq, Device.settle_reg]
  exact Device.bit_event s.dev _ (by decide)

theorem spanDescWrite_free {n : BitVec 16} (h : s.dev.admitsWindow q (spanWord n.toNat w.toNat) = true) (hue : s.dev.winUE (spanWord n.toNat w.toNat) = false)
    (hactive : s.dev.spanActive n.toNat = false) (hready : w = 3 ∨ s.dev.spanReady n.toNat = false) :
    Completes (.spanDescWrite q n w v false) s (fun e => e.last = ⟨0, false⟩ ∧ e.reg (spanWord n.toNat w.toNat) = v &&& spanBits w ∧
      RegsBut (fun a => a = spanWord n.toNat w.toNat ∨ a = Reg.TWN_HSTAT) s.dev e ∧ OnlyRegs s.dev e) := by
  have hne : spanWord n.toNat w.toNat ≠ Reg.TWN_HSTAT := by
    unfold spanWord Reg.TWN_HSTAT Page.TWN
    omega
  obtain ⟨e, hwrite, he⟩ := Device.spanWrite_free (d := s.dev.fresh) (v := v) n.isLt hue hactive hready
  have hw : s.dev.fresh.cmdWrite q (spanWord n.toNat w.toNat) v = _ := (Device.cmdWrite_span (d := s.dev.fresh) v n.isLt h).trans (congrArg Wrote.answered hwrite)
  obtain rfl | rfl := he
  · refine (Completes.of_stored (fun d => d.cmdWrite q (spanWord n.toNat w.toNat) v) rfl hw).mono fun e ⟨hreg, hlast, hregs, honly⟩ => ?_
    exact ⟨hlast, hreg, fun a ha => hregs a (not_or.mp ha).1, honly⟩
  · refine Completes.of_run (fun d => d.cmdWrite q (spanWord n.toNat w.toNat) v) rfl hw ⟨rfl, rfl, rfl⟩
      ⟨Device.settle_last _, ?_, fun a ha => ?_, OnlyRegs.settle rfl⟩
    · exact (Device.settle_reg _ _).trans ((Tab.get_set_other _ _ hne).trans (Tab.get_set_same _ _ _))
    · obtain ⟨hspan, hstat⟩ := not_or.mp ha
      exact (Device.settle_reg _ _).trans ((Tab.get_set_other _ _ hstat).trans (Tab.get_set_other _ _ hspan))

/-- Settles O9: a descriptor word that is held is turned down with its event, any other stores its defined bits. -/
theorem spanDescriptorWrites : Obligations.SpanDescriptorWrites := by
  unfold Obligations.SpanDescriptorWrites
  rintro s q n w v _ _ _ rfl h hue rfl rfl
  rw [← Device.spanActive_eq_any]
  exact ⟨fun hheld => spanDescWrite_held h hue hheld, fun hactive hready => spanDescWrite_free h hue hactive hready⟩

end Sys2Proof.Machine
end

section
/-! SUPPORT. What a sequence instruction changes of its stream: STR_PC, a register of the stream, the engine, the queue; and the room left then (R98, R106, R107). -/

namespace Sys2Proof.Machine

variable {d e : Device} {s pc op : Nat} {S T : Nat → Prop} {c : StrCtx} {ft : Fetched} {f : Device → Nat → Nat → Device}

/-! ## Changes of one stream -/

theorem StreamTo.mono (h : StreamTo d e s pc S c) (hST : ∀ a, S a → T a) : StreamTo d e s pc T c := by
  obtain ⟨hctx, hpc, hother, hregs, hframe⟩ := h
  exact ⟨hctx, hpc, hother, fun a ha => hregs a fun hor => ha (hor.imp_right (hST a)), hframe⟩

theorem StreamTo.setPc (h : StreamTo d e s pc S c) (a : Nat) : StreamTo d (e.setPc s a) s (a % seqSize) S c := by
  obtain ⟨hctx, -, hother, hregs, hframe⟩ := h
  refine ⟨hctx, Device.strPc_setPc e s a, hother, fun b hb => ?_, ?_⟩
  · exact (RegsBut.setReg e _ _ b (not_or.mp hb).1).trans (hregs b hb)
  · exact congrArg (fun x : Device => x.setPc s a) hframe

/-- A register of the frame is set. -/
theorem StreamTo.setReg {a : Nat} (h : StreamTo d e s pc S c) (v : Word) (ha : S a) (hne : a ≠ Reg.STR_PC s) : StreamTo d (e.setReg a v) s pc S c := by
  obtain ⟨hctx, hpc, hother, hregs, hframe⟩ := h
  refine ⟨hctx, ?_, hother, fun b hb => ?_, congrArg (fun x : Device => x.setReg a v) hframe⟩
  · rw [← hpc, Device.strPc, Device.strPc, Device.fld_eq, Device.fld_eq, RegsBut.setReg e a v _ (Ne.symm hne)]
  · exact (RegsBut.setReg e a v b fun heq => hb (.inr (heq ▸ ha))).trans (hregs b hb)

theorem StreamTo.setEng (h : StreamTo d e s pc S c) (g : Eng) : StreamTo d (e.setEng s g) s pc S { c with eng := g } := h.modStr _

theorem StreamTo.enqueue (h : StreamTo d e s pc S c) (i : QItem) : StreamTo d (e.enqueue s i) s pc S { c with queue := c.queue ++ [i] } := h.modStr _

/-! ## Room in the queue and in the stream buffer (R98) -/

theorem requests_append (l m : List QItem) : requests (l ++ m) = requests l + requests m := List.countP_append

theorem requests_replicate_play (n span a : Nat) (g : Fetch) : requests (List.replicate n (.play span a g)) = n := by
  rw [requests, List.countP_replicate, if_pos rfl]

/-- Plays that wait hold no byte of the stream buffer. -/
theorem bufBytes_replicate_waiting (n span a : Nat) : ((List.replicate n (QItem.play span a .waiting)).map QItem.bufBytes).sum = 0 := by
  rw [List.map_replicate]
  exact List.sum_replicate_nat.trans (Nat.mul_zero n)

/-- What the stream buffer holds of a stream beside its queue: the span in play, and what a jump's prefetch has brought. -/
def StrCtx.inBuffer (c : StrCtx) := (c.pos, c.late, c.jump, c.jumpBuf)

/-- Items that join the queue and hold no byte take the room of requests alone. -/
theorem StreamTo.noRoom {l : List QItem} (hs : s < 16) (h : StreamTo d e s pc S c) (hS : ∀ a, S a → a < 0x600000 ∧ a ≠ Reg.STR_STATUS s)
    (hqueue : c.queue = (d.strOf s).queue ++ l) (hbytes : (l.map QItem.bufBytes).sum = 0) (hctx : c.inBuffer = (d.strOf s).inBuffer)
    (hroom : d.noRoom s = false) : e.noRoom s = decide (64 ≤ requests c.queue) := by
  obtain ⟨hstr, -, -, hregs, -⟩ := h
  simp only [StrCtx.inBuffer, Prod.mk.injEq] at hctx
  obtain ⟨hpos, hlate, hjump, hjumpBuf⟩ := hctx
  have hstat : e.reg (Reg.STR_STATUS s) = d.reg (Reg.STR_STATUS s) := hregs _ fun hor => by
    rcases hor with hpc | hmem
    · unfold Reg.STR_STATUS Reg.STR_PC at hpc
      omega
    · exact (hS _ hmem).2 rfl
  have hbytesOf : e.jumpBytes = d.jumpBytes := by
    funext n
    unfold Device.jumpBytes Device.spanSize64 Device.fld
    rw [hregs _ fun hor => ?_]
    unfold spanWord Reg.STR_PC Page.STR at hor
    rcases hor with hpc | hmem
    · omega
    · have := (hS _ hmem).1
      omega
  have hposBytes : c.posBytes = (d.strOf s).posBytes := by
    unfold StrCtx.posBytes StrCtx.lateGot
    rw [hpos, hlate]
  have hbuf : e.bufBytes s = d.bufBytes s := by
    unfold Device.bufBytes Device.bit
    dsimp only
    rw [hstr, hstat, hbytesOf, hqueue, hposBytes, hjump, hjumpBuf, List.map_append, List.sum_append, hbytes, Nat.add_zero]
  have hlow : decide (bufSize ≤ d.bufBytes s) = false := (Bool.or_eq_false_iff.mp hroom).2
  rw [Device.noRoom, hbuf, hlow, hstr, Bool.or_false]

theorem Device.requests_of_room (h : d.noRoom s = false) : requests (d.strOf s).queue < 64 := by
  have := (Bool.or_eq_false_iff.mp h).1
  simpa using this

/-- An item that joins the queue and holds no byte takes the room of one request, or of none. -/
theorem StreamTo.noRoom_enqueue {i : QItem} (hs : s < 16) (h : StreamTo d e s pc S c) (hS : ∀ a, S a → a < 0x600000 ∧ a ≠ Reg.STR_STATUS s)
    (hqueue : c.queue = (d.strOf s).queue) (hctx : c.inBuffer = (d.strOf s).inBuffer) (hbytes : i.bufBytes = 0) (hroom : d.noRoom s = false) :
    (e.enqueue s i).noRoom s = decide (64 ≤ requests c.queue + requests [i]) := by
  rw [(h.enqueue i).noRoom hs hS (l := [i]) (congrArg (· ++ [i]) hqueue) (by simpa using hbytes) hctx hroom, requests_append]

/-- A stream whose queue and buffer are as they were has the room it had. -/
theorem StreamTo.room_kept (hs : s < 16) (h : StreamTo d e s pc S c) (hS : ∀ a, S a → a < 0x600000 ∧ a ≠ Reg.STR_STATUS s)
    (hqueue : c.queue = (d.strOf s).queue) (hctx : c.inBuffer = (d.strOf s).inBuffer) (hroom : d.noRoom s = false) : e.noRoom s = false := by
  rw [h.noRoom hs hS (l := []) (by rw [hqueue, List.append_nil]) rfl hctx hroom, hqueue]
  exact decide_eq_false (Nat.not_le.mpr (Device.requests_of_room hroom))

/-! ## Commands -/

variable {x : State} {i : Fin 16} {k : Instr} {mine : Nat → Bool}

theorem Executable.room_fresh (h : x.dev.executes i.val ft op = true) : x.dev.fresh.noRoom i.val = false := (Executable.of_executes h).room

/-- A vendor instruction that leaves the queue as it was, and the engine running, leaves its registers too. -/
theorem Completes.of_flow_regs {y : Device} (hx : exec k x = x.run (fun d => d.engStep i.val ft mine f)) (h : x.dev.executes i.val ft op = true)
    (hmine : mine (x.dev.insWord i.val) = true) (hf : f (x.dev.fresh.dispatched i.val) (x.dev.insWord i.val) (x.dev.strPc i.val) = y)
    (hy : StreamTo x.dev.fresh y i.val pc S c) (hS : ∀ a, S a → a < 0x600000 ∧ a ≠ Reg.STR_STATUS i.val)
    (hctx : (c.queue, c.inBuffer) = ((x.dev.strOf i.val).queue, (x.dev.strOf i.val).inBuffer)) :
    Completes k x (fun e => StreamTo x.dev e i.val pc S c ∧ e.regs = y.regs) := by
  obtain ⟨hqueue, hbuf⟩ := Prod.mk.inj hctx
  have hexec : Executable x.dev.fresh i.val ft op := .of_executes h
  have hstep : x.dev.fresh.engStep i.val ft mine f = y :=
    (hexec.engStep i.isLt hmine).trans <| (congrArg (Device.engRoom · i.val) hf).trans <|
      Device.engRoom_of_room (.inl (hy.room_kept i.isLt hS hqueue hbuf hexec.room))
  have hto : StreamTo x.dev y i.val pc S c := hy
  exact Completes.of_run _ hx hstep hto.still ⟨hto.settle, Device.settle_regs _⟩

/-- A vendor instruction that leaves the queue as it was, and the engine running. -/
theorem Completes.of_flow {y : Device} (hx : exec k x = x.run (fun d => d.engStep i.val ft mine f)) (h : x.dev.executes i.val ft op = true)
    (hmine : mine (x.dev.insWord i.val) = true) (hf : f (x.dev.fresh.dispatched i.val) (x.dev.insWord i.val) (x.dev.strPc i.val) = y)
    (hy : StreamTo x.dev.fresh y i.val pc S c) (hS : ∀ a, S a → a < 0x600000 ∧ a ≠ Reg.STR_STATUS i.val)
    (hctx : (c.queue, c.inBuffer) = ((x.dev.strOf i.val).queue, (x.dev.strOf i.val).inBuffer)) : Completes k x (fun e => StreamTo x.dev e i.val pc S c) :=
  (Completes.of_flow_regs hx h hmine hf hy hS hctx).mono fun _ he => he.1

/-- A vendor instruction at which the engine stops. -/
theorem Completes.of_stopped {y : Device} (hx : exec k x = x.run (fun d => d.engStep i.val ft mine f)) (h : x.dev.executes i.val ft op = true)
    (hmine : mine (x.dev.insWord i.val) = true) (hf : f (x.dev.fresh.dispatched i.val) (x.dev.insWord i.val) (x.dev.strPc i.val) = y)
    (hy : StreamTo x.dev.fresh y i.val pc S c) (hstop : c.eng ≠ .running) : Completes k x (fun e => StreamTo x.dev e i.val pc S c) :=
  Completes.of_executes hx h hmine hf (.inr (by rw [hy.1]; exact hstop)) hy

theorem insField_lt (w lo n : Nat) : insField w lo n < 2 ^ n := Nat.mod_lt _ (Nat.two_pow_pos n)

/-- A target in an instruction's low 18 bits is an address of the sequence store (R97). -/
theorem insField_mod_seqSize (w : Nat) : insField w 0 18 % seqSize = insField w 0 18 := Nat.mod_eq_of_lt (insField_lt w 0 18)

/-- A register of a stream's page beside STR_STATUS is none that the room in its queue and buffer depends on. -/
theorem strReg_free {o : Nat} (hi : i.val < 16) (ho : o < 0x1000) (hstat : o ≠ 0x44) :
    ∀ a, a = Page.STR i.val + o → a < 0x600000 ∧ a ≠ Reg.STR_STATUS i.val := by
  unfold Reg.STR_STATUS Page.STR
  omega

/-- The dispatch of an instruction leaves what a stream queues and buffers, and its engine running (R128). -/
theorem Device.fetched_eq (d : Device) (s : Nat) : d.fetched s = { d.strOf s with micro := (d.fetched s).micro } := by
  unfold Device.fetched Device.irLoaded
  rfl

theorem Device.queue_fetched (d : Device) (s : Nat) : (d.fetched s).queue = (d.strOf s).queue := by rw [Device.fetched_eq]

theorem Device.inBuffer_fetched (d : Device) (s : Nat) : (d.fetched s).inBuffer = (d.strOf s).inBuffer := by
  rw [Device.fetched_eq]
  rfl

theorem Device.eng_fetched (d : Device) (s : Nat) : (d.fetched s).eng = (d.strOf s).eng := by rw [Device.fetched_eq]

theorem Device.room_fetched (d : Device) (s : Nat) :
    ((d.fetched s).queue, (d.fetched s).inBuffer) = ((d.strOf s).queue, (d.strOf s).inBuffer) := by rw [d.queue_fetched, d.inBuffer_fetched]

/-- The device as an instruction of stream `s` finds it once it is dispatched (R128). -/
theorem dispatched_fresh (x : State) (i : Fin 16) :
    StreamTo x.dev.fresh (x.dev.fresh.dispatched i.val) i.val ((x.dev.strPc i.val + 1) % seqSize) (fun _ => False) (x.dev.fetched i.val) :=
  StreamTo.dispatched x.dev.fresh i.val

end Sys2Proof.Machine
end

section
/-! PROOF. PLAY, PLAYR and MATCH (R98, R107, R112). -/

namespace Sys2Proof.Machine

variable {d e : Device} {s pc op : Nat} {S : Nat → Prop} {c : StrCtx} {ft : Fetched}

/-- A stream's context after `n` plays of a span have been asked for: as many as there is room for are queued, and the rest is owed (R98, R107). -/
def StrCtx.played (c : StrCtx) (span n a : Nat) : StrCtx :=
  { c with queue := c.queue ++ List.replicate (min n (64 - requests c.queue)) (.play span a .waiting),
           held := if 64 - requests c.queue < n then some (span, n - (64 - requests c.queue), a) else none,
           eng := if 64 - requests c.queue < n then .waitRoom else c.eng }

theorem Device.enqPlays_eq (d : Device) (s span n a : Nat) : d.enqPlays s span n a = d.modStr s (fun _ => (d.strOf s).played span n a) := by
  have hmin : min n (64 - requests (d.strOf s).queue) < n ↔ 64 - requests (d.strOf s).queue < n := by omega
  have hheld : (if min n (64 - requests (d.strOf s).queue) < n then some (span, n - min n (64 - requests (d.strOf s).queue), a) else none) =
      if 64 - requests (d.strOf s).queue < n then some (span, n - (64 - requests (d.strOf s).queue), a) else none := by
    by_cases h : 64 - requests (d.strOf s).queue < n
    · rw [if_pos (hmin.mpr h), if_pos h, Nat.min_eq_right (Nat.le_of_lt h)]
    · rw [if_neg (mt hmin.mp h), if_neg h]
  unfold Device.enqPlays Device.modStr StrCtx.played
  dsimp only
  rw [hheld]
  simp only [hmin]

theorem StreamTo.enqPlays (h : StreamTo d e s pc S c) (span n a : Nat) : StreamTo d (e.enqPlays s span n a) s pc S (c.played span n a) := by
  rw [Device.enqPlays_eq, h.1]
  exact h.modStr _

theorem requests_played (c : StrCtx) (span n a : Nat) : requests (c.played span n a).queue = requests c.queue + min n (64 - requests c.queue) := by
  rw [StrCtx.played, requests_append, requests_replicate_play]

/-- Plays that all have room, and leave some (R98). -/
theorem StrCtx.played_fits {span n a : Nat} (hrun : c.eng = .running) (hfit : requests c.queue + n < 64) :
    { c.played span n a with eng := if 64 ≤ requests c.queue + n then .waitRoom else .running } =
      { c with queue := c.queue ++ List.replicate n (.play span a .waiting), held := none } := by
  have howed : ¬ 64 - requests c.queue < n := by omega
  simp only [StrCtx.played, Nat.min_eq_left (Nat.not_lt.mp howed), if_neg (Nat.not_le.mpr hfit), if_neg howed, ← hrun]

/-- The engine after plays have been queued: it waits where the queue is full then (R98). -/
theorem StreamTo.engRoom_played {n span a : Nat} (hs : s < 16) (h : StreamTo d e s pc S (c.played span n a))
    (hS : ∀ a, S a → a < 0x600000 ∧ a ≠ Reg.STR_STATUS s) (hctx : (c.queue, c.inBuffer) = ((d.strOf s).queue, (d.strOf s).inBuffer)) (hroom : d.noRoom s = false) (hrun : c.eng = .running) :
    StreamTo d (e.engRoom s) s pc S { c.played span n a with eng := if 64 ≤ requests c.queue + n then .waitRoom else .running } := by
  obtain ⟨hqueue, hbuf⟩ := Prod.mk.inj hctx
  have hlt : requests c.queue < 64 := hqueue ▸ Device.requests_of_room hroom
  have hfull : e.noRoom s = decide (64 ≤ requests c.queue + n) := by
    rw [h.noRoom hs hS (l := List.replicate (min n (64 - requests c.queue)) (.play span a .waiting)) (by rw [← hqueue]; rfl)
      (bufBytes_replicate_waiting _ _ _) hbuf hroom, requests_played]
    exact decide_eq_decide.mpr (by omega)
  by_cases hfit : 64 ≤ requests c.queue + n
  · rw [decide_eq_true hfit] at hfull
    rw [if_pos hfit]
    by_cases howed : 64 - requests c.queue < n
    · have hwait : (c.played span n a).eng = .waitRoom := if_pos howed
      rw [Device.engRoom_of_room (.inr (by rw [h.1, hwait]; nofun)), ← hwait]
      exact h
    · have hgoes : (c.played span n a).eng = .running := (if_neg howed).trans hrun
      rw [Device.engRoom, if_pos ⟨by rw [h.1, hgoes], hfull⟩]
      exact h.setEng .waitRoom
  · have hgoes : (c.played span n a).eng = .running := (if_neg (by omega)).trans hrun
    rw [if_neg hfit, Device.engRoom_of_room (.inl (hfull.trans (decide_eq_false hfit))), ← hgoes]
    exact h

variable {x : State} {i : Fin 16} {k : Instr} {mine : Nat → Bool} {f : Device → Nat → Nat → Device}

/-- A vendor instruction that asks for `n` plays of a span (R98, R107). -/
theorem Completes.of_plays {span n : Nat} (hx : exec k x = x.run (fun d => d.engStep i.val ft mine f)) (h : x.dev.executes i.val ft op = true)
    (hmine : mine (x.dev.insWord i.val) = true)
    (hf : f (x.dev.fresh.dispatched i.val) (x.dev.insWord i.val) (x.dev.strPc i.val) = (x.dev.fresh.dispatched i.val).enqPlays i.val span n (x.dev.strPc i.val)) :
    Completes k x (fun e => StreamTo x.dev e i.val ((x.dev.strPc i.val + 1) % seqSize) (fun _ => False)
      { (x.dev.fetched i.val).played span n (x.dev.strPc i.val) with
        eng := if 64 ≤ requests (x.dev.fetched i.val).queue + n then .waitRoom else .running }) := by
  have hexec : Executable x.dev.fresh i.val ft op := .of_executes h
  refine Completes.of_stream _ hx ?_
  rw [hexec.engStep i.isLt hmine]
  have hf' : f (x.dev.fresh.dispatched i.val) (x.dev.fresh.insWord i.val) (x.dev.fresh.strPc i.val) = _ := hf
  rw [hf']
  exact ((dispatched_fresh x i).enqPlays span n _).engRoom_played i.isLt nofun (x.dev.room_fetched i.val) hexec.room
    ((x.dev.eng_fetched i.val).trans hexec.running)

/-- Instructions read the general register that the instruction names. -/
theorem dispatched_g (x : State) (i : Fin 16) (r : Nat) : (x.dev.fresh.dispatched i.val).g i.val r = x.dev.g i.val r := Device.g_dispatched ..

/-- What a MATCH timeout restores is the state the engine has now (R113). -/
theorem Device.engSave_dispatched (d : Device) (s : Nat) : (d.dispatched s).engSave s = d.engSave s := by
  have hg : (List.range 16).map (fun i => (d.dispatched s).reg (Reg.STR_G s i)) = (List.range 16).map (fun i => d.reg (Reg.STR_G s i)) :=
    List.map_congr_left fun i _ => RegsBut.dispatched d s _ (by unfold Reg.STR_G Reg.STR_PC; omega)
  unfold Device.engSave
  rw [Device.strOf_dispatched, hg]
  rfl

/-- The request that the MATCH at STR_PC queues (R112). -/
def Device.matchItem (d : Device) (s : Nat) : QItem :=
  .matchPlay (insField (d.insWord s) 0 16) (d.strPc s) .waiting
    ⟨natBit (d.insWord s) 47, natBit (d.insWord s) 46, insField (d.insWord s) 16 16, d.g s (insField (d.insWord s) 48 4) % 2 ^ 18, d.engSave s⟩

theorem Device.engMatch_dispatched (d : Device) (s : Nat) :
    (d.dispatched s).engMatch s (d.insWord s) (insField (d.insWord s) 0 16) ((d.dispatched s).g s (insField (d.insWord s) 48 4)) (d.strPc s) =
      (d.dispatched s).enqueue s (d.matchItem s) := by
  rw [Device.engMatch, Device.engSave_dispatched, Device.g_dispatched, Device.matchItem]

/-- A MATCH that does not fill the queue (R112). -/
theorem matchSpan_queues (h : x.dev.executes i.val ft 0x04 = true) (hfit : requests (x.dev.fetched i.val).queue < 63) :
    Completes (.matchSpan i ft) x (fun e => StreamTo x.dev e i.val ((x.dev.strPc i.val + 1) % seqSize) (fun _ => False)
      { x.dev.fetched i.val with queue := (x.dev.fetched i.val).queue ++ [x.dev.matchItem i.val] }) := by
  refine Completes.of_executes rfl h (isOp_of_executes h) (x.dev.fresh.engMatch_dispatched i.val) (.inl ?_) ((dispatched_fresh x i).enqueue _)
  rw [(dispatched_fresh x i).noRoom_enqueue i.isLt nofun (Device.queue_fetched ..) (Device.inBuffer_fetched ..) rfl (Executable.room_fresh h)]
  exact decide_eq_false (Nat.not_le.mpr (Nat.succ_lt_succ hfit))

theorem playr_queues (h : x.dev.executes i.val ft 0x03 = true) :
    Completes (.playr i ft) x (fun e => StreamTo x.dev e i.val ((x.dev.strPc i.val + 1) % seqSize) (fun _ => False)
      { (x.dev.fetched i.val).played (x.dev.g i.val (insField (x.dev.insWord i.val) 48 4) % 2 ^ 16) (insField (x.dev.insWord i.val) 32 16 + 1) (x.dev.strPc i.val) with
        eng := if 64 ≤ requests (x.dev.fetched i.val).queue + (insField (x.dev.insWord i.val) 32 16 + 1) then .waitRoom else .running }) := by
  refine Completes.of_plays rfl h (isOp_of_executes h) ?_
  rw [dispatched_g]

/-- Settles O14: plays are queued as far as the queue has room, and a queue that is full then stops the engine. -/
theorem sequencePlays : Obligations.SequencePlays := by
  unfold Obligations.SequencePlays
  rintro s i ft _ _ _ rfl rfl rfl
  refine ⟨?_, ?_, fun h hfit => matchSpan_queues h hfit⟩
  · rintro _ h rfl
    exact Completes.of_plays rfl h (isOp_of_executes h) rfl
  · rintro _ h rfl hfit
    have hplays := playr_queues h
    rw [StrCtx.played_fits (c := s.dev.fetched i.val) (Executable.of_executes h).running hfit] at hplays
    exact hplays

end Sys2Proof.Machine
end

section
/-! PROOF. The flow of a program, WAIT, and the registers and masks of a stream (R106–R110). -/

namespace Sys2Proof.Machine

variable {d e : Device} {s pc : Nat} {S : Nat → Prop} {c : StrCtx} {ft : Fetched} {x : State} {i : Fin 16}

/-! ## Jumps and stacks (R106, R107) -/

/-- A command depends on what its operation makes of the device alone. -/
theorem State.run_congr {f g : Device → Device} (h : f x.dev.fresh = g x.dev.fresh) : x.run f = x.run g := by
  have hdev : f { x.dev with out := [] } = g { x.dev with out := [] } := h
  rw [State.run, hdev, State.run]

/-- A command whose micro-engine is in no customer routine executes instructions. -/
theorem execNop_eq (h : (x.dev.strOf i.val).eng ≠ .micro) : exec (.nop i ft) x = x.run (fun d => d.engStep i.val ft (isOp 0x00) (fun d _ _ => d)) := by
  have hx : exec (.nop i ft) x = x.run (fun d =>
    if (d.strOf i.val).eng = .micro then d.microStep i.val ft.word 0x00 (fun d _ => d) else d.engStep i.val ft (isOp 0x00) (fun d _ _ => d)) := rfl
  exact hx.trans (State.run_congr (if_neg h))

theorem Executable.not_micro {op : Nat} (h : Executable d s ft op) : (d.strOf s).eng ≠ .micro := by
  rw [h.running]
  nofun

theorem Device.engCall_room {target a : Nat} (h : (d.strOf s).calls.length < 16) :
    d.engCall s target a = (d.modStr s (fun c => { c with calls := (a + 1) % seqSize :: c.calls })).setPc s target := if_neg (Nat.not_le.mpr h)

theorem Device.engCall_full {target a : Nat} (h : 16 ≤ (d.strOf s).calls.length) : d.engCall s target a = d.engFault s 0x07 a := if_pos h

theorem Device.engRet_cons {a t : Nat} {ts : List Nat} (h : (d.strOf s).calls = t :: ts) :
    d.engRet s a = (d.modStr s (fun c => { c with calls := ts })).setPc s t := by
  unfold Device.engRet
  rw [h]

theorem Device.engRet_nil {a : Nat} (h : (d.strOf s).calls = []) : d.engRet s a = d.engFault s 0x07 a := by
  unfold Device.engRet
  rw [h]

theorem Device.engLoop_room {n a : Nat} {ueAt : Option Nat} (hn : n ≠ 0) (h : (d.strOf s).loops.length < 16) :
    d.engLoop s n a ueAt = d.modStr s (fun c => { c with loops := (n, (a + 1) % seqSize) :: c.loops }) := by
  unfold Device.engLoop
  rw [if_neg hn, if_neg (Nat.not_le.mpr h)]

theorem Device.engEndl_nil {a : Nat} (h : (d.strOf s).loops = []) : d.engEndl s a = d.engFault s 0x07 a := by
  unfold Device.engEndl
  rw [h]

/-- ENDL with passes left goes back (R107). -/
theorem Device.engEndl_again {a n t : Nat} {ts : List (Nat × Nat)} (h : (d.strOf s).loops = (n, t) :: ts) (hn : 1 < n) (hlt : n < 2 ^ 32) :
    d.engEndl s a = (d.modStr s (fun c => { c with loops := (n - 1, t) :: ts })).setPc s t := by
  have hdec : (n + 2 ^ 32 - 1) % 2 ^ 32 = n - 1 := by omega
  unfold Device.engEndl
  rw [h]
  dsimp only
  rw [hdec, if_pos (by omega)]

/-- ENDL of the last pass goes on (R107). -/
theorem Device.engEndl_last {a t : Nat} {ts : List (Nat × Nat)} (h : (d.strOf s).loops = (1, t) :: ts) :
    d.engEndl s a = d.modStr s (fun c => { c with loops := ts }) := by
  unfold Device.engEndl
  rw [h]
  exact if_neg (by decide)

/-- A dispatch leaves the flags of its stream. -/
theorem Device.flags_dispatched (d : Device) (s : Nat) : (d.dispatched s).reg (Reg.STR_FLAGS s) = d.reg (Reg.STR_FLAGS s) :=
  RegsBut.dispatched d s _ (by unfold Reg.STR_FLAGS Reg.STR_PC; omega)

/-- The device after a BRF that is taken. -/
def Device.brfTaken (d : Device) (s w : Nat) : Device :=
  (if natBit w 40 then d.setBit (Reg.STR_FLAGS s) (insField w 32 5) false else d).setPc s (insField w 0 18)

theorem Device.engBrf_taken {w : Nat} (h : d.bit (Reg.STR_FLAGS s) (insField w 32 5) = true) : d.engBrf s w = d.brfTaken s w := if_pos h

theorem StreamTo.brfTaken {w : Nat} (h : StreamTo d e s pc (· = Reg.STR_FLAGS s) c) :
    StreamTo d (e.brfTaken s w) s (insField w 0 18) (· = Reg.STR_FLAGS s) c := by
  have hne : Reg.STR_FLAGS s ≠ Reg.STR_PC s := by
    unfold Reg.STR_FLAGS Reg.STR_PC
    omega
  rw [← insField_mod_seqSize w, Device.brfTaken]
  split
  · exact (h.setReg _ rfl hne).setPc _
  · exact h.setPc _

/-- BRF leaves its flag, or clears it with CLR = 1 (R106). -/
theorem Device.flags_brfTaken (d : Device) (s w : Nat) : (d.brfTaken s w).reg (Reg.STR_FLAGS s) =
    if natBit w 40 then (d.reg (Reg.STR_FLAGS s)).putBit (insField w 32 5) false else d.reg (Reg.STR_FLAGS s) := by
  have hne : Reg.STR_FLAGS s ≠ Reg.STR_PC s := by
    unfold Reg.STR_FLAGS Reg.STR_PC
    omega
  rw [Device.brfTaken, Device.setPc, Device.setRegN_eq, Device.reg_setReg, if_neg hne]
  split
  · exact Device.reg_setReg_same ..
  · rfl

theorem brf_taken (h : x.dev.executes i.val ft 0x0B = true) (hflag : x.dev.bit (Reg.STR_FLAGS i.val) (insField (x.dev.insWord i.val) 32 5) = true) :
    Completes (.brf i ft) x (fun e => StreamTo x.dev e i.val (insField (x.dev.insWord i.val) 0 18) (· = Reg.STR_FLAGS i.val) (x.dev.fetched i.val) ∧
      e.reg (Reg.STR_FLAGS i.val) = (if natBit (x.dev.insWord i.val) 40 then
          (x.dev.reg (Reg.STR_FLAGS i.val)).putBit (insField (x.dev.insWord i.val) 32 5) false else x.dev.reg (Reg.STR_FLAGS i.val))) := by
  have hbit : (x.dev.fresh.dispatched i.val).bit (Reg.STR_FLAGS i.val) (insField (x.dev.insWord i.val) 32 5) = true := by
    rw [Device.bit_eq, Device.flags_dispatched]
    exact hflag
  have hto := ((dispatched_fresh x i).mono (T := (· = Reg.STR_FLAGS i.val)) nofun).brfTaken (w := x.dev.insWord i.val)
  refine (Completes.of_flow_regs rfl h (isOp_of_executes h) (Device.engBrf_taken (s := i.val) hbit) hto (strReg_free i.isLt (by decide) (by decide)) (x.dev.room_fetched i.val)).mono
    fun e ⟨he, hregs⟩ => ⟨he, ?_⟩
  rw [Device.reg_congr hregs, Device.flags_brfTaken, Device.flags_dispatched]
  rfl

/-- Settles O12: each instruction that moves STR_PC or a stack is dispatched and leaves queue and buffer alone; HALT leaves its action and stops the engine. -/
theorem sequenceFlow : Obligations.SequenceFlow := by
  unfold Obligations.SequenceFlow
  rintro s i ft _ _ _ rfl rfl rfl
  have hctx : (s.dev.fresh.dispatched i.val).strOf i.val = s.dev.fetched i.val := Device.strOf_dispatched ..
  refine ⟨fun h => ?_, fun h => ?_, fun h => ?_, fun h hroom => ?_, fun t ts h hcalls => ?_, fun h hflag => brf_taken h hflag, ?_,
    fun n t ts h hloops hn hlt => ?_, fun t ts h hloops => ?_⟩
  · have hx := execNop_eq (x := s) (i := i) (ft := ft) (Executable.of_executes h).not_micro
    exact Completes.of_flow hx h (isOp_of_executes h) rfl (dispatched_fresh s i) nofun (s.dev.room_fetched i.val)
  · exact Completes.of_stopped rfl h (isOp_of_executes h) rfl ((dispatched_fresh s i).bnd.setEng .done) nofun
  · have hto := (dispatched_fresh s i).setPc (insField (s.dev.insWord i.val) 0 18)
    rw [insField_mod_seqSize] at hto
    exact Completes.of_flow rfl h (isOp_of_executes h) rfl hto nofun (s.dev.room_fetched i.val)
  · have hto := ((dispatched_fresh s i).modStr fun c => { c with calls := (s.dev.strPc i.val + 1) % seqSize :: c.calls }).setPc
      (insField (s.dev.insWord i.val) 0 18)
    rw [insField_mod_seqSize] at hto
    exact Completes.of_flow rfl h (isOp_of_executes h) (Device.engCall_room (hctx ▸ hroom)) hto nofun (s.dev.room_fetched i.val)
  · exact Completes.of_flow rfl h (isOp_of_executes h) (Device.engRet_cons (hctx ▸ hcalls))
      (((dispatched_fresh s i).modStr fun c => { c with calls := ts }).setPc t) nofun (s.dev.room_fetched i.val)
  · rintro _ h rfl hn hroom
    refine Completes.of_flow rfl h (isOp_of_executes h) ?_
      ((dispatched_fresh s i).modStr fun c => { c with loops := (_, (s.dev.strPc i.val + 1) % seqSize) :: c.loops }) nofun (s.dev.room_fetched i.val)
    rw [dispatched_g]
    exact Device.engLoop_room hn (hctx ▸ hroom)
  · exact Completes.of_flow rfl h (isOp_of_executes h) (Device.engEndl_again (hctx ▸ hloops) hn hlt)
      (((dispatched_fresh s i).modStr fun c => { c with loops := (n - 1, t) :: ts }).setPc t) nofun (s.dev.room_fetched i.val)
  · exact Completes.of_flow rfl h (isOp_of_executes h) (Device.engEndl_last (hctx ▸ hloops))
      ((dispatched_fresh s i).modStr fun c => { c with loops := ts }) nofun (s.dev.room_fetched i.val)

/-! ## WAIT (R110) -/

theorem isWait_of_executes {m : Nat} (h : d.executes s ft 0x10 = true) (hm : insField (d.insWord s) 46 2 = m) : isWait m (d.insWord s) = true := by
  simp [isWait, (Executable.of_executes h).opcode, hm]

/-- A stream whose flag is 0 goes on waiting (R110). -/
theorem Device.flagCheck_waits {g : Nat} (heng : (d.strOf s).eng = .waitFlag g) (hflag : d.bit (Reg.STR_FLAGS s) g = false) : d.flagCheck s = d := by
  unfold Device.flagCheck
  rw [heng]
  exact if_neg (by rw [hflag]; decide)

theorem Device.engWait_flag {g n a : Nat} (hflag : d.bit (Reg.STR_FLAGS s) g = false) :
    d.engWait s 2 g n a = (d.bnd s (.waitFlag g none) a).setEng s (.waitFlag g) := by
  have heng : (((d.bnd s (.waitFlag g none) a).setEng s (.waitFlag g)).strOf s).eng = .waitFlag g := by
    rw [Device.setEng, Device.strOf_modStr]
  exact Device.flagCheck_waits heng hflag

/-- WAIT FLAG while its flag is 0 (R110). -/
theorem waitFlag_waits (h : x.dev.executes i.val ft 0x10 = true) (hmine : isWait 2 (x.dev.insWord i.val) = true)
    (hflag : x.dev.bit (Reg.STR_FLAGS i.val) (insField (x.dev.insWord i.val) 32 5) = false) :
    Completes (.waitFlag i ft) x (fun e => StreamTo x.dev e i.val ((x.dev.strPc i.val + 1) % seqSize) (fun _ => False)
      { x.dev.fetched i.val with queue := (x.dev.fetched i.val).queue ++ [.act (.waitFlag (insField (x.dev.insWord i.val) 32 5) none) (x.dev.strPc i.val)],
                                 eng := .waitFlag (insField (x.dev.insWord i.val) 32 5) }) := by
  have hbit : (x.dev.fresh.dispatched i.val).bit (Reg.STR_FLAGS i.val) (insField (x.dev.insWord i.val) 32 5) = false := by
    rw [Device.bit_eq, Device.flags_dispatched]
    exact hflag
  exact Completes.of_stopped rfl h hmine (Device.engWait_flag (s := i.val) hbit) ((dispatched_fresh x i).bnd.setEng _) nofun

/-- Settles O15: each form of WAIT leaves its gap at the end of the queue; FLAG and DRAIN stop the engine besides. -/
theorem sequenceWaits : Obligations.SequenceWaits := by
  unfold Obligations.SequenceWaits
  rintro s i ft _ _ _ rfl rfl rfl h
  refine ⟨fun hm => ?_, fun hm => ?_, fun hm hflag => ?_, fun hm => ?_⟩
  · exact Completes.of_bnd rfl h (isWait_of_executes h hm) rfl
  · exact Completes.of_bnd rfl h (isWait_of_executes h hm) rfl
  · exact waitFlag_waits h (isWait_of_executes h hm) hflag
  · exact Completes.of_stopped rfl h (isWait_of_executes h hm) rfl ((dispatched_fresh s i).bnd.setEng .waitGap) nofun

/-! ## Registers and masks (R106, R108) -/

theorem StreamTo.setGZN {r v : Nat} (h : StreamTo d e s pc (· = Reg.STR_G s r) c) (hv : v < 2 ^ 32) :
    StreamTo d (e.setGZN s r v) s pc (· = Reg.STR_G s r) { c with zf := decide (v = 0), nf := natBit v 31 } := by
  have hne : Reg.STR_G s r ≠ Reg.STR_PC s := by
    unfold Reg.STR_G Reg.STR_PC
    omega
  have hzero : decide (v = 0) = decide (v % 2 ^ 32 = 0) := by rw [Nat.mod_eq_of_lt hv]
  rw [hzero]
  exact (h.setReg (BitVec.ofNat 32 v) rfl hne).modStr fun c => { c with zf := decide (v % 2 ^ 32 = 0), nf := natBit v 31 }

theorem Device.g_setGZN (d : Device) (s r : Nat) {v : Nat} (hv : v < 2 ^ 32) : (d.setGZN s r v).g s r = v := by
  have hreg : (d.setGZN s r v).reg (Reg.STR_G s r) = BitVec.ofNat 32 v := Device.reg_setReg_same ..
  rw [Device.g, Device.regN_eq, hreg, BitVec.toNat_ofNat, Nat.mod_eq_of_lt hv]

/-- An instruction that writes a general register and sets Z and N (R106). -/
theorem Completes.of_setGZN {k : Instr} {op r v : Nat} {mine : Nat → Bool} {f : Device → Nat → Nat → Device}
    (hx : exec k x = x.run (fun d => d.engStep i.val ft mine f)) (h : x.dev.executes i.val ft op = true)
    (hmine : mine (x.dev.insWord i.val) = true) (hr : r < 16) (hv : v < 2 ^ 32)
    (hf : f (x.dev.fresh.dispatched i.val) (x.dev.insWord i.val) (x.dev.strPc i.val) = (x.dev.fresh.dispatched i.val).setGZN i.val r v) :
    Completes k x (fun e => e.g i.val r = v ∧ StreamTo x.dev e i.val ((x.dev.strPc i.val + 1) % seqSize) (· = Reg.STR_G i.val r)
      { x.dev.fetched i.val with zf := decide (v = 0), nf := natBit v 31 }) := by
  have hto := ((dispatched_fresh x i).mono (T := (· = Reg.STR_G i.val r)) nofun).setGZN hv
  refine (Completes.of_flow_regs hx h hmine hf hto ?_ (x.dev.room_fetched i.val)).mono fun e ⟨he, hregs⟩ => ⟨?_, he⟩
  · rintro _ rfl
    unfold Reg.STR_G Reg.STR_STATUS Page.STR
    omega
  · exact (congrArg BitVec.toNat (Device.reg_congr hregs _)).trans (Device.g_setGZN _ _ _ hv)

theorem StreamTo.engSite {op v a : Nat} {half : Bool} (h : StreamTo d e s pc S c) : StreamTo d (e.engSite s op half v a) s pc S
    { c with queue := c.queue ++ [.act (.siteMask op half v) a], mask := siteOp op half v c.mask } :=
  h.bnd.modStr fun c => { c with mask := siteOp op half v c.mask }

/-- SITEMSK takes none of the room (R98). -/
theorem StreamTo.noRoom_engSite {op v a : Nat} {half : Bool} (hs : s < 16) (h : StreamTo d e s pc S c) (hS : ∀ a, S a → a < 0x600000 ∧ a ≠ Reg.STR_STATUS s)
    (hqueue : c.queue = (d.strOf s).queue) (hctx : c.inBuffer = (d.strOf s).inBuffer) (hroom : d.noRoom s = false) :
    (e.engSite s op half v a).noRoom s = false := by
  rw [h.engSite.noRoom hs hS (l := [.act (.siteMask op half v) a]) (congrArg (· ++ _) hqueue) rfl hctx hroom, requests_append_act, hqueue]
  exact decide_eq_false (Nat.not_le.mpr (Device.requests_of_room hroom))

/-- Settles O16: SETR and ADDI write their register, SITEMSK the mask in program order, and the others leave their actions at the end of the queue. -/
theorem sequenceRegisters : Obligations.SequenceRegisters := by
  unfold Obligations.SequenceRegisters
  rintro s i ft _ _ _ _ _ rfl rfl rfl rfl rfl
  have hmod : ∀ n, n % 2 ^ 32 < 2 ^ 32 := fun n => Nat.mod_lt n (by decide)
  refine ⟨fun h => ?_, fun h => ?_, fun h => ?_, fun h => ?_, fun h => ?_⟩
  · exact Completes.of_setGZN rfl h (isOp_of_executes h) (insField_lt _ 48 4) (hmod _) rfl
  · refine Completes.of_setGZN rfl h (isOp_of_executes h) (insField_lt _ 48 4) (hmod _) ?_
    rw [dispatched_g]
  · have hroom := (dispatched_fresh s i).noRoom_engSite (op := insField (s.dev.insWord i.val) 46 2) (v := s.dev.insWord i.val % 2 ^ 32)
      (a := s.dev.strPc i.val) (half := natBit (s.dev.insWord i.val) 32) i.isLt nofun (Device.queue_fetched ..) (Device.inBuffer_fetched ..)
      (Executable.room_fresh h)
    exact Completes.of_executes rfl h (isOp_of_executes h) rfl (.inl hroom) (dispatched_fresh s i).engSite
  · exact Completes.of_stopped rfl h (isOp_of_executes h) rfl ((dispatched_fresh s i).bnd.setEng .waitGap) nofun
  · exact Completes.of_bnd rfl h (isOp_of_executes h) rfl

end Sys2Proof.Machine
end

section
/-! PROOF. What the micro-engine finds wrong (R105, R107, R128, R129, R137, R144). -/

namespace Sys2Proof.Machine

variable {d e : Device} {s pc : Nat} {S : Nat → Prop} {c : StrCtx} {ft : Fetched} {f : Device → Nat → Nat → Device} {mine : Nat → Bool} {x : State}

/-- A stream's context with a fault at the end of its queue, beyond which nothing is executed (R105). -/
def StrCtx.faulted (c : StrCtx) (code addr : Nat) : StrCtx := { c with queue := c.queue ++ [.act (.fault code) addr], eng := .done }

/-! ## Reading the next instruction (R97, R103, R105) -/

theorem StreamTo.refl (d : Device) (s : Nat) : StreamTo d d s (d.strPc s) (fun _ => False) (d.strOf s) :=
  ⟨rfl, rfl, fun _ _ => rfl, fun _ _ => rfl, rfl⟩

/-- Reading the next instruction changes IR and what goes with it, and STR_PC (R128). -/
theorem StreamTo.fetchIR (d : Device) (s : Nat) :
    StreamTo d (d.fetchIR s (d.insWord s) (d.strPc s)) s ((d.strPc s + 1) % seqSize) (fun _ => False) (d.irLoaded s) :=
  ((StreamTo.refl d s).setPc (d.strPc s + 1)).modStr _

theorem Device.engStep_readError (hrun : (d.strOf s).eng = .running) (hue : ft.ue = true) :
    d.engStep s ft mine f = ((d.noteUE (seqAddr (d.strPc s)) true).setPc s (d.strPc s + 1)).engFault s 0x09 (d.strPc s) := by
  unfold Device.engStep
  rw [if_neg (not_not.mpr hrun)]
  dsimp only
  rw [if_pos (by rw [hue, Bool.true_or])]

/-- The micro-engine of stream `s` executes instructions, and the next one is read without an uncorrectable error (R97). -/
structure InsRead (d : Device) (s : Nat) (ft : Fetched) : Prop where
  running : (d.strOf s).eng = .running
  fetched : ft.ue = false
  read : d.winUE (seqAddr (d.strPc s)) = false

theorem InsRead.reservedCondition (h : InsRead d s ft) (hcond : 10 ≤ insField (d.insWord s) 52 4) :
    d.engStep s ft mine f = (d.fetchIR s (d.insWord s) (d.strPc s)).engFault s 0x01 (d.strPc s) := by
  unfold Device.engStep
  rw [if_neg (not_not.mpr h.running)]
  dsimp only
  rw [if_neg (by rw [h.fetched, h.read]; nofun)]
  exact if_pos hcond

/-- A condition that is false only skips (R103). -/
theorem InsRead.skips (h : InsRead d s ft) (hcond : insField (d.insWord s) 52 4 < 10) (hfalse : d.condHolds s (insField (d.insWord s) 52 4) = false)
    (hmine : mine (d.insWord s) = true) : d.engStep s ft mine f = d.fetchIR s (d.insWord s) (d.strPc s) := by
  have hskip : (!d.condHolds s (insField (d.insWord s) 52 4)) = true := by rw [hfalse]; rfl
  have htold : (mine (d.insWord s) || unassigned (insOp (d.insWord s))) = true := by rw [hmine, Bool.true_or]
  unfold Device.engStep
  rw [if_neg (not_not.mpr h.running)]
  dsimp only
  rw [if_neg (by rw [h.fetched, h.read]; nofun)]
  exact (if_neg (Nat.not_le.mpr hcond)).trans ((if_pos hskip).trans (if_pos htold))

/-- A vendor instruction whose condition holds and whose reserved fields are 0 is dispatched (R103, R128). -/
theorem InsRead.dispatch {used : Nat} (h : InsRead d s ft) (hcond : insField (d.insWord s) 52 4 < 10) (htrue : d.condHolds s (insField (d.insWord s) 52 4) = true)
    (hmine : mine (d.insWord s) = true) (hused : insUsed (insOp (d.insWord s)) = some used) (hres : insReserved (d.insWord s) used = false) :
    d.engStep s ft mine f = (d.fetchIR s (d.insWord s) (d.strPc s)).dispatch s ft (d.insWord s) (d.strPc s)
      (fun e => (f e (d.insWord s) (d.strPc s)).engRoom s) := by
  have hw : d.seqWord (d.strPc s) = d.insWord s := rfl
  have hassigned : unassigned (insOp (d.insWord s)) = false := by simp [unassigned, hused]
  simp only [Device.engStep, hw, h.running, h.fetched, h.read, Nat.not_le.mpr hcond, htrue, hassigned, hmine, hused, hres, ne_eq, not_true_eq_false,
    Bool.or_self, Bool.not_true, Bool.false_eq_true, if_false]

/-! ## The dispatch entry (R128, R137) -/

theorem Device.dispatch_invalid {w a : Nat} {g : Device → Device} (hword : ft.word = .good) (hue : d.csUE (d.entryOf s (insOp w)) = false)
    (hvalid : natBit (d.csWord (d.entryOf s (insOp w))) 31 = false) : d.dispatch s ft w a g = d.engFault s 0x01 a := by
  unfold Device.dispatch
  simp only [hword, hue, hvalid, reduceCtorEq, decide_false, Bool.or_self, Bool.false_eq_true, Bool.not_false, if_true, if_false]

theorem Device.dispatch_bad {w a : Nat} {g : Device → Device} (hword : ft.word = .bad) :
    d.dispatch s ft w a g = (d.setWinUE (csKey (d.entryOf s (insOp w))) true).engFault s 0x0D a := by
  unfold Device.dispatch
  exact if_pos (by rw [hword]; rfl)

/-! ## Commands -/

/-- A command that marks a word as uncorrectable, and changes one stream beside. -/
theorem Completes.of_marked {k : Instr} {a : Nat} (g : Device → Device) (hx : exec k x = x.run g)
    (h : StreamTo (x.dev.fresh.setWinUE a true) (g x.dev.fresh) s pc S c) :
    Completes k x (fun e => e.strPc s = pc ∧ e.winUE a = true ∧ e.strOf s = c ∧ RegsBut (fun b => b = Reg.STR_PC s ∨ S b) x.dev e ∧ MemSame x.dev e) := by
  have hto : StreamTo (x.dev.setWinUE a true) (g x.dev.fresh) s pc S c := h
  have hstill : x.dev.Still (g x.dev.fresh) := ⟨hto.still.time, hto.still.meters, hto.still.descriptors⟩
  obtain ⟨hctx, hpc, -, hregs, hframe⟩ := hto.settle
  refine Completes.of_run g hx rfl hstill ⟨hpc, ?_, hctx, hregs, MemSame.of_mem_eq (congrArg Device.mem hframe :)⟩
  have hpoison : (g x.dev.fresh).settle.poison = (x.dev.setWinUE a true).poison := (congrArg Device.poison hframe :)
  rw [Device.winUE, hpoison]
  exact Device.winUE_setWinUE x.dev a true

variable {i : Fin 16}

/-- An instruction that is read, and is no NOP that a customer routine may hold. -/
theorem InsRead.not_micro (h : InsRead d s ft) : (d.strOf s).eng ≠ .micro := by
  rw [h.running]
  nofun

theorem readError_faults (hrun : (x.dev.strOf i.val).eng = .running) (hue : ft.ue = true) :
    Completes (.nop i ft) x (fun e => e.strPc i.val = (x.dev.strPc i.val + 1) % seqSize ∧ e.winUE (seqAddr (x.dev.strPc i.val)) = true ∧
      e.strOf i.val = (x.dev.strOf i.val).faulted 0x09 (x.dev.strPc i.val) ∧
      RegsBut (· = Reg.STR_PC i.val) x.dev e ∧ MemSame x.dev e) := by
  have hstep : x.dev.fresh.engStep i.val ft (isOp 0x00) (fun d _ _ => d) = _ := Device.engStep_readError (d := x.dev.fresh) hrun hue
  have hmarked := Completes.of_marked (x := x) (a := seqAddr (x.dev.strPc i.val)) (fun d => d.engStep i.val ft (isOp 0x00) (fun d _ _ => d))
    (execNop_eq (by rw [hrun]; nofun))
    (hstep ▸ ((StreamTo.refl (x.dev.fresh.setWinUE (seqAddr (x.dev.strPc i.val)) true) i.val).setPc (x.dev.strPc i.val + 1)).engFault)
  exact hmarked.mono fun e ⟨hpc, hmark, hctx, hregs, hmem⟩ => ⟨hpc, hmark, hctx, fun a ha => hregs a fun hor => hor.elim ha id, hmem⟩

theorem reservedCondition_faults (h : InsRead x.dev i.val ft) (hcond : 10 ≤ insField (x.dev.insWord i.val) 52 4) :
    Completes (.nop i ft) x (fun e => StreamTo x.dev e i.val ((x.dev.strPc i.val + 1) % seqSize) (fun _ => False)
      ((x.dev.irLoaded i.val).faulted 0x01 (x.dev.strPc i.val))) := by
  have hread : InsRead x.dev.fresh i.val ft := ⟨h.running, h.fetched, h.read⟩
  have hstep := hread.reservedCondition (mine := isOp 0x00) (f := fun d _ _ => d) hcond
  exact Completes.of_stream _ (execNop_eq h.not_micro) (hstep ▸ (StreamTo.fetchIR x.dev.fresh i.val).engFault)

theorem jump_skips (h : InsRead x.dev i.val ft) (hcond : insField (x.dev.insWord i.val) 52 4 < 10)
    (hfalse : x.dev.condHolds i.val (insField (x.dev.insWord i.val) 52 4) = false) (hop : insOp (x.dev.insWord i.val) = 0x08) :
    Completes (.jump i ft) x (fun e => StreamTo x.dev e i.val ((x.dev.strPc i.val + 1) % seqSize) (fun _ => False) (x.dev.irLoaded i.val)) := by
  have hread : InsRead x.dev.fresh i.val ft := ⟨h.running, h.fetched, h.read⟩
  refine Completes.of_stream (fun d => d.engStep i.val ft (isOp 0x08) (fun d w _ => d.setPc i.val (insField w 0 18))) rfl ?_
  rw [hread.skips (mine := isOp 0x08) hcond hfalse (decide_eq_true hop)]
  exact StreamTo.fetchIR x.dev.fresh i.val

/-- A JUMP with a reserved field of 0 is dispatched when its condition holds. -/
theorem InsRead.jump_dispatched (h : InsRead d s ft) (hcond : insField (d.insWord s) 52 4 < 10)
    (htrue : d.condHolds s (insField (d.insWord s) 52 4) = true) (hw : d.insWord s = 0x08 * 2 ^ 56) :
    d.engStep s ft (isOp 0x08) f = (d.fetchIR s (d.insWord s) (d.strPc s)).dispatch s ft (d.insWord s) (d.strPc s)
      (fun e => (f e (d.insWord s) (d.strPc s)).engRoom s) :=
  h.dispatch hcond htrue (by rw [hw]; decide) (used := 0x3FFFF) (by rw [hw]; decide) (by rw [hw]; decide)

theorem jump_entryInvalid (h : InsRead x.dev i.val ft) (hcond : insField (x.dev.insWord i.val) 52 4 < 10)
    (htrue : x.dev.condHolds i.val (insField (x.dev.insWord i.val) 52 4) = true) (hw : x.dev.insWord i.val = 0x08 * 2 ^ 56)
    (hword : ft.word = .good) (hue : x.dev.csUE (x.dev.entryOf i.val 0x08) = false) (hvalid : natBit (x.dev.csWord (x.dev.entryOf i.val 0x08)) 31 = false) :
    Completes (.jump i ft) x (fun e => StreamTo x.dev e i.val ((x.dev.strPc i.val + 1) % seqSize) (fun _ => False)
      ((x.dev.irLoaded i.val).faulted 0x01 (x.dev.strPc i.val))) := by
  have hread : InsRead x.dev.fresh i.val ft := ⟨h.running, h.fetched, h.read⟩
  have hop : insOp (x.dev.fresh.insWord i.val) = 0x08 := (congrArg insOp hw).trans (by decide)
  refine Completes.of_stream (fun d => d.engStep i.val ft (isOp 0x08) (fun d w _ => d.setPc i.val (insField w 0 18))) rfl ?_
  rw [hread.jump_dispatched hcond htrue hw, Device.dispatch_invalid hword]
  · exact (StreamTo.fetchIR x.dev.fresh i.val).engFault
  · rw [hop, Device.entryOf_fetchIR i.isLt]
    exact hue
  · rw [hop, Device.entryOf_fetchIR i.isLt, Device.csWord_fetchIR i.isLt]
    exact hvalid

theorem jump_entryBad (h : InsRead x.dev i.val ft) (hcond : insField (x.dev.insWord i.val) 52 4 < 10)
    (htrue : x.dev.condHolds i.val (insField (x.dev.insWord i.val) 52 4) = true) (hw : x.dev.insWord i.val = 0x08 * 2 ^ 56) (hword : ft.word = .bad) :
    Completes (.jump i ft) x (fun e => e.strPc i.val = (x.dev.strPc i.val + 1) % seqSize ∧ e.csUE (x.dev.entryOf i.val 0x08) = true ∧
      e.strOf i.val = ((x.dev.irLoaded i.val).faulted 0x0D (x.dev.strPc i.val))) := by
  have hread : InsRead x.dev.fresh i.val ft := ⟨h.running, h.fetched, h.read⟩
  have hop : insOp (x.dev.fresh.insWord i.val) = 0x08 := (congrArg insOp hw).trans (by decide)
  have hmarked := Completes.of_marked (x := x) (k := .jump i ft) (a := csKey (x.dev.entryOf i.val 0x08)) (s := i.val) (S := fun _ => False)
    (pc := (x.dev.strPc i.val + 1) % seqSize)
    (c := ((x.dev.irLoaded i.val).faulted 0x0D (x.dev.strPc i.val)))
    (fun d => d.engStep i.val ft (isOp 0x08) (fun d w _ => d.setPc i.val (insField w 0 18))) rfl ?_
  · exact hmarked.mono fun e ⟨hpc, hmark, hctx, _, _⟩ => ⟨hpc, hmark, hctx⟩
  · rw [hread.jump_dispatched hcond htrue hw, Device.dispatch_bad hword, hop, Device.entryOf_fetchIR i.isLt]
    exact (StreamTo.fetchIR (x.dev.fresh.setWinUE (csKey (x.dev.entryOf i.val 0x08)) true) i.val).engFault

/-! ## Fetching a micro-operation (R129, R137, R144) -/

variable {cls : Nat} {ecc : Ecc} {g : Device → Nat → Device}

/-- A fault inside a customer routine goes to the end of the queue (R144). -/
theorem StreamTo.microFault {code : Nat} (d : Device) (s : Nat) : StreamTo d (d.microFault s code) s (d.strPc s) (fun _ => False)
    ((d.strOf s).faulted code (d.strOf s).micro.addr) := (StreamTo.refl d s).engFault

theorem Device.microStep_outside (heng : (d.strOf s).eng = .micro) (h : (d.strOf s).micro.upc < 12352 ∨ 16384 ≤ (d.strOf s).micro.upc) :
    d.microStep s ecc cls g = d.microFault s 0x0D := by
  unfold Device.microStep
  exact (if_neg (not_not.mpr heng)).trans (if_pos h)

/-- The micro-engine of stream `s` is in a customer routine, with uPC in the customer region (R128). -/
structure InRoutine (d : Device) (s : Nat) : Prop where
  micro : (d.strOf s).eng = .micro
  low : 12352 ≤ (d.strOf s).micro.upc
  high : (d.strOf s).micro.upc < 16384

theorem InRoutine.inside (h : InRoutine d s) : ¬ ((d.strOf s).micro.upc < 12352 ∨ 16384 ≤ (d.strOf s).micro.upc) :=
  not_or.mpr ⟨Nat.not_lt.mpr h.low, Nat.not_le.mpr h.high⟩

theorem InRoutine.bad (h : InRoutine d s) : d.microStep s .bad cls g = (d.setWinUE (csKey (d.strOf s).micro.upc) true).microFault s 0x0D := by
  unfold Device.microStep
  exact (if_neg (not_not.mpr h.micro)).trans ((if_neg h.inside).trans (if_pos rfl))

/-- The device once the micro-operation at uPC is read: a corrected error is counted (R137). -/
def Device.microRead (d : Device) (ecc : Ecc) : Device := if ecc = .corrected then d.csCorrected else d

theorem InRoutine.step (h : InRoutine d s) (hecc : ecc ≠ .bad) (hue : d.csUE (d.strOf s).micro.upc = false) : d.microStep s ecc cls g =
    (if 64 ≤ (d.strOf s).micro.lim then (d.microRead ecc).microFault s 0x0C
      else if classReserved ((d.microRead ecc).csWord (d.strOf s).micro.upc / 2 ^ 27) then (d.microRead ecc).microFault s 0x01
      else if (d.microRead ecc).csWord (d.strOf s).micro.upc / 2 ^ 27 ≠ cls then d.microRead ecc
      else g ((d.microRead ecc).modMicro s Micro.next) ((d.microRead ecc).csWord (d.strOf s).micro.upc)) := by
  unfold Device.microStep
  exact (if_neg (not_not.mpr h.micro)).trans ((if_neg h.inside).trans (if_neg (by simp [hecc, hue])))

theorem ldi_limit (h : InRoutine x.dev i.val) (hue : x.dev.csUE (x.dev.strOf i.val).micro.upc = false) (hlim : 64 ≤ (x.dev.strOf i.val).micro.lim) :
    Completes (.ldi i .good) x (fun e => StreamTo x.dev e i.val (x.dev.strPc i.val) (fun _ => False)
      ((x.dev.strOf i.val).faulted 0x0C (x.dev.strOf i.val).micro.addr)) := by
  have hin : InRoutine x.dev.fresh i.val := ⟨h.micro, h.low, h.high⟩
  refine Completes.of_stream (fun d => d.microStep i.val .good 0x02 (fun d w => d.uLdi i.val w)) rfl ?_
  rw [hin.step (ecc := .good) nofun hue]
  exact (if_pos hlim).symm ▸ StreamTo.microFault x.dev.fresh i.val

theorem ldi_outside (heng : (x.dev.strOf i.val).eng = .micro) (h : (x.dev.strOf i.val).micro.upc < 12352 ∨ 16384 ≤ (x.dev.strOf i.val).micro.upc) :
    Completes (.ldi i .good) x (fun e => StreamTo x.dev e i.val (x.dev.strPc i.val) (fun _ => False)
      ((x.dev.strOf i.val).faulted 0x0D (x.dev.strOf i.val).micro.addr)) := by
  refine Completes.of_stream (fun d => d.microStep i.val .good 0x02 (fun d w => d.uLdi i.val w)) rfl ?_
  rw [Device.microStep_outside (d := x.dev.fresh) heng h]
  exact StreamTo.microFault x.dev.fresh i.val

theorem ldi_reserved (h : InRoutine x.dev i.val) (hue : x.dev.csUE (x.dev.strOf i.val).micro.upc = false) (hlim : (x.dev.strOf i.val).micro.lim < 64)
    (hres : classReserved (x.dev.microWord i.val / 2 ^ 27) = true) :
    Completes (.ldi i .good) x (fun e => StreamTo x.dev e i.val (x.dev.strPc i.val) (fun _ => False)
      ((x.dev.strOf i.val).faulted 0x01 (x.dev.strOf i.val).micro.addr)) := by
  have hin : InRoutine x.dev.fresh i.val := ⟨h.micro, h.low, h.high⟩
  refine Completes.of_stream (fun d => d.microStep i.val .good 0x02 (fun d w => d.uLdi i.val w)) rfl ?_
  rw [hin.step (ecc := .good) nofun hue]
  exact ((if_neg (Nat.not_le.mpr hlim)).trans (if_pos hres)).symm ▸ StreamTo.microFault x.dev.fresh i.val

theorem ldi_bad (h : InRoutine x.dev i.val) :
    Completes (.ldi i .bad) x (fun e => e.strOf i.val = (x.dev.strOf i.val).faulted 0x0D (x.dev.strOf i.val).micro.addr ∧
      e.csUE (x.dev.strOf i.val).micro.upc = true ∧ e.regs = x.dev.regs ∧ MemSame x.dev e) := by
  have hin : InRoutine x.dev.fresh i.val := ⟨h.micro, h.low, h.high⟩
  have hstep := hin.bad (cls := 0x02) (g := fun d w => d.uLdi i.val w)
  refine Completes.of_run (fun d => d.microStep i.val .bad 0x02 (fun d w => d.uLdi i.val w)) rfl hstep ⟨rfl, rfl, rfl⟩ ⟨?_, ?_, Device.settle_regs _, MemSame.settle rfl⟩
  · rw [Device.settle_strOf]
    exact (StreamTo.microFault (x.dev.fresh.setWinUE (csKey (x.dev.strOf i.val).micro.upc) true) i.val).1
  · rw [Device.csUE, Device.winUE, Device.settle_poison]
    exact Device.winUE_setWinUE x.dev _ true

/-! ## A corrected error (R137) -/

theorem Word.get_addSat (w : Word) {n : Nat} (hn : w.get 0 n < 2 ^ n - 1) (h32 : n ≤ 32) : (w.put 0 n (satAdd n (w.get 0 n) 1)).get 0 n = w.get 0 n + 1 := by
  rw [Word.get_put_same _ _ (by omega), satAdd, Nat.min_eq_left (by omega), Nat.mod_eq_of_lt (by omega)]

theorem RegsBut.csCorrected (d : Device) : RegsBut (fun a => a = Reg.UCS_CE_CNT ∨ a = Reg.PG_EVT_RAW Page.UCS) d d.csCorrected := fun a ha => by
  obtain ⟨hcnt, hraw⟩ := not_or.mp ha
  exact (RegsBut.setReg _ _ _ a hraw).trans (RegsBut.setReg d _ _ a hcnt)

theorem Device.fld_csCorrected (h : d.fld Reg.UCS_CE_CNT 0 16 < 0xFFFF) : d.csCorrected.fld Reg.UCS_CE_CNT 0 16 = d.fld Reg.UCS_CE_CNT 0 16 + 1 := by
  have hreg : d.csCorrected.reg Reg.UCS_CE_CNT =
      (d.reg Reg.UCS_CE_CNT).put 0 16 (satAdd 16 ((d.reg Reg.UCS_CE_CNT).get 0 16) 1) :=
    (RegsBut.setReg _ (Reg.PG_EVT_RAW Page.UCS) _ _ (by decide)).trans (Device.reg_setReg_same ..)
  rw [Device.fld_eq, hreg]
  exact Word.get_addSat _ h (by decide)

theorem Device.bit_csCorrected (d : Device) : d.csCorrected.bit (Reg.PG_EVT_RAW Page.UCS) 2 = true := Device.bit_event _ _ (by decide)

/-- The device once an LDI of a general register, read with a corrected error, is executed (R131, R137). -/
def Device.ldiCorrected (d : Device) (s r v : Nat) : Device := (d.csCorrected.modMicro s Micro.next).setRegN (Reg.STR_G s r) v

theorem Device.setOpd_g (d : Device) {r v : Nat} (hr : r < 16) (hv : v < 2 ^ 32) : d.setOpd s r v = d.setRegN (Reg.STR_G s r) v := by
  unfold Device.setOpd
  rw [Nat.mod_eq_of_lt hv]
  exact if_pos hr

/-- What `Device.executesMicro` says of the micro-operation at uPC (R128, R129, R137, R144). -/
theorem InRoutine.of_executesMicro (h : d.executesMicro s cls = true) : InRoutine d s ∧ d.csUE (d.strOf s).micro.upc = false ∧
    (d.strOf s).micro.lim < 64 ∧ classReserved cls = false ∧ d.microWord s / 2 ^ 27 = cls := by
  simp only [Device.executesMicro, Bool.and_eq_true, decide_eq_true_eq, Bool.not_eq_true'] at h
  obtain ⟨⟨⟨⟨⟨⟨hmicro, hlow⟩, hhigh⟩, hue⟩, hlim⟩, hres⟩, hcls⟩ := h
  exact ⟨⟨hmicro, hlow, hhigh⟩, hue, hlim, hres, hcls⟩

theorem InRoutine.microStep_corrected (h : d.executesMicro s cls = true) :
    d.microStep s .corrected cls g = g (d.csCorrected.modMicro s Micro.next) (d.microWord s) := by
  obtain ⟨hin, hue, hlim, hres, hcls⟩ := InRoutine.of_executesMicro h
  have hword : d.csCorrected.csWord (d.strOf s).micro.upc = d.microWord s :=
    congrArg BitVec.toNat (RegsBut.csCorrected d _ (by unfold Reg.UCS_CE_CNT Reg.PG_EVT_RAW Page.UCS; omega))
  rw [hin.step (ecc := .corrected) nofun hue, if_neg (Nat.not_le.mpr hlim)]
  have hread : d.microRead .corrected = d.csCorrected := rfl
  rw [hread, hword, hcls, if_neg (by rw [hres]; nofun), if_neg (not_not.mpr rfl)]

theorem ldi_corrected (h : x.dev.executesMicro i.val 0x02 = true) (hr : insField (x.dev.microWord i.val) 22 5 < 16)
    (hcnt : x.dev.fld Reg.UCS_CE_CNT 0 16 < 0xFFFF) :
    Completes (.ldi i .corrected) x (fun e => e.fld Reg.UCS_CE_CNT 0 16 = x.dev.fld Reg.UCS_CE_CNT 0 16 + 1 ∧ e.bit (Reg.PG_EVT_RAW Page.UCS) 2 = true ∧
      e.g i.val (insField (x.dev.microWord i.val) 22 5) = x.dev.microWord i.val % 2 ^ 22 ∧
      e.strOf i.val = { x.dev.strOf i.val with micro := (x.dev.strOf i.val).micro.next } ∧ MemSame x.dev e) := by
  have hlt : x.dev.microWord i.val % 2 ^ 22 < 2 ^ 32 := (Nat.mod_lt _ (by decide)).trans (by decide)
  have hstep : x.dev.fresh.microStep i.val .corrected 0x02 (fun d w => d.uLdi i.val w) =
      x.dev.fresh.ldiCorrected i.val (insField (x.dev.microWord i.val) 22 5) (x.dev.microWord i.val % 2 ^ 22) :=
    (InRoutine.microStep_corrected (d := x.dev.fresh) h).trans (Device.setOpd_g _ hr hlt)
  have hreg (a : Nat) (ha : a < 0x40000) : (x.dev.fresh.ldiCorrected i.val (insField (x.dev.microWord i.val) 22 5) (x.dev.microWord i.val % 2 ^ 22)).settle.reg a =
      x.dev.fresh.csCorrected.reg a := by
    rw [Device.settle_reg]
    exact RegsBut.setReg _ _ _ a (by unfold Reg.STR_G Page.STR; omega)
  refine Completes.of_run (fun d => d.microStep i.val .corrected 0x02 (fun d w => d.uLdi i.val w)) rfl hstep ⟨rfl, rfl, rfl⟩ ⟨?_, ?_, ?_, ?_, MemSame.settle rfl⟩
  · rw [Device.fld_eq, hreg _ (by decide)]
    exact Device.fld_csCorrected (d := x.dev.fresh) hcnt
  · rw [Device.bit_eq, hreg _ (by decide)]
    exact x.dev.fresh.bit_csCorrected
  · rw [Device.g, Device.regN_eq, Device.settle_reg, Device.ldiCorrected, Device.setRegN_eq, Device.reg_setReg_same, BitVec.toNat_ofNat, Nat.mod_eq_of_lt hlt]
  · rw [Device.settle_strOf]
    exact Device.strOf_modStr x.dev.fresh.csCorrected i.val (fun c => { c with micro := c.micro.next })

/-- Settles O13: each fault goes to the end of the queue and stops the engine; only an uncorrectable error that is found marks its word besides. -/
theorem sequencerFaults : Obligations.SequencerFaults := by
  unfold Obligations.SequencerFaults
  refine ⟨?_, ?_⟩
  · rintro s i ft _ _ _ _ _ rfl rfl rfl rfl rfl
    have hctx : (s.dev.fresh.dispatched i.val).strOf i.val = s.dev.fetched i.val := Device.strOf_dispatched ..
    refine ⟨fun h hfull => ?_, fun h hnil => ?_, fun h hnil => ?_, fun hrun hue => readError_faults hrun hue, fun hrun hue hread hcond => ?_,
      fun hrun hue hread hcond hfalse hop => ?_, fun hrun hue hread hcond htrue hw => ⟨fun hword hent hvalid => ?_, fun hword => ?_⟩⟩
    · exact Completes.of_engFault rfl h (isOp_of_executes h) (Device.engCall_full (hctx ▸ hfull))
    · exact Completes.of_engFault rfl h (isOp_of_executes h) (Device.engRet_nil (hctx ▸ hnil))
    · exact Completes.of_engFault rfl h (isOp_of_executes h) (Device.engEndl_nil (hctx ▸ hnil))
    · exact reservedCondition_faults ⟨hrun, hue, hread⟩ hcond
    · exact jump_skips ⟨hrun, hue, hread⟩ hcond hfalse hop
    · exact jump_entryInvalid ⟨hrun, hue, hread⟩ hcond htrue hw hword hent hvalid
    · exact jump_entryBad ⟨hrun, hue, hread⟩ hcond htrue hw hword
  · rintro s i _ _ rfl rfl hmicro
    exact ⟨fun hlow hhigh hue hlim => ldi_limit ⟨hmicro, hlow, hhigh⟩ hue hlim, fun hout => ldi_outside hmicro hout,
      fun hlow hhigh => ldi_bad ⟨hmicro, hlow, hhigh⟩, fun hlow hhigh hue hlim hres => ldi_reserved ⟨hmicro, hlow, hhigh⟩ hue hlim hres,
      fun h hr hcnt => ldi_corrected h hr hcnt⟩

end Sys2Proof.Machine
end

section
/-! PROOF. The request queue (R98, R99, R107, R230). -/

namespace Sys2Proof.Machine

variable {d e y : Device} {s n a size got : Nat} {x : State} {i : Fin 16} {k : Instr} {is : List QItem}

/-! ## Commands of the player that change streams and open rows alone -/

/-- `e` is `d` but for the streams and the rows that reads have left open (R218). -/
def OnlyPlayer (d e : Device) : Prop := e = { d with str := e.str, rows := e.rows }

theorem OnlyPlayer.refl (d : Device) : OnlyPlayer d d := rfl

theorem OnlyPlayer.modStr (h : OnlyPlayer d e) (j : Nat) (f : StrCtx → StrCtx) : OnlyPlayer d (e.modStr j f) :=
  (congrArg (fun x : Device => x.modStr j f) h :)

theorem OnlyPlayer.setEng (h : OnlyPlayer d e) (j : Nat) (g : Eng) : OnlyPlayer d (e.setEng j g) := h.modStr j fun c => { c with eng := g }

theorem OnlyPlayer.touchRow (h : OnlyPlayer d e) (b : Nat) : OnlyPlayer d (e.touchRow b) := (congrArg (fun x : Device => { x with rows := (e.touchRow b).rows }) h :)

theorem OnlyPlayer.touchRows (h : OnlyPlayer d e) (b m : Nat) : OnlyPlayer d (e.touchRows b m) :=
  foldl_keep (OnlyPlayer d) _ (fun _ _ hx => hx.touchRow _) _ _ h

theorem OnlyPlayer.engRoom (h : OnlyPlayer d e) (j : Nat) : OnlyPlayer d (e.engRoom j) := by
  unfold Device.engRoom
  split
  · exact h.modStr j _
  · exact h

theorem OnlyPlayer.spend (h : OnlyPlayer d e) (j m : Nat) : OnlyPlayer d (e.spend j m) := by
  unfold Device.spend
  exact h.modStr j _

theorem OnlyPlayer.fetchReady (h : OnlyPlayer d e) (j m : Nat) (cache : Bool) : OnlyPlayer d (e.fetchReady j m cache) := by
  unfold Device.fetchReady Device.fetchRelease Device.setFetching
  exact ((h.modStr j _).modStr j _).modStr j _

/-- A command of the player that changes streams and open rows alone. -/
theorem Completes.of_onlyPlayer (f : Device → Device) (hx : exec k x = x.run f) (hf : f x.dev.fresh = y) (h : OnlyPlayer x.dev.fresh y) :
    Completes k x (fun e => (∀ j, e.strOf j = y.strOf j) ∧ e.regs = x.dev.regs ∧ MemSame x.dev e) :=
  Completes.of_run f hx hf ⟨(congrArg Device.ttime h :), (congrArg Device.ivmq h :), (congrArg (·.disp.bad) h :)⟩
    ⟨y.settle_strOf, y.settle_regs.trans (congrArg Device.regs h :), MemSame.settle (congrArg Device.mem h :)⟩

/-! ## A fetch begins (R98, R99) -/

/-- The first request of stream `s` that waits is a play of span `n`, whose descriptor can be read; no jump and no loop cache has to do with it. -/
structure Begins (d : Device) (s n a : Nat) : Prop where
  waiting : (d.strOf s).queue.find? QItem.waits = some (.play n a .waiting)
  noJump : (d.strOf s).jumpBuf = none
  cacheOff : d.bit (Reg.STR_CTRL s) 4 = false
  low : d.winUE (spanWord n 0) = false
  high : d.winUE (spanWord n 2) = false

/-- The bytes that a jump's prefetch has brought are taken over. -/
def Device.unjumped (d : Device) (s : Nat) : Device := d.modStr s (fun c => { c with jumpBuf := none })

theorem Begins.strOf_unjumped (h : Begins d s n a) (j : Nat) : (d.unjumped s).strOf j = d.strOf j := by
  by_cases hj : j = s
  · rw [hj, Device.unjumped, Device.strOf_modStr, ← h.noJump]
  · exact Device.strOf_modStr_other _ _ hj

theorem updFirst_setFetch {q : List QItem} (h : q.find? QItem.waits = some (.play n a .waiting)) (f : Fetch) :
    updFirst QItem.waits (fun i => i.setFetch f) q = updFirst QItem.waits (fun _ => .play n a f) q := by
  induction q with
  | nil => rfl
  | cons i q ih =>
    unfold updFirst
    cases hw : i.waits with
    | true =>
      rw [List.find?_cons_of_pos hw] at h
      rw [if_pos rfl, if_pos rfl, Option.some.inj h, QItem.setFetch]
    | false => rw [if_neg nofun, if_neg nofun, ih (by rwa [List.find?_cons_of_neg (by simp [hw])] at h)]

theorem Begins.strOf_setWaiting (h : Begins d s n a) (f : Fetch) : ((d.unjumped s).setWaiting s f).strOf s =
    { d.strOf s with queue := updFirst QItem.waits (fun _ => .play n a f) (d.strOf s).queue } := by
  rw [Device.setWaiting, Device.strOf_modStr, h.strOf_unjumped, updFirst_setFetch h.waiting]

/-- What a fetch that may begin does. -/
theorem Begins.fetchBegin (h : Begins d s n a) (hissued : d.readsIssued s = true) : d.fetchBegin s false =
    if d.spanReady n = false then d.unjumped s
    else if d.spanOk s n = false then (d.unjumped s).setWaiting s (.bad 0x05)
    else
      let size := d.spanSize64 n * 64
      let e := ((d.unjumped s).setWaiting s (.fetching size 0 false)).modStr s (fun c =>
        { c with actSpans := if c.actSpans.contains n then c.actSpans else c.actSpans ++ [n] })
      if 0 = size then e.fetchReady s n false else e := by
  obtain ⟨hwaiting, hjump, hcache, hlow, hhigh⟩ := h
  have hun : d.modStr s (fun c => { c with jumpBuf := none }) = d.unjumped s := rfl
  have hlow' : (d.unjumped s).winUE (spanWord n 0) = false := hlow
  have hhigh' : (d.unjumped s).winUE (spanWord n 2) = false := hhigh
  have hready : (d.unjumped s).spanReady n = d.spanReady n := rfl
  have hok : (d.unjumped s).spanOk s n = d.spanOk s n := rfl
  have hsize : (d.unjumped s).spanSize64 n = d.spanSize64 n := rfl
  unfold Device.fetchBegin
  dsimp only
  rw [hwaiting]
  simp only [QItem.span?, QItem.isMatch, hcache, hjump, hissued, reduceCtorEq, if_false, Bool.or_false, Bool.false_and, Bool.false_eq_true, Bool.not_true]
  simp only [hun, hlow', hhigh', hready, hok, hsize]
  simp

theorem Begins.fetchBegin_unready (h : Begins d s n a) (hready : d.spanReady n = false) : d.fetchBegin s false = d ∨ d.fetchBegin s false = d.unjumped s := by
  by_cases hissued : d.readsIssued s = true
  · exact .inr ((h.fetchBegin hissued).trans (if_pos hready))
  · refine .inl ?_
    unfold Device.fetchBegin
    dsimp only
    rw [h.waiting]
    simp only [QItem.span?, QItem.isMatch, h.cacheOff, hissued, Bool.or_false, Bool.false_and, Bool.false_eq_true, Bool.not_false, if_true, if_false]

/-- What a request that begins to be fetched leaves of its stream. -/
theorem Begins.fetchBegin_starts (h : Begins d s n a) (hissued : d.readsIssued s = true) (hready : d.spanReady n = true) (hok : d.spanOk s n = true)
    (hsize : 0 < d.spanSize64 n) : OnlyPlayer d (d.fetchBegin s false) ∧
      ((d.fetchBegin s false).strOf s).queue = updFirst QItem.waits (fun _ => .play n a (.fetching (d.spanSize64 n * 64) 0 false)) (d.strOf s).queue ∧
      n ∈ ((d.fetchBegin s false).strOf s).actSpans := by
  rw [h.fetchBegin hissued, if_neg (by simp [hready]), if_neg (by simp [hok])]
  dsimp only
  rw [if_neg (by omega), Device.strOf_modStr, h.strOf_setWaiting]
  refine ⟨(((OnlyPlayer.refl d).modStr s _).modStr s _).modStr s _, rfl, ?_⟩
  dsimp only
  split
  · next hmem => simpa using hmem
  · exact List.mem_append_right _ (.head _)

/-! ## A fetch ends (R98, R230) -/

theorem Device.touchRows_eq (d : Device) (b m : Nat) : ∃ r, d.touchRows b m = { d with rows := r } := by
  refine foldl_keep (fun e => ∃ r, e = { d with rows := r }) _ ?_ _ _ ⟨d.rows, rfl⟩
  rintro e j ⟨r, rfl⟩
  exact ⟨_, rfl⟩

theorem Device.strOf_engRoom (d : Device) (s : Nat) : ∃ g, (d.engRoom s).strOf s = { d.strOf s with eng := g } := by
  unfold Device.engRoom
  split
  · exact ⟨.waitRoom, Device.strOf_modStr ..⟩
  · exact ⟨_, rfl⟩

theorem Device.strOf_fetchRelease (d : Device) (s n : Nat) : ∃ l, (d.fetchRelease s n).strOf s = { d.strOf s with actSpans := l } :=
  ⟨_, Device.strOf_modStr ..⟩

/-- The request at the front of the queue is a play that is being fetched; the last of its bytes may come. -/
structure Arrives (d : Device) (s n a size got : Nat) (is : List QItem) : Prop where
  late : (d.strOf s).late = []
  queue : (d.strOf s).queue = .play n a (.fetching size got false) :: is
  comes : d.fetchGot s size got false (2 ^ 36) = size
  clean : d.badWords (d.spanAddr n + got) (size - got) = []

/-- The device after the bytes have been read and paid for. -/
def Device.paid (d : Device) (s n size got : Nat) : Device := (d.touchRows (d.spanAddr n + got) (size - got)).spend s (size - got)

theorem Arrives.fetchDone (h : Arrives d s n a size got is) : d.fetchDone s = ((d.paid s n size got).fetchReady s n false).engRoom s := by
  obtain ⟨hlate, hqueue, hcomes, hclean⟩ := h
  have hfind : (d.strOf s).queue.find? QItem.fetches = some (.play n a (.fetching size got false)) := by
    rw [hqueue]
    exact List.find?_cons_of_pos rfl
  have hnotes : d.fetchNotes s n got size = d.touchRows (d.spanAddr n + got) (size - got) := by
    rw [Device.fetchNotes, hclean]
    rfl
  unfold Device.fetchDone Device.fetchArrive
  rw [hlate]
  dsimp only
  rw [hfind]
  dsimp only [QItem.span?, QItem.fetch?]
  rw [hcomes, if_pos rfl, hnotes, Device.paid]

/-- The credit of a stream depends on its context, its reserved bandwidth and the time (R230). -/
theorem Device.creditNow_congr (hstr : e.strOf s = d.strOf s) (hres : e.resOf s = d.resOf s) (htime : e.ttime = d.ttime) : e.creditNow s = d.creditNow s := by
  rw [Device.creditNow, Device.creditNow, hstr, hres, htime]

/-- A stream's context when the credit is `k` at time `t`. -/
def StrCtx.credited (c : StrCtx) (k t : Nat) : StrCtx := { c with credit := k, creditT := t }

theorem StrCtx.fetchBad_credited (c : StrCtx) (k t : Nat) : (c.credited k t).fetchBad = c.fetchBad := rfl

theorem StrCtx.queue_credited (c : StrCtx) (k t : Nat) : (c.credited k t).queue = c.queue := rfl

theorem Device.strOf_spend (d : Device) (s m : Nat) : (d.spend s m).strOf s = (d.strOf s).credited (d.creditNow s - m * creditByte) d.ttime :=
  Device.strOf_modStr ..

theorem Device.paid_spec (d : Device) (s n size got : Nat) : OnlyPlayer d (d.paid s n size got) ∧
    (d.paid s n size got).strOf s = (d.strOf s).credited (d.creditNow s - (size - got) * creditByte) d.ttime ∧
    (d.paid s n size got).fetchedBuf s n = d.fetchedBuf s n := by
  have hstr : (d.paid s n size got).strOf s = (d.strOf s).credited (d.creditNow s - (size - got) * creditByte) d.ttime := by
    obtain ⟨r, hr⟩ := d.touchRows_eq (d.spanAddr n + got) (size - got)
    rw [Device.paid, hr, Device.strOf_spend, Device.creditNow_congr (e := { d with rows := r }) (d := d) rfl rfl rfl]
    rfl
  have honly : OnlyPlayer d (d.paid s n size got) := ((OnlyPlayer.refl d).touchRows _ _).spend s _
  have hspan : (d.paid s n size got).spanBuf n = d.spanBuf n := (congrArg (Device.spanBuf · n) honly :)
  exact ⟨honly, hstr, by rw [Device.fetchedBuf, Device.fetchedBuf, hspan, hstr, StrCtx.fetchBad_credited]⟩

/-- What the end of its fetch leaves of a stream whose request at the front is a play. -/
theorem Device.strOf_fetchReady {g : Fetch} (hqueue : (d.strOf s).queue = .play n a g :: is) (hfetch : (QItem.play n a g).fetches = true) :
    ∃ l, (d.fetchReady s n false).strOf s = { d.strOf s with queue := .play n a (.ready (d.fetchedBuf s n)) :: is, fetchBad := [], actSpans := l } := by
  unfold Device.fetchReady
  obtain ⟨l, hl⟩ := Device.strOf_fetchRelease ((d.setFetching s (.ready (d.fetchedBuf s n))).modStr s (fun c => { c with fetchBad := [], lc := c.lc })) s n
  refine ⟨l, ?_⟩
  simp only [Bool.false_and, Bool.false_eq_true, if_false]
  rw [hl, Device.strOf_modStr, Device.setFetching, Device.strOf_modStr, hqueue, updFirst, if_pos hfetch, QItem.setFetch]

theorem Arrives.done (h : Arrives d s n a size got is) : OnlyPlayer d (d.fetchDone s) ∧
    ((d.fetchDone s).strOf s).queue = .play n a (.ready (d.fetchedBuf s n)) :: is ∧ ((d.fetchDone s).strOf s).fetchBad = [] ∧
    ((d.fetchDone s).strOf s).credit = d.creditNow s - (size - got) * creditByte := by
  obtain ⟨honly, hstr, hbuf⟩ := d.paid_spec s n size got
  have hqueue : ((d.paid s n size got).strOf s).queue = .play n a (.fetching size got false) :: is := by
    rw [hstr, StrCtx.queue_credited, h.queue]
  obtain ⟨g, hg⟩ := ((d.paid s n size got).fetchReady s n false).strOf_engRoom s
  obtain ⟨l, hl⟩ := Device.strOf_fetchReady hqueue rfl
  rw [h.fetchDone, hg, hl, hstr, hbuf]
  exact ⟨(honly.fetchReady s n false).engRoom s, rfl, rfl, rfl⟩

/-! ## The micro-engine goes on (R98) -/

theorem Device.engResume_free (heng : (d.strOf s).eng = .waitRoom) (hroom : d.noRoom s = false) (hheld : (d.strOf s).held = none) : d.engResume s = d.engOn s := by
  rw [Device.engResume, if_pos ⟨heng, by simp [hroom]⟩, hheld]

theorem Device.engResume_owed {span m : Nat} (heng : (d.strOf s).eng = .waitRoom) (hroom : d.noRoom s = false) (hheld : (d.strOf s).held = some (span, m, a)) :
    d.engResume s = ((d.engOn s).enqPlays s span m a).engRoom s := by
  rw [Device.engResume, if_pos ⟨heng, by simp [hroom]⟩, hheld]

theorem Device.engOn_idle (hmicro : (d.strOf s).micro.active = false) : d.engOn s = d.setEng s .running :=
  congrArg (d.setEng s) (if_neg (by rw [hmicro]; decide))

/-- The engine has room for all the plays that it owes. -/
theorem Device.engResume_fits {span m : Nat} (hs : s < 16) (heng : (d.strOf s).eng = .waitRoom) (hheld : (d.strOf s).held = some (span, m, a))
    (hbytes : d.bufBytes s < bufSize) (hfit : requests (d.strOf s).queue + m < 64) (hmicro : (d.strOf s).micro.active = false) :
    OnlyPlayer d (d.engResume s) ∧ (d.engResume s).strOf s =
      { d.strOf s with queue := (d.strOf s).queue ++ List.replicate m (.play span a .waiting), held := none, eng := .running } := by
  have hroom : d.noRoom s = false := Bool.or_eq_false_iff.mpr ⟨decide_eq_false (by omega), decide_eq_false (Nat.not_le.mpr hbytes)⟩
  have hon := (((StreamTo.refl d s).setEng .running).enqPlays span m a).engRoom_played hs nofun rfl hroom rfl
  rw [Device.engResume_owed heng hroom hheld, Device.engOn_idle hmicro]
  exact ⟨(((OnlyPlayer.refl d).setEng s _).modStr s _).engRoom s, hon.1.trans (StrCtx.played_fits (c := { d.strOf s with eng := .running }) rfl hfit)⟩

/-- Settles O25: each command changes the context of its stream alone, at the first request that waits or at the front of the queue. -/
theorem spanRequests : Obligations.SpanRequests := by
  unfold Obligations.SpanRequests
  refine ⟨?_, ?_, ?_, ?_⟩
  · rintro s i _ n a rfl hwaiting hjump hcache hlow hhigh
    have h : Begins s.dev.fresh i.val n a := ⟨hwaiting, hjump, hcache, hlow, hhigh⟩
    refine ⟨fun hready => ?_, fun hissued hready hok => ?_, fun hissued hready hok hsize => ?_⟩
    · have hkeep : OnlyPlayer s.dev.fresh (s.dev.fresh.fetchBegin i.val false) ∧ ∀ j, (s.dev.fresh.fetchBegin i.val false).strOf j = s.dev.strOf j := by
        rcases h.fetchBegin_unready hready with heq | heq
        · rw [heq]
          exact ⟨.refl _, fun _ => rfl⟩
        · rw [heq]
          exact ⟨(OnlyPlayer.refl _).modStr _ _, h.strOf_unjumped⟩
      have hdone (k : Instr) (hx : exec k s = s.run (fun d => d.fetchBegin i.val false)) :
          Completes k s (fun e => (∀ j, e.strOf j = s.dev.strOf j) ∧ e.regs = s.dev.regs ∧ MemSame s.dev e) :=
        (Completes.of_onlyPlayer _ hx rfl hkeep.1).mono fun e ⟨hstr, hrest⟩ => ⟨fun j => (hstr j).trans (hkeep.2 j), hrest⟩
      exact ⟨hdone _ rfl, hdone _ rfl⟩
    · have hbad : s.dev.fresh.fetchBegin i.val false = (s.dev.fresh.unjumped i.val).setWaiting i.val (.bad 0x05) := by
        rw [h.fetchBegin hissued, if_neg (by rw [show s.dev.fresh.spanReady n = true from hready]; decide)]
        exact if_pos hok
      have hdone (k : Instr) (hx : exec k s = s.run (fun d => d.fetchBegin i.val false)) : Completes k s (fun e =>
          e.strOf i.val = { s.dev.strOf i.val with queue := updFirst QItem.waits (fun _ => .play n a (.bad 0x05)) (s.dev.strOf i.val).queue } ∧
          e.regs = s.dev.regs ∧ MemSame s.dev e) :=
        (Completes.of_onlyPlayer _ hx hbad (((OnlyPlayer.refl _).modStr _ _).modStr _ _)).mono fun e ⟨hstr, hrest⟩ =>
          ⟨(hstr _).trans (h.strOf_setWaiting _), hrest⟩
      exact ⟨hdone _ rfl, hdone _ rfl⟩
    · obtain ⟨honly, hqueue, hactive⟩ := h.fetchBegin_starts hissued hready hok hsize
      have hdone (k : Instr) (hx : exec k s = s.run (fun d => d.fetchBegin i.val false)) : Completes k s (fun e =>
          (e.strOf i.val).queue = updFirst QItem.waits (fun _ => .play n a (.fetching (s.dev.spanSize64 n * 64) 0 false)) (s.dev.strOf i.val).queue ∧
          n ∈ (e.strOf i.val).actSpans ∧ e.regs = s.dev.regs ∧ MemSame s.dev e) :=
        (Completes.of_onlyPlayer _ hx rfl honly).mono fun e ⟨hstr, hrest⟩ => by
          rw [hstr]
          exact ⟨hqueue, hactive, hrest⟩
      exact ⟨hdone _ rfl, hdone _ rfl⟩
  · rintro s i _ n a size got is rfl hlate hqueue hcomes hclean
    obtain ⟨honly, hdone, hbad, hcredit⟩ := Arrives.done (d := s.dev.fresh) ⟨hlate, hqueue, hcomes, hclean⟩
    rw [Device.creditNow_congr (e := s.dev.fresh) (d := s.dev) rfl rfl rfl] at hcredit
    refine (Completes.of_onlyPlayer (fun d => d.fetchDone i.val) rfl rfl honly).mono fun e ⟨hstr, hrest⟩ => ?_
    rw [hstr]
    exact ⟨hdone, hbad, hcredit, hrest⟩
  · rintro s i _ rfl heng hroom hheld
    have hon : s.dev.fresh.engResume i.val = s.dev.fresh.engOn i.val := Device.engResume_free heng hroom hheld
    have honly : OnlyPlayer s.dev.fresh (s.dev.fresh.engOn i.val) := (OnlyPlayer.refl s.dev.fresh).setEng i.val _
    exact (Completes.of_onlyPlayer (fun d => d.engResume i.val) rfl hon honly).mono fun e ⟨hstr, hrest⟩ => ⟨(hstr _).trans (Device.strOf_modStr ..), hrest⟩
  · rintro s i _ span n a rfl heng hheld hbytes hfit hmicro
    obtain ⟨honly, hctx⟩ := Device.engResume_fits (d := s.dev.fresh) i.isLt heng hheld hbytes hfit hmicro
    exact (Completes.of_onlyPlayer (fun d => d.engResume i.val) rfl rfl honly).mono fun e ⟨hstr, hrest⟩ => ⟨(hstr _).trans hctx, hrest⟩

end Sys2Proof.Machine
end

section
/-! SUPPORT. Commands that pass no time, write no vector memory, and change registers and streams alone. -/

namespace Sys2Proof.Machine

variable {d e x y : Device} {S T : Nat → Prop} {k : Instr} {s : State}

/-- Between `d` and `e` nothing has happened that time could bring on, and vector memory is as it was. -/
structure Calm (d e : Device) : Prop where
  still : d.Still e
  mem : e.mem = d.mem

namespace Calm

theorem refl (d : Device) : Calm d d := ⟨⟨rfl, rfl, rfl⟩, rfl⟩

/-- Operations that leave time, meters, descriptors and vector memory alone. -/
theorem other (h : Calm d e) (hx : (x.ttime, x.ivmq, x.disp.bad, x.mem) = (e.ttime, e.ivmq, e.disp.bad, e.mem)) : Calm d x := by
  simp only [Prod.mk.injEq] at hx
  obtain ⟨htime, hmeters, hbad, hmem⟩ := hx
  exact ⟨⟨htime.trans h.still.time, hmeters.trans h.still.meters, hbad.trans h.still.descriptors⟩, hmem.trans h.mem⟩

theorem trans (h : Calm d e) (hx : Calm e x) : Calm d x := by
  obtain ⟨⟨htime, hmeters, hbad⟩, hmem⟩ := hx
  exact h.other (by rw [htime, hmeters, hbad, hmem])

theorem ite {c : Prop} [Decidable c] (hx : Calm d x) (hy : Calm d y) : Calm d (if c then x else y) := by
  split
  · exact hx
  · exact hy

theorem foldl {α : Type} {f : Device → α → Device} {l : List α} (h : Calm d e) (hf : ∀ {x c}, Calm d x → Calm d (f x c)) : Calm d (l.foldl f e) :=
  foldl_keep (Calm d) f (fun _ _ hx => hf hx) l e h

theorem recordAt {t ty sev src code p0 p1 p2 : Nat} (h : Calm d e) : Calm d (e.recordAt t ty sev src code p0 p1 p2) := by
  unfold Device.recordAt
  exact ite (h.other rfl) (h.other rfl)

theorem memUEfree {a o str : Nat} (h : Calm d e) : Calm d (e.memUEfree a o str) := by
  unfold Device.memUEfree Device.memUEat Device.record
  exact recordAt (h.other rfl)

theorem touchRows {a n : Nat} (h : Calm d e) : Calm d (e.touchRows a n) := h.foldl (·.other rfl)

theorem fetchNotes {n m lo hi : Nat} (h : Calm d e) : Calm d (e.fetchNotes n m lo hi) := h.touchRows.foldl (·.memUEfree)

theorem spend {n m : Nat} (h : Calm d e) : Calm d (e.spend n m) := by
  unfold Device.spend
  exact h.other rfl

theorem setReg {a : Nat} {v : Word} (h : Calm d e) : Calm d (e.setReg a v) := h.other rfl

theorem engRoom {n : Nat} (h : Calm d e) : Calm d (e.engRoom n) := ite (h.other rfl) h

end Calm

theorem Calm.of_fresh (h : Calm d.fresh e) : Calm d e := ⟨⟨h.still.time, h.still.meters, h.still.descriptors⟩, h.mem⟩

/-- A calm operation decides what its command does. -/
theorem Completes.of_calm {P : Device → Prop} (f : Device → Device) (hx : exec k s = s.run f) (hf : f s.dev.fresh = y) (h : Calm s.dev y) (hP : P y.settle) :
    Completes k s (fun e => P e ∧ MemSame s.dev e) :=
  Completes.of_run f hx hf h.still ⟨hP, .settle h.mem⟩

/-- `e` is `d` but for the streams, the registers in `S` and the answer to the last access. -/
structure PlayerBut (S : Nat → Prop) (d e : Device) : Prop where
  regs : RegsBut S d e
  frame : e = { d with regs := e.regs, str := e.str, last := e.last }

namespace PlayerBut

theorem refl (S : Nat → Prop) (d : Device) : PlayerBut S d d := ⟨fun _ _ => rfl, rfl⟩

theorem trans (h : PlayerBut S d e) (hx : PlayerBut S e x) : PlayerBut S d x where
  regs a ha := (hx.regs a ha).trans (h.regs a ha)
  frame := hx.frame.trans (congrArg (fun y : Device => { y with regs := x.regs, str := x.str, last := x.last }) h.frame :)

theorem setReg {a : Nat} (h : PlayerBut S d e) (v : Word) (ha : S a) : PlayerBut S d (e.setReg a v) where
  regs b hb := (RegsBut.setReg e a v b fun heq => hb (heq ▸ ha)).trans (h.regs b hb)
  frame := (congrArg (fun x : Device => x.setReg a v) h.frame :)

theorem setBit {a n : Nat} {b : Bool} (h : PlayerBut S d e) (ha : S a) : PlayerBut S d (e.setBit a n b) := h.setReg _ ha

theorem modStr (h : PlayerBut S d e) (j : Nat) (f : StrCtx → StrCtx) : PlayerBut S d (e.modStr j f) where
  regs := h.regs
  frame := (congrArg (fun x : Device => x.modStr j f) h.frame :)

theorem accessDone (h : PlayerBut S d e) : PlayerBut S d e.accessDone where
  regs := h.regs
  frame := (congrArg Device.accessDone h.frame :)

theorem calm (h : PlayerBut S d e) : Calm d e :=
  ⟨⟨(congrArg Device.ttime h.frame :), (congrArg Device.ivmq h.frame :), (congrArg (·.disp.bad) h.frame :)⟩, (congrArg Device.mem h.frame :)⟩

end PlayerBut

theorem PlayerBut.of_fresh (h : PlayerBut S d.fresh e) : RegsBut S d e ∧ Calm d e := ⟨h.regs, h.calm.of_fresh⟩

/-- A command that changes streams and registers in `S` alone. -/
theorem Completes.of_playerBut (f : Device → Device) (hx : exec k s = s.run f) (hf : f s.dev.fresh = y) (h : PlayerBut S s.dev.fresh y) :
    Completes k s (fun e => ((∀ j, e.strOf j = y.strOf j) ∧ e.regs = y.regs ∧ RegsBut S s.dev e) ∧ MemSame s.dev e) :=
  Completes.of_calm f hx hf h.calm.of_fresh ⟨y.settle_strOf, y.settle_regs, RegsBut.settle h.regs⟩

/-- A write of a register that changes streams and registers in `S` alone. -/
theorem Completes.of_write {q : Requester} {a : Nat} {v : Word} (hx : exec k s = s.run (fun d => d.cmdWrite q a v))
    (hw : s.dev.fresh.cmdWrite q a v = y.accessDone) (h : PlayerBut S s.dev.fresh y) :
    Completes k s (fun e => ((∀ j, e.strOf j = y.strOf j) ∧ e.regs = y.regs ∧ RegsBut S s.dev e) ∧ MemSame s.dev e) :=
  Completes.of_playerBut (y := y.accessDone) _ hx hw h.accessDone

end Sys2Proof.Machine
end

section
/-! PROOF. Stops, jumps and flags (R110, R114, R115, R121, R125). -/

namespace Sys2Proof.Machine

variable {d e y : Device} {i : Nat} {x : State} {j : Fin 16} {q : Requester}

/-! ## STR_CMD (R115, R121) -/

/-- STOP of a stream that runs (R121). -/
theorem Device.strStop_running {mode : Nat} (h : d.strState i = 3) : d.strStop i mode = (d.modStr i (fun c => { c with stop := mode })).setStrState i 5 := by
  unfold Device.strStop
  rw [h]
  rfl

theorem Device.strCmd_stop {v mode : Nat} (hv : v = 16 * mode) (hmode : mode = 1 ∨ mode = 2) : d.strCmd i v = d.strStop i mode := by
  rcases hmode with rfl | rfl
  · subst hv
    rfl
  · subst hv
    rfl

theorem Device.strCmd_jump : d.strCmd i 0x100 = d.jumpRequest i d.ttime := rfl

/-- A stop of a stream that runs is a change of its STATE and of its context (R121). -/
theorem strStop_completes {k : Instr} {v : Word} {mode : Nat} (hx : exec k x = x.run (fun d => d.cmdWrite q (Reg.STR_CMD j.val) v))
    (h : x.dev.admitsWrite q (Reg.STR_CMD j.val) = true) (hstate : x.dev.strState j.val = 3) (hmode : mode = 1 ∨ mode = 2) (hv : v = BitVec.ofNat 32 (16 * mode)) :
    Completes k x (fun e => e.strState j.val = 5 ∧ e.strOf j.val = { x.dev.strOf j.val with stop := mode } ∧ RegsBut (· = Reg.STR_STATUS j.val) x.dev e ∧
      MemSame x.dev e) := by
  have hvalue : v.toNat &&& 0x13F = 16 * mode ∧ popCount ((v &&& 0x13F#32).get 0 3) 3 ≤ 1 ∧ (v &&& 0x13F#32).get 4 2 ≠ 3 := by
    rcases hmode with rfl | rfl
    · subst hv
      decide
    · subst hv
      decide
  obtain ⟨hand, hok⟩ := hvalue
  have hw : x.dev.fresh.cmdWrite q (Reg.STR_CMD j.val) v = (x.dev.fresh.strCmd j.val (v.toNat &&& 0x13F)).accessDone :=
    Device.write_STR_CMD (d := x.dev.fresh) v j.isLt hok h
  rw [Device.strCmd_stop hand hmode, Device.strStop_running (d := x.dev.fresh) hstate] at hw
  refine (Completes.of_write (S := (· = Reg.STR_STATUS j.val)) hx hw (((PlayerBut.refl _ _).modStr _ _).setReg _ rfl)).mono
    fun e ⟨⟨hstr, hregs, hbut⟩, hmem⟩ => ⟨?_, (hstr _).trans (Device.strOf_modStr x.dev.fresh j.val fun c => { c with stop := mode }), hbut, hmem⟩
  rw [Device.strState_congr hregs]
  exact Device.strState_setStrState _ _ (by decide)

/-- A jump is asked for, which the player issues 20 ns on (R115). -/
def Device.jumpAsked (d : Device) (i : Nat) : Device :=
  d.modStr i (fun c => { c with jumpReq := some (min (d.ttime + 20 * nsTicks) (c.jumpReq.getD (d.ttime + 20 * nsTicks))) })

theorem Device.strOf_jumpAsked (d : Device) (i : Nat) : (d.jumpAsked i).strOf i =
    { d.strOf i with jumpReq := some (min (d.ttime + 20 * nsTicks) ((d.strOf i).jumpReq.getD (d.ttime + 20 * nsTicks))) } := Device.strOf_modStr ..

theorem Device.jumpRequest_ready (hready : d.bit (Reg.STR_STATUS i) 5 = true) (hplays : d.playing i = true) :
    d.jumpRequest i d.ttime = (d.jumpAsked i).gapJump i := by
  simp only [Device.jumpRequest, hready, hplays, Bool.not_true, Bool.false_eq_true, if_false]
  rfl

theorem Device.jumpRequest_refused (hready : d.bit (Reg.STR_STATUS i) 5 = false) (t : Nat) : d.jumpRequest i t = d.event (Page.STR i) 7 :=
  if_pos (by rw [hready]; rfl)

theorem Device.gapJump_outside (h : (d.strOf i).gap = .none) : d.gapJump i = d := by
  unfold Device.gapJump
  split
  · rw [Device.inGap, h, Bool.and_false, if_neg nofun]
  · rfl

theorem Device.gapJump_inside {r t : Nat} (hreq : (d.strOf i).jumpReq = some r) (hplays : d.playing i = true) (hgap : (d.strOf i).gap = .till t) (hlt : r < t) :
    d.gapJump i = (d.takeJump i).enterGap i (.till (roundUp (r + 80 * nsTicks) gridTicks)) := by
  have hin : d.inGap i r = true := by
    rw [Device.inGap, hgap]
    exact decide_eq_true hlt
  unfold Device.gapJump
  rw [hreq]
  exact if_pos (by rw [hplays, hin]; rfl)

/-- The context of a stream whose jump is taken: `mask` is the active-site mask in play, `keep` says which of the bad words belong to the bytes prefetched
(R115). -/
def StrCtx.jumpTaken (mask : Nat) (keep : Nat → Bool) (c : StrCtx) : StrCtx :=
  { c with fetchBad := c.fetchBad.filter keep, queue := [], held := none, calls := [], loops := [], actSpans := [], lc := none, pos := none, mtch := none,
           late := [], jumpBuf := c.jump, jump := none, jumpReq := none, jumped := true, eng := .running, mask := mask,
           micro := { c.micro with active := false } }

/-- The registers that say a jump is armed and ready. -/
def Device.jumpDone (d : Device) (i : Nat) : Device := ((d.setBit (Reg.STR_JUMP i) 31 false).setBit (Reg.STR_STATUS i) 5 false).setBit (Reg.STR_STATUS i) 8 false

theorem Device.takeJump_eq (d : Device) (i : Nat) : ∃ mask keep, d.takeJump i =
    ((d.jumpDone i).modStr i (StrCtx.jumpTaken mask keep)).setPc i (d.fld (Reg.STR_JUMP i) 0 18) := ⟨_, _, rfl⟩

theorem Device.bits_jumpDone (d : Device) (i : Nat) : (d.jumpDone i).bit (Reg.STR_JUMP i) 31 = false ∧ (d.jumpDone i).bit (Reg.STR_STATUS i) 5 = false := by
  unfold Device.jumpDone
  have hne : Reg.STR_JUMP i ≠ Reg.STR_STATUS i := by simp [Reg.STR_JUMP, Reg.STR_STATUS]
  refine ⟨?_, ?_⟩
  · rw [Device.bit_eq, Device.setBit_eq, RegsBut.setReg _ _ _ _ hne, Device.setBit_eq, RegsBut.setReg _ _ _ _ hne, ← Device.bit_eq,
      Device.bit_setBit _ _ _ (by decide), if_pos rfl]
  · rw [Device.bit_setBit _ _ _ (by decide), if_neg (by decide), Device.bit_setBit _ _ _ (by decide), if_pos rfl]

theorem Device.strState_jumpDone (d : Device) (i : Nat) : (d.jumpDone i).strState i = d.strState i := by
  have hne : Reg.STR_STATUS i ≠ Reg.STR_JUMP i := by simp [Reg.STR_JUMP, Reg.STR_STATUS]
  unfold Device.jumpDone Device.strState
  simp only [Device.setBit_eq, Device.fld_eq, Device.reg_setReg_same]
  rw [Word.get_putBit_other _ _ (by omega), Word.get_putBit_other _ _ (by omega), RegsBut.setReg _ _ _ _ hne]

/-- The registers of a jump that is taken (R115). -/
abbrev JumpRegs (i a : Nat) : Prop := a = Reg.STR_JUMP i ∨ a = Reg.STR_STATUS i ∨ a = Reg.STR_PC i

/-- The state of the stream and of its jump after the jump was taken in a gap that lasts until `t` (R115). -/
theorem Device.jumped_spec (d : Device) {i t : Nat} (hstate : d.strState i = 4) : PlayerBut (JumpRegs i) d ((d.takeJump i).enterGap i (.till t)) ∧
    ((d.takeJump i).enterGap i (.till t)).strPc i = d.fld (Reg.STR_JUMP i) 0 18 ∧ ((d.takeJump i).enterGap i (.till t)).bit (Reg.STR_JUMP i) 31 = false ∧
    ((d.takeJump i).enterGap i (.till t)).bit (Reg.STR_STATUS i) 5 = false ∧
    ∃ c, ((d.takeJump i).enterGap i (.till t)).strOf i = c ∧ c.queue = [] ∧ c.calls = [] ∧ c.loops = [] ∧ c.gap = .till t := by
  obtain ⟨mask, keep, hjump⟩ := d.takeJump_eq i
  have hbut : PlayerBut (JumpRegs i) d (d.takeJump i) := by
    rw [hjump]
    exact (((((PlayerBut.refl _ d).setReg _ (.inl rfl)).setReg _ (.inr (.inl rfl))).setReg _ (.inr (.inl rfl))).modStr i _).setReg _ (.inr (.inr rfl))
  have hne : Reg.STR_STATUS i ≠ Reg.STR_PC i := by simp [Reg.STR_STATUS, Reg.STR_PC]
  have hne' : Reg.STR_JUMP i ≠ Reg.STR_PC i := by simp [Reg.STR_JUMP, Reg.STR_PC]
  have hreg (a : Nat) (ha : a ≠ Reg.STR_PC i) : (d.takeJump i).reg a = (d.jumpDone i).reg a := by
    rw [hjump]
    exact RegsBut.setReg _ _ _ a ha
  have hstays : (d.takeJump i).strState i = 4 := by
    rw [← hstate, Device.strState, Device.fld_eq, hreg _ hne]
    exact d.strState_jumpDone i
  have hgap : (d.takeJump i).enterGap i (.till t) = (d.takeJump i).modStr i (fun c => { c with gap := .till t, sFrac := 0, mark := 0 }) :=
    if_neg (by rw [show ((d.takeJump i).modStr i _).strState i = 4 from hstays]; decide)
  obtain ⟨harm, hready⟩ := d.bits_jumpDone i
  rw [hgap]
  refine ⟨hbut.modStr i _, ?_, (congrArg (Word.bit · 31) (hreg _ hne')).trans harm, (congrArg (Word.bit · 5) (hreg _ hne)).trans hready,
    _, Device.strOf_modStr .., ?_⟩
  · have hpc : (d.takeJump i).strPc i = d.fld (Reg.STR_JUMP i) 0 18 % seqSize := by
      rw [hjump]
      exact Device.strPc_setPc ..
    exact hpc.trans (Nat.mod_eq_of_lt (((d.reg (Reg.STR_JUMP i)).extractLsb' 0 18).isLt))
  · rw [hjump]
    rw [show (((d.jumpDone i).modStr i (StrCtx.jumpTaken mask keep)).setPc i (d.fld (Reg.STR_JUMP i) 0 18)).strOf i = _ from Device.strOf_modStr ..]
    exact ⟨rfl, rfl, rfl, rfl⟩

theorem jumpRequestWrite (h : x.dev.admitsWrite q (Reg.STR_CMD j.val) = true) :
    x.dev.fresh.cmdWrite q (Reg.STR_CMD j.val) 0x100 = (x.dev.fresh.jumpRequest j.val x.dev.fresh.ttime).accessDone :=
  Device.write_STR_CMD (d := x.dev.fresh) 0x100 j.isLt (by decide) h

/-- A jump request outside a gap waits for the end of the cycle that is issued then (R115). -/
theorem strJumpRequest_waits (h : x.dev.admitsWrite q (Reg.STR_CMD j.val) = true) (hready : x.dev.bit (Reg.STR_STATUS j.val) 5 = true)
    (hplays : x.dev.playing j.val = true) (hgap : (x.dev.strOf j.val).gap = .none) :
    Completes (.strJumpRequest q j) x (fun e => e.strOf j.val = (x.dev.jumpAsked j.val).strOf j.val ∧ e.regs = x.dev.regs ∧ MemSame x.dev e) := by
  have hw := jumpRequestWrite h
  have houtside : ((x.dev.fresh.jumpAsked j.val).strOf j.val).gap = .none := by
    rw [Device.strOf_jumpAsked]
    exact hgap
  rw [Device.jumpRequest_ready (d := x.dev.fresh) hready hplays, Device.gapJump_outside houtside] at hw
  exact (Completes.of_write rfl hw ((PlayerBut.refl (fun _ => False) x.dev.fresh).modStr j.val _)).mono
    fun e ⟨⟨hstr, hregs, _⟩, hmem⟩ => ⟨hstr _, hregs, hmem⟩

/-- A jump request in a gap is taken there (R115). -/
theorem strJumpRequest_jumps {t : Nat} (h : x.dev.admitsWrite q (Reg.STR_CMD j.val) = true) (hready : x.dev.bit (Reg.STR_STATUS j.val) 5 = true)
    (hstate : x.dev.strState j.val = 4) (hgap : (x.dev.strOf j.val).gap = .till t) (hreq : (x.dev.strOf j.val).jumpReq = none)
    (hlt : x.dev.ttime + 20 * nsTicks < t) :
    Completes (.strJumpRequest q j) x (fun e => e.strPc j.val = x.dev.fld (Reg.STR_JUMP j.val) 0 18 ∧ e.bit (Reg.STR_JUMP j.val) 31 = false ∧
      e.bit (Reg.STR_STATUS j.val) 5 = false ∧ (∃ c, e.strOf j.val = c ∧ c.queue = [] ∧ c.calls = [] ∧ c.loops = [] ∧
        c.gap = .till (roundUp (x.dev.ttime + 20 * nsTicks + 80 * nsTicks) gridTicks)) ∧ MemSame x.dev e) := by
  have hw := jumpRequestWrite h
  have hplays : x.dev.fresh.playing j.val = true := by
    simp [Device.playing, show x.dev.fresh.strState j.val = 4 from hstate]
  have hasked : ((x.dev.fresh.jumpAsked j.val).strOf j.val).jumpReq = some (x.dev.ttime + 20 * nsTicks) := by
    rw [Device.strOf_jumpAsked, show (x.dev.fresh.strOf j.val).jumpReq = none from hreq, Option.getD_none, Nat.min_self]
    rfl
  have hinside : ((x.dev.fresh.jumpAsked j.val).strOf j.val).gap = .till t := by
    rw [Device.strOf_jumpAsked]
    exact hgap
  rw [Device.jumpRequest_ready (d := x.dev.fresh) hready hplays, Device.gapJump_inside hasked hplays hinside hlt] at hw
  obtain ⟨hbut, hpc, harm, hstat, c, hctx, hc⟩ := (x.dev.fresh.jumpAsked j.val).jumped_spec (t := roundUp (x.dev.ttime + 20 * nsTicks + 80 * nsTicks) gridTicks) hstate
  refine (Completes.of_write (S := JumpRegs j.val) rfl hw (((PlayerBut.refl _ x.dev.fresh).modStr j.val _).trans hbut)).mono
    fun e ⟨⟨hstr, hregs, _⟩, hmem⟩ => ⟨?_, ?_, ?_, ⟨c, (hstr _).trans hctx, hc⟩, hmem⟩
  · exact (congrArg (Word.get · 0 18) (Device.reg_congr hregs _)).trans hpc
  · exact (congrArg (Word.bit · 31) (Device.reg_congr hregs _)).trans harm
  · exact (congrArg (Word.bit · 5) (Device.reg_congr hregs _)).trans hstat

/-- A jump request is refused while the jump is not ready (R115). -/
theorem strJumpRequest_refused (h : x.dev.admitsWrite q (Reg.STR_CMD j.val) = true) (hready : x.dev.bit (Reg.STR_STATUS j.val) 5 = false) :
    Completes (.strJumpRequest q j) x (fun e => e.bit (Reg.PG_EVT_RAW (Page.STR j.val)) 7 = true ∧ e.strOf j.val = x.dev.strOf j.val ∧
      RegsBut (· = Reg.PG_EVT_RAW (Page.STR j.val)) x.dev e ∧ MemSame x.dev e) := by
  have hw := jumpRequestWrite h
  rw [Device.jumpRequest_refused (d := x.dev.fresh) hready] at hw
  refine (Completes.of_write (S := (· = Reg.PG_EVT_RAW (Page.STR j.val))) rfl hw ((PlayerBut.refl _ x.dev.fresh).setReg _ rfl)).mono
    fun e ⟨⟨hstr, hregs, hbut⟩, hmem⟩ => ⟨?_, hstr _, hbut, hmem⟩
  exact (congrArg (Word.bit · 7) (Device.reg_congr hregs _)).trans (x.dev.fresh.bit_event (Page.STR j.val) (by decide))

/-! ## STR_JUMP (R114) -/

/-- The PLAY at an address whose condition is always true plays its span (R114). -/
theorem Device.jumpSpan_play {a : Nat} (hue : d.winUE (seqAddr a) = false) (hcond : insField (d.seqWord a) 52 4 = 0) (hop : insOp (d.seqWord a) = 2)
    (hused : insReserved (d.seqWord a) ((insUsed 2).getD 0) = false) : d.jumpSpan i a = some (d.seqWord a % 2 ^ 16) := by
  unfold Device.jumpSpan
  dsimp only
  rw [hue, hcond]
  simp only [Device.condHolds, Bool.false_eq_true, Bool.not_true, if_false, hop, hused]

/-- A jump is armed at `a`, for span `n` (R114). -/
def Device.jumpArmed (d : Device) (i a n : Nat) : Device :=
  ((((d.setRegN (Reg.STR_JUMP i) (a % 2 ^ 18)).setBit (Reg.STR_STATUS i) 5 false).setBit (Reg.STR_JUMP i) 31 true).modStr i (fun c => { c with jump := some n }))

/-- Registers of stream `i` are none of its sequence store. -/
theorem Device.seqWord_setReg (d : Device) (v : Word) {o : Nat} (a : Nat) (hi : i < 16) (ho : o < 0x1000) : (d.setReg (Page.STR i + o) v).seqWord a = d.seqWord a := by
  have hne (b : Nat) : seqAddr a + b ≠ Page.STR i + o := by
    unfold seqAddr Page.STR
    omega
  exact congrArg₂ Word.join (RegsBut.setReg _ _ _ _ (hne 0)) (RegsBut.setReg _ _ _ _ (hne 4))

theorem Device.jumpArm_play {a : Nat} (hi : i < 16) (hue : d.winUE (seqAddr a) = false) (hcond : insField (d.seqWord a) 52 4 = 0) (hop : insOp (d.seqWord a) = 2)
    (hused : insReserved (d.seqWord a) ((insUsed 2).getD 0) = false) : d.jumpArm i a = d.jumpArmed i a (d.seqWord a % 2 ^ 16) := by
  have hword : ((d.setRegN (Reg.STR_JUMP i) (a % 2 ^ 18)).setBit (Reg.STR_STATUS i) 5 false).seqWord a = d.seqWord a := by
    rw [Device.setBit_eq, Device.setRegN_eq, Reg.STR_STATUS, Device.seqWord_setReg _ _ a hi (by decide), Reg.STR_JUMP,
      Device.seqWord_setReg _ _ a hi (by decide)]
  have hspan := Device.jumpSpan_play (d := (d.setRegN (Reg.STR_JUMP i) (a % 2 ^ 18)).setBit (Reg.STR_STATUS i) 5 false) (i := i) (a := a) hue
    (by rwa [hword]) (by rwa [hword]) (by rwa [hword])
  unfold Device.jumpArm
  dsimp only
  rw [hspan, hword]
  rfl

/-- The fields of STR_JUMP, ARM and the target, cover what a jump's write holds (R114). -/
theorem jumpArm_and_mask {t : Nat} (ht : t < 2 ^ 18) : (2 ^ 31 + t) &&& 0x8003FFFF = 2 ^ 31 + t := by
  have hset (k : Nat) (hk : (2 ^ 31 + t).testBit k = true) : (0x8003FFFF : Nat).testBit k = true := by
    have hlt : k < 32 := Nat.lt_of_not_le fun hle => by
      rw [Nat.testBit_lt_two_pow (Nat.lt_of_lt_of_le (by omega : 2 ^ 31 + t < 2 ^ 32) (Nat.pow_le_pow_right (by decide) hle))] at hk
      exact absurd hk nofun
    rw [Nat.testBit_eq_decide_div_mod_eq, decide_eq_true_eq] at hk
    have hfields : k < 18 ∨ k = 31 := by
      by_contra hout
      have : 18 ≤ k ∧ k < 31 := by omega
      interval_cases k <;> omega
    rcases hfields with hlow | rfl
    · interval_cases k <;> rfl
    · rfl
  refine Nat.eq_of_testBit_eq fun k => ?_
  rw [Nat.testBit_and]
  cases hk : (2 ^ 31 + t).testBit k with
  | false => rfl
  | true => rw [hset k hk, Bool.and_self]

theorem jumpArmWrite (target : BitVec 18) (h : x.dev.admitsWrite q (Reg.STR_JUMP j.val) = true) :
    x.dev.fresh.cmdWrite q (Reg.STR_JUMP j.val) (BitVec.ofNat 32 (2 ^ 31 + target.toNat)) = (x.dev.fresh.jumpArm j.val target.toNat).accessDone := by
  have hlt := target.isLt
  have hvalue : (BitVec.ofNat 32 (2 ^ 31 + target.toNat)).toNat &&& 0x8003FFFF = 2 ^ 31 + target.toNat := by
    rw [BitVec.toNat_ofNat, Nat.mod_eq_of_lt (by omega), jumpArm_and_mask hlt]
  have harm : natBit (2 ^ 31 + target.toNat) 31 = true := by
    rw [natBit, Nat.testBit_eq_decide_div_mod_eq, decide_eq_true_eq]
    omega
  have hw := Device.write_STR_JUMP (d := x.dev.fresh) (BitVec.ofNat 32 (2 ^ 31 + target.toNat)) j.isLt h
  rw [hvalue, if_pos harm, show (2 ^ 31 + target.toNat) % 2 ^ 18 = target.toNat by omega] at hw
  exact hw

/-- STR_JUMP and the ready bit once a jump is armed (R114). -/
theorem Device.jumpArmed_regs (d : Device) {i a : Nat} (n : Nat) (ha : a < 2 ^ 18) : (d.jumpArmed i a n).bit (Reg.STR_JUMP i) 31 = true ∧
    (d.jumpArmed i a n).fld (Reg.STR_JUMP i) 0 18 = a ∧ (d.jumpArmed i a n).bit (Reg.STR_STATUS i) 5 = false := by
  have hne : Reg.STR_STATUS i ≠ Reg.STR_JUMP i := by simp [Reg.STR_JUMP, Reg.STR_STATUS]
  have hjump : (d.jumpArmed i a n).reg (Reg.STR_JUMP i) = Word.putBit (BitVec.ofNat 32 (a % 2 ^ 18)) 31 true := by
    refine (Device.reg_setReg_same ..).trans (congrArg (Word.putBit · 31 true) ?_)
    exact (RegsBut.setReg _ _ _ _ hne.symm).trans (Device.reg_setReg_same ..)
  have hstat : (d.jumpArmed i a n).reg (Reg.STR_STATUS i) = ((d.setRegN (Reg.STR_JUMP i) (a % 2 ^ 18)).setBit (Reg.STR_STATUS i) 5 false).reg (Reg.STR_STATUS i) :=
    RegsBut.setReg _ _ _ _ hne
  refine ⟨?_, ?_, ?_⟩
  · rw [Device.bit_eq, hjump]
    exact Word.bit_putBit _ _ (by decide)
  · rw [Device.fld_eq, hjump, Word.get_putBit_other _ _ (by omega)]
    simp only [Word.get, BitVec.extractLsb'_toNat, BitVec.toNat_ofNat, Nat.shiftRight_zero]
    omega
  · rw [Device.bit_eq, hstat, ← Device.bit_eq, Device.bit_setBit _ _ _ (by decide), if_pos rfl]

/-- A jump is armed on a PLAY whose condition is always true (R114). -/
theorem strJumpArm_arms {target : BitVec 18} {w : Nat} (h : x.dev.admitsWrite q (Reg.STR_JUMP j.val) = true) (hword : w = x.dev.seqWord target.toNat)
    (hue : x.dev.winUE (seqAddr target.toNat) = false) (hcond : insField w 52 4 = 0) (hop : insOp w = 2) (hused : insReserved w ((insUsed 2).getD 0) = false) :
    Completes (.strJumpArm q j target) x (fun e => e.bit (Reg.STR_JUMP j.val) 31 = true ∧ e.fld (Reg.STR_JUMP j.val) 0 18 = target.toNat ∧
      e.bit (Reg.STR_STATUS j.val) 5 = false ∧ e.strOf j.val = { x.dev.strOf j.val with jump := some (w % 2 ^ 16) } ∧
      RegsBut (fun a => a = Reg.STR_JUMP j.val ∨ a = Reg.STR_STATUS j.val) x.dev e ∧ MemSame x.dev e) := by
  subst hword
  have hw := jumpArmWrite target h
  rw [Device.jumpArm_play (d := x.dev.fresh) j.isLt hue hcond hop hused] at hw
  obtain ⟨harm, htarget, hstat⟩ := x.dev.fresh.jumpArmed_regs (i := j.val) (x.dev.fresh.seqWord target.toNat % 2 ^ 16) target.isLt
  refine (Completes.of_write (S := fun a => a = Reg.STR_JUMP j.val ∨ a = Reg.STR_STATUS j.val) rfl hw
    (((((PlayerBut.refl _ x.dev.fresh).setReg _ (.inl rfl)).setReg _ (.inr rfl)).setReg _ (.inl rfl)).modStr j.val _)).mono
    fun e ⟨⟨hstr, hregs, hbut⟩, hmem⟩ => ⟨?_, ?_, ?_, (hstr _).trans (Device.strOf_modStr ..), hbut, hmem⟩
  · exact (congrArg (Word.bit · 31) (Device.reg_congr hregs _)).trans harm
  · exact (congrArg (Word.get · 0 18) (Device.reg_congr hregs _)).trans htarget
  · exact (congrArg (Word.bit · 5) (Device.reg_congr hregs _)).trans hstat

/-- The prefetch of an armed jump's target is at hand (R114). -/
theorem Device.jumpReady_done {n : Nat} (hjump : (d.strOf i).jump = some n) (hready : d.spanReady n = true) (hok : d.spanOk i n = true)
    (hnot : d.bit (Reg.STR_STATUS i) 5 = false) (hroom : d.bufBytes i + d.jumpBytes n ≤ bufSize) (hcredit : d.jumpBytes n * creditByte ≤ d.creditNow i) :
    d.jumpReady i = (((d.fetchNotes i n 0 (d.jumpBytes n)).spend i (d.jumpBytes n)).setBit (Reg.STR_STATUS i) 5 true).engRoom i := by
  unfold Device.jumpReady
  rw [hjump]
  exact if_pos (by rw [hready, hok, hnot, decide_eq_true hroom, decide_eq_true hcredit]; rfl)

theorem Device.strOf_fetchNotes (d : Device) (s n lo hi j : Nat) : (d.fetchNotes s n lo hi).strOf j = d.strOf j := by
  have hrow : (d.touchRows (d.spanAddr n + lo) (hi - lo)).str = d.str := by
    obtain ⟨r, hr⟩ := d.touchRows_eq (d.spanAddr n + lo) (hi - lo)
    rw [hr]
  have hnotes : (d.fetchNotes s n lo hi).str = d.str := by
    refine foldl_keep (fun e : Device => e.str = d.str) _ (fun e a he => ?_) _ _ hrow
    unfold Device.memUEfree Device.memUEat Device.record Device.recordAt
    dsimp only
    split
    · exact he
    · exact he
  exact congrArg (Tab.get _ · j) hnotes

theorem StrCtx.jump_credited (c : StrCtx) (k t : Nat) : (c.credited k t).jump = c.jump := rfl

/-- Registers stay as they were where the engine stops for room. -/
theorem Device.reg_engRoom (d : Device) (s a : Nat) : (d.engRoom s).reg a = d.reg a := by
  unfold Device.engRoom
  split
  · rfl
  · rfl

theorem jumpPrefetchDone_completes {n : Nat} (hjump : (x.dev.strOf j.val).jump = some n) (hready : x.dev.spanReady n = true) (hok : x.dev.spanOk j.val n = true)
    (hnot : x.dev.bit (Reg.STR_STATUS j.val) 5 = false) (hroom : x.dev.bufBytes j.val + x.dev.jumpBytes n ≤ bufSize)
    (hcredit : x.dev.jumpBytes n * creditByte ≤ x.dev.creditNow j.val) :
    Completes (.jumpPrefetchDone j) x (fun e => (e.bit (Reg.STR_STATUS j.val) 5 = true ∧ (e.strOf j.val).jump = some n) ∧ MemSame x.dev e) := by
  have hcredit' : x.dev.fresh.jumpBytes n * creditByte ≤ x.dev.fresh.creditNow j.val := by
    rwa [Device.creditNow_congr (e := x.dev.fresh) (d := x.dev) rfl rfl rfl]
  refine Completes.of_calm (fun d => d.jumpReady j.val) rfl (Device.jumpReady_done (d := x.dev.fresh) hjump hready hok hnot hroom hcredit') ?_ ⟨?_, ?_⟩
  · exact (Calm.refl x.dev.fresh).fetchNotes.spend.setReg.engRoom.of_fresh
  · rw [Device.bit_eq, Device.settle_reg, Device.reg_engRoom, ← Device.bit_eq]
    exact Device.bit_setBit_true _ _ (by decide)
  · obtain ⟨g, hg⟩ := (((x.dev.fresh.fetchNotes j.val n 0 (x.dev.fresh.jumpBytes n)).spend j.val (x.dev.fresh.jumpBytes n)).setBit (Reg.STR_STATUS j.val) 5 true).strOf_engRoom j.val
    rw [Device.settle_strOf, hg]
    dsimp only
    rw [Device.setBit_eq, Device.strOf_setReg, Device.strOf_spend, StrCtx.jump_credited, Device.strOf_fetchNotes]
    exact hjump

/-! ## STR_FLAGS (R110, R125) -/

theorem ofNat_and_ones (v : Word) : BitVec.ofNat 32 (v.toNat &&& 0xFFFFFFFF) = v :=
  (ofNat_toNat_and v _).trans (BitVec.and_allOnes (x := v))

/-- The flags of a stream are set (R125). -/
def Device.flagsUp (d : Device) (i : Nat) (v : Word) : Device := d.setReg (Reg.STR_FLAGS i) (d.reg (Reg.STR_FLAGS i) ||| v)

theorem flagsWrite (v : Word) (h : x.dev.admitsWrite q (Reg.STR_FLAGS j.val) = true) :
    x.dev.fresh.cmdWrite q (Reg.STR_FLAGS j.val) v = ((x.dev.fresh.flagsUp j.val v).flagCheck j.val).accessDone := by
  have hw := Device.write_STR_FLAGS (d := x.dev.fresh) v j.isLt h
  rwa [Device.flagsSet, ofNat_and_ones] at hw

theorem flagsClear (v : Word) (h : x.dev.admitsWrite q (Reg.STR_FLAGS_CLR j.val) = true) : x.dev.fresh.cmdWrite q (Reg.STR_FLAGS_CLR j.val) v =
    (x.dev.fresh.setReg (Reg.STR_FLAGS j.val) (x.dev.reg (Reg.STR_FLAGS j.val) &&& ~~~v)).accessDone := by
  have hw := Device.write_STR_FLAGS_CLR (d := x.dev.fresh) v j.isLt h
  rwa [ofNat_and_ones] at hw

theorem Device.flagCheck_running (h : (d.strOf i).eng = .running) : d.flagCheck i = d := by
  unfold Device.flagCheck
  rw [h]

/-- A write that sets one register and does nothing else. -/
theorem Completes.of_regWrite {k : Instr} {a b : Nat} {v w : Word} (hx : exec k x = x.run (fun d => d.cmdWrite q a v))
    (hw : x.dev.fresh.cmdWrite q a v = (x.dev.fresh.setReg b w).accessDone) :
    Completes k x (fun e => e.reg b = w ∧ RegsBut (· = b) x.dev e ∧ OnlyRegs x.dev e) := by
  refine Completes.of_run _ hx hw ⟨rfl, rfl, rfl⟩ ⟨?_, RegsBut.settle fun c hc => RegsBut.setReg x.dev.fresh b w c hc, OnlyRegs.settle rfl⟩
  rw [Device.settle_reg]
  exact Device.reg_setReg_same x.dev.fresh b w

/-- A flag that the micro-engine waits for is cleared by it; the gap of the WAIT lasts 100 ns on, or until the instant that it has (R110). -/
def StrCtx.flagged (t : Nat) (c : StrCtx) : StrCtx :=
  { c with queue := c.queue.map (fun i => match i with | .act (.waitFlag g none) a => .act (.waitFlag g (some t)) a | i => i),
           gap := match c.gap with | .flag _ p => .primed (max (t + 100 * nsTicks) p) [] | g => g }

theorem Device.flagCheck_seen {f : Nat} (heng : (d.strOf i).eng = .waitFlag f) (hflag : d.bit (Reg.STR_FLAGS i) f = true)
    (hmicro : (d.strOf i).micro.active = false) :
    d.flagCheck i = (((d.setBit (Reg.STR_FLAGS i) f false).setEng i .running).modStr i (StrCtx.flagged d.ttime)) := by
  unfold Device.flagCheck
  rw [heng]
  dsimp only
  rw [if_pos hflag, Device.flagSeen, Device.engOn_idle (d := d.setBit (Reg.STR_FLAGS i) f false) hmicro]
  rfl

theorem strFlagsSet_waited {v : Word} {f : Nat} (h : x.dev.admitsWrite q (Reg.STR_FLAGS j.val) = true)
    (heng : (x.dev.strOf j.val).eng = .waitFlag f) (hv : v.bit f = true) (hmicro : (x.dev.strOf j.val).micro.active = false) :
    Completes (.strFlagsSet q j v) x (fun e => e.reg (Reg.STR_FLAGS j.val) = (x.dev.reg (Reg.STR_FLAGS j.val) ||| v).putBit f false ∧
      e.strOf j.val = ({ x.dev.strOf j.val with eng := .running } : StrCtx).flagged x.dev.ttime ∧ RegsBut (· = Reg.STR_FLAGS j.val) x.dev e ∧ MemSame x.dev e) := by
  have hup : (x.dev.fresh.flagsUp j.val v).bit (Reg.STR_FLAGS j.val) f = true := by
    rw [Device.flagsUp, Device.bit_eq, Device.reg_setReg_same]
    simp only [Word.bit] at hv
    simp [Word.bit, hv]
  have hw := flagsWrite v h
  rw [Device.flagCheck_seen (d := x.dev.fresh.flagsUp j.val v) heng hup hmicro] at hw
  refine (Completes.of_write (S := (· = Reg.STR_FLAGS j.val)) rfl hw
    (((((PlayerBut.refl (· = Reg.STR_FLAGS j.val) x.dev.fresh).setReg _ rfl).setReg _ rfl).modStr j.val _).modStr j.val _)).mono
    fun e ⟨⟨hstr, hregs, hbut⟩, hmem⟩ => ⟨?_, ?_, hbut, hmem⟩
  · rw [Device.reg_congr hregs]
    exact (Device.reg_setReg_same (x.dev.fresh.flagsUp j.val v) ..).trans (congrArg (Word.putBit · f false) (Device.reg_setReg_same x.dev.fresh ..))
  · rw [hstr, Device.strOf_modStr, Device.setEng, Device.strOf_modStr]
    rfl

/-- Settles O24: each command's value picks the operation, which changes its stream and the registers of the stop, the jump or the flags. -/
theorem streamControls : Obligations.StreamControls := by
  unfold Obligations.StreamControls
  refine ⟨?_, ?_, ?_, ?_, ?_, ?_, ?_⟩
  · rintro s q i _ h rfl hstate
    exact ⟨strStop_completes rfl h hstate (.inl rfl) rfl, strStop_completes rfl h hstate (.inr rfl) rfl⟩
  · rintro s q i _ h rfl
    refine ⟨fun hready hplays hgap => ?_, fun t hready hstate hgap hreq hlt => ?_, fun hready => strJumpRequest_refused h hready⟩
    · have hctx := s.dev.strOf_jumpAsked i.val
      exact (strJumpRequest_waits h hready hplays hgap).mono fun e ⟨hstr, hrest⟩ => ⟨hstr.trans hctx, hrest⟩
    · exact (strJumpRequest_jumps h hready hstate hgap hreq hlt).mono fun e ⟨hpc, harm, hstat, ⟨c, hctx, hqueue, hcalls, hloops, htill⟩, hmem⟩ => by
        subst hctx
        exact ⟨hpc, harm, hstat, hqueue, hcalls, hloops, htill, hmem⟩
  · rintro s q i target w _ h rfl hword hue hcond hop hused
    exact strJumpArm_arms h hword hue hcond hop hused
  · intro s i n hjump hready hok hnot hroom hcredit
    exact (jumpPrefetchDone_completes hjump hready hok hnot hroom hcredit).mono fun e ⟨⟨hbit, hn⟩, hmem⟩ => ⟨hbit, hn, hmem⟩
  · intro s q i v h heng
    have hw := flagsWrite v h
    rw [Device.flagCheck_running (d := s.dev.fresh.flagsUp i.val v) heng] at hw
    exact Completes.of_regWrite rfl hw
  · intro s q i v f h _ heng hv hmicro
    refine (strFlagsSet_waited h heng hv hmicro).mono fun e ⟨hreg, hstr, hbut, hmem⟩ => ⟨hreg, ?_, fun g p hgap => ?_, hbut, hmem⟩
    · rw [hstr]
      rfl
    · rw [hstr, StrCtx.flagged, hgap]
  · exact fun s q i v h => Completes.of_regWrite rfl (flagsClear v h)

end Sys2Proof.Machine
end

section
/-! PROOF. Launch commands (R118–R120). -/

namespace Sys2Proof.Machine

variable {d e x : Device} {S : List Nat} {i : Nat} {k : Instr} {s : State} {q : Requester} {j : Fin 16}

/-! ## The page of a stream -/

/-- Between `d` and `e` nothing has happened that time could bring on, and of the page of stream `i` only registers at the offsets in `S` have changed. -/
structure PageKept (S : List Nat) (i : Nat) (d e : Device) : Prop where
  regs : ∀ o < 0x1000, o ∉ S → e.reg (Page.STR i + o) = d.reg (Page.STR i + o)
  calm : Calm d e

/-- A register of no stream's page. -/
abbrev OffPages (a : Nat) : Prop := a < 0x40000 ∨ 0x50000 ≤ a

namespace PageKept

theorem refl (S : List Nat) (i : Nat) (d : Device) : PageKept S i d d := ⟨fun _ _ _ => rfl, .refl d⟩

theorem trans (h : PageKept S i d e) (hx : PageKept S i e x) : PageKept S i d x where
  regs o ho hS := (hx.regs o ho hS).trans (h.regs o ho hS)
  calm := h.calm.trans hx.calm

theorem mono {T : List Nat} (h : PageKept S i d e) (hST : ∀ o ∈ S, o ∈ T) : PageKept T i d e :=
  ⟨fun o ho hT => h.regs o ho fun hS => hT (hST o hS), h.calm⟩

/-- Operations that change no register. -/
theorem other (h : PageKept S i d e) (hregs : x.regs = e.regs) (hx : (x.ttime, x.ivmq, x.disp.bad, x.mem) = (e.ttime, e.ivmq, e.disp.bad, e.mem)) :
    PageKept S i d x :=
  ⟨fun o ho hS => (Device.reg_congr hregs _).trans (h.regs o ho hS), h.calm.other hx⟩

theorem own {o : Nat} {v : Word} (h : PageKept S i d e) (ho : o ∈ S) : PageKept S i d (e.setReg (Page.STR i + o) v) where
  regs o' ho' hS := (RegsBut.setReg e _ v _ fun heq => hS ((Nat.add_left_cancel heq : o' = o) ▸ ho)).trans (h.regs o' ho' hS)
  calm := h.calm.setReg

theorem off {a : Nat} {v : Word} (h : PageKept S i d e) (hi : i < 16) (ha : OffPages a) : PageKept S i d (e.setReg a v) where
  regs o ho hS := (RegsBut.setReg e _ v _ (by unfold Page.STR; omega)).trans (h.regs o ho hS)
  calm := h.calm.setReg

theorem setRegN {a v : Nat} (h : PageKept S i d e) (hi : i < 16) (ha : OffPages a) : PageKept S i d (e.setRegN a v) := h.off hi ha
theorem setReg64 {lo hi v : Nat} (h : PageKept S i d e) (hlt : i < 16) (hlo : OffPages lo) (hhi : OffPages hi) : PageKept S i d (e.setReg64 lo hi v) :=
  (h.off hlt hlo).off hlt hhi
theorem setFld {a lo n v : Nat} (h : PageKept S i d e) (hi : i < 16) (ha : OffPages a) : PageKept S i d (e.setFld a lo n v) := h.off hi ha
theorem setBit {a n : Nat} {b : Bool} (h : PageKept S i d e) (hi : i < 16) (ha : OffPages a) : PageKept S i d (e.setBit a n b) := h.off hi ha
theorem event {p b : Nat} (h : PageKept S i d e) (hi : i < 16) (ha : OffPages (Reg.PG_EVT_RAW p)) : PageKept S i d (e.event p b) := h.off hi ha
theorem fault {p c : Nat} (h : PageKept S i d e) (hi : i < 16) (hc : OffPages (Reg.PG_FAULT_CODE p)) (hs : OffPages (Reg.PG_STATUS p)) :
    PageKept S i d (e.fault p c) := (h.off hi hc).off hi hs

theorem modStr {n : Nat} {f : StrCtx → StrCtx} (h : PageKept S i d e) : PageKept S i d (e.modStr n f) := h.other rfl rfl

theorem modCap {p : Nat} {f : CapCtx → CapCtx} (h : PageKept S i d e) : PageKept S i d (e.modCap p f) := h.other rfl rfl
theorem setTrg {p : Nat} {c : TrgCtx} (h : PageKept S i d e) : PageKept S i d (e.setTrg p c) := h.other rfl rfl
theorem modCal {f : CalCtx → CalCtx} (h : PageKept S i d e) : PageKept S i d (e.modCal f) := h.other rfl rfl

theorem ite {c : Prop} [Decidable c] {y : Device} (hx : PageKept S i d x) (hy : PageKept S i d y) : PageKept S i d (if c then x else y) := by
  split
  · exact hx
  · exact hy

theorem foldl {α : Type} {f : Device → α → Device} {l : List α} (h : PageKept S i d e) (hf : ∀ {x c}, PageKept S i d x → PageKept S i d (f x c)) :
    PageKept S i d (l.foldl f e) := foldl_keep (PageKept S i d) f (fun _ _ hx => hf hx) l e h

theorem recordAt {t ty sev src code p0 p1 p2 : Nat} (h : PageKept S i d e) (hi : i < 16) : PageKept S i d (e.recordAt t ty sev src code p0 p1 p2) := by
  unfold Device.recordAt
  have hseq := h.off (a := Reg.EVQ_SEQ) (v := (e.reg Reg.EVQ_SEQ).put 0 15 (e.fld Reg.EVQ_SEQ 0 15 + 1)) hi (by decide)
  exact ite (hseq.other rfl rfl) (off (other (hseq.off (a := Reg.EVQ_LOST) hi (by decide)) rfl rfl) hi (by decide))

end PageKept

/-! ## An accepted launch (R119) -/

theorem OffPages.pier {n o : Nat} : OffPages (Page.PIER n + o) := .inr (by unfold Page.PIER; omega)
theorem OffPages.cap {n o : Nat} : OffPages (Page.CAP n + o) := .inr (by unfold Page.CAP; omega)
theorem OffPages.capTab {n o o' : Nat} : OffPages (Page.CAP n + o + o') := .inr (by unfold Page.CAP; omega)
theorem OffPages.trg {n o : Nat} : OffPages (Page.TRG n + o) := .inr (by unfold Page.TRG; omega)

theorem PageKept.capLaunch {p n : Nat} (h : PageKept S i d e) (hi : i < 16) : PageKept S i d (e.capLaunch n p) := by
  unfold Device.capLaunch
  extract_lets lanes sites times cleared on bad faulty engine
  have hlanes : PageKept S i d lanes := h.foldl (·.setRegN hi .capTab)
  have hsites : PageKept S i d sites := hlanes.foldl (·.setRegN hi .capTab)
  have htimes : PageKept S i d times := ((hsites.setRegN hi .cap).setReg64 hi .cap .cap).setReg64 hi .cap .cap
  have hcleared : PageKept S i d cleared := htimes.setRegN hi .cap
  have hfaulty : PageKept S i d faulty := ite ((hcleared.fault hi .cap .cap).event hi .cap) hcleared
  have hengine : PageKept S i d engine := hfaulty.modCap
  exact hengine.setBit hi .cap

theorem PageKept.trgLaunch {p : Nat} (h : PageKept S i d e) (hi : i < 16) : PageKept S i d (e.trgLaunch p) := by
  unfold Device.trgLaunch
  exact ((h.setRegN hi .trg).setRegN hi .trg).setTrg

theorem PageKept.calGiveBack {n : Nat} (h : PageKept S i d e) : PageKept S i d (e.calGiveBack n) := h.modCal.ite h

theorem PageKept.vendMove {n : Nat} (h : PageKept S i d e) (hi : i < 16) : PageKept S i d (e.vendMove n) := by
  have hmoved {v : Nat} : PageKept S i d (e.setFld Reg.UCS_VSEL n 1 v) := h.setFld hi (by decide)
  unfold Device.vendMove Device.vendDone
  exact ite (ite ((hmoved.setBit hi (by decide)).event hi (by decide)) hmoved) h

/-- What is cleared when a stream leaves play, or is launched anew: its STATUS but for STATE, and whether launches are held (R98, R99). -/
theorem PageKept.strClear (h : PageKept S i d e) (hi : i < 16) (hS : 0x44 ∈ S) : PageKept S i d (e.strClear i) := by
  unfold Device.strClear
  exact own (own (own (setBit (modCal h.modStr) hi (by decide)) hS) hS) hS

/-- The context of a stream that has left play (R98, R99). -/
def StrCtx.cleared (c : StrCtx) : StrCtx :=
  { c with eng := .idle, queue := [], held := none, actSpans := [], pos := none, lastData := [], gap := .none, stop := 0,
           jumpReq := none, lc := none, jumpBuf := none, late := [], fetchBad := [], arm := .none, primed := false, verdict := none, trigLines := 0,
           segStart := false, mark := 0, markWas := 0, mtch := none, trigin := [], apgSeen := [], flights := [], segNext := false }

theorem Device.strOf_strClear (d : Device) (i : Nat) : (d.strClear i).strOf i = (d.strOf i).cleared := Device.strOf_modStr d i StrCtx.cleared

/-- The registers that an accepted launch clears (R119). -/
def Device.launchCleared (d : Device) (i : Nat) : Device :=
  let d := (d.setRegN (Reg.STR_FAULT i) 0).setReg64 (Reg.STR_SITEFAIL_LO i) (Reg.STR_SITEFAIL_HI i) 0
  let d := (d.setReg64 (Reg.STR_MATCHSITE_LO i) (Reg.STR_MATCHSITE_HI i) 0).setReg64 (Reg.STR_CYCLES_LO i) (Reg.STR_CYCLES_HI i) 0
  (d.piers i).foldl (fun d p => d.setBit (Reg.PIER_BADCODE p) 8 false) d

/-- The active-site mask that a launch loads. -/
def Device.launchMask (d : Device) (i : Nat) : Nat := d.reg64 (Reg.STR_SITE_INIT_LO i) (Reg.STR_SITE_INIT_HI i)

/-- What a launch resets beside the stream: the capture and trigger engines of its piers, its pattern generator, the channels that are gathered (R119). -/
def Device.launchEngines (d : Device) (i : Nat) : Device :=
  (((d.piers i).foldl (fun d p => (d.capLaunch i p).trgLaunch p) d).apgLaunch i).calGiveBack i

/-- The context of a stream that is launched at `t` with active-site mask `mask`; `hold` says whether a calibration commit may hold it (R119). -/
def StrCtx.launched (arm : Arm) (mask t : Nat) (hold : Bool) (c : StrCtx) : StrCtx :=
  { c with calls := [], loops := [], zf := false, nf := false, mask := mask, eng := .running, first := true, jumped := false,
           marginal := false, arm := arm, primed := false, period := none, launchT := 0, credit := 32768 * creditByte, creditT := t,
           mayHold := hold, micro := { c.micro with active := false } }

/-- The stream begins to run ahead: its context, STR_PC, STATE, and whether a scheduled launch is armed (R119, R120). -/
def Device.launchStarted (d : Device) (i : Nat) (arm : Arm) (mask : Nat) : Device :=
  let d := (d.strClear i).modStr i (StrCtx.launched arm mask d.ttime (d.bit Reg.CAL_CTRL 4 && decide (d.calState = 5)))
  ((d.setPc i (d.fld (Reg.STR_START i) 0 18)).setStrState i 1).setBit (Reg.STR_STATUS i) 4 (arm ≠ .immediate)

/-- The device before the stream of a launch begins to run ahead. -/
def Device.launchReady (d : Device) (i : Nat) : Device :=
  ((d.launchCleared i).setReg64 (Reg.STR_SITE_LO i) (Reg.STR_SITE_HI i) ((d.launchCleared i).launchMask i)).launchEngines i

theorem Device.accept_eq (d : Device) (i : Nat) (arm : Arm) :
    d.accept i arm = ((d.launchReady i).launchStarted i arm ((d.launchCleared i).launchMask i)).protectLaunch i := rfl

theorem PageKept.piersCleared {l : List Nat} (h : PageKept S i d e) (hi : i < 16) :
    PageKept S i d (l.foldl (fun d p => d.setBit (Reg.PIER_BADCODE p) 8 false) e) := h.foldl (·.setBit hi .pier)

/-- The offsets that `Device.launchCleared` writes beside STR_FAULT. -/
abbrev clearedOffsets : List Nat := [0x80, 0x84, 0x88, 0x8C, 0x90, 0x94]

theorem PageKept.launchCleared (d : Device) (hi : i < 16) : PageKept clearedOffsets i (d.setRegN (Reg.STR_FAULT i) 0) (d.launchCleared i) := by
  unfold Device.launchCleared
  refine piersCleared ?_ hi
  exact ((((((PageKept.refl _ i _).own (o := 0x80) (by decide)).own (o := 0x84) (by decide)).own (o := 0x88) (by decide)).own (o := 0x8C) (by decide)).own
    (o := 0x90) (by decide)).own (o := 0x94) (by decide)

theorem PageKept.launchEngines (d : Device) (hi : i < 16) : PageKept [0x204] i d (d.launchEngines i) := by
  unfold Device.launchEngines Device.apgLaunch
  refine calGiveBack (modStr (own (o := 0x204) (foldl (.refl _ i d) ?_) (by decide)))
  exact fun h => (h.capLaunch hi).trgLaunch hi

theorem PageKept.launchStarted {arm : Arm} {mask : Nat} (d : Device) (hi : i < 16) : PageKept [0x44, 0xA8] i d (d.launchStarted i arm mask) := by
  unfold Device.launchStarted
  exact own (o := 0x44) (own (o := 0x44) (own (o := 0xA8) (((PageKept.refl _ i d).strClear hi (by decide)).modStr) (by decide)) (by decide)) (by decide)

theorem StreamsKept.protectLaunch (d : Device) (i : Nat) : StreamsKept d (d.protectLaunch i) := by
  unfold Device.protectLaunch Device.twinRecord
  exact (StreamsKept.refl d).when (·.record)

theorem Calm.protectLaunch (d : Device) (i : Nat) : Calm d (d.protectLaunch i) := by
  unfold Device.protectLaunch Device.twinRecord Device.record
  exact ite (Calm.refl d).recordAt (.refl d)

/-- Stream `i` has been launched in `e`, which comes after `d` (R119). -/
structure Launched (d e : Device) (i : Nat) (arm : Arm) : Prop where
  state : e.strState i = 1
  armed : e.bit (Reg.STR_STATUS i) 4 = decide (arm ≠ .immediate)
  pc : e.strPc i = d.fld (Reg.STR_START i) 0 18
  site : e.reg64 (Reg.STR_SITE_LO i) (Reg.STR_SITE_HI i) = d.launchMask i
  fault : e.reg (Reg.STR_FAULT i) = 0
  arm : (e.strOf i).arm = arm
  engine : (e.strOf i).eng = .running
  calls : (e.strOf i).calls = []
  loops : (e.strOf i).loops = []
  queue : (e.strOf i).queue = []
  calm : Calm d e

theorem PageKept.site (h : PageKept S i d e) (hlo : 0x78 ∉ S) (hhi : 0x7C ∉ S) :
    e.reg64 (Reg.STR_SITE_LO i) (Reg.STR_SITE_HI i) = d.reg64 (Reg.STR_SITE_LO i) (Reg.STR_SITE_HI i) :=
  congrArg₂ Word.join (h.regs 0x78 (by decide) hlo) (h.regs 0x7C (by decide) hhi)

/-- A launch loads the mask that it finds in STR_SITE_INIT (R119). -/
theorem Device.launchReady_site (d : Device) (hi : i < 16) : (d.launchReady i).reg64 (Reg.STR_SITE_LO i) (Reg.STR_SITE_HI i) = d.launchMask i := by
  have hcleared := ((PageKept.refl (0x6C :: clearedOffsets) i d).own (v := 0) (o := 0x6C) (by decide)).trans ((PageKept.launchCleared d hi).mono (by decide))
  have hmask : (d.launchCleared i).launchMask i = d.launchMask i :=
    congrArg₂ Word.join (hcleared.regs 0x70 (by decide) (by decide)) (hcleared.regs 0x74 (by decide) (by decide))
  have hne : Reg.STR_SITE_LO i ≠ Reg.STR_SITE_HI i := by simp [Reg.STR_SITE_LO, Reg.STR_SITE_HI]
  unfold Device.launchReady
  rw [(PageKept.launchEngines _ hi).site (by decide) (by decide), Device.reg64_setReg64 _ hne, hmask]
  exact Nat.mod_eq_of_lt (Word.join_lt _ _)

theorem Device.launchReady_fault (d : Device) (hi : i < 16) : (d.launchReady i).reg (Reg.STR_FAULT i) = 0 := by
  have hsite := (((PageKept.launchCleared d hi).mono (T := 0x78 :: 0x7C :: clearedOffsets) (by decide)).own (v := BitVec.ofNat 32 ((d.launchCleared i).launchMask i))
    (o := 0x78) (by decide)).own (v := BitVec.ofNat 32 ((d.launchCleared i).launchMask i / 2 ^ 32)) (o := 0x7C) (by decide)
  have hkept := hsite.regs 0x6C (by decide) (by decide)
  exact ((PageKept.launchEngines _ hi).regs 0x6C (by decide) (by decide)).trans (hkept.trans (Device.reg_setReg_same ..))

theorem PageKept.launchReady (d : Device) (hi : i < 16) :
    PageKept (0x6C :: 0x78 :: 0x7C :: 0x204 :: clearedOffsets) i d (d.launchReady i) := by
  have hfault : PageKept (0x6C :: 0x78 :: 0x7C :: 0x204 :: clearedOffsets) i d (d.setRegN (Reg.STR_FAULT i) 0) := (PageKept.refl _ i d).own (o := 0x6C) (by decide)
  have hcleared := hfault.trans ((PageKept.launchCleared d hi).mono (by decide))
  have hsite := (hcleared.own (v := BitVec.ofNat 32 ((d.launchCleared i).launchMask i)) (o := 0x78) (by decide)).own
    (v := BitVec.ofNat 32 ((d.launchCleared i).launchMask i / 2 ^ 32)) (o := 0x7C) (by decide)
  exact hsite.trans ((PageKept.launchEngines _ hi).mono (by decide))

/-- A field of 18 bits is an address of the sequence store. -/
theorem Device.fld_mod_seqSize (d : Device) (a : Nat) : d.fld a 0 18 % seqSize = d.fld a 0 18 := Nat.mod_eq_of_lt ((d.reg a).extractLsb' 0 18).isLt

/-- What the stream is once it runs ahead, but for registers that were set before. -/
theorem Device.launchStarted_spec (d : Device) {i : Nat} {arm : Arm} {mask : Nat} (hi : i < 16) :
    (d.launchStarted i arm mask).strState i = 1 ∧ (d.launchStarted i arm mask).bit (Reg.STR_STATUS i) 4 = decide (arm ≠ .immediate) ∧
    (d.launchStarted i arm mask).strPc i = d.fld (Reg.STR_START i) 0 18 ∧
    ∃ t hold c, (d.launchStarted i arm mask).strOf i = StrCtx.launched arm mask t hold c ∧ c.queue = [] := by
  have hcleared : (d.strClear i).fld (Reg.STR_START i) 0 18 = d.fld (Reg.STR_START i) 0 18 :=
    congrArg (Word.get · 0 18) (((PageKept.refl [0x44] i d).strClear hi (by decide)).regs 0x4C (by decide) (by decide))
  have hqueue : ((d.strClear i).strOf i).queue = [] := by
    rw [Device.strOf_strClear]
    rfl
  unfold Device.launchStarted
  refine ⟨?_, ?_, ?_, d.ttime, d.bit Reg.CAL_CTRL 4 && decide (d.calState = 5), (d.strClear i).strOf i,
    Device.strOf_modStr (d.strClear i) i (StrCtx.launched arm mask d.ttime (d.bit Reg.CAL_CTRL 4 && decide (d.calState = 5))), hqueue⟩
  · rw [Device.strState, Device.fld_eq, Device.setBit_eq, Device.reg_setReg_same, Word.get_putBit_other _ _ (by omega), ← Device.fld_eq,
      ← Device.strState, Device.strState_setStrState _ _ (by decide)]
  · rw [Device.bit_setBit _ _ _ (by decide), if_pos rfl]
  · have hne : Reg.STR_PC i ≠ Reg.STR_STATUS i := by simp [Reg.STR_PC, Reg.STR_STATUS]
    rw [Device.strPc, Device.fld_eq, Device.setBit_eq, RegsBut.setReg _ _ _ _ hne, Device.setStrState, Device.setFld_eq, RegsBut.setReg _ _ _ _ hne,
      ← Device.fld_eq, ← Device.strPc, Device.strPc_setPc]
    rw [Device.fld_mod_seqSize]
    exact hcleared

theorem Launched.accept (d : Device) (arm : Arm) (hi : i < 16) : Launched d (d.accept i arm) i arm := by
  have hkept := StreamsKept.protectLaunch ((d.launchReady i).launchStarted i arm ((d.launchCleared i).launchMask i)) i
  have hready := PageKept.launchReady d hi
  have hstarted := PageKept.launchStarted (arm := arm) (mask := (d.launchCleared i).launchMask i) (d.launchReady i) hi
  obtain ⟨hstate, harmed, hpc, t, hold, c, hctx, hqueue⟩ := (d.launchReady i).launchStarted_spec (arm := arm) (mask := (d.launchCleared i).launchMask i) hi
  rw [Device.accept_eq]
  exact {
    state := (hkept.strState hi).trans hstate
    armed := (congrArg (Word.bit · 4) (hkept.reg_of_page hi (o := 0x44) (by decide) (by decide) (by decide))).trans harmed
    pc := ((congrArg (Word.get · 0 18) (hkept.reg_of_page hi (o := 0xA8) (by decide) (by decide) (by decide))).trans hpc).trans
      (congrArg (Word.get · 0 18) (hready.regs 0x4C (by decide) (by decide)))
    site := (hkept.site hi).trans ((hstarted.site (by decide) (by decide)).trans (d.launchReady_site hi))
    fault := (hkept.reg_of_page hi (o := 0x6C) (by decide) (by decide) (by decide)).trans
      ((hstarted.regs 0x6C (by decide) (by decide)).trans (d.launchReady_fault hi))
    arm := by
      rw [hkept.field i StrCtx.arm fun _ => rfl, hctx]
      rfl
    engine := by
      rw [hkept.field i StrCtx.eng fun _ => rfl, hctx]
      rfl
    calls := by
      rw [hkept.field i StrCtx.calls fun _ => rfl, hctx]
      rfl
    loops := by
      rw [hkept.field i StrCtx.loops fun _ => rfl, hctx]
      rfl
    queue := by
      rw [hkept.field i StrCtx.queue fun _ => rfl, hctx]
      exact hqueue
    calm := hready.calm.trans (hstarted.calm.trans (.protectLaunch _ _)) }

/-! ## The commands -/

theorem launchWrite (v : Nat) (hv : v = 1 ∨ v = 2 ∨ v = 4 ∨ v = 8) (h : s.dev.admitsWrite q (Reg.STR_CMD j.val) = true) :
    s.dev.fresh.cmdWrite q (Reg.STR_CMD j.val) (BitVec.ofNat 32 v) = (s.dev.fresh.strCmd j.val v).accessDone := by
  have hvalue : (BitVec.ofNat 32 v).toNat &&& 0x13F = v ∧ popCount (Word.get (BitVec.ofNat 32 v &&& 0x13F#32) 0 3) 3 ≤ 1 ∧
      Word.get (BitVec.ofNat 32 v &&& 0x13F#32) 4 2 ≠ 3 := by
    rcases hv with rfl | rfl | rfl | rfl
    all_goals decide
  obtain ⟨hand, hok⟩ := hvalue
  have hw := Device.write_STR_CMD (d := s.dev.fresh) (BitVec.ofNat 32 v) j.isLt hok h
  rwa [hand] at hw

theorem Device.launch_refused {st : Nat} (arm : Arm) (h : d.refusal i = some st) : d.launch i arm = d.refuseLaunch i st := by
  unfold Device.launch
  rw [h]

theorem Device.launch_immediate (h : d.refusal i = none) : d.launch i .immediate = d.accept i .immediate := by
  unfold Device.launch
  rw [h]

theorem Device.launch_sched {n : Nat} (h : d.refusal i = none) (hahead : d.ahead (d.launchTime i) = some n) (hn : 4 * usTicks ≤ n) :
    d.launch i .sched = d.accept i .sched := by
  unfold Device.launch
  rw [h]
  generalize d.ahead (d.launchTime i) = o at hahead ⊢
  subst hahead
  exact (if_neg (Nat.not_lt.mpr hn)).trans (if_neg fun hq => absurd hq.1 nofun)

theorem Device.launch_quorum {n : Nat} (h : d.refusal i = none) (hahead : d.ahead (d.launchTime i) = some n) (hn : 4 * usTicks ≤ n)
    (hqt : d.via.qt = some (d.launchTime i)) : d.launch i .quorum = d.accept i .quorum := by
  unfold Device.launch
  rw [h]
  generalize d.ahead (d.launchTime i) = o at hahead ⊢
  subst hahead
  exact (if_neg (Nat.not_lt.mpr hn)).trans (if_neg fun hq => hq.2 hqt)

theorem Launched.of_same {arm : Arm} (h : Launched d e i arm) (hregs : x.regs = e.regs) (hstr : ∀ j, x.strOf j = e.strOf j) (hcalm : Calm e x) :
    Launched d x i arm where
  state := (Device.strState_congr hregs i).trans h.state
  armed := (congrArg (Word.bit · 4) (Device.reg_congr hregs _)).trans h.armed
  pc := (congrArg (Word.get · 0 18) (Device.reg_congr hregs _)).trans h.pc
  site := (Device.reg64_congr hregs _ _).trans h.site
  fault := (Device.reg_congr hregs _).trans h.fault
  arm := (congrArg StrCtx.arm (hstr i)).trans h.arm
  engine := (congrArg StrCtx.eng (hstr i)).trans h.engine
  calls := (congrArg StrCtx.calls (hstr i)).trans h.calls
  loops := (congrArg StrCtx.loops (hstr i)).trans h.loops
  queue := (congrArg StrCtx.queue (hstr i)).trans h.queue
  calm := h.calm.trans hcalm

theorem Launched.of_fresh {arm : Arm} (h : Launched d.fresh e i arm) : Launched d e i arm where
  state := h.state
  armed := h.armed
  pc := h.pc
  site := h.site
  fault := h.fault
  arm := h.arm
  engine := h.engine
  calls := h.calls
  loops := h.loops
  queue := h.queue
  calm := h.calm.of_fresh

theorem Calm.accessDone (h : Calm d e) : Calm d e.accessDone := h.other rfl

theorem Calm.settle (h : Calm d e) : Calm d e.settle := by
  obtain ⟨c, hc⟩ := e.settle_eq
  rw [hc]
  exact h.other rfl

theorem Device.ahead_fresh {n : Nat} (h : d.ahead (d.launchTime i) = some n) : d.fresh.ahead (d.fresh.launchTime i) = some n := by
  have hahead (t : Nat) : d.fresh.ahead t = d.ahead t := by
    unfold Device.ahead
    rw [show d.fresh.ttime = d.ttime from rfl]
  rw [hahead]
  exact h

theorem Device.refusal_fresh (d : Device) (i : Nat) : d.fresh.refusal i = d.refusal i := rfl

theorem Launched.answered {arm : Arm} (h : Launched d e i arm) : Launched d e.accessDone.settle i arm :=
  h.of_same (Device.settle_regs e.accessDone) (Device.settle_strOf e.accessDone) (Calm.refl e).accessDone.settle

theorem Device.strCmd_launch (d : Device) (i : Nat) : d.strCmd i 1 = d.launch i .immediate := rfl
theorem Device.strCmd_sched (d : Device) (i : Nat) : d.strCmd i 2 = d.launch i .sched := rfl
theorem Device.strCmd_quorum (d : Device) (i : Nat) : d.strCmd i 4 = d.launch i .quorum := rfl
theorem Device.strCmd_cancel (d : Device) (i : Nat) : d.strCmd i 8 = d.strCancel i := by
  have hbits : natBit 8 0 = false ∧ natBit 8 1 = false ∧ natBit 8 2 = false ∧ natBit 8 3 = true ∧ natBit 8 8 = false ∧ 8 / 16 % 4 = 0 := by decide
  simp only [Device.strCmd, hbits, Bool.false_eq_true, if_false, if_true]

/-- A command that launches its stream (R119). -/
theorem Completes.of_launch {v : Nat} {arm : Arm} (hx : exec k s = s.run (fun d => d.cmdWrite q (Reg.STR_CMD j.val) (BitVec.ofNat 32 v)))
    (hv : v = 1 ∨ v = 2 ∨ v = 4 ∨ v = 8) (h : s.dev.admitsWrite q (Reg.STR_CMD j.val) = true)
    (hcmd : s.dev.fresh.strCmd j.val v = s.dev.fresh.accept j.val arm) :
    Completes k s (fun e => (Launched s.dev e j.val arm ∧ e.last = ⟨0, false⟩) ∧ MemSame s.dev e) := by
  have hlaunched := Launched.accept s.dev.fresh arm j.isLt
  have hw := (launchWrite v hv h).trans (congrArg Device.accessDone hcmd)
  refine Completes.of_calm _ hx hw hlaunched.calm.accessDone.of_fresh ⟨?_, Device.settle_last _⟩
  exact hlaunched.answered.of_fresh

/-! ## A refused launch (R118, R122) -/

theorem Device.refusal_range {st : Nat} (h : d.refusal i = some st) : 0x10 ≤ st ∧ st ≤ 0x17 := by
  unfold Device.refusal at h
  split at h
  · cases h
    decide
  · cases h
    decide
  · cases h
    decide
  · iterate 5
      split at h
      · cases h
        decide
    split at h
    · cases h
      split <;> decide
    · cases h

theorem Device.recordAt_room {t ty sev src code p0 p1 p2 : Nat} (h : d.evbuf.length < 256) : d.recordAt t ty sev src code p0 p1 p2 =
    { d.setFld Reg.EVQ_SEQ 0 15 (d.fld Reg.EVQ_SEQ 0 15 + 1) with evbuf := d.evbuf ++
      [⟨t % 2 ^ 64, src, code % 2 ^ 32, p0 % 2 ^ 32, p1 % 2 ^ 32, p2 % 2 ^ 32, ty, sev, d.fld Reg.EVQ_SEQ 0 15⟩] } := if_pos h

/-- The record of a launch of stream `i` that is refused with status `st` (R118, R122). -/
def Device.refusalRecord (d : Device) (i st : Nat) : EvRec :=
  ⟨d.ttime % 2 ^ 64, 0x00300000 + i, st % 2 ^ 32, 0xFFFFFFFF, 0, 0, 0x02, 3, d.fld Reg.EVQ_SEQ 0 15⟩

theorem Device.refuseLaunch_eq {st : Nat} (hst : 4 ≤ st) (hroom : d.evbuf.length < 256) : d.refuseLaunch i st =
    ({ d.setFld Reg.EVQ_SEQ 0 15 (d.fld Reg.EVQ_SEQ 0 15 + 1) with evbuf := d.evbuf ++ [d.refusalRecord i st] } : Device).event (Page.STR i) 1 := by
  have hsev : (if st = 0 then 1 else if 1 ≤ st ∧ st ≤ 3 then 4 else 3) = 3 := by
    rw [if_neg (by omega), if_neg (by omega)]
  unfold Device.refuseLaunch Device.burstRec
  dsimp only
  rw [hsev, if_neg (by omega), Device.recordAt_room hroom, Device.refusalRecord]
  simp only [Bool.false_eq_true, if_false, Nat.zero_add, Nat.zero_mod, Nat.zero_div]
  rfl

theorem strLaunch_refused {st : Nat} (h : s.dev.admitsWrite q (Reg.STR_CMD j.val) = true) (hst : s.dev.refusal j.val = some st)
    (hroom : s.dev.evbuf.length < 256) :
    Completes (.strLaunch q j) s (fun e => (e.str = s.dev.str ∧ e.bit (Reg.PG_EVT_RAW (Page.STR j.val)) 1 = true ∧
      e.evbuf = s.dev.evbuf ++ [s.dev.refusalRecord j.val st]) ∧ MemSame s.dev e) := by
  obtain ⟨hlow, -⟩ := Device.refusal_range hst
  have hw := launchWrite 1 (.inl rfl) h
  rw [Device.strCmd_launch, Device.launch_refused (d := s.dev.fresh) _ hst,
    Device.refuseLaunch_eq (d := s.dev.fresh) (by omega) hroom] at hw
  refine Completes.of_calm (fun d => d.cmdWrite q (Reg.STR_CMD j.val) 1) rfl hw ⟨⟨rfl, rfl, rfl⟩, rfl⟩
    (P := fun e => e.str = s.dev.str ∧ e.bit (Reg.PG_EVT_RAW (Page.STR j.val)) 1 = true ∧ e.evbuf = s.dev.evbuf ++ [s.dev.refusalRecord j.val st])
    ⟨Device.settle_str _, ?_, Device.settle_evbuf _⟩
  rw [Device.bit_eq, Device.settle_reg]
  exact Device.bit_event _ _ (by decide)

/-! ## CANCEL (R120) -/

theorem Device.strCancel_drops {n : Nat} (hstate : d.strState i = 1 ∨ d.strState i = 2) (harm : (d.strOf i).arm = .sched ∨ (d.strOf i).arm = .quorum)
    (hahead : d.ahead (d.launchTime i) = some n) (hn : 2 * usTicks < n) : d.strCancel i = d.drop i := by
  unfold Device.strCancel
  generalize d.ahead (d.launchTime i) = o at hahead ⊢
  subst hahead
  refine if_pos ?_
  simp only [Bool.and_eq_true, Bool.or_eq_true, decide_eq_true_eq]
  exact ⟨⟨hstate, harm⟩, hn⟩

theorem StreamsKept.vendMove (d : Device) (i : Nat) : StreamsKept d (d.vendMove i) := by
  unfold Device.vendMove Device.vendDone
  exact (StreamsKept.refl d).when fun h => (h.setFld (by decide)).when fun h => (h.setBit (by decide)).event (by decide)

/-- A stream whose launch is given up is halted, with nothing armed or queued (R120). -/
theorem Device.drop_spec (d : Device) (hi : i < 16) : (d.drop i).strState i = 0 ∧ ((d.drop i).strOf i).arm = .none ∧ ((d.drop i).strOf i).queue = [] ∧
    ((d.drop i).strOf i).eng = .idle ∧ Calm d (d.drop i) := by
  have hkept := StreamsKept.vendMove (((d.strClear i).setStrState i 0).setEng i .idle) i
  have hctx : (((d.strClear i).setStrState i 0).setEng i .idle).strOf i = (d.strOf i).cleared := by
    rw [Device.setEng, Device.strOf_modStr]
    rw [show ((d.strClear i).setStrState i 0).strOf i = _ from d.strOf_strClear i]
    rfl
  have hcalm : PageKept [0x44] i d (d.drop i) :=
    (PageKept.modStr (((PageKept.refl [0x44] i d).strClear hi (by decide)).own (o := 0x44) (by decide))).vendMove hi
  refine ⟨(hkept.strState hi).trans ?_, ?_, ?_, ?_, hcalm.calm⟩
  · exact (Device.strState_congr (Device.regs_modStr ((d.strClear i).setStrState i 0) i _) i).trans (Device.strState_setStrState (d.strClear i) i (by decide))
  · exact (hkept.field i StrCtx.arm fun _ => rfl).trans (congrArg StrCtx.arm hctx)
  · exact (hkept.field i StrCtx.queue fun _ => rfl).trans (congrArg StrCtx.queue hctx)
  · exact (hkept.field i StrCtx.eng fun _ => rfl).trans (congrArg StrCtx.eng hctx)

/-- Settles O22: each launch that is accepted goes through the same steps, and a refused one through none. -/
theorem launches : Obligations.Launches := by
  unfold Obligations.Launches
  intro s q i h
  refine ⟨fun hok => ?_, fun n hok hahead hn => ?_, fun n hok hahead hn hqt => ?_, fun st hst hroom => ?_, fun n hstate harm hahead hn => ?_⟩
  · refine (Completes.of_launch rfl (.inl rfl) h ((Device.strCmd_launch ..).trans (Device.launch_immediate ((Device.refusal_fresh ..).trans hok)))).mono fun e ⟨⟨hl, hlast⟩, hmem⟩ => ?_
    exact ⟨hl.state, hl.arm, hl.engine, hl.calls, hl.loops, hl.queue, hl.pc, hl.site, hl.fault, hlast, hmem⟩
  · refine (Completes.of_launch rfl (.inr (.inl rfl)) h ((Device.strCmd_sched ..).trans (Device.launch_sched ((Device.refusal_fresh ..).trans hok) (Device.ahead_fresh hahead) hn))).mono fun e ⟨⟨hl, _⟩, hmem⟩ => ?_
    exact ⟨hl.state, hl.arm, hl.armed, hl.pc, hmem⟩
  · refine (Completes.of_launch rfl (.inr (.inr (.inl rfl))) h
      ((Device.strCmd_quorum ..).trans (Device.launch_quorum ((Device.refusal_fresh ..).trans hok) (Device.ahead_fresh hahead) hn hqt))).mono fun e ⟨⟨hl, _⟩, hmem⟩ => ?_
    exact ⟨hl.state, hl.arm, hl.armed, hl.pc, hmem⟩
  · have hhigh := (Device.refusal_range hst).2
    exact (strLaunch_refused h hst hroom).mono fun e ⟨⟨hstr, hevent, hbuf⟩, hmem⟩ =>
      ⟨hstr, hevent, hmem, _, hbuf, rfl, Nat.mod_eq_of_lt (by omega), rfl, rfl⟩
  · have hcmd : s.dev.fresh.strCmd i.val 8 = s.dev.fresh.drop i.val := (Device.strCmd_cancel ..).trans (Device.strCancel_drops hstate harm (Device.ahead_fresh hahead) hn)
    obtain ⟨hhalted, hnone, hqueue, hidle, hcalm⟩ := s.dev.fresh.drop_spec i.isLt
    have hw := (launchWrite 8 (.inr (.inr (.inr rfl))) h).trans (congrArg Device.accessDone hcmd)
    refine (Completes.of_calm (fun d => d.cmdWrite q (Reg.STR_CMD i.val) 8) rfl hw hcalm.accessDone.of_fresh (P := fun e => e.strState i.val = 0 ∧ (e.strOf i.val).arm = .none ∧
      (e.strOf i.val).queue = [] ∧ (e.strOf i.val).eng = .idle) ?_).mono fun e ⟨⟨h0, h1, h2, h3⟩, hmem⟩ => ⟨h0, h1, h2, h3, hmem⟩
    rw [Device.strState_congr (Device.settle_regs _), Device.settle_strOf]
    exact ⟨hhalted, hnone, hqueue, hidle⟩

end Sys2Proof.Machine
end

section
/-! SUPPORT. What results of cycles, and whatever else comes of time that passes, leave of the device: PWR_STATE (R19, R27). -/

namespace Sys2Proof.Machine

/-- `e` comes after `d` in the same state of the device. -/
structure PowerKept (d e : Device) : Prop where
  reg : e.reg Reg.PWR_STATE = d.reg Reg.PWR_STATE

variable {d e x : Device} {i : Nat}

namespace PowerKept

/-! ## The frame itself -/

theorem refl (d : Device) : PowerKept d d := ⟨rfl⟩

theorem trans (h : PowerKept d e) (hx : PowerKept e x) : PowerKept d x := ⟨hx.reg.trans h.reg⟩

theorem pwrState (h : PowerKept d e) : e.pwrState = d.pwrState := congrArg (Word.get · 0 3) h.reg

/-- Operations that change no register. -/
theorem other (h : PowerKept d e) (hregs : x.regs = e.regs) : PowerKept d x := h.trans ⟨Device.reg_congr hregs _⟩

theorem ite {c : Prop} [Decidable c] {y : Device} (hx : PowerKept d x) (hy : PowerKept d y) : PowerKept d (if c then x else y) := by
  split
  · exact hx
  · exact hy

theorem ite_fst {α : Type} {c : Prop} [Decidable c] {p q : Device × α} (hp : PowerKept d p.1) (hq : PowerKept d q.1) :
    PowerKept d (if c then p else q).1 := by
  split
  · exact hp
  · exact hq

theorem ite_snd {α : Type} {c : Prop} [Decidable c] {p q : α × Device} (hp : PowerKept d p.2) (hq : PowerKept d q.2) :
    PowerKept d (if c then p else q).2 := by
  split
  · exact hp
  · exact hq

theorem when {c : Prop} [Decidable c] (h : PowerKept d e) (hx : PowerKept d e → PowerKept d x) : PowerKept d (if c then x else e) := ite (hx h) h

theorem skip {c : Prop} [Decidable c] (h : PowerKept d e) (hx : PowerKept d e → PowerKept d x) : PowerKept d (if c then e else x) := ite h (hx h)

theorem branch {c : Prop} [Decidable c] {y : Device} (h : PowerKept d e) (hx : PowerKept d e → PowerKept d x)
    (hy : PowerKept d e → PowerKept d y) : PowerKept d (if c then x else y) := ite (hx h) (hy h)

theorem foldl {α : Type} {f : Device → α → Device} {l : List α} (h : PowerKept d e) (hf : ∀ {x c}, PowerKept d x → PowerKept d (f x c)) :
    PowerKept d (l.foldl f e) := foldl_keep (PowerKept d) f (fun _ _ hx => hf hx) l e h

theorem foldl_fst {α β : Type} {f : Device × β → α → Device × β} {l : List α} {b : Device × β} (h : PowerKept d b.1)
    (hf : ∀ {x c}, PowerKept d x.1 → PowerKept d (f x c).1) : PowerKept d (l.foldl f b).1 :=
  foldl_keep (fun b => PowerKept d b.1) f (fun _ _ hx => hf hx) l b h

theorem forN {n : Nat} {f : Device → Nat → Device} (h : PowerKept d e) (hf : ∀ {x j}, PowerKept d x → PowerKept d (f x j)) : PowerKept d (e.forN n f) :=
  h.foldl hf

/-! ## Registers and contexts -/

theorem setReg {a : Nat} {v : Word} (h : PowerKept d e) (ha : Loose a) : PowerKept d (e.setReg a v) :=
  h.trans ⟨Tab.get_set_other _ _ fun heq => absurd (heq ▸ ha.1 : 0x3000 ≤ Reg.PWR_STATE) (by decide)⟩

theorem setRegN {a v : Nat} (h : PowerKept d e) (ha : Loose a) : PowerKept d (e.setRegN a v) := h.setReg ha
theorem setReg64 {lo hi v : Nat} (h : PowerKept d e) (hlo : Loose lo) (hhi : Loose hi) : PowerKept d (e.setReg64 lo hi v) := (h.setReg hlo).setReg hhi
theorem setFld {a lo n v : Nat} (h : PowerKept d e) (ha : Loose a) : PowerKept d (e.setFld a lo n v) := h.setReg ha
theorem addSat {a lo n k : Nat} (h : PowerKept d e) (ha : Loose a) : PowerKept d (e.addSat a lo n k) := h.setReg ha
theorem setBit {a n : Nat} {b : Bool} (h : PowerKept d e) (ha : Loose a) : PowerKept d (e.setBit a n b) := h.setReg ha
theorem event {p b : Nat} (h : PowerKept d e) (hp : Loose (Reg.PG_EVT_RAW p)) : PowerKept d (e.event p b) := h.setReg hp

theorem modStr {n : Nat} {f : StrCtx → StrCtx} (h : PowerKept d e) : PowerKept d (e.modStr n f) := h.other rfl
theorem modCap {p : Nat} {f : CapCtx → CapCtx} (h : PowerKept d e) : PowerKept d (e.modCap p f) := h.other rfl
theorem setTrg {p : Nat} {c : TrgCtx} (h : PowerKept d e) : PowerKept d (e.setTrg p c) := h.other rfl
theorem modIvm {n : Nat} {f : IvmCtx → IvmCtx} (h : PowerKept d e) : PowerKept d (e.modIvm n f) := h.other rfl
theorem modCal {f : CalCtx → CalCtx} (h : PowerKept d e) : PowerKept d (e.modCal f) := h.other rfl
theorem modDisp {f : DispCtx → DispCtx} (h : PowerKept d e) : PowerKept d (e.modDisp f) := h.other rfl
theorem modCore {k : Nat} {f : CoreCtx → CoreCtx} (h : PowerKept d e) : PowerKept d (e.modCore k f) := h.modDisp
theorem modFlow {k : Nat} {f : FlowCtx → FlowCtx} (h : PowerKept d e) : PowerKept d (e.modFlow k f) := h.modDisp
theorem hook {k v : Nat} (h : PowerKept d e) : PowerKept d (e.hook k v) := h.other rfl
theorem draw (h : PowerKept d e) : PowerKept d e.draw.2 := h.other rfl
theorem meterQueue {q : List (Nat × Nat × Bool)} (h : PowerKept d e) : PowerKept d { e with ivmq := q } := h.other rfl

theorem recordAt {t ty sev src code p0 p1 p2 : Nat} (h : PowerKept d e) : PowerKept d (e.recordAt t ty sev src code p0 p1 p2) := by
  unfold Device.recordAt
  refine (h.setFld (by decide)).branch (·.other rfl) fun h => ?_
  exact event (other (h.addSat (by decide)) rfl) (by decide)

theorem record {ty src code p0 p1 p2 : Nat} (h : PowerKept d e) : PowerKept d (e.record ty src code p0 p1 p2) := h.recordAt

theorem logWith {src code bits v : Nat} (h : PowerKept d e) : PowerKept d (e.logWith src code bits v) := by
  unfold Device.logWith Device.logAdd
  refine h.draw.branch (·.other rfl) fun h => ?_
  exact when (event (setRegN (other h rfl) (by decide)) (by decide)) (·.record)

/-! ## Capture -/

theorem touchRow {a : Nat} (h : PowerKept d e) : PowerKept d (e.touchRow a) := h.other rfl

theorem capStore {p a v : Nat} (h : PowerKept d e) : PowerKept d (e.capStore p a v).1 := by
  unfold Device.capStore
  split
  · exact (h.addSat .cap).event .cap
  · exact touchRow (h.other rfl)

theorem charge {p sites : Nat} {up : Bool} (h : PowerKept d e) : PowerKept d (e.charge p sites up) := h.foldl (·.when (·.setRegN .capTab))

theorem quotaRefresh {p : Nat} (h : PowerKept d e) : PowerKept d (e.quotaRefresh p) := h.modCap

theorem withhold {p overs t : Nat} (h : PowerKept d e) : PowerKept d (e.withhold p overs t) := by
  unfold Device.withhold
  exact h.foldl (·.when fun h => (h.event .cap).recordAt.modCap)

theorem flushRec {p : Nat} (h : PowerKept d e) : PowerKept d (e.flushRec p) := by
  unfold Device.flushRec
  dsimp only
  split
  · refine branch (withhold h) (·.modCap) fun h => ?_
    exact branch (capStore h) (fun h => quotaRefresh (modCap (charge (h.foldl (·.charge))))) (·.modCap)
  · exact h.modCap

theorem segClose {p close t : Nat} (h : PowerKept d e) : PowerKept d (e.segClose p close t) := by
  have hflushed : PowerKept d (if (e.capOf p).openRec.isSome then e.flushRec p else e) := h.when (·.flushRec)
  unfold Device.segClose
  dsimp only
  split
  · refine modCap (setBit (setBit (when (when (setFld (when (hook (event (capStore hflushed.modCap) .cap)) (·.recordAt)) .cap) (·.setBit .cap)) fun h =>
      (h.setBit .cap).event .cap) .cap) .cap)
  · exact hflushed.modCap.modCap

theorem endRec {p t : Nat} (h : PowerKept d e) : PowerKept d (e.endRec p t) := by
  unfold Device.endRec
  exact h.when (·.flushRec.when (·.segClose))

theorem capOff {p t : Nat} (h : PowerKept d e) : PowerKept d (e.capOff p t) := h.endRec.setBit .cap

theorem capOn {p : Nat} (h : PowerKept d e) : PowerKept d (e.capOn p) := h.when (·.setBit .cap)

theorem bmQueue {p addr bits : Nat} (h : PowerKept d e) : PowerKept d (e.bmQueue p addr bits) := by
  unfold Device.bmQueue
  exact h.branch (·.modCap) (·.branch (·.modCap) fun h => (h.addSat .cap).event .cap)

theorem bmCycle {s p : Nat} {v : CycView} {a : ApgOut} {outs : List (Nat × ChanRes)} (h : PowerKept d e) : PowerKept d (e.bmCycle s p v a outs) := by
  unfold Device.bmCycle
  exact h.skip (·.foldl (·.foldl (·.bmQueue)))

theorem countFails {p : Nat} {i : CapIn} (h : PowerKept d e) : PowerKept d (e.countFails p i) := by
  unfold Device.countFails
  refine h.skip fun h => skip (setReg64 (addSat (foldl (foldl h ?_) ?_) .cap) .cap .cap) fun h => (h.setReg64 .cap .cap).setRegN .cap
  · exact (·.when (·.addSat .capTab))
  · exact (·.when (·.addSat .capTab))

theorem segOpen {p : Nat} {i : CapIn} (h : PowerKept d e) : PowerKept d (e.segOpen p i) := by
  have hopen {f : CapCtx → CapCtx} : PowerKept d (((((e.setBit (Reg.CAP_STATUS p) 1 true).setBit (Reg.CAP_STATUS p) 3 true).setBit (Reg.CAP_STATUS p) 4
      false).modCap p f).setFld (Reg.TRG_STATUS p) 0 4 0) := setFld (modCap (((h.setBit .cap).setBit .cap).setBit .cap)) .trg
  unfold Device.segOpen
  refine setTrg ?_
  split
  · exact hopen.meterQueue
  · exact hopen

theorem capBegin {p : Nat} {i : CapIn} (h : PowerKept d e) : PowerKept d (e.capBegin p i) := by
  unfold Device.capBegin
  refine modCap (countFails (when ?_ (·.branch (·.modCap) (·.segOpen))))
  exact h.when fun h => (h.when (·.segClose)).when (·.modCap)

theorem capAddBlock {p : Nat} {r : OpenRec} {g : SegCtx} {i : CapIn} (h : PowerKept d e) : PowerKept d (e.capAddBlock p r g i) := by
  unfold Device.capAddBlock
  extract_lets block post r' added full reached ended
  have hended : PowerKept d ended := when h.modCap (·.endRec)
  split
  · exact hended.when (·.segClose)
  · exact hended

theorem capRecord {p : Nat} {i : CapIn} (h : PowerKept d e) : PowerKept d (e.capRecord p i) := by
  unfold Device.capRecord
  refine skip ?_ (·.modCap)
  split
  · refine h.branch (·.endRec.modCap) fun h => ?_
    split
    · exact h.capAddBlock
    · refine h.branch (fun h => ?_) (·.modCap)
      split
      · exact h.capAddBlock
      · exact h.modCap.segClose
  · exact h

theorem capTrigger {p : Nat} {i : CapIn} (h : PowerKept d e) : PowerKept d (e.capTrigger p i) := by
  unfold Device.capTrigger
  dsimp only
  split
  · exact h.skip fun h => (h.setBit .cap).modCap
  · exact h

/-! ## Triggers -/

theorem decCycle {p : Nat} {i : TrgIn} (h : PowerKept d e) : PowerKept d (e.decCycle p i).1 := by
  unfold Device.decCycle
  dsimp only
  split
  · exact h
  · refine when (addSat (addSat ?_ .trg) .trg) (·.event .trg)
    split
    · exact ((h.setTrg.setBit .trg).setReg64 .trg .trg).event .trg
    · exact h.setTrg.setBit .trg

theorem trgEval {p : Nat} {i : TrgIn} {t cycle : Nat} {failing : Bool} (h : PowerKept d e) : PowerKept d (e.trgEval p i t cycle failing).1 := by
  have hdec : PowerKept d (if failing then (e.decCycle p i).1.setTrg p { (e.decCycle p i).1.trgOf p with segFails := ((e.decCycle p i).1.trgOf p).segFails + 1 }
      else (e.decCycle p i).1) := h.decCycle.when (·.setTrg)
  unfold Device.trgEval
  refine ite_fst hdec ?_
  exact hook (foldl (setRegN (setReg64 (meterQueue (setTrg (setFld hdec .trg))) .trg .trg) .trg) (·.when (·.event .trg)))

/-! ## Cycles whose results are known -/

theorem siteFails {s : Nat} {v : CycView} {outs : List (Nat × ChanRes)} (h : PowerKept d e) : PowerKept d (e.siteFails s v outs) := by
  unfold Device.siteFails
  exact h.skip (·.setReg64 .str .str)

theorem matchCycle {s : Nat} {v : CycView} {parts : Nat} {outs : List (Nat × ChanRes)} (h : PowerKept d e) :
    PowerKept d (e.matchCycle s v parts outs) := by
  unfold Device.matchCycle
  split
  · exact h
  · exact h.skip (·.modStr)

theorem pierCycle {s : Nat} {v : CycView} {a : ApgOut} {outs : List (Nat × ChanRes)} (h : PowerKept d e) : PowerKept d (e.pierCycle s v a outs) := by
  unfold Device.pierCycle
  dsimp only
  refine when (when (foldl (when (foldl (foldl_fst (foldl h.modStr (·.capBegin)) ?_) (·.skip (·.setTrg))) (·.foldl (·.capTrigger)))
    (·.capRecord.bmCycle)) (·.foldl (·.capOff))) (·.modStr)
  exact (·.trgEval)

theorem settlePipe {s t : Nat} {i : Pipe} (h : PowerKept d e) : PowerKept d (e.settlePipe s t i) := by
  cases i with
  | cycle f => exact h.siteFails.matchCycle.pierCycle
  | capOn => exact h.foldl (·.capOn)
  | capOff => exact h.foldl (·.capOff)
  | rearmed p => exact h.setBit .cap

theorem settleItems {s t : Nat} {now : Option Nat} {is : List Pipe} (h : PowerKept d e) : PowerKept d (e.settleItems s now t is) := by
  induction is generalizing e t with
  | nil => exact h.modStr
  | cons i is ih =>
    unfold Device.settleItems
    split
    · exact h.branch (ih ·.settlePipe) (·.modStr)
    · exact ih h.settlePipe

theorem settleDue {s now : Nat} (h : PowerKept d e) : PowerKept d (e.settleDue s now) := h.skip (·.settleItems)

theorem settlePlay (h : PowerKept d e) : PowerKept d e.settlePlay := h.skip (·.forN (·.settleDue))

theorem burstSync (h : PowerKept d e) : PowerKept d e.burstSync := by
  unfold Device.burstSync Device.burstFlush
  exact h.skip fun h => foldl h.modCal (·.recordAt)

/-! ## Meters -/

theorem setIvmState {i v : Nat} (h : PowerKept d e) : PowerKept d (e.setIvmState i v) := h.setFld .ivm

theorem ivmPush {i v flags : Nat} (h : PowerKept d e) : PowerKept d (e.ivmPush i v flags) := by
  unfold Device.ivmPush Device.setIvmFifo
  exact h.branch (·.modIvm.setFld .ivm) fun h => (h.addSat .ivm).event .ivm

theorem ivmSend {i t : Nat} (h : PowerKept d e) : PowerKept d (e.ivmSend i t) := by
  unfold Device.ivmSend Device.setIvmRes
  exact h.skip (·.foldl fun h => ((h.ivmPush.setReg64 .ivm .ivm).setRegN .ivm).modIvm)

theorem ivmSendAll (h : PowerKept d e) : PowerKept d e.ivmSendAll := h.skip (·.forN (·.when (·.ivmSend)))

theorem ivmSync {i : Nat} (h : PowerKept d e) : PowerKept d (e.ivmSync i) := by
  unfold Device.ivmSync
  exact ((h.when (·.setIvmState)).skip (·.addSat .ivm)).modIvm

theorem ivmEvent {i src : Nat} {rise : Bool} {ball : Nat} {past : Bool} {code : Nat} (h : PowerKept d e) :
    PowerKept d (e.ivmEvent i src rise ball past code) := by
  unfold Device.ivmEvent
  exact h.skip fun h => h.modIvm.skip fun h => ivmSync (modIvm (ite_snd h.draw h))

theorem ivmDeliver (h : PowerKept d e) : PowerKept d e.ivmDeliver := by
  unfold Device.ivmDeliver Device.ivmExact
  exact foldl (other h rfl) (·.forN (·.ivmEvent))

/-! ## Tasks whose descriptor cannot be read -/

theorem setTaskState {i v : Nat} (h : PowerKept d e) : PowerKept d (e.setTaskState i v) := h.setFld .task

theorem depZero {i : Nat} (h : PowerKept d e) : PowerKept d (e.depZero i) := by
  unfold Device.depZero Device.makeReady
  exact h.branch (fun h => (h.when (·.setFld .task |>.modFlow)).setTaskState.modDisp) (·.setTaskState.modDisp)

theorem enterWaiting {i : Nat} (h : PowerKept d e) : PowerKept d (e.enterWaiting i) := by
  unfold Device.enterWaiting
  exact ((h.setTaskState.setFld .task).setFld .task).when (·.depZero)

theorem taskDec {i : Nat} (h : PowerKept d e) : PowerKept d (e.taskDec i) := by
  unfold Device.taskDec
  exact h.branch (fun h => (h.setFld .task).when (·.depZero)) (·.branch (·.setFld .task) fun h => (h.addSat (by decide)).event (by decide))

theorem releaseOne {t : HeldTask} (h : PowerKept d e) : PowerKept d (e.releaseOne t) := by
  unfold Device.releaseOne
  exact branch (when (foldl h (·.skip (·.branch (·.modDisp) (·.taskDec)))) (·.record)) (·.enterWaiting) (·.setTaskState)

theorem releaseFlow {f n : Nat} (h : PowerKept d e) : PowerKept d (Device.releaseFlow f n e) := by
  induction n generalizing e with
  | zero => exact h
  | succ n ih =>
    unfold Device.releaseFlow
    dsimp only
    split
    · exact ih h.modFlow
    · split
      · exact h.branch (·.modDisp) fun h => ih h.modDisp.modFlow.releaseOne
      · exact h

theorem cancelAs {i status : Nat} (h : PowerKept d e) : PowerKept d (e.cancelAs i status) := by
  unfold Device.cancelAs
  refine when (forN (modDisp ?_) (·.modCore)) (·.modFlow.releaseFlow)
  exact ((h.record.event (by decide)).setTaskState).setFld .task

theorem descSettle {n : Nat} (h : PowerKept d e) : PowerKept d (Device.descSettle n e) := by
  induction n generalizing e with
  | zero => exact h
  | succ n ih =>
    unfold Device.descSettle Device.descUE
    split
    · exact h
    · exact ih (h.modDisp.logWith.cancelAs.event (by decide))

/-! ## What follows a command -/

theorem caughtUp {d₀ : Device} (h : PowerKept d e) : PowerKept d (d₀.caughtUp e) := by
  unfold Device.caughtUp
  exact skip (when (skip (when (when h (·.settlePlay)) (·.burstSync)) (·.ivmDeliver)) (·.ivmSendAll)) (·.descSettle)

theorem settle (h : PowerKept d e) : PowerKept d e.settle := by
  obtain ⟨c, hc⟩ := e.settle_eq
  rw [hc]
  exact h.other rfl

end PowerKept
end Sys2Proof.Machine
end

section
/-! PROOF. From PRIMING to the first cycle (R119, R120, R125). -/

namespace Sys2Proof.Machine

variable {d e x : Device} {i t : Nat} {k : Instr} {s : State} {j : Fin 16}

/-! ## A burst begins (R85, R90, R125) -/

/-- The burst is counted in STR_BURST_ID, and STATE is RUNNING with no launch armed. -/
def Device.burstCounted (d : Device) (i : Nat) : Device :=
  ((d.setRegN (Reg.STR_BURST_ID i) (if 0xFFFFFFFE ≤ d.regN (Reg.STR_BURST_ID i) then 0 else d.regN (Reg.STR_BURST_ID i) + 1)).setStrState i 3).setBit
    (Reg.STR_STATUS i) 4 false

/-- The context of a stream whose lattice starts at `t`. -/
def StrCtx.begun (t : Nat) (seg marginal : Bool) (c : StrCtx) : StrCtx :=
  { c with sInt := t, sFrac := 0, t0 := t, lastEnd := t, first := true, fresh := true, gap := .none, segStart := seg, arm := .none,
           queue := leadRest c.queue, marginal := marginal }

/-- The device in which a burst has begun at `t`, ahead of the actions there. -/
def Device.begun (d : Device) (i t : Nat) : Device :=
  let d := (d.reach t).burstCounted i
  (d.modStr i (StrCtx.begun t ((d.piers i).any (fun p => d.bit (Reg.CAP_CTRL p) 5)) d.marginalNow)).syncRun

theorem Device.beginBurst_eq (d : Device) (i t : Nat) :
    d.beginBurst i t = ((d.begun i (leadStart t (d.strOf i).queue)).boundaryActs i).gapJump i := rfl

theorem Device.strOf_syncRun (d : Device) (i : Nat) : d.syncRun.strOf i = d.strOf i := by
  unfold Device.syncRun
  split
  · rfl
  · rfl

theorem Device.strOf_begun (d : Device) (i t : Nat) : ∃ seg marginal, (d.begun i t).strOf i = (d.strOf i).begun t seg marginal := by
  have hcounted : ((d.reach t).burstCounted i).strOf i = d.strOf i := d.strOf_reach t i
  exact ⟨_, _, (Device.strOf_syncRun ..).trans ((Device.strOf_modStr ..).trans (congrArg _ hcounted))⟩

theorem leadStart_play (t n a : Nat) (f : Fetch) (is : List QItem) : leadStart t (.play n a f :: is) = t := rfl
theorem leadRest_play (n a : Nat) (f : Fetch) (is : List QItem) : leadRest (.play n a f :: is) = .play n a f :: is := rfl

/-- No action waits where a request leads the queue. -/
theorem Device.boundaryActs_play {n a : Nat} {f : Fetch} {is : List QItem} (hqueue : (d.strOf i).queue = .play n a f :: is)
    (hapg : (d.strOf i).apgDue = false) : d.boundaryActs i = d := by
  have hsettled : d.apgSettle i = d := if_neg (by rw [hapg]; nofun)
  rw [Device.boundaryActs, hsettled, hqueue, List.length_cons, Device.runActs, hqueue]
  exact ite_self _

/-- A burst whose queue a PLAY leads begins at the time of its launch. -/
theorem Device.beginBurst_play {n a : Nat} {f : Fetch} {is : List QItem} (t : Nat) (hqueue : (d.strOf i).queue = .play n a f :: is)
    (hapg : (d.strOf i).apgDue = false) : d.beginBurst i t = d.begun i t := by
  obtain ⟨seg, marginal, hctx⟩ := d.strOf_begun i t
  rw [Device.beginBurst_eq, hqueue, leadStart_play, Device.boundaryActs_play (n := n) (a := a) (f := f) (is := is)]
  · exact Device.gapJump_outside (by rw [hctx, StrCtx.begun])
  · rw [hctx, StrCtx.begun, hqueue, leadRest_play]
  · rw [hctx]
    exact hapg

/-- PWR_STATE alone follows the streams (R19). -/
theorem RegsBut.syncRun (d : Device) : RegsBut (· = Reg.PWR_STATE) d d.syncRun := fun a ha => by
  unfold Device.syncRun
  split
  · exact RegsBut.setReg _ _ _ a ha
  · rfl

/-- A device with a stream in play is in RUN (R19). -/
theorem Device.pwrState_syncRun (hready : d.pwrState ≤ 1) (hi : i < 16) (hplays : d.playing i = true) : d.syncRun.pwrState = 1 := by
  have hany : (List.range 16).any (fun s => d.playing s) = true := List.any_eq_true.mpr ⟨i, List.mem_range.mpr hi, hplays⟩
  rw [Device.syncRun, if_pos hready, if_pos hany, Device.pwrState, Device.setFld_eq, Device.fld_eq, Device.reg_setReg_same,
    Word.get_put_same _ _ (by decide)]
  rfl

theorem Device.reg_begun (d : Device) {a : Nat} (t : Nat) (ha : a ≠ Reg.PWR_STATE) :
    (d.begun i t).reg a = ((d.reach t).burstCounted i).reg a := RegsBut.syncRun _ a ha

theorem Device.pageReg_ne_pwrState {o : Nat} : Page.STR i + o ≠ Reg.PWR_STATE := by
  unfold Page.STR Reg.PWR_STATE Page.PWR
  omega

theorem Device.strState_burstCounted (d : Device) (i : Nat) : (d.burstCounted i).strState i = 3 := by
  rw [Device.burstCounted, Device.strState, Device.fld_eq, Device.setBit_eq, Device.reg_setReg_same, Word.get_putBit_other _ _ (by omega), ← Device.fld_eq,
    ← Device.strState, Device.strState_setStrState _ _ (by decide)]

theorem Device.armed_burstCounted (d : Device) (i : Nat) : (d.burstCounted i).bit (Reg.STR_STATUS i) 4 = false :=
  (Device.bit_setBit _ _ false (by decide)).trans (if_pos rfl)

theorem Device.burstId_burstCounted (h : d.regN (Reg.STR_BURST_ID i) < 0xFFFFFFFE) :
    (d.burstCounted i).regN (Reg.STR_BURST_ID i) = d.regN (Reg.STR_BURST_ID i) + 1 := by
  have hne : Reg.STR_BURST_ID i ≠ Reg.STR_STATUS i := by simp [Reg.STR_BURST_ID, Reg.STR_STATUS]
  rw [Device.burstCounted, if_neg (Nat.not_le.mpr h), Device.regN, Device.setBit_eq, RegsBut.setReg _ _ _ _ hne, Device.setStrState, Device.setFld_eq,
    RegsBut.setReg _ _ _ _ hne, Device.setRegN_eq, Device.reg_setReg_same, BitVec.toNat_ofNat]
  omega

theorem Device.pwrState_burstCounted (d : Device) (i : Nat) : (d.burstCounted i).pwrState = d.pwrState := by
  have hid : Reg.PWR_STATE ≠ Reg.STR_BURST_ID i := Ne.symm Device.pageReg_ne_pwrState
  have hstatus : Reg.PWR_STATE ≠ Reg.STR_STATUS i := Ne.symm Device.pageReg_ne_pwrState
  refine congrArg (Word.get · 0 3) ?_
  exact (RegsBut.setReg _ _ _ _ hstatus).trans ((RegsBut.setReg _ _ _ _ hstatus).trans (RegsBut.setReg _ _ _ _ hid))

/-- What a burst that has begun at `t` shows. -/
structure Begun (d e : Device) (i t : Nat) : Prop where
  state : e.strState i = 3
  armed : e.bit (Reg.STR_STATUS i) 4 = false
  lattice : (e.strOf i).sInt = t
  whole : (e.strOf i).sFrac = 0
  counted : d.regN (Reg.STR_BURST_ID i) < 0xFFFFFFFE → e.regN (Reg.STR_BURST_ID i) = d.regN (Reg.STR_BURST_ID i) + 1
  run : d.pwrState ≤ 1 → e.pwrState = 1

theorem Begun.begun (d : Device) (hi : i < 16) (t : Nat) : Begun d (d.begun i t) i t := by
  obtain ⟨seg, marginal, hctx⟩ := d.strOf_begun i t
  have hreg (o : Nat) : (d.begun i t).reg (Page.STR i + o) = ((d.reach t).burstCounted i).reg (Page.STR i + o) := d.reg_begun t Device.pageReg_ne_pwrState
  have hreach (a : Nat) : (d.reach t).reg a = d.reg a := Device.reg_congr (d.regs_reach t) a
  have hid : (d.reach t).regN (Reg.STR_BURST_ID i) = d.regN (Reg.STR_BURST_ID i) := congrArg BitVec.toNat (hreach _)
  refine ⟨?_, ?_, ?_, ?_, fun hlt => ?_, fun hready => ?_⟩
  · exact (congrArg (Word.get · 0 4) (hreg 0x44)).trans (Device.strState_burstCounted _ i)
  · exact (congrArg (Word.bit · 4) (hreg 0x44)).trans (Device.armed_burstCounted _ i)
  · rw [hctx, StrCtx.begun]
  · rw [hctx, StrCtx.begun]
  · exact (congrArg BitVec.toNat (hreg 0x98)).trans ((Device.burstId_burstCounted (hid ▸ hlt)).trans (congrArg (· + 1) hid))
  · have hpower : ((d.reach t).burstCounted i).pwrState = d.pwrState := (Device.pwrState_burstCounted ..).trans (congrArg (Word.get · 0 3) (hreach _))
    have hplays : ((d.reach t).burstCounted i).playing i = true := by
      rw [Device.playing, Device.strState_burstCounted]
      rfl
    exact Device.pwrState_syncRun (i := i) (hpower ▸ hready) hi hplays

/-- Results of cycles change nothing of it. -/
theorem Begun.kept (h : Begun d e i t) (hi : i < 16) (hstr : StreamsKept e x) (hpower : PowerKept e x) : Begun d x i t where
  state := (hstr.strState hi).trans h.state
  armed := (congrArg (Word.bit · 4) (hstr.reg_of_page hi (o := 0x44) (by decide) (by decide) (by decide))).trans h.armed
  lattice := (hstr.field i StrCtx.sInt fun _ => rfl).trans h.lattice
  whole := (hstr.field i StrCtx.sFrac fun _ => rfl).trans h.whole
  counted hlt := (congrArg BitVec.toNat (hstr.reg_of_page hi (o := 0x98) (by decide) (by decide) (by decide))).trans (h.counted hlt)
  run hready := hpower.pwrState.trans (h.run hready)

theorem Hushed.begun (h : Hushed d e) (hi : i < 16) (t : Nat) : Hushed d (e.begun i t) := by
  have hstatus : Reg.STR_STATUS i < 0x80000 := by
    unfold Reg.STR_STATUS Page.STR
    omega
  have hid : Reg.STR_BURST_ID i < 0x80000 := by
    unfold Reg.STR_BURST_ID Page.STR
    omega
  have hcounted : Hushed d ((e.reach t).burstCounted i) := (((h.reach t).setRegN hid).setFld hstatus).setReg hstatus
  have hbegun {seg marginal : Bool} : Hushed d (((e.reach t).burstCounted i).modStr i (StrCtx.begun t seg marginal)) := hcounted.modStr fun _ => rfl
  unfold Device.begun Device.syncRun
  dsimp only
  split
  · exact hbegun.setFld (by decide)
  · exact hbegun

/-- A command that begins a burst whose queue a PLAY leads. -/
theorem Completes.of_begun {n a : Nat} {g : Fetch} {is : List QItem} (f : Device → Device) (hx : exec k s = s.run f)
    (hf : f s.dev.fresh = (s.dev.fresh.reach t).beginBurst j.val t) (hqueue : (s.dev.strOf j.val).queue = .play n a g :: is)
    (hapg : (s.dev.strOf j.val).apgDue = false) :
    Completes k s (fun e => Begun s.dev e j.val t ∧ (e.strOf j.val).queue = (s.dev.strOf j.val).queue ∧ (s.dev.quiet = true → MemSame s.dev e)) := by
  have hctx : (s.dev.fresh.reach t).strOf j.val = s.dev.strOf j.val := Device.strOf_reach ..
  have hbegin := Device.beginBurst_play (d := s.dev.fresh.reach t) t ((congrArg StrCtx.queue hctx).trans hqueue) ((congrArg StrCtx.apgDue hctx).trans hapg)
  obtain ⟨seg, marginal, hbegun⟩ := (s.dev.fresh.reach t).strOf_begun j.val t
  have hregs (b : Nat) : (s.dev.fresh.reach t).reg b = s.dev.reg b := Device.reg_congr (Device.regs_reach ..) b
  refine Completes.of_caughtUp f hx ?_
  rw [hf, hbegin]
  have hstr := (StreamsKept.refl ((s.dev.fresh.reach t).begun j.val t)).caughtUp (d₀ := s.dev) |>.settle
  have hpower := (PowerKept.refl ((s.dev.fresh.reach t).begun j.val t)).caughtUp (d₀ := s.dev) |>.settle
  obtain ⟨hstate, harmed, hlattice, hwhole, hcounted, hrun⟩ := (Begun.begun (s.dev.fresh.reach t) j.isLt t).kept j.isLt hstr hpower
  refine ⟨⟨hstate, harmed, hlattice, hwhole, ?_, ?_⟩, ?_, fun hq => ?_⟩
  · rwa [Device.regN, hregs] at hcounted
  · rwa [Device.pwrState, Device.fld_eq, hregs] at hrun
  · rw [hstr.field j.val StrCtx.queue fun _ => rfl, hbegun, hctx, StrCtx.begun, hqueue, leadRest_play]
  · have hhush := ((Hushed.fresh hq).reach t).begun j.isLt t
    rw [hhush.caughtUp]
    exact MemSame.settle hhush.mem

/-- An immediate launch that is primed and not held reaches its first cycle (R119, R249). -/
theorem Device.launchFirst_begins (hstate : d.strState i = 1) (harm : (d.strOf i).arm = .immediate) (hprimed : (d.strOf i).primed = true)
    (hheld : d.cal.held = []) : d.launchFirst i = (d.reach (d.strOf i).launchT).beginBurst i (d.strOf i).launchT := by
  refine if_pos ?_
  simp only [Bool.and_eq_true, decide_eq_true_eq]
  refine ⟨⟨⟨hstate, harm⟩, hprimed⟩, ?_⟩
  rw [hheld]
  rfl

/-- A scheduled launch that is ready reaches its first cycle (R120). -/
theorem Device.schedStart_sched (hstate : d.strState i = 2) (harm : (d.strOf i).arm = .sched) (hverdict : (d.strOf i).verdict = some 0) :
    d.schedStart i = (d.reach (d.launchTime i)).beginBurst i (d.launchTime i) := by
  unfold Device.schedStart
  dsimp only
  rw [harm, hverdict]
  exact if_pos (by rw [hstate]; rfl)

/-- A quorum launch with GO reaches its first cycle (R120, R335). -/
theorem Device.schedStart_quorum (hstate : d.strState i = 2) (harm : (d.strOf i).arm = .quorum) (hverdict : (d.strOf i).verdict = some 0)
    (hgo : d.via.verdict = some true) : d.schedStart i = (d.reach (d.launchTime i)).beginBurst i (d.launchTime i) := by
  unfold Device.schedStart
  dsimp only
  rw [harm, hverdict, hgo]
  exact if_pos (by rw [hstate]; rfl)

/-! ## Readiness at T − 2 µs (R120) -/

theorem Device.notReady_reach (d : Device) (t i : Nat) : (d.reach t).notReady i = d.notReady i := by
  obtain ⟨u, hu⟩ := d.reach_eq t
  rw [hu]
  rfl

/-- The instant at which readiness is evaluated. -/
def Device.readyTime (d : Device) (i : Nat) : Nat := d.launchTime i - 2 * usTicks

/-- A stream of which no readiness is known yet is evaluated. -/
theorem Device.schedReady_eq (hstate : d.strState i = 1 ∨ d.strState i = 2) (harm : (d.strOf i).arm = .sched ∨ (d.strOf i).arm = .quorum)
    (hverdict : (d.strOf i).verdict = none) : d.schedReady i =
      if (d.strOf i).arm = .sched && d.notReady i ≠ 0 then ((d.reach (d.readyTime i)).drop i).missed i (d.notReady i)
      else (d.reach (d.readyTime i)).modStr i (fun c => { c with verdict := some (d.notReady i) }) := by
  rw [← d.notReady_reach (d.readyTime i) i]
  refine if_pos ?_
  simp only [Bool.and_eq_true, Bool.or_eq_true, decide_eq_true_eq]
  exact ⟨⟨hstate, harm⟩, by rw [hverdict]; rfl⟩

/-- A stream that is ready is kept (R120). -/
theorem schedReadiness_keeps (hstate : s.dev.strState j.val = 1 ∨ s.dev.strState j.val = 2)
    (harm : (s.dev.strOf j.val).arm = .sched ∨ (s.dev.strOf j.val).arm = .quorum) (hverdict : (s.dev.strOf j.val).verdict = none)
    (hready : s.dev.notReady j.val = 0) :
    Completes (.schedReadiness j) s (fun e => ((e.strOf j.val).verdict = some 0 ∧ e.strState j.val = s.dev.strState j.val) ∧
      (s.dev.quiet = true → e.strOf j.val = { s.dev.strOf j.val with verdict := some 0 } ∧ e.regs = s.dev.regs ∧ MemSame s.dev e)) := by
  have hready' : s.dev.fresh.notReady j.val = 0 := hready
  have hkeeps := Device.schedReady_eq (d := s.dev.fresh) hstate harm hverdict
  rw [if_neg (by rw [hready']; simp), hready'] at hkeeps
  have hctx : ((s.dev.fresh.reach (s.dev.fresh.readyTime j.val)).modStr j.val (fun c => { c with verdict := some 0 })).strOf j.val =
      { s.dev.strOf j.val with verdict := some 0 } := by
    rw [Device.strOf_modStr, Device.strOf_reach]
    rfl
  have hregs : ((s.dev.fresh.reach (s.dev.fresh.readyTime j.val)).modStr j.val (fun c => { c with verdict := some 0 })).regs = s.dev.regs :=
    (Device.regs_modStr ..).trans (Device.regs_reach ..)
  have hhush (hq : s.dev.quiet = true) := ((Hushed.fresh hq).reach (s.dev.fresh.readyTime j.val)).modStr (i := j.val)
    (f := fun c => { c with verdict := some 0 }) fun _ => rfl
  refine Completes.of_played (fun d => d.schedReady j.val) rfl hkeeps (fun e he => ⟨?_, ?_⟩) hhush fun hq => ⟨?_, ?_, MemSame.settle (hhush hq).mem⟩
  · rw [he.field j.val StrCtx.verdict fun _ => rfl, hctx]
  · exact (he.strState j.isLt).trans (Device.strState_congr hregs _)
  · rw [Device.settle_strOf, hctx]
  · rw [Device.settle_regs, hregs]

/-- A stream that leaves play brings nothing for time to settle. -/
theorem Hushed.strClear (h : Hushed d e) (hi : i < 16) : Hushed d (e.strClear i) := by
  have hstatus : Reg.STR_STATUS i < 0x80000 := by
    unfold Reg.STR_STATUS Page.STR
    omega
  have hcleared : Hushed d (e.modStr i StrCtx.cleared) := by
    refine h.other (fun _ _ => rfl) (fun c hc => ?_) rfl
    rcases Tab.mem_set (dflt := fun _ => StrCtx.reset) hc with rfl | hold
    · exact .inr rfl
    · exact .inl hold
  have hheld {f : CalCtx → CalCtx} (hf : ∀ c, (f c).ends = c.ends) : Hushed d ((e.modStr i StrCtx.cleared).modCal f) :=
    hcleared.other (fun _ _ => rfl) (fun _ hc => .inl hc) (by rw [show ((e.modStr i StrCtx.cleared).modCal f).cal.ends = _ from hf _]; rfl)
  unfold Device.strClear
  exact setReg (setReg (setReg (setReg (hheld fun _ => rfl) (by decide)) hstatus) hstatus) hstatus

theorem Hushed.ite {c : Prop} [Decidable c] {y : Device} (hx : Hushed d x) (hy : Hushed d y) : Hushed d (if c then x else y) := by
  split
  · exact hx
  · exact hy

theorem Hushed.vendMove (h : Hushed d e) (i : Nat) : Hushed d (e.vendMove i) := by
  have hmoved {v : Nat} : Hushed d (e.setFld Reg.UCS_VSEL i 1 v) := h.setFld (by decide)
  unfold Device.vendMove Device.vendDone
  exact ite (ite ((hmoved.setReg (by decide)).event (by decide)) hmoved) h

theorem Hushed.drop (h : Hushed d e) (hi : i < 16) : Hushed d (e.drop i) := by
  have hstatus : Reg.STR_STATUS i < 0x80000 := by
    unfold Reg.STR_STATUS Page.STR
    omega
  have hidle : Hushed d (((e.strClear i).setStrState i 0).setEng i .idle) := ((h.strClear hi).setFld hstatus).modStr fun _ => rfl
  exact hidle.vendMove i

theorem Hushed.recordAt {t ty sev src code p0 p1 p2 : Nat} (h : Hushed d e) : Hushed d (e.recordAt t ty sev src code p0 p1 p2) := by
  have hseq : Hushed d (e.setFld Reg.EVQ_SEQ 0 15 (e.fld Reg.EVQ_SEQ 0 15 + 1)) := h.setFld (by decide)
  have hlost : Hushed d ((e.setFld Reg.EVQ_SEQ 0 15 (e.fld Reg.EVQ_SEQ 0 15 + 1)).addSat Reg.EVQ_LOST 0 32 1) := hseq.setReg (by decide)
  unfold Device.recordAt
  refine ite (hseq.other (fun _ _ => rfl) (fun _ hc => .inl hc) rfl) (event ?_ (by decide))
  exact hlost.other (fun _ _ => rfl) (fun _ hc => .inl hc) rfl

theorem Hushed.missed {r : Nat} (h : Hushed d e) (hi : i < 16) : Hushed d (e.missed i r) := by
  unfold Device.missed
  refine h.recordAt.event ?_
  unfold Reg.PG_EVT_RAW Page.STR
  omega

/-- A missed launch has its event, and leaves STATE alone (R120). -/
theorem Device.missed_spec (d : Device) {i : Nat} (r : Nat) (hi : i < 16) : (d.missed i r).strState i = d.strState i ∧
    (d.missed i r).bit (Reg.PG_EVT_RAW (Page.STR i)) 5 = true := by
  have hne : Reg.STR_STATUS i ≠ Reg.PG_EVT_RAW (Page.STR i) := by
    unfold Reg.STR_STATUS Reg.PG_EVT_RAW
    omega
  refine ⟨?_, Device.bit_event _ _ (by decide)⟩
  exact (congrArg (Word.get · 0 4) (RegsBut.setReg _ _ _ _ hne)).trans ((StreamsKept.refl d).record.strState hi)

/-- A local scheduled launch that is not ready is missed (R120). -/
theorem schedReadiness_misses (hstate : s.dev.strState j.val = 1 ∨ s.dev.strState j.val = 2) (harm : (s.dev.strOf j.val).arm = .sched)
    (hverdict : (s.dev.strOf j.val).verdict = none) (hready : s.dev.notReady j.val ≠ 0) :
    Completes (.schedReadiness j) s (fun e => (e.strState j.val = 0 ∧ e.bit (Reg.PG_EVT_RAW (Page.STR j.val)) 5 = true) ∧
      (s.dev.quiet = true → MemSame s.dev e)) := by
  have hmisses := Device.schedReady_eq (d := s.dev.fresh) hstate (.inl harm) hverdict
  rw [if_pos (by simp only [Bool.and_eq_true, decide_eq_true_eq]; exact ⟨harm, hready⟩)] at hmisses
  have hhalted := ((s.dev.fresh.reach (s.dev.fresh.readyTime j.val)).drop_spec j.isLt).1
  obtain ⟨hsame, hevent⟩ := ((s.dev.fresh.reach (s.dev.fresh.readyTime j.val)).drop j.val).missed_spec (s.dev.fresh.notReady j.val) j.isLt
  have hhush (hq : s.dev.quiet = true) := (((Hushed.fresh hq).reach (s.dev.fresh.readyTime j.val)).drop j.isLt).missed j.isLt
    (r := s.dev.fresh.notReady j.val)
  refine Completes.of_played (fun d => d.schedReady j.val) rfl hmisses (fun e he => ⟨?_, ?_⟩) hhush fun hq => MemSame.settle (hhush hq).mem
  · exact (he.strState j.isLt).trans (hsame.trans hhalted)
  · exact (congrArg (Word.bit · 5) (he.reg_of_page j.isLt (o := 0x10) (by decide) (by decide) (by decide))).trans hevent

/-! ## Priming (R119, R249) -/

theorem Calm.modStr {n : Nat} {f : StrCtx → StrCtx} (h : Calm d e) : Calm d (e.modStr n f) := h.other rfl

theorem Calm.fetchReady {n m : Nat} {cache : Bool} (h : Calm d e) : Calm d (e.fetchReady n m cache) := by
  unfold Device.fetchReady Device.fetchRelease Device.setFetching
  exact h.modStr.modStr.modStr

theorem Calm.fetchArrive {n t : Nat} (h : Calm d e) : Calm d (e.fetchArrive n t) := by
  unfold Device.fetchArrive
  split
  · exact ite h.fetchNotes.spend.modStr.modStr h.fetchNotes.spend.modStr
  · split
    · exact h
    · split
      · exact engRoom (ite h.fetchNotes.spend.fetchReady h.fetchNotes.spend.modStr)
      · exact h

theorem Calm.fetchPrime (d : Device) (i : Nat) : Calm d (d.fetchPrime i) := ite (refl d).fetchArrive (refl d)

/-- A stream whose bytes have just primed it: `e` is the device `d` once they have arrived. -/
structure Primes (d e : Device) (i : Nat) : Prop where
  arrived : e = d.fetchPrime i
  priming : d.strState i = 1
  unprimed : (d.strOf i).primed = false
  stays : e.strState i = 1
  unknown : (e.strOf i).primed = false
  full : e.isPrimed i = true

/-- The stream is known to be primed. -/
def Device.primed (d : Device) (i : Nat) : Device := d.modStr i (fun c => { c with primed := true })

theorem Device.strOf_primed (d : Device) (i : Nat) : (d.primed i).strOf i = { d.strOf i with primed := true } := Device.strOf_modStr ..

/-- An immediate launch whose first cycle is held for a calibration commit (R249). -/
def Device.launchHeld (d : Device) (i : Nat) : Device :=
  (d.modCal (fun k => { k with held := k.held ++ [(i, d.ttime + (max 1 (d.fld Reg.CAL_HOLDMAX 0 16)) * usTicks)] })).setBit Reg.CAL_STATUS 4 true

namespace Primes

theorem strPrimed (h : Primes d e i) : d.strPrimed i =
    match (e.strOf i).arm with
    | .immediate =>
      if !e.piersAwake i then e
      else if ((e.primed i).strOf i).mayHold && (e.primed i).calState = 5 then (e.primed i).launchHeld i
      else (e.primed i).modStr i (fun c => { c with launchT := (e.primed i).launchSlot })
    | .none => e
    | _ => (e.primed i).setStrState i 2 := by
  obtain ⟨harrived, hstate, hnot, hstate', hnot', hprimed⟩ := h
  have hcome : (if d.strState i = 1 && !(d.strOf i).primed then d.fetchPrime i else d) = e := by
    rw [if_pos (by rw [hstate, hnot]; rfl), harrived]
  unfold Device.strPrimed
  rw [hcome]
  exact if_pos (by rw [hstate', hnot', hprimed]; rfl)

/-- A launch at a time given becomes ARMED (R120). -/
theorem arms (h : Primes d e i) (harm : (e.strOf i).arm = .sched ∨ (e.strOf i).arm = .quorum) : d.strPrimed i = (e.primed i).setStrState i 2 := by
  rw [h.strPrimed]
  rcases harm with harm | harm
  · rw [harm]
  · rw [harm]

/-- An immediate launch gets its slot (R119). -/
theorem slots (h : Primes d e i) (harm : (e.strOf i).arm = .immediate) (hawake : e.piersAwake i = true)
    (hfree : ¬ ((e.strOf i).mayHold = true ∧ e.calState = 5)) : d.strPrimed i = (e.primed i).modStr i (fun c => { c with launchT := (e.primed i).launchSlot }) := by
  rw [h.strPrimed, harm]
  dsimp only
  rw [hawake, if_neg (by decide), if_neg]
  rw [Device.strOf_primed, Bool.and_eq_true, decide_eq_true_eq]
  exact hfree

/-- An immediate launch is held for a commit (R249). -/
theorem holds (h : Primes d e i) (harm : (e.strOf i).arm = .immediate) (hawake : e.piersAwake i = true) (hhold : (e.strOf i).mayHold = true)
    (hcal : e.calState = 5) : d.strPrimed i = (e.primed i).launchHeld i := by
  rw [h.strPrimed, harm]
  dsimp only
  rw [hawake, if_neg (by decide), if_pos]
  rw [Device.strOf_primed, Bool.and_eq_true, decide_eq_true_eq]
  exact ⟨hhold, hcal⟩

theorem calm (h : Primes s.dev.fresh d i) : Calm s.dev d := by
  rw [h.arrived]
  exact (Calm.fetchPrime s.dev.fresh i).of_fresh

end Primes

theorem Device.launchSlot_primed (d : Device) (i : Nat) : (d.primed i).launchSlot = d.launchSlot := by
  unfold Device.launchSlot
  rw [show (d.primed i).ttime = d.ttime from rfl]

theorem streamPrimed_arms (h : Primes s.dev.fresh d j.val) (harm : (d.strOf j.val).arm = .sched ∨ (d.strOf j.val).arm = .quorum) :
    Completes (.streamPrimed j) s (fun e => (e.strState j.val = 2 ∧ e.strOf j.val = { d.strOf j.val with primed := true } ∧
      RegsBut (· = Reg.STR_STATUS j.val) d e) ∧ MemSame s.dev e) := by
  have hcalm : Calm s.dev ((d.primed j.val).setStrState j.val 2) := h.calm.modStr.setReg
  refine Completes.of_calm (fun d => d.strPrimed j.val) rfl (h.arms harm) hcalm ⟨?_, ?_, ?_⟩
  · rw [Device.strState_congr (Device.settle_regs _), Device.strState_setStrState _ _ (by decide)]
  · rw [Device.settle_strOf]
    exact Device.strOf_primed d j.val
  · exact RegsBut.settle fun a ha => RegsBut.setReg (d.primed j.val) _ _ a ha

theorem streamPrimed_slots (h : Primes s.dev.fresh d j.val) (harm : (d.strOf j.val).arm = .immediate) (hawake : d.piersAwake j.val = true)
    (hfree : ¬ ((d.strOf j.val).mayHold = true ∧ d.calState = 5)) :
    Completes (.streamPrimed j) s (fun e => (e.strOf j.val = { d.strOf j.val with primed := true, launchT := d.launchSlot } ∧
      RegsBut (fun _ => False) d e) ∧ MemSame s.dev e) := by
  have hslots := h.slots harm hawake hfree
  rw [Device.launchSlot_primed] at hslots
  have hcalm : Calm s.dev ((d.primed j.val).modStr j.val (fun c => { c with launchT := d.launchSlot })) :=
    h.calm.modStr.modStr
  refine Completes.of_calm (fun d => d.strPrimed j.val) rfl hslots hcalm ⟨?_, ?_⟩
  · rw [Device.settle_strOf, Device.strOf_modStr, Device.strOf_primed]
  · exact RegsBut.settle fun _ _ => rfl

theorem streamPrimed_holds (h : Primes s.dev.fresh d j.val) (harm : (d.strOf j.val).arm = .immediate) (hawake : d.piersAwake j.val = true)
    (hhold : (d.strOf j.val).mayHold = true) (hcal : d.calState = 5) :
    Completes (.streamPrimed j) s (fun e => (e.strOf j.val = { d.strOf j.val with primed := true } ∧ e.bit Reg.CAL_STATUS 4 = true ∧
      e.cal.held = d.cal.held ++ [(j.val, d.ttime + max 1 (d.fld Reg.CAL_HOLDMAX 0 16) * usTicks)]) ∧ MemSame s.dev e) := by
  have hprimed : Calm s.dev (d.primed j.val) := h.calm.modStr
  have hmodCal {f : CalCtx → CalCtx} : Calm s.dev ((d.primed j.val).modCal f) := hprimed.other rfl
  have hcalm : Calm s.dev ((d.primed j.val).launchHeld j.val) := hmodCal.setReg
  refine Completes.of_calm (fun d => d.strPrimed j.val) rfl (h.holds harm hawake hhold hcal) hcalm ⟨?_, ?_, ?_⟩
  · rw [Device.settle_strOf]
    exact Device.strOf_primed d j.val
  · rw [Device.bit_eq, Device.settle_reg]
    exact Device.bit_setBit_true _ _ (by decide)
  · rw [Device.settle_cal]
    rfl

/-- Settles O23: a burst whose queue a PLAY leads begins with no action at its first boundary, and what time brings after it leaves it alone. -/
theorem firstCycles : Obligations.FirstCycles := by
  unfold Obligations.FirstCycles
  rintro s i c rfl
  refine ⟨fun d hd hstate hnot hstate' hnot' hfull => ?_, fun n a f is hstate hprimed harm hheld hqueue hapg hready hid => ?_,
    fun hstate harm hverdict hready => ?_, fun hstate harm hverdict hready => ?_, fun n a f is hstate harm hverdict hqueue hapg => ?_,
    fun n a f is hstate harm hverdict hgo hqueue hapg => ?_⟩
  · have h : Primes s.dev.fresh d i.val := ⟨hd, hstate, hnot, hstate', hnot', hfull⟩
    refine ⟨fun harm => ?_, fun harm hawake hfree => ?_, fun harm hawake hhold hcal => ?_⟩
    · exact (streamPrimed_arms h harm).mono fun e ⟨⟨hst, hctx, hregs⟩, hmem⟩ => ⟨hst, hctx, hregs, hmem⟩
    · exact (streamPrimed_slots h harm hawake hfree).mono fun e ⟨⟨hctx, hregs⟩, hmem⟩ => ⟨hctx, hregs, hmem⟩
    · exact (streamPrimed_holds h harm hawake hhold hcal).mono fun e ⟨⟨hctx, hbit, hheld⟩, hmem⟩ => ⟨hctx, hbit, hheld, hmem⟩
  · have hbegins := Device.launchFirst_begins (d := s.dev.fresh) hstate harm hprimed hheld
    refine (Completes.of_begun (fun d => d.launchFirst i.val) rfl hbegins hqueue hapg).mono fun e ⟨hb, hq, hmem⟩ => ?_
    exact ⟨hb.state, hb.lattice, hb.whole, hq, hb.counted hid, hb.run hready, hmem⟩
  · exact (schedReadiness_keeps hstate harm hverdict hready).mono fun e ⟨⟨hv, hst⟩, hquiet⟩ => ⟨hv, hst, hquiet⟩
  · exact (schedReadiness_misses hstate harm hverdict hready).mono fun e ⟨⟨hst, hevent⟩, hquiet⟩ => ⟨hst, hevent, hquiet⟩
  · have hbegins := Device.schedStart_sched (d := s.dev.fresh) hstate harm hverdict
    refine (Completes.of_begun (fun d => d.schedStart i.val) rfl hbegins hqueue hapg).mono fun e ⟨hb, hq, hmem⟩ => ?_
    exact ⟨hb.state, hb.lattice, hb.whole, hq, hb.armed, hmem⟩
  · have hbegins := Device.schedStart_quorum (d := s.dev.fresh) hstate harm hverdict hgo
    exact (Completes.of_begun (fun d => d.schedStart i.val) rfl hbegins hqueue hapg).mono fun e ⟨hb, hq, _⟩ => ⟨hb.state, hb.lattice, hq⟩

end Sys2Proof.Machine
end

section
/-! PROOF. Micro-operations on registers and temporaries (R127, R131). -/

namespace Sys2Proof.Machine

variable {d e : Device} {s pc cls : Nat} {S : Nat → Prop} {c : StrCtx} {g : Device → Nat → Device} {x : State} {i : Fin 16} {k : Instr}

/-! ## The micro-operation at uPC (R129) -/

/-- The device once the next micro-operation of stream `s` is fetched: uPC is at the word after it (R129). -/
def Device.stepped (d : Device) (s : Nat) : Device := d.modMicro s Micro.next

/-- The micro-operation at uPC, read without an error, acts with uPC at the next word (R129). -/
theorem InRoutine.microStep_good (h : d.executesMicro s cls = true) : d.microStep s .good cls g = g (d.stepped s) (d.microWord s) := by
  obtain ⟨hin, hue, hlim, hres, hcls⟩ := InRoutine.of_executesMicro h
  have hread : d.microRead .good = d := rfl
  have hword : d.csWord (d.strOf s).micro.upc = d.microWord s := rfl
  rw [hin.step (ecc := .good) nofun hue, if_neg (Nat.not_le.mpr hlim), hread, hword, hcls, if_neg (by rw [hres]; nofun), if_neg (not_not.mpr rfl)]
  rfl

/-- The fetch of a micro-operation changes uPC and the count of micro-operations alone (R129, R144). -/
theorem stepped_fresh (x : State) (i : Fin 16) : StreamTo x.dev.fresh (x.dev.fresh.stepped i.val) i.val (x.dev.strPc i.val) (fun _ => False)
    { x.dev.strOf i.val with micro := (x.dev.strOf i.val).micro.next } :=
  (StreamTo.refl x.dev.fresh i.val).modStr fun c => { c with micro := c.micro.next }

theorem Device.strOf_stepped (d : Device) (s : Nat) : (d.stepped s).strOf s = { d.strOf s with micro := (d.strOf s).micro.next } :=
  Device.strOf_modStr ..

/-- A micro-operation changes its stream as its rule states. -/
theorem Completes.of_micro {y : Device} (hx : exec k x = x.run (fun d => d.microStep i.val .good cls g)) (h : x.dev.executesMicro i.val cls = true)
    (hg : g (x.dev.fresh.stepped i.val) (x.dev.microWord i.val) = y) (hy : StreamTo x.dev.fresh y i.val pc S c) :
    Completes k x (fun e => StreamTo x.dev e i.val pc S c) := by
  have hstep : x.dev.fresh.microStep i.val .good cls g = y := (InRoutine.microStep_good (d := x.dev.fresh) h).trans hg
  exact Completes.of_stream _ hx (hstep ▸ hy)

/-! ## Operands (R127) -/

/-- The operand codes read the same before and after the fetch of a micro-operation. -/
theorem Device.opd_stepped (d : Device) (s o : Nat) : (d.stepped s).opd s o = d.opd s o := by
  have hctx := d.strOf_stepped s
  unfold Device.opd
  rw [hctx]
  rfl

theorem Device.withOpd_val {o v : Nat} {f : Device → Nat → Device} (h : d.opd s o = .val v) : d.withOpd s o f = f d v := by
  unfold Device.withOpd
  rw [h]

/-- An operand of a micro-operation that is fetched. -/
theorem Device.withOpd_stepped {o v : Nat} {f : Device → Nat → Device} (h : d.opd s o = .val v) : (d.stepped s).withOpd s o f = f (d.stepped s) v :=
  Device.withOpd_val ((d.opd_stepped s o).trans h)

theorem Device.setOpd_general {r v : Nat} (hr : r < 16) : d.setOpd s r v = d.setRegN (Reg.STR_G s r) (v % 2 ^ 32) := if_pos hr

theorem Device.setOpd_temporary {j v : Nat} (hj : j < 8) :
    d.setOpd s (0x10 + j) v = d.modMicro s (fun m => { m with t := m.t.set j (BitVec.ofNat 32 (v % 2 ^ 32)) }) := by
  unfold Device.setOpd
  rw [if_neg (by omega), if_pos (by omega), Nat.add_sub_cancel_left]

theorem Device.opd_temporary {j : Nat} (hj : j < 8) : d.opd s (0x10 + j) = .val ((d.strOf s).micro.t.getD j 0).toNat := by
  unfold Device.opd
  rw [if_neg (by omega), if_pos (by omega), Nat.add_sub_cancel_left]

/-- A micro-operation that ends with a write of a general register. -/
theorem Completes.of_micro_general {y : Device} {r v : Nat} (hx : exec k x = x.run (fun d => d.microStep i.val .good cls g))
    (h : x.dev.executesMicro i.val cls = true) (hr : r < 16) (hg : g (x.dev.fresh.stepped i.val) (x.dev.microWord i.val) = y.setOpd i.val r v)
    (hy : StreamTo x.dev.fresh y i.val pc (fun _ => False) c) :
    Completes k x (fun e => e.g i.val r = v % 2 ^ 32 ∧ StreamTo x.dev e i.val pc (· = Reg.STR_G i.val r) c) := by
  have hne : Reg.STR_G i.val r ≠ Reg.STR_PC i.val := by
    unfold Reg.STR_G Reg.STR_PC
    omega
  have hstep : x.dev.fresh.microStep i.val .good cls g = y.setRegN (Reg.STR_G i.val r) (v % 2 ^ 32) :=
    ((InRoutine.microStep_good (d := x.dev.fresh) h).trans hg).trans (Device.setOpd_general hr)
  have hto : StreamTo x.dev (y.setRegN (Reg.STR_G i.val r) (v % 2 ^ 32)) i.val pc (· = Reg.STR_G i.val r) c :=
    StreamTo.setReg (hy.mono nofun) _ rfl hne
  refine Completes.of_run _ hx hstep hto.still ⟨?_, hto.settle⟩
  rw [Device.g, Device.regN_eq, Device.settle_reg, Device.setRegN_eq, Device.reg_setReg_same, BitVec.toNat_ofNat, Nat.mod_mod]

/-! ## ALU (R131) -/

/-- The context of a stream with the micro-flags of a result (R131). -/
def StrCtx.resultFlags (c : StrCtx) (v : Nat) (cy : Bool) : StrCtx :=
  { c with micro := { c.micro with uz := decide (v % 2 ^ 32 = 0), un := natBit v 31, uc := cy } }

theorem StreamTo.setUFlags {v : Nat} {cy : Bool} (h : StreamTo d e s pc S c) : StreamTo d (e.setUFlags s v (some cy)) s pc S (c.resultFlags v cy) :=
  h.modStr fun c => c.resultFlags v cy

/-- The second operand of an ALU micro-operation is `y`: SIMM12, or what the operand code SRCB reads (R131). -/
def Device.AluSrcB (d : Device) (s w y : Nat) : Prop := if natBit w 12 then y = unsigned 32 (signed 12 (w % 2 ^ 12)) else d.opd s (w % 32) = .val y

theorem Device.uAlu_eq {w a y v : Nat} {cy : Bool} (hmov : insField w 23 4 ≠ 8) (ha : d.opd s (insField w 13 5) = .val a) (hy : d.AluSrcB s w y)
    (hres : aluOp (insField w 23 4) a y = some (v, some cy)) :
    (d.stepped s).uAlu s w = if insField w 23 4 = 9 then (d.stepped s).setUFlags s v (some cy)
      else ((d.stepped s).setUFlags s v (some cy)).setOpd s (insField w 18 5) v := by
  unfold Device.uAlu
  dsimp only
  rw [if_neg hmov, Device.withOpd_stepped ha]
  unfold Device.AluSrcB at hy
  split at hy
  · next himm =>
    subst hy
    rw [if_pos himm, hres]
  · next hreg => rw [if_neg hreg, Device.withOpd_stepped hy, hres]

theorem alu_writes {a y v : Nat} {cy : Bool} (h : x.dev.executesMicro i.val 0x01 = true) (hmov : insField (x.dev.microWord i.val) 23 4 ≠ 8)
    (hcmp : insField (x.dev.microWord i.val) 23 4 ≠ 9) (hr : insField (x.dev.microWord i.val) 18 5 < 16)
    (ha : x.dev.opd i.val (insField (x.dev.microWord i.val) 13 5) = .val a) (hy : x.dev.AluSrcB i.val (x.dev.microWord i.val) y)
    (hres : aluOp (insField (x.dev.microWord i.val) 23 4) a y = some (v, some cy)) :
    Completes (.alu i .good) x (fun e => e.g i.val (insField (x.dev.microWord i.val) 18 5) = v % 2 ^ 32 ∧
      StreamTo x.dev e i.val (x.dev.strPc i.val) (· = Reg.STR_G i.val (insField (x.dev.microWord i.val) 18 5))
        (StrCtx.resultFlags { x.dev.strOf i.val with micro := (x.dev.strOf i.val).micro.next } v cy)) :=
  Completes.of_micro_general rfl h hr ((Device.uAlu_eq (d := x.dev.fresh) hmov ha hy hres).trans (if_neg hcmp)) (stepped_fresh x i).setUFlags

theorem cmp_flags {a y : Nat} (h : x.dev.executesMicro i.val 0x01 = true) (hcmp : insField (x.dev.microWord i.val) 23 4 = 9)
    (ha : x.dev.opd i.val (insField (x.dev.microWord i.val) 13 5) = .val a) (hy : x.dev.AluSrcB i.val (x.dev.microWord i.val) y) :
    Completes (.alu i .good) x (fun e => StreamTo x.dev e i.val (x.dev.strPc i.val) (fun _ => False)
      (StrCtx.resultFlags { x.dev.strOf i.val with micro := (x.dev.strOf i.val).micro.next } ((a + 2 ^ 32 - y) % 2 ^ 32) (decide (a < y)))) := by
  have hmov : insField (x.dev.microWord i.val) 23 4 ≠ 8 := by omega
  have hres : aluOp (insField (x.dev.microWord i.val) 23 4) a y = some ((a + 2 ^ 32 - y) % 2 ^ 32, some (decide (a < y))) := by rw [hcmp]; rfl
  exact Completes.of_micro rfl h ((Device.uAlu_eq (d := x.dev.fresh) hmov ha hy hres).trans (if_pos hcmp)) (stepped_fresh x i).setUFlags

/-! ## Immediates, stream state and the sequence store (R131, R134) -/

theorem ldi_writes (h : x.dev.executesMicro i.val 0x02 = true) (hr : insField (x.dev.microWord i.val) 22 5 < 16) :
    Completes (.ldi i .good) x (fun e => e.g i.val (insField (x.dev.microWord i.val) 22 5) = x.dev.microWord i.val % 2 ^ 22 ∧
      StreamTo x.dev e i.val (x.dev.strPc i.val) (· = Reg.STR_G i.val (insField (x.dev.microWord i.val) 22 5))
        { x.dev.strOf i.val with micro := (x.dev.strOf i.val).micro.next }) := by
  have hlt : x.dev.microWord i.val % 2 ^ 22 < 2 ^ 32 := (Nat.mod_lt _ (by decide)).trans (by decide)
  have hwrites := Completes.of_micro_general (k := .ldi i .good) rfl h hr (y := x.dev.fresh.stepped i.val) rfl (stepped_fresh x i)
  rwa [Nat.mod_eq_of_lt hlt] at hwrites

theorem ldih_writes {j : Nat} (h : x.dev.executesMicro i.val 0x03 = true) (hj : j < 8) (hdst : insField (x.dev.microWord i.val) 22 5 = 0x10 + j) :
    Completes (.ldih i .good) x (fun e => StreamTo x.dev e i.val (x.dev.strPc i.val) (fun _ => False)
      { x.dev.strOf i.val with
        micro := { (x.dev.strOf i.val).micro.next with
          t := (x.dev.strOf i.val).micro.t.set j
            (BitVec.ofNat 32 (((x.dev.strOf i.val).micro.t.getD j 0).toNat % 2 ^ 16 + x.dev.microWord i.val % 2 ^ 16 * 2 ^ 16)) } }) := by
  have hold := Device.opd_temporary (d := x.dev.fresh) (s := i.val) hj
  have hlt : ((x.dev.strOf i.val).micro.t.getD j 0).toNat % 2 ^ 16 + x.dev.microWord i.val % 2 ^ 16 * 2 ^ 16 < 2 ^ 32 := by omega
  refine Completes.of_micro rfl h ?_ ((stepped_fresh x i).modStr fun c => { c with micro := { c.micro with t := c.micro.t.set j (BitVec.ofNat 32 _) } })
  unfold Device.uLdih
  rw [hdst, Device.withOpd_stepped hold, Device.setOpd_temporary hj]
  exact congrArg (fun v => (x.dev.fresh.stepped i.val).modMicro i.val (fun m => { m with t := m.t.set j (BitVec.ofNat 32 v) })) (Nat.mod_eq_of_lt hlt)

/-- RDX of a value of 32 bits (R131). -/
theorem rdx_writes {v : Nat} (h : x.dev.executesMicro i.val 0x0C = true) (hr : insField (x.dev.microWord i.val) 22 5 < 16) (hv : v < 2 ^ 32)
    (hsel : (x.dev.fresh.stepped i.val).uRdx i.val (x.dev.microWord i.val) =
      (x.dev.fresh.stepped i.val).setOpd i.val (insField (x.dev.microWord i.val) 22 5) v) :
    Completes (.rdx i .good) x (fun e => e.g i.val (insField (x.dev.microWord i.val) 22 5) = v ∧
      StreamTo x.dev e i.val (x.dev.strPc i.val) (· = Reg.STR_G i.val (insField (x.dev.microWord i.val) 22 5))
        { x.dev.strOf i.val with micro := (x.dev.strOf i.val).micro.next }) := by
  have hwrites := Completes.of_micro_general (k := .rdx i .good) rfl h hr hsel (stepped_fresh x i)
  rwa [Nat.mod_eq_of_lt hv] at hwrites

theorem Device.seqWord_lt (d : Device) (a : Nat) : d.seqWord a < 2 ^ 64 := Word.join_lt _ _

/-- What LDS reads of instruction `a`: its upper or its lower word (R134). -/
def Device.seqHalf (d : Device) (a : Nat) (upper : Bool) : Nat := if upper then d.seqWord a / 2 ^ 32 else d.seqWord a % 2 ^ 32

theorem Device.seqHalf_lt (d : Device) (a : Nat) (upper : Bool) : d.seqHalf a upper < 2 ^ 32 := by
  have h := d.seqWord_lt a
  unfold Device.seqHalf
  split <;> omega

theorem Device.uLds_good {w a : Nat} (ha : d.opd s (insField w 17 5) = .val a) (hlt : a < seqSize) (hue : d.winUE (seqAddr a) = false) :
    (d.stepped s).uLds s w false = (d.stepped s).setOpd s (insField w 22 5) (d.seqHalf a (natBit w 16)) := by
  unfold Device.uLds
  rw [Device.withOpd_stepped ha, if_neg (Nat.not_le.mpr hlt)]
  exact if_neg (by rw [Bool.false_or]; exact Bool.eq_false_iff.mp hue)

theorem lds_writes {a : Nat} (h : x.dev.executesMicro i.val 0x0E = true) (hr : insField (x.dev.microWord i.val) 22 5 < 16)
    (ha : x.dev.opd i.val (insField (x.dev.microWord i.val) 17 5) = .val a) (hlt : a < seqSize) (hue : x.dev.winUE (seqAddr a) = false) :
    Completes (.lds i .good false) x (fun e =>
      e.g i.val (insField (x.dev.microWord i.val) 22 5) = x.dev.seqHalf a (natBit (x.dev.microWord i.val) 16) ∧
      StreamTo x.dev e i.val (x.dev.strPc i.val) (· = Reg.STR_G i.val (insField (x.dev.microWord i.val) 22 5))
        { x.dev.strOf i.val with micro := (x.dev.strOf i.val).micro.next }) := by
  have hwrites := Completes.of_micro_general (k := .lds i .good false) rfl h hr (Device.uLds_good (d := x.dev.fresh) ha hlt hue) (stepped_fresh x i)
  rwa [Nat.mod_eq_of_lt (x.dev.fresh.seqHalf_lt a _)] at hwrites

/-- Settles O19: each micro-operation goes on from the device with uPC at the next word, reads its operands there, and writes its destination last. -/
theorem microData : Obligations.MicroData := by
  unfold Obligations.MicroData
  rintro s i _ _ _ _ rfl rfl rfl rfl
  refine ⟨fun a y v cy h hmov hcmp hr ha hy hres => alu_writes h hmov hcmp hr ha hy hres, ?_, fun h hr => ldi_writes h hr,
    fun k h hk hdst => ldih_writes h hk hdst, fun h hr hsel => ?_, fun h hr hsel => ?_, fun a h hr ha hlt hue => lds_writes h hr ha hlt hue⟩
  · rintro a y _ _ h hcmp ha hreg hy rfl rfl
    have hflags := cmp_flags h hcmp ha (y := y) (by rwa [Device.AluSrcB, hreg])
    rwa [StrCtx.resultFlags, Nat.mod_mod] at hflags
  · refine rdx_writes h hr (s.dev.reg _).isLt ?_
    unfold Device.uRdx
    rw [hsel]
    rfl
  · refine rdx_writes h hr (Nat.lt_of_le_of_lt (Nat.sub_le ..) (by decide)) ?_
    unfold Device.uRdx
    rw [hsel, Device.strOf_stepped]
    rfl

end Sys2Proof.Machine
end

section
/-! PROOF. The instructions of the pattern generator, and the dispatch of a customer opcode (R128, R145, R159). -/

namespace Sys2Proof.Machine

variable {d e : Device} {s pc : Nat} {S : Nat → Prop} {c : StrCtx} {ft : Fetched} {x : State} {i : Fin 16}

/-! ## The pattern generator (R159) -/

theorem Device.engAset_accepted {tgt v a : Nat} (htgt : asetBadTarget tgt = false) (hv : apgReserved (0x200 + 4 * tgt) v = false) :
    d.engAset s tgt v a = d.bnd s (.aset tgt v) a := by
  unfold Device.engAset
  rw [htgt, hv]
  rfl

/-- A dispatch leaves the sequence store. -/
theorem Device.seqWord_dispatched (d : Device) (hs : s < 16) (a : Nat) : (d.dispatched s).seqWord a = d.seqWord a := by
  have hreg (k : Nat) (hk : 0x400000 ≤ k) : (d.dispatched s).reg k = d.reg k :=
    RegsBut.dispatched d s k (by unfold Reg.STR_PC Page.STR; omega)
  unfold Device.seqWord Device.reg64
  rw [hreg _ (by unfold seqAddr; omega), hreg _ (by unfold seqAddr; omega)]

/-- The 14 words that a SCRLD reads from instruction `a₀` on (R159). -/
def Device.scrWords (d : Device) (a₀ : Nat) : List Nat := (List.range 7).flatMap (fun k => [d.seqWord (a₀ + k) % 2 ^ 32, d.seqWord (a₀ + k) / 2 ^ 32])

theorem Device.engScr_good {a₀ a : Nat} (ha : a₀ ≤ 262137) (hue : ∀ k < 7, d.winUE (seqAddr (a₀ + k)) = false) :
    d.engScr s a₀ a false = d.bnd s (.scrld (d.scrWords a₀)) a := by
  have hgood : (List.range 7).any (fun k => d.winUE (seqAddr (a₀ + k))) = false :=
    List.any_eq_false.mpr fun k hk => Bool.eq_false_iff.mp (hue k (List.mem_range.mp hk))
  unfold Device.engScr
  rw [if_neg (Nat.not_lt.mpr ha), hgood]
  rfl

theorem scrld_queues (h : x.dev.executes i.val ft 0x23 = true) (ha : insField (x.dev.insWord i.val) 0 18 ≤ 262137)
    (hue : ∀ k < 7, x.dev.winUE (seqAddr (insField (x.dev.insWord i.val) 0 18 + k)) = false) :
    Completes (.scrld i ft false) x (fun e => StreamTo x.dev e i.val ((x.dev.strPc i.val + 1) % seqSize) (fun _ => False)
      { x.dev.fetched i.val with
        queue := (x.dev.fetched i.val).queue ++ [.act (.scrld (x.dev.scrWords (insField (x.dev.insWord i.val) 0 18))) (x.dev.strPc i.val)] }) := by
  have hwords (a₀ : Nat) : (x.dev.fresh.dispatched i.val).scrWords a₀ = x.dev.scrWords a₀ := by
    unfold Device.scrWords
    simp only [x.dev.fresh.seqWord_dispatched i.isLt]
    rfl
  refine Completes.of_bnd rfl h (isOp_of_executes h) ?_
  rw [← hwords]
  exact Device.engScr_good (d := x.dev.fresh.dispatched i.val) ha hue

/-! ## Customer opcodes (R128, R145) -/

/-- No vendor opcode lies at 0xC0 or above (R103). -/
theorem insUsed_customer {op : Nat} (h : 0xC0 ≤ op) : insUsed op = none := by
  unfold insUsed
  split
  case h_27 => rfl
  all_goals omega

/-- The context of a stream whose engine goes on in a customer routine (R128). -/
def StrCtx.inRoutine (c : StrCtx) : StrCtx := { c with eng := .micro, micro := { c.micro with active := true } }

/-- A customer routine begins, with the micro-flags as they are (R128). -/
def Device.toRoutine (d : Device) (s : Nat) : Device := (d.setEng s .micro).modMicro s (fun m => { m with active := true })

theorem StreamTo.toRoutine (h : StreamTo d e s pc S c) : StreamTo d (e.toRoutine s) s pc S c.inRoutine :=
  (h.setEng .micro).modStr fun c => { c with micro := { c.micro with active := true } }

/-- The device once the customer opcode at STR_PC of stream `s` is dispatched: uPC is the ENTRY of its dispatch entry, and what is known of the micro-flags is
as it was (R128). -/
def Device.custDispatched (d : Device) (s : Nat) : Device :=
  (d.fetchIR s (d.insWord s) (d.strPc s)).modMicro s (fun m => { m with upc := d.csWord (d.entryOf s (insOp (d.insWord s))) % 2 ^ 14 })

/-- The context of a stream whose customer opcode is dispatched. -/
def Device.custFetched (d : Device) (s : Nat) : StrCtx :=
  { d.fetched s with micro := { (d.fetched s).micro with flagsOk := (d.strOf s).micro.flagsOk } }

theorem StreamTo.custDispatched (d : Device) (s : Nat) :
    StreamTo d (d.custDispatched s) s ((d.strPc s + 1) % seqSize) (fun _ => False) (d.custFetched s) :=
  (StreamTo.fetchIR d s).modStr fun c => { c with micro := { c.micro with upc := d.csWord (d.entryOf s (insOp (d.insWord s))) % 2 ^ 14 } }

/-- The next instruction of stream `s` is read without an error, has a condition that holds and a customer opcode that the stream is enabled for, and its
dispatch entry is VALID and has no error (R103, R128, R137, R145). -/
structure Customer (d : Device) (s : Nat) : Prop where
  running : (d.strOf s).eng = .running
  read : d.winUE (seqAddr (d.strPc s)) = false
  condition : insField (d.insWord s) 52 4 < 10
  taken : d.condHolds s (insField (d.insWord s) 52 4) = true
  entryRead : d.csUE (d.entryOf s (insOp (d.insWord s))) = false
  entryValid : natBit (d.csWord (d.entryOf s (insOp (d.insWord s)))) 31 = true
  customer : 0xC0 ≤ insOp (d.insWord s)
  enabled : d.bit Reg.UCS_CUST_EN s = true

theorem Customer.of_dispatches (h : d.dispatches s (insOp (d.insWord s)) = true) (hcust : 0xC0 ≤ insOp (d.insWord s))
    (hen : d.bit Reg.UCS_CUST_EN s = true) : Customer d s := by
  simp only [Device.dispatches, Bool.and_eq_true, decide_eq_true_eq, Bool.not_eq_true'] at h
  obtain ⟨⟨⟨⟨⟨⟨hrun, hread⟩, hcond⟩, htaken⟩, -⟩, hent⟩, hvalid⟩ := h
  exact ⟨hrun, hread, hcond, htaken, hent, hvalid, hcust, hen⟩

namespace Customer

theorem dispatch {f : Device → Device} (hs : s < 16) (h : Customer d s) :
    (d.fetchIR s (d.insWord s) (d.strPc s)).dispatch s ⟨false, .good, []⟩ (d.insWord s) (d.strPc s) f = f (d.custDispatched s) := by
  have hflags (b : Bool) : (b && decide (0xC0 ≤ insOp (d.insWord s))) = b := by simp [h.customer]
  have hue : (d.fetchIR s (d.insWord s) (d.strPc s)).csUE (d.entryOf s (insOp (d.insWord s))) = false := h.entryRead
  unfold Device.dispatch
  simp only [Device.entryOf_fetchIR hs, hue, Device.csWord_fetchIR hs, h.entryValid, Nat.not_lt.mpr h.customer, hflags, reduceCtorEq, decide_false, Bool.or_self,
    Bool.false_eq_true, Bool.not_true, if_false]
  exact Device.fetchWords_good rfl

/-- A customer opcode that meets no error is dispatched to its routine (R128, R145). -/
theorem engStep {f : Device → Nat → Nat → Device} (hs : s < 16) (h : Customer d s) :
    d.engStep s ⟨false, .good, []⟩ (fun w => decide (0xC0 ≤ insOp w)) f = f (d.custDispatched s) (d.insWord s) (d.strPc s) := by
  have hw : d.seqWord (d.strPc s) = d.insWord s := rfl
  have hen : (d.fetchIR s (d.insWord s) (d.strPc s)).bit Reg.UCS_CUST_EN s = true := by
    rw [Device.bit_eq, RegsBut.fetchIR d s _ _ _ (by unfold Reg.UCS_CUST_EN Reg.STR_PC Page.UCS Page.STR; omega)]
    exact h.enabled
  have hassigned : unassigned (insOp (d.insWord s)) = false := by simp [unassigned, h.customer]
  simp only [Device.engStep, hw, h.running, h.read, Nat.not_le.mpr h.condition, h.taken, hassigned, h.customer, insUsed_customer h.customer, hen, h.dispatch hs,
    ne_eq, not_true_eq_false, Bool.or_self, Bool.not_true, Bool.false_eq_true, decide_true, if_false, if_true]

end Customer

theorem Device.custStart_known (h : (d.strOf s).micro.flagsOk = true) : d.custStart s = d.toRoutine s := by
  unfold Device.custStart
  simp only [h, if_true]
  rfl

/-- The micro-flags that stand open are a free value's bits (R128). -/
def StrCtx.flagsDrawn (c : StrCtx) (v : Nat) : StrCtx :=
  { c with micro := { c.micro with uz := natBit v 0, un := natBit v 1, uc := natBit v 2, flagsOk := true } }

theorem Device.custStart_open (h : (d.strOf s).micro.flagsOk = false) :
    d.custStart s = (d.draw.2.modStr s (·.flagsDrawn d.draw.1)).toRoutine s := by
  unfold Device.custStart
  simp only [h, Bool.false_eq_true, if_false]
  rfl

theorem Customer.fresh (h : Customer x.dev i.val) : Customer x.dev.fresh i.val :=
  ⟨h.running, h.read, h.condition, h.taken, h.entryRead, h.entryValid, h.customer, h.enabled⟩

theorem Device.flagsOk_custDispatched (d : Device) (s : Nat) : ((d.custDispatched s).strOf s).micro.flagsOk = (d.strOf s).micro.flagsOk :=
  congrArg (·.micro.flagsOk) (StreamTo.custDispatched d s).1

theorem Device.custFetched_known (h : (d.strOf s).micro.flagsOk = true) :
    (d.custFetched s).inRoutine = { d.fetched s with eng := .micro, micro := { (d.fetched s).micro with active := true, flagsOk := true } } := by
  unfold Device.custFetched
  rw [h]
  rfl

theorem customer_known (h : Customer x.dev i.val) (hflags : (x.dev.strOf i.val).micro.flagsOk = true) :
    Completes (.customerOpcodeDispatch i false .good) x (fun e => StreamTo x.dev e i.val ((x.dev.strPc i.val + 1) % seqSize) (fun _ => False)
      { x.dev.fetched i.val with eng := .micro, micro := { (x.dev.fetched i.val).micro with active := true, flagsOk := true } }) := by
  have hstep := (h.fresh.engStep i.isLt (f := fun d _ _ => d.custStart i.val)).trans
    (Device.custStart_known ((Device.flagsOk_custDispatched _ _).trans hflags))
  rw [← Device.custFetched_known hflags]
  refine Completes.of_stream (fun d => d.engStep i.val ⟨false, .good, []⟩ (fun w => decide (0xC0 ≤ insOp w)) (fun d _ _ => d.custStart i.val)) rfl ?_
  rw [hstep]
  exact (StreamTo.custDispatched x.dev.fresh i.val).toRoutine

/-- The context of a stream whose customer routine begins with micro-flags that stood open. -/
theorem Device.custFetched_open (d : Device) (s v : Nat) : ∃ z n k, ((d.custFetched s).flagsDrawn v).inRoutine =
    { d.fetched s with eng := .micro, micro := { (d.fetched s).micro with active := true, flagsOk := true, uz := z, un := n, uc := k } } :=
  ⟨natBit v 0, natBit v 1, natBit v 2, rfl⟩

theorem customer_open (h : Customer x.dev i.val) (hflags : (x.dev.strOf i.val).micro.flagsOk = false) :
    Completes (.customerOpcodeDispatch i false .good) x (fun e => e.strPc i.val = (x.dev.strPc i.val + 1) % seqSize ∧
      RegsBut (· = Reg.STR_PC i.val) x.dev e ∧ ∃ z n k, e.strOf i.val =
        { x.dev.fetched i.val with eng := .micro, micro := { (x.dev.fetched i.val).micro with active := true, flagsOk := true, uz := z, un := n, uc := k } }) := by
  have hstep := (h.fresh.engStep i.isLt (f := fun d _ _ => d.custStart i.val)).trans
    (Device.custStart_open ((Device.flagsOk_custDispatched _ _).trans hflags))
  obtain ⟨hctx, hpc, -, hregs, -⟩ := StreamTo.custDispatched x.dev.fresh i.val
  have hctx' : (x.dev.fresh.custDispatched i.val).draw.2.strOf i.val = x.dev.custFetched i.val := hctx
  obtain ⟨hto, hto_pc, -, hto_regs, -⟩ := ((StreamTo.refl (x.dev.fresh.custDispatched i.val).draw.2 i.val).modStr
    (·.flagsDrawn (x.dev.fresh.custDispatched i.val).draw.1)).toRoutine.settle
  rw [hctx'] at hto
  refine Completes.of_run (fun d => d.engStep i.val ⟨false, .good, []⟩ (fun w => decide (0xC0 ≤ insOp w)) (fun d _ _ => d.custStart i.val)) rfl
    hstep ⟨rfl, rfl, rfl⟩ ⟨hto_pc.trans hpc, fun a ha => (hto_regs a (not_or.mpr ⟨ha, id⟩)).trans (hregs a (not_or.mpr ⟨ha, id⟩)), ?_⟩
  rw [hto]
  exact x.dev.custFetched_open i.val _

/-- Settles O18: each instruction of the pattern generator leaves one action in the queue; a customer opcode is dispatched like one of the vendor's, and its engine
goes on in the routine, with free values for micro-flags that stand open. -/
theorem sequenceGenerator : Obligations.SequenceGenerator := by
  unfold Obligations.SequenceGenerator
  rintro s i ft _ _ _ _ _ _ rfl rfl rfl rfl rfl rfl
  refine ⟨fun h htgt hv => ?_, fun h => ?_, fun h => ?_, fun h ha hue => scrld_queues h ha hue, fun h hcust hen hflags => ?_, fun h hcust hen hflags => ?_⟩
  · refine Completes.of_bnd rfl h (isOp_of_executes h) ?_
    rw [dispatched_g]
    exact Device.engAset_accepted htgt hv
  · exact Completes.of_bnd rfl h (isOp_of_executes h) rfl
  · exact Completes.of_bnd rfl h (isOp_of_executes h) rfl
  · exact customer_known (.of_dispatches h hcust hen) hflags
  · exact customer_open (.of_dispatches h hcust hen) hflags

end Sys2Proof.Machine
end

section
/-! PROOF. The end of a customer routine, and the stream buffer (R98, R129). -/

namespace Sys2Proof.Machine

variable {d e : Device} {s : Nat} {x : State} {i : Fin 16} {k : Instr} {P Q : Device → Prop}

/-- The room of a stream's queue and buffer depends on its queue, on what its buffer holds beside, and on registers. -/
theorem Device.noRoom_congr (hregs : e.regs = d.regs) (hqueue : (e.strOf s).queue = (d.strOf s).queue)
    (hbuf : (e.strOf s).inBuffer = (d.strOf s).inBuffer) : e.noRoom s = d.noRoom s := by
  have hreg (a : Nat) : e.reg a = d.reg a := Device.reg_congr hregs a
  have hjump : e.jumpBytes = d.jumpBytes := by
    funext n
    unfold Device.jumpBytes Device.spanSize64 Device.fld
    rw [hreg]
  simp only [StrCtx.inBuffer, Prod.mk.injEq] at hbuf
  obtain ⟨hpos, hlate, hnext, hjumpBuf⟩ := hbuf
  have hposBytes : (e.strOf s).posBytes = (d.strOf s).posBytes := by
    unfold StrCtx.posBytes StrCtx.lateGot
    rw [hpos, hlate]
  unfold Device.noRoom Device.bufBytes Device.bit
  simp only [hreg, hjump, hqueue, hposBytes, hnext, hjumpBuf]

/-- The context of a stream whose customer routine has ended (R129). -/
def StrCtx.routineDone (c : StrCtx) : StrCtx := { c with micro := { c.micro.next with active := false, stack := [] }, eng := .running }

theorem StrCtx.queue_routineDone (c : StrCtx) : c.routineDone.queue = c.queue := rfl

theorem StrCtx.inBuffer_routineDone (c : StrCtx) : c.routineDone.inBuffer = c.inBuffer := rfl

/-- The device of a stream whose customer routine has ended. -/
def Device.routineDone (d : Device) (s : Nat) : Device :=
  ((d.stepped s).modMicro s (fun m => { m with active := false, stack := [] })).setEng s .running

theorem routineDone_fresh (x : State) (i : Fin 16) :
    StreamTo x.dev.fresh (x.dev.fresh.routineDone i.val) i.val (x.dev.strPc i.val) (fun _ => False) (x.dev.strOf i.val).routineDone :=
  ((stepped_fresh x i).modStr fun c => { c with micro := { c.micro with active := false, stack := [] } }).setEng .running

theorem Device.noRoom_routineDone (d : Device) (s : Nat) : (d.routineDone s).noRoom s = d.noRoom s := by
  have hctx : (d.routineDone s).strOf s = (d.strOf s).routineDone := by
    unfold Device.routineDone Device.setEng Device.modMicro Device.stepped Device.modMicro
    rw [Device.strOf_modStr, Device.strOf_modStr, Device.strOf_modStr]
    rfl
  have hregs : (d.routineDone s).regs = d.regs :=
    (Device.regs_modStr ..).trans ((Device.regs_modStr ..).trans (Device.regs_modStr ..))
  exact Device.noRoom_congr hregs (by rw [hctx, StrCtx.queue_routineDone]) (by rw [hctx, StrCtx.inBuffer_routineDone])

/-- NEXT goes on with instructions where queue and stream buffer have room, and waits for room where not (R98, R129). -/
theorem next_completes (h : x.dev.executesMicro i.val 0x08 = true) :
    Completes (.next i .good) x (fun e => StreamTo x.dev e i.val (x.dev.strPc i.val) (fun _ => False)
      { (x.dev.strOf i.val).routineDone with eng := if x.dev.noRoom i.val then .waitRoom else .running }) := by
  have hdone := routineDone_fresh x i
  have hroom : (x.dev.fresh.routineDone i.val).noRoom i.val = x.dev.noRoom i.val := Device.noRoom_routineDone ..
  have hrun : ((x.dev.fresh.routineDone i.val).strOf i.val).eng = .running := congrArg StrCtx.eng hdone.1
  refine Completes.of_micro (cls := 0x08) (g := fun d _ => d.uNext i.val) (y := (x.dev.fresh.routineDone i.val).engRoom i.val) rfl h rfl ?_
  cases hfull : x.dev.noRoom i.val with
  | true =>
    rw [Device.engRoom, if_pos ⟨hrun, hroom.trans hfull⟩]
    exact hdone.setEng .waitRoom
  | false =>
    rw [Device.engRoom_of_room (.inl (hroom.trans hfull))]
    exact hdone

/-- A command runs to one end. -/
theorem Completes.and (hP : Completes k x P) (hQ : Completes k x Q) : Completes k x (fun e => P e ∧ Q e) := by
  obtain ⟨t, ht, hpend, hPt⟩ := hP
  obtain ⟨u, hu, -, hQu⟩ := hQ
  obtain rfl : t = u := Host.Outcome.next.inj (ht.symm.trans hu)
  exact ⟨t, ht, hpend, hPt, hQu⟩

/-- Stream 0 in a customer routine that the word at 0x3040 ends, while the fetch of one request has filled the stream buffer with 65,536 bytes. -/
def fullBuffer : State :=
  { State.reset with
    dev := (Device.reset.setRegN (0x700000 + 4 * 12352) (8 * 2 ^ 27)).setStr 0
      { StrCtx.reset with
        eng := .micro, queue := [.play 0 0 (.fetching 65536 65536 false)], micro := { Micro.reset with active := true, upc := 12352 } } }

theorem fullBuffer_next : fullBuffer.dev.executesMicro 0 0x08 = true ∧ requests (fullBuffer.dev.strOf 0).queue = 1 ∧ fullBuffer.dev.noRoom 0 = true := by
  decide

/-- Refutes O20: NEXT with fewer than 64 requests in the queue but no room in the stream buffer leaves the engine waiting for room, and not running (R98). -/
theorem not_microFlow : ¬ Obligations.MicroFlow := by
  unfold Obligations.MicroFlow
  intro h
  obtain ⟨hexec, hone, hfull⟩ := fullBuffer_next
  obtain ⟨-, -, -, -, hnext, -⟩ := h fullBuffer 0 _ _ _ _ rfl rfl rfl rfl
  have hqueue : requests (fullBuffer.dev.strOf 0).queue < 64 := by
    rw [hone]
    decide
  obtain ⟨_, -, -, hruns, hwaits⟩ := (hnext hexec hqueue).and (next_completes (x := fullBuffer) (i := 0) hexec)
  have heng : Eng.running = if fullBuffer.dev.noRoom 0 then .waitRoom else .running :=
    congrArg StrCtx.eng (hruns.1.symm.trans hwaits.1)
  rw [hfull] at heng
  cases heng

end Sys2Proof.Machine
end

section
/-! PROOF. Commands of the control store: LOAD_CUST, CLEAR_CUST, LOAD_VEND and VSWITCH (R141, R142, R145, R146). -/

namespace Sys2Proof.Machine

variable {d e y : Device} {s : State} {q : Requester} {k : Instr} {l : Access}

/-! ## The end of a load that is refused, and the state of one that goes on (R142) -/

/-- No image is in staging. -/
def Device.unstaged (d : Device) : Device := { d with ucs := { d.ucs with stage := [] } }

theorem Calm.unstaged (h : Calm d e) : Calm d e.unstaged := h.other rfl

/-- The device once a load is refused and nothing goes to the log: its code and the offending word, LOAD_FAIL, LSTATE IDLE, and no image in staging (R142). -/
def Device.loadRefused (d : Device) (code word : Nat) : Device :=
  (((d.setRegN Reg.UCS_LOAD_STATUS (word * 2 ^ 16 + code)).event Page.UCS 1).setFld Reg.UCS_STATUS 0 3 0).unstaged

/-- The refusals that are logged are those of the signature rules (R140). -/
theorem Device.loadRefuse_unlogged {code : Nat} (h : ¬ (code = 6 ∨ code = 7 ∨ code = 8)) (word : Nat) : d.loadRefuse code word = d.loadRefused code word := by
  have hlog (b : Bool) : ¬ ((code = 6 ∨ code = 7 ∨ code = 8) ∧ (!b) = true) := fun hand => h hand.1
  unfold Device.loadRefuse
  exact congrArg Device.unstaged (if_neg (hlog _))

theorem Device.reg_unstaged (d : Device) (a : Nat) : d.unstaged.reg a = d.reg a := rfl

theorem Device.reg_loadRefused (d : Device) (code word a : Nat) : (d.loadRefused code word).reg a =
    (((d.setRegN Reg.UCS_LOAD_STATUS (word * 2 ^ 16 + code)).event Page.UCS 1).setFld Reg.UCS_STATUS 0 3 0).reg a := Device.reg_unstaged ..

theorem Device.status_loadRefused (d : Device) (code word : Nat) :
    (d.loadRefused code word).reg Reg.UCS_LOAD_STATUS = BitVec.ofNat 32 (word * 2 ^ 16 + code) := by
  rw [Device.reg_loadRefused, Device.setFld_eq, Device.reg_setReg, if_neg (by decide), Device.event_eq, Device.reg_setReg, if_neg (by decide), Device.setRegN_eq,
    Device.reg_setReg_same]

theorem Device.lstate_loadRefused (d : Device) (code word : Nat) : (d.loadRefused code word).lstate = 0 := by
  rw [Device.lstate, Device.fld_eq, Device.reg_loadRefused, Device.setFld_eq, Device.reg_setReg_same]
  exact Word.get_put_same _ 0 (by decide)

theorem Device.event_loadRefused (d : Device) (code word : Nat) : (d.loadRefused code word).bit (Reg.PG_EVT_RAW Page.UCS) 1 = true := by
  rw [Device.bit_eq, Device.reg_loadRefused, Device.setFld_eq, Device.reg_setReg, if_neg (by decide)]
  exact Device.bit_event _ Page.UCS (by decide)

theorem Calm.loadRefused {code word : Nat} (h : Calm d e) : Calm d (e.loadRefused code word) := Calm.unstaged h.setReg.setReg.setReg

/-- The device with the answer of the last access (R9). -/
def Device.withLast (d : Device) (l : Access) : Device := { d with last := l }

theorem Device.withLast_self (d : Device) : d.withLast d.last = d := rfl

theorem Device.reg_withLast (d : Device) (l : Access) (a : Nat) : (d.withLast l).reg a = d.reg a := rfl

theorem Device.lstate_withLast (d : Device) (l : Access) : (d.withLast l).lstate = d.lstate := rfl

theorem Device.bit_withLast (d : Device) (l : Access) (a n : Nat) : (d.withLast l).bit a n = d.bit a n := rfl

theorem Device.ucs_withLast (d : Device) (l : Access) : (d.withLast l).ucs = d.ucs := rfl

theorem Calm.withLast (h : Calm d e) (l : Access) : Calm d (e.withLast l) := h.other rfl

theorem Device.settle_lstate (d : Device) : d.settle.lstate = d.lstate := by
  unfold Device.lstate
  rw [Device.fld_eq, Device.settle_reg]
  rfl

theorem Device.settle_bit (d : Device) (a n : Nat) : d.settle.bit a n = d.bit a n := by
  rw [Device.bit_eq, Device.settle_reg]
  rfl

/-- A command at which a load is refused. -/
theorem Completes.of_loadRefused {code word : Nat} (f : Device → Device) (hx : exec k s = s.run f)
    (hf : f s.dev.fresh = (d.loadRefused code word).withLast l) (h : Calm s.dev d) :
    Completes k s (fun e => (e.reg Reg.UCS_LOAD_STATUS = BitVec.ofNat 32 (word * 2 ^ 16 + code) ∧ e.lstate = 0 ∧ e.bit (Reg.PG_EVT_RAW Page.UCS) 1 = true ∧
      e.ucs.stage = []) ∧ MemSame s.dev e) := by
  refine Completes.of_calm f hx hf (h.loadRefused.withLast l) ⟨?_, ?_, ?_, ?_⟩
  · rw [Device.settle_reg, Device.reg_withLast, Device.status_loadRefused]
  · rw [Device.settle_lstate, Device.lstate_withLast, Device.lstate_loadRefused]
  · rw [Device.settle_bit, Device.bit_withLast, Device.event_loadRefused]
  · rw [Device.settle_ucs, Device.ucs_withLast]
    rfl

/-- The device of a load in state `n` (R142). -/
def Device.setLoad (d : Device) (n : Nat) : Device := d.setFld Reg.UCS_STATUS 0 3 n

theorem Device.lstate_setLoad (d : Device) {n : Nat} (hn : n < 8) : (d.setLoad n).lstate = n := by
  rw [Device.lstate, Device.fld_eq, Device.setLoad, Device.setFld_eq, Device.reg_setReg_same, Word.get_put_same _ n (by decide)]
  exact Nat.mod_eq_of_lt hn

theorem Calm.setLoad {n : Nat} (h : Calm d e) : Calm d (e.setLoad n) := h.setReg

/-- A command at which a load goes over to another state (R142). -/
theorem Completes.of_loadState {n : Nat} (hn : n < 8) (f : Device → Device) (hx : exec k s = s.run f)
    (hf : f s.dev.fresh = (y.setLoad n).withLast l) (h : Calm s.dev y) (hregs : y.regs = s.dev.regs) :
    Completes k s (fun e => (e.lstate = n ∧ e.ucs = y.ucs ∧ RegsBut (· = Reg.UCS_STATUS) s.dev e) ∧ MemSame s.dev e) := by
  refine Completes.of_calm f hx hf (h.setLoad.withLast l) ⟨?_, ?_, RegsBut.settle fun a ha => ?_⟩
  · rw [Device.settle_lstate, Device.lstate_withLast, Device.lstate_setLoad y hn]
  · rw [Device.settle_ucs, Device.ucs_withLast]
    rfl
  · rw [Device.reg_withLast]
    exact (RegsBut.setReg y _ _ a ha).trans (Device.reg_congr hregs a)

/-! ## LOAD_CUST (R141) -/

theorem Device.write_UCS_CMD_done (v : Word) (h : d.admitsWrite q Reg.UCS_CMD = true) :
    d.cmdWrite q Reg.UCS_CMD v = (d.ucsCmd (reqNo q) (v.toNat &&& 0x33)).withLast ⟨0, false⟩ := Device.write_UCS_CMD v h

theorem Device.ucsCmd_loadCust {n : Nat} (h : d.lstate = 0) : d.ucsCmd n 1 = d.loadCust := by
  unfold Device.ucsCmd
  exact if_neg (not_not.mpr h)

theorem Device.ucsCmd_clearCust {n : Nat} (h : d.lstate = 0) : d.ucsCmd n 2 = d.clearCust := by
  unfold Device.ucsCmd
  exact if_neg (not_not.mpr h)

theorem Device.ucsCmd_vswitch (h : d.lstate = 0) : d.ucsCmd 17 32 = d.vswitch := by
  unfold Device.ucsCmd
  exact if_neg (not_not.mpr h)

/-- The image that UCS_IMG_ADDR and UCS_IMG_LEN name, `len` bytes at `a`, passes what R141 asks of it before a load starts. -/
structure Loadable (d : Device) (a len : Nat) : Prop where
  free : d.custBusy = false
  allowed : d.bit Reg.FUSE_CFG0 0 = true
  aligned : a % 64 = 0
  filled : 0 < len
  inside : a + len ≤ memEnd
  oneStack : stackOf a = stackOf (a + len - 1)
  there : d.memThere (a + 12) 4 = true
  good : d.badWords (a + 12) 4 = []
  length : len = 0xC0 + 4 * d.memRead (a + 12) 4

/-- A load that has been accepted: the row of WORDS is open, and the load engine keeps address and length (R141). -/
def Device.loadAccepted (d : Device) (a len : Nat) : Device := { d.touchRow (a + 12) with ucs := { d.ucs with vend := false, addr := a, len := len } }

theorem Loadable.loadCust {a len : Nat} (h : Loadable d a len) (ha : a = d.reg64 Reg.UCS_IMG_ADDR_LO Reg.UCS_IMG_ADDR_HI) (hlen : len = d.regN Reg.UCS_IMG_LEN) :
    d.loadCust = (d.loadAccepted a len).setLoad 1 := by
  have hrange : ¬ (a % 64 ≠ 0 ∨ len = 0 ∨ memEnd < a + len ∨ stackOf a ≠ stackOf (a + len - 1)) := by
    have := h.aligned
    have := h.filled
    have := h.inside
    have := h.oneStack
    omega
  have hbusy : ¬ d.custBusy = true := by rw [h.free]; nofun
  have hfuse : ¬ (!d.bit Reg.FUSE_CFG0 0) = true := by rw [h.allowed]; nofun
  have hthere : ¬ (!d.memThere (a + 12) 4) = true := by rw [h.there]; nofun
  subst ha hlen
  unfold Device.loadCust
  exact (if_neg hbusy).trans <| (if_neg hfuse).trans <| (if_neg hrange).trans <| (if_neg hthere).trans <|
    (if_neg (not_not.mpr h.good)).trans (if_neg (not_not.mpr h.length))

theorem loadCust_starts {a len : Nat} (hadmits : s.dev.admitsWrite q Reg.UCS_CMD = true) (hidle : s.dev.lstate = 0)
    (ha : a = s.dev.reg64 Reg.UCS_IMG_ADDR_LO Reg.UCS_IMG_ADDR_HI) (hlen : len = s.dev.regN Reg.UCS_IMG_LEN) (h : Loadable s.dev a len) :
    Completes (.loadCust q) s (fun e => e.lstate = 1 ∧ e.ucs.vend = false ∧ e.ucs.addr = a ∧ e.ucs.len = len ∧ RegsBut (· = Reg.UCS_STATUS) s.dev e ∧
      MemSame s.dev e) := by
  have hload : Loadable s.dev.fresh a len := ⟨h.free, h.allowed, h.aligned, h.filled, h.inside, h.oneStack, h.there, h.good, h.length⟩
  have hw : s.dev.fresh.cmdWrite q Reg.UCS_CMD 1 = (s.dev.fresh.ucsCmd (reqNo q) 1).withLast ⟨0, false⟩ := Device.write_UCS_CMD_done (d := s.dev.fresh) 1 hadmits
  rw [Device.ucsCmd_loadCust (d := s.dev.fresh) hidle, hload.loadCust ha hlen] at hw
  refine (Completes.of_loadState (by decide) (fun d => d.cmdWrite q Reg.UCS_CMD 1) rfl hw ((Calm.refl s.dev).other rfl) rfl).mono
    fun e ⟨⟨hstate, hucs, hregs⟩, hmem⟩ => ?_
  rw [hucs]
  exact ⟨hstate, rfl, rfl, rfl, hregs, hmem⟩

theorem loadCust_busy (hadmits : s.dev.admitsWrite q Reg.UCS_CMD = true) (hidle : s.dev.lstate = 0) (hbusy : s.dev.custBusy = true) :
    Completes (.loadCust q) s (fun e => e.reg Reg.UCS_LOAD_STATUS = 0xFFFF0001 ∧ e.lstate = 0 ∧ e.bit (Reg.PG_EVT_RAW Page.UCS) 1 = true ∧ MemSame s.dev e) := by
  have hrefuse : s.dev.fresh.loadCust = Device.loadRefused { s.dev.fresh with ucs := { s.dev.ucs with vend := false } } 0x01 0xFFFF := by
    rw [← Device.loadRefuse_unlogged (by decide)]
    unfold Device.loadCust
    exact if_pos hbusy
  have hw : s.dev.fresh.cmdWrite q Reg.UCS_CMD 1 = (s.dev.fresh.ucsCmd (reqNo q) 1).withLast ⟨0, false⟩ := Device.write_UCS_CMD_done (d := s.dev.fresh) 1 hadmits
  rw [Device.ucsCmd_loadCust (d := s.dev.fresh) hidle, hrefuse] at hw
  exact (Completes.of_loadRefused (fun d => d.cmdWrite q Reg.UCS_CMD 1) rfl hw ((Calm.refl s.dev).other rfl)).mono
    fun e ⟨⟨hcode, hstate, hevent, _⟩, hmem⟩ => ⟨hcode, hstate, hevent, hmem⟩

/-! ## CLEAR_CUST (R145) -/

theorem Device.reg_congr_csWord {w : Nat} (h : e.reg (0x700000 + 4 * w) = d.reg (0x700000 + 4 * w)) : e.csWord w = d.csWord w := congrArg BitVec.toNat h

/-- VALID of the first `n` customer dispatch entries cleared (R142, R145). -/
def Device.entriesCleared (d : Device) (n : Nat) : Device := d.forN n (fun d i => d.setBit (0x700000 + 4 * (12288 + i)) 31 false)

theorem Device.entriesCleared_spec (d : Device) (n : Nat) : d.entriesCleared n = { d with regs := (d.entriesCleared n).regs } ∧
    (∀ a < 0x700000, (d.entriesCleared n).reg a = d.reg a) ∧ ∀ i < n, natBit ((d.entriesCleared n).csWord (12288 + i)) 31 = false := by
  induction n with
  | zero => exact ⟨rfl, fun _ _ => rfl, nofun⟩
  | succ n ih =>
    obtain ⟨hframe, hlow, hvalid⟩ := ih
    have hstep : d.entriesCleared (n + 1) = (d.entriesCleared n).setBit (0x700000 + 4 * (12288 + n)) 31 false := Device.forN_succ ..
    have hother (a : Nat) (ha : a ≠ 0x700000 + 4 * (12288 + n)) : (d.entriesCleared (n + 1)).reg a = (d.entriesCleared n).reg a := by
      rw [hstep]
      exact RegsBut.setReg _ _ _ a ha
    refine ⟨?_, fun a ha => (hother a (by omega)).trans (hlow a ha), fun i hi => ?_⟩
    · rw [hstep]
      exact (congrArg (fun e : Device => e.setBit (0x700000 + 4 * (12288 + n)) 31 false) hframe :)
    · by_cases hin : i = n
      · subst hin
        rw [Device.csWord, Device.regN_eq, natBit_toNat, hstep, Device.setBit_eq, Device.reg_setReg_same]
        exact Word.bit_putBit _ false (by decide)
      · rw [Device.reg_congr_csWord (hother _ (by omega))]
        exact hvalid i (by omega)

/-- Nothing of the customer image is VALID then, and nothing but registers has changed (R142, R145). -/
structure CustInvalid (d e : Device) : Prop where
  frame : e = { d with regs := e.regs }
  entries : ∀ i < 64, natBit (e.csWord (12288 + i)) 31 = false
  valid : e.bit Reg.UCS_STATUS 8 = false

theorem CustInvalid.custInvalid (d : Device) : CustInvalid d d.custInvalid := by
  obtain ⟨hframe, -, hentries⟩ := d.entriesCleared_spec 64
  have hcleared : d.custInvalid = ((d.entriesCleared 64).setBit Reg.UCS_STATUS 8 false).setBit Reg.TWN_HSTAT 28 false := rfl
  generalize d.entriesCleared 64 = x at hframe hentries hcleared
  rw [hcleared]
  refine ⟨?_, fun i hi => ?_, ?_⟩
  · exact (congrArg (fun e : Device => (e.setBit Reg.UCS_STATUS 8 false).setBit Reg.TWN_HSTAT 28 false) hframe :)
  · have hword : ((x.setBit Reg.UCS_STATUS 8 false).setBit Reg.TWN_HSTAT 28 false).csWord (12288 + i) = x.csWord (12288 + i) := by
      refine Device.reg_congr_csWord ((RegsBut.setReg _ _ _ _ ?_).trans (RegsBut.setReg _ _ _ _ ?_))
      · unfold Reg.TWN_HSTAT Page.TWN
        omega
      · unfold Reg.UCS_STATUS Page.UCS
        omega
    rw [hword]
    exact hentries i hi
  · rw [Device.bit_eq, Device.setBit_eq _ Reg.TWN_HSTAT, Device.reg_setReg, if_neg (by decide), Device.setBit_eq, Device.reg_setReg_same]
    exact Word.bit_putBit _ false (by decide)

theorem CustInvalid.calm (h : CustInvalid d e) : Calm d e := by
  rw [h.frame]
  exact (Calm.refl d).other rfl

theorem Device.clearCust_free (h : d.custBusy = false) : d.clearCust = d.custInvalid := by
  unfold Device.clearCust
  exact if_neg (by rw [h]; nofun)

/-- A command that leaves nothing of the customer image VALID. -/
theorem Completes.of_custInvalid (f : Device → Device) (hx : exec k s = s.run f) (hf : f s.dev.fresh = y.withLast l) (h : CustInvalid s.dev.fresh y) :
    Completes k s (fun e => ((∀ i < 64, natBit (e.csWord (12288 + i)) 31 = false) ∧ e.bit Reg.UCS_STATUS 8 = false) ∧ MemSame s.dev e) := by
  refine Completes.of_calm f hx hf (h.calm.of_fresh.withLast l) ⟨fun i hi => ?_, ?_⟩
  · rw [Device.reg_congr_csWord (Device.settle_reg _ _)]
    exact h.entries i hi
  · rw [Device.settle_bit]
    exact h.valid

theorem Device.clearCust_written (hadmits : d.admitsWrite q Reg.UCS_CMD = true) (hidle : d.lstate = 0) (hfree : d.custBusy = false) :
    ∃ y, d.cmdWrite q Reg.UCS_CMD 2 = y.withLast ⟨0, false⟩ ∧ CustInvalid d y :=
  ⟨d.custInvalid, by rw [Device.write_UCS_CMD_done 2 hadmits, ← Device.clearCust_free hfree, ← Device.ucsCmd_clearCust hidle]; rfl, CustInvalid.custInvalid d⟩

theorem clearCust_clears (hadmits : s.dev.admitsWrite q Reg.UCS_CMD = true) (hidle : s.dev.lstate = 0) (hfree : s.dev.custBusy = false) :
    Completes (.clearCust q) s (fun e => (∀ i < 64, natBit (e.csWord (12288 + i)) 31 = false) ∧ e.bit Reg.UCS_STATUS 8 = false ∧ MemSame s.dev e) := by
  obtain ⟨y, hy, hinvalid⟩ := Device.clearCust_written (d := s.dev.fresh) hadmits hidle hfree
  exact (Completes.of_custInvalid (fun d => d.cmdWrite q Reg.UCS_CMD 2) rfl hy hinvalid).mono fun e ⟨⟨hentries, hvalid⟩, hmem⟩ => ⟨hentries, hvalid, hmem⟩

/-! ## LOAD_VEND (R146) -/

/-- The half of the vendor images that is not VTARGET. -/
def Device.otherHalf (d : Device) : Nat := 1 - d.fld Reg.UCS_STATUS 12 1

/-- A vendor image that has been accepted, in staging for the half that is not VTARGET (R146). -/
def Device.vendStaged (d : Device) (image : List Nat) : Device := { d with ucs := { d.ucs with vend := true, half := d.otherHalf, stage := image } }

theorem Device.loadVend_accepted {image : List Nat} (h : ∀ j < 16, d.vendHalf j ≠ d.otherHalf) :
    d.loadVend image = (d.vendStaged image).setLoad 1 := by
  have hhalf (j : Nat) : (d.vendStaged image).vendHalf j = d.vendHalf j := rfl
  have hnone : ¬ (List.range 16).any (fun j => (d.vendStaged image).vendHalf j = d.otherHalf) = true := by
    simp only [hhalf, List.any_eq_true, List.mem_range, decide_eq_true_eq]
    exact fun ⟨j, hj, heq⟩ => h j hj heq
  unfold Device.loadVend
  exact if_neg hnone

theorem Completes.of_vendStaged {image : List Nat} (f : Device → Device) (hx : exec k s = s.run f) (hf : f s.dev.fresh = (s.dev.fresh.vendStaged image).setLoad 1) :
    Completes k s (fun e => (e.lstate = 1 ∧ e.ucs = (s.dev.fresh.vendStaged image).ucs ∧ RegsBut (· = Reg.UCS_STATUS) s.dev e) ∧ MemSame s.dev e) :=
  Completes.of_loadState (y := s.dev.fresh.vendStaged image) (by decide) f hx (hf.trans (Device.withLast_self _).symm) ((Calm.refl s.dev).other rfl) rfl

theorem Device.loadVend_idle {image : List Nat} (hidle : d.lstate = 0) (h : ∀ j < 16, d.vendHalf j ≠ d.otherHalf) :
    (if d.lstate = 0 then d.loadVend image else d.fault Page.UCS 0x01) = (d.vendStaged image).setLoad 1 := (if_pos hidle).trans (Device.loadVend_accepted h)

theorem loadVend_starts {image : List Word} (hidle : s.dev.lstate = 0) (hunused : ∀ j < 16, s.dev.vendHalf j ≠ s.dev.otherHalf) :
    Completes (.loadVend image) s (fun e => e.lstate = 1 ∧ e.ucs.vend = true ∧ e.ucs.half = s.dev.otherHalf ∧ e.ucs.stage = image.map (·.toNat) ∧
      RegsBut (· = Reg.UCS_STATUS) s.dev e ∧ MemSame s.dev e) := by
  have hidle' : s.dev.fresh.lstate = 0 := hidle
  have hload := Device.loadVend_idle (image := image.map (·.toNat)) hidle' hunused
  have hx : exec (.loadVend image) s = s.run (fun d => if d.lstate = 0 then d.loadVend (image.map (·.toNat)) else d.fault Page.UCS 0x01) := rfl
  refine (Completes.of_vendStaged _ hx hload).mono fun e hstarts => ?_
  obtain ⟨⟨hstate, hucs, hregs⟩, hmem⟩ := hstarts
  rw [hucs]
  exact ⟨hstate, rfl, rfl, rfl, hregs, hmem⟩

/-! ## VSWITCH (R146) -/

/-- A field of one bit is that bit. -/
theorem Word.get_one (w : Word) (k : Nat) : w.get k 1 = (w.bit k).toNat := by
  have hbit : (w.extractLsb' k 1).getLsbD 0 = w.bit k := by
    rw [BitVec.getLsbD_extractLsb']
    simp [Word.bit]
  rw [Word.get, ← hbit]
  generalize w.extractLsb' k 1 = b
  revert b
  decide

/-- The registers that a switch of the vendor half may change. -/
abbrev VendReg (a : Nat) : Prop := a = Reg.UCS_STATUS ∨ a = Reg.UCS_VSEL ∨ a = Reg.PG_EVT_RAW Page.UCS

/-- A switch of the vendor half has changed nothing but those registers. -/
structure SwitchOnly (d e : Device) : Prop where
  frame : e = { d with regs := e.regs }
  regs : RegsBut VendReg d e

theorem SwitchOnly.refl (d : Device) : SwitchOnly d d := ⟨rfl, fun _ _ => rfl⟩

theorem SwitchOnly.setReg {a : Nat} (h : SwitchOnly d e) (v : Word) (ha : VendReg a) : SwitchOnly d (e.setReg a v) :=
  ⟨(congrArg (fun x : Device => x.setReg a v) h.frame :), fun b hb => (RegsBut.setReg e a v b fun heq => hb (heq ▸ ha)).trans (h.regs b hb)⟩

theorem SwitchOnly.calm (h : SwitchOnly d e) : Calm d e := by
  rw [h.frame]
  exact (Calm.refl d).other rfl

/-- A switch to half `h` has moved the halted ones of the first `n` streams, or it has moved them all and is over (R146). -/
structure Switched (d e : Device) (h n : Nat) : Prop where
  only : SwitchOnly d e
  target : e.fld Reg.UCS_STATUS 12 1 = h
  moved : (∀ j < n, d.halted j = true → e.vendHalf j = h) ∧ e.bit Reg.UCS_STATUS 11 = true ∨ ∀ j < 16, e.vendHalf j = h

variable {h n : Nat}

/-- The half that a stream runs on is a bit of UCS_VSEL. -/
theorem Device.vendHalf_eq (d : Device) (j : Nat) : d.vendHalf j = ((d.reg Reg.UCS_VSEL).bit j).toNat := Word.get_one _ j

theorem Device.target_eq (d : Device) : d.fld Reg.UCS_STATUS 12 1 = (d.bit Reg.UCS_STATUS 12).toNat := Word.get_one _ 12

/-- UCS_VSEL holds half `h` for every stream once its low half is all ones, or all zeros, as VTARGET says. -/
theorem Device.vendHalf_of_all (hall : d.fld Reg.UCS_VSEL 0 16 = if d.bit Reg.UCS_STATUS 12 then 0xFFFF else 0) {j : Nat} (hj : j < 16) :
    d.vendHalf j = d.fld Reg.UCS_STATUS 12 1 := by
  have hbit : (d.reg Reg.UCS_VSEL).bit j = (d.fld Reg.UCS_VSEL 0 16).testBit j := by
    rw [Device.fld_eq, Word.get, BitVec.testBit_toNat, BitVec.getLsbD_extractLsb', Nat.zero_add, decide_eq_true hj]
    rfl
  rw [Device.vendHalf_eq, Device.target_eq, hbit, hall]
  by_cases htarget : d.bit Reg.UCS_STATUS 12 = true
  · rw [if_pos htarget, htarget, show (0xFFFF : Nat) = 2 ^ 16 - 1 from rfl, Nat.testBit_two_pow_sub_one, decide_eq_true hj]
  · rw [if_neg htarget, Nat.zero_testBit, Bool.eq_false_iff.mpr htarget]

theorem SwitchOnly.halted (h : SwitchOnly d e) {j : Nat} (hj : j < 16) : e.halted j = d.halted j := by
  have hreg : e.reg (Reg.STR_STATUS j) = d.reg (Reg.STR_STATUS j) := h.regs _ (by unfold Reg.STR_STATUS Page.STR VendReg Reg.UCS_STATUS Reg.UCS_VSEL Reg.PG_EVT_RAW Page.UCS; omega)
  unfold Device.halted Device.strState
  rw [Device.fld_eq, hreg]
  rfl

/-- The last stream to move ends the switch. -/
theorem Switched.vendDone (hs : Switched d e h n) : Switched d e.vendDone h n := by
  unfold Device.vendDone
  by_cases hdone : (e.bit Reg.UCS_STATUS 11 && decide (e.fld Reg.UCS_VSEL 0 16 = (if e.bit Reg.UCS_STATUS 12 then 0xFFFF else 0))) = true
  · have hall := of_decide_eq_true (Bool.and_eq_true_iff.mp hdone).2
    rw [if_pos hdone, Device.event_eq, Device.setBit_eq]
    refine ⟨(hs.only.setReg _ (.inl rfl)).setReg _ (.inr (.inr rfl)), ?_, .inr fun j hj => ?_⟩
    · rw [Device.fld_eq, Device.reg_setReg, if_neg (by decide), Device.reg_setReg_same, Word.get_putBit_other _ _ (by decide)]
      exact hs.target
    · rw [Device.vendHalf_eq, Device.reg_setReg, if_neg (by decide), Device.reg_setReg, if_neg (by decide), ← Device.vendHalf_eq, Device.vendHalf_of_all hall hj]
      exact hs.target
  · rw [if_neg hdone]
    exact hs

/-- A stream moved to the target half. -/
theorem Device.vendHalf_setFld (d : Device) {j n v : Nat} (hn : n < 16) (hv : v < 2) :
    (d.setFld Reg.UCS_VSEL n 1 v).vendHalf j = if j = n then v else d.vendHalf j := by
  rw [Device.vendHalf, Device.fld_eq, Device.setFld_eq, Device.reg_setReg_same]
  by_cases hj : j = n
  · rw [if_pos hj, hj, Word.get_put_same _ v (by omega)]
    exact Nat.mod_eq_of_lt hv
  · rw [if_neg hj, Word.get_put_other _ v (by omega)]
    rfl

/-- A halted stream moves while the switch lasts. -/
theorem Switched.vendMove (hs : Switched d e h n) (hn : n < 16) (hh : h < 2) : Switched d (e.vendMove n) h (n + 1) := by
  unfold Device.vendMove
  by_cases hmove : (e.bit Reg.UCS_STATUS 11 && e.halted n) = true
  · rw [if_pos hmove, hs.target]
    refine Switched.vendDone ⟨hs.only.setReg _ (.inr (.inl rfl)), ?_, hs.moved.imp (fun hmoved => ⟨fun j hj hhalted => ?_, ?_⟩) fun hmoved j hj => ?_⟩
    · rw [Device.fld_eq, Device.setFld_eq, Device.reg_setReg, if_neg (by decide)]
      exact hs.target
    · rw [Device.vendHalf_setFld e hn hh]
      by_cases hjn : j = n
      · rw [if_pos hjn]
      · rw [if_neg hjn]
        exact hmoved.1 j (by omega) hhalted
    · rw [Device.bit_eq, Device.setFld_eq, Device.reg_setReg, if_neg (by decide)]
      exact hmoved.2
    · rw [Device.vendHalf_setFld e hn hh, hmoved j hj, ite_self]
  · rw [if_neg hmove]
    refine ⟨hs.only, hs.target, hs.moved.imp_left fun hmoved => ⟨fun j hj hhalted => hmoved.1 j (Nat.lt_of_le_of_ne (Nat.le_of_lt_succ hj) fun hjn => hmove ?_) hhalted, hmoved.2⟩⟩
    subst hjn
    rw [hmoved.2, hs.only.halted hn, hhalted]
    rfl

theorem Switched.forN_vendMove (hs : Switched d e h 0) (hh : h < 2) (hn : n ≤ 16) : Switched d (e.forN n (fun d s => d.vendMove s)) h n := by
  induction n with
  | zero => exact hs
  | succ n ih =>
    rw [Device.forN_succ]
    exact (ih (by omega)).vendMove (by omega) hh

/-- VTARGET has been switched to half `h` and VSWITCHING set (R146). -/
def Device.switching (d : Device) (h : Nat) : Device := (d.setBit Reg.UCS_STATUS 12 (h = 1)).setBit Reg.UCS_STATUS 11 true

theorem Switched.switching (d : Device) (hh : h < 2) : Switched d (d.switching h) h 0 := by
  unfold Device.switching
  rw [Device.setBit_eq, Device.setBit_eq]
  refine ⟨((SwitchOnly.refl d).setReg _ (.inl rfl)).setReg _ (.inl rfl), ?_, .inl ⟨nofun, ?_⟩⟩
  · rw [Device.target_eq, Device.bit_eq, Device.reg_setReg_same, Word.bit_putBit_other _ _ (by decide), Device.reg_setReg_same, Word.bit_putBit _ _ (by decide)]
    obtain rfl | rfl : h = 0 ∨ h = 1 := by omega
    · rfl
    · rfl
  · rw [Device.bit_eq, Device.reg_setReg_same]
    exact Word.bit_putBit _ _ (by decide)

theorem Device.vswitch_verified (hh : h = d.otherHalf) (hv : d.bit Reg.UCS_STATUS (16 + h) = true) :
    d.vswitch = ((d.switching h).forN 16 (fun d s => d.vendMove s)).vendDone := by
  subst hh
  unfold Device.vswitch
  exact if_neg (by rw [Device.otherHalf] at hv; rw [hv]; nofun)

theorem Device.vswitch_written (hadmits : d.admitsWrite .keystone Reg.UCS_CMD = true) (hidle : d.lstate = 0) (hh : h = d.otherHalf)
    (hv : d.bit Reg.UCS_STATUS (16 + h) = true) : ∃ y, d.cmdWrite .keystone Reg.UCS_CMD 0x20 = y.withLast ⟨0, false⟩ ∧ Switched d y h 16 := by
  have hsmall : h < 2 := by
    have := hh.trans (Device.otherHalf.eq_1 d)
    omega
  refine ⟨d.vswitch, (Device.write_UCS_CMD_done 0x20 hadmits).trans (congrArg (Device.withLast · _) (Device.ucsCmd_vswitch hidle)), ?_⟩
  rw [Device.vswitch_verified hh hv]
  exact (Switched.forN_vendMove (.switching d hsmall) hsmall le_rfl).vendDone

theorem Completes.of_switched (f : Device → Device) (hx : exec k s = s.run f) (hf : f s.dev.fresh = y.withLast l) (hs : Switched s.dev.fresh y h 16) :
    Completes k s (fun e => (e.fld Reg.UCS_STATUS 12 1 = h ∧ (∀ j < 16, s.dev.halted j = true → e.vendHalf j = h) ∧ RegsBut VendReg s.dev e) ∧ MemSame s.dev e) := by
  refine Completes.of_calm f hx hf (hs.only.calm.of_fresh.withLast l) ⟨?_, fun j hj hhalted => ?_, RegsBut.settle fun a ha => hs.only.regs a ha⟩
  · rw [Device.fld_eq, Device.settle_reg]
    exact hs.target
  · rw [Device.vendHalf, Device.fld_eq, Device.settle_reg]
    exact hs.moved.elim (fun hmoved => hmoved.1 j hj hhalted) fun hmoved => hmoved j hj

theorem vswitch_switches (hadmits : s.dev.admitsWrite .keystone Reg.UCS_CMD = true) (hidle : s.dev.lstate = 0) (hh : h = s.dev.otherHalf)
    (hv : s.dev.bit Reg.UCS_STATUS (16 + h) = true) :
    Completes .vswitch s (fun e => e.fld Reg.UCS_STATUS 12 1 = h ∧ (∀ j < 16, s.dev.halted j = true → e.vendHalf j = h) ∧ RegsBut VendReg s.dev e ∧
      MemSame s.dev e) := by
  obtain ⟨y, hy, hswitched⟩ := Device.vswitch_written (d := s.dev.fresh) hadmits hidle hh hv
  have hx : exec .vswitch s = s.run (fun d => d.cmdWrite .keystone Reg.UCS_CMD 0x20) := rfl
  exact (Completes.of_switched _ hx hy hswitched).mono fun e ⟨⟨htarget, hmoved, hregs⟩, hmem⟩ => ⟨htarget, hmoved, hregs, hmem⟩

end Sys2Proof.Machine
end

section
/-! PROOF. The steps of a load: READ, CHECK and WRITE, and the scrubber of the control store (R137, R142). -/

namespace Sys2Proof.Machine

variable {d e y : Device} {s : State} {k : Instr} {l : Access}

/-! ## READ (R142) -/

theorem Device.badWords_touchRows (d : Device) (b m a n : Nat) : (d.touchRows b m).badWords a n = d.badWords a n := by
  obtain ⟨r, hr⟩ := d.touchRows_eq b m
  rw [hr]
  rfl

theorem Device.memRead_touchRows (d : Device) (b m a n : Nat) : (d.touchRows b m).memRead a n = d.memRead a n := by
  obtain ⟨r, hr⟩ := d.touchRows_eq b m
  rw [hr]
  rfl

theorem Device.regs_touchRows (d : Device) (b m : Nat) : (d.touchRows b m).regs = d.regs := by
  obtain ⟨r, hr⟩ := d.touchRows_eq b m
  rw [hr]

/-- The device with an image in staging (R142). -/
def Device.staged (d : Device) (image : List Nat) : Device := { d with ucs := { d.ucs with stage := image } }

theorem Calm.staged {image : List Nat} (h : Calm d e) : Calm d (e.staged image) := h.other rfl

/-- The image that the load engine's address and length name. -/
def Device.imageRead (d : Device) : List Nat := (List.range (d.ucs.len / 4)).map fun i => d.memRead (d.ucs.addr + 4 * i) 4

/-- The errors that a read of `n` bytes at `a` finds are recorded (R142, R224). -/
def Device.imageErrors (d : Device) (a n : Nat) : Device := (d.badWords a n).foldl (fun d w => d.memUEfree w 7 noStream) d

theorem Calm.imageErrors {a n : Nat} (h : Calm d e) : Calm d (e.imageErrors a n) := h.foldl (·.memUEfree)

/-- The end of a read of the `len` bytes at `a`: the image goes to staging, unless some of its words are bad (R142). -/
def Device.imageJudged (d : Device) (a len : Nat) : Device :=
  if d.badWords a len ≠ [] then (d.imageErrors a len).loadRefuse 0x04 0xFFFF else (d.staged ((List.range (len / 4)).map fun i => d.memRead (a + 4 * i) 4)).setLoad 2

theorem Device.loadReadDone_none (hl : d.lstate = 1) (hv : d.ucs.vend = false) (hthere : d.memThere d.ucs.addr d.ucs.len = true) :
    d.loadReadDone none = (d.touchRows d.ucs.addr d.ucs.len).imageJudged d.ucs.addr d.ucs.len := by
  unfold Device.loadReadDone
  exact (if_neg (not_not.mpr hl)).trans <| (if_neg (by rw [hv]; nofun)).trans (if_neg (by rw [hthere]; nofun))

theorem Device.loadReadDone_some {o : Nat} (hl : d.lstate = 1) (hv : d.ucs.vend = false) (hthere : d.memThere d.ucs.addr d.ucs.len = true)
    (ho : o < d.ucs.len) :
    d.loadReadDone (some o) = ((d.touchRows d.ucs.addr d.ucs.len).poisonMem ((d.ucs.addr + o) / 8 * 8)).imageJudged d.ucs.addr d.ucs.len := by
  unfold Device.loadReadDone
  exact (if_neg (not_not.mpr hl)).trans <| (if_neg (by rw [hv]; nofun)).trans <| (if_neg (by rw [hthere]; nofun)).trans
    (congrArg (Device.imageJudged · d.ucs.addr d.ucs.len) (if_pos ho))

theorem Device.loadReadDone_read (hl : d.lstate = 1) (hv : d.ucs.vend = false) (hthere : d.memThere d.ucs.addr d.ucs.len = true)
    (hgood : d.badWords d.ucs.addr d.ucs.len = []) :
    d.loadReadDone none = ((d.touchRows d.ucs.addr d.ucs.len).staged d.imageRead).setLoad 2 := by
  rw [Device.loadReadDone_none hl hv hthere, Device.imageJudged, if_neg (not_not.mpr ((Device.badWords_touchRows ..).trans hgood)), Device.imageRead]
  simp only [Device.memRead_touchRows]

theorem Device.loadReadDone_vend (hl : d.lstate = 1) (hv : d.ucs.vend = true) : d.loadReadDone none = d.setLoad 2 := by
  unfold Device.loadReadDone
  exact (if_neg (not_not.mpr hl)).trans <| (if_pos hv).trans (if_neg (by decide))

theorem readDone_stages (hl : s.dev.lstate = 1) (hv : s.dev.ucs.vend = false) (hthere : s.dev.memThere s.dev.ucs.addr s.dev.ucs.len = true)
    (hgood : s.dev.badWords s.dev.ucs.addr s.dev.ucs.len = []) :
    Completes (.ucsLoadReadDone none) s (fun e => e.lstate = 2 ∧ e.ucs.stage = s.dev.imageRead ∧ RegsBut (· = Reg.UCS_STATUS) s.dev e ∧ MemSame s.dev e) := by
  have hx : exec (.ucsLoadReadDone none) s = s.run (fun d => d.loadReadDone none) := rfl
  have hread := Device.loadReadDone_read (d := s.dev.fresh) hl hv hthere hgood
  refine (Completes.of_loadState (by decide) _ hx (hread.trans (Device.withLast_self _).symm) (Calm.refl s.dev.fresh).touchRows.staged.of_fresh
    (Device.regs_touchRows s.dev.fresh ..)).mono fun e hdone => ?_
  obtain ⟨⟨hstate, hucs, hregs⟩, hmem⟩ := hdone
  rw [hucs]
  exact ⟨hstate, rfl, hregs, hmem⟩

theorem readDone_vend (hl : s.dev.lstate = 1) (hv : s.dev.ucs.vend = true) :
    Completes (.ucsLoadReadDone none) s (fun e => e.lstate = 2 ∧ e.ucs = s.dev.ucs ∧ RegsBut (· = Reg.UCS_STATUS) s.dev e ∧ MemSame s.dev e) := by
  have hx : exec (.ucsLoadReadDone none) s = s.run (fun d => d.loadReadDone none) := rfl
  have hread := Device.loadReadDone_vend (d := s.dev.fresh) hl hv
  refine (Completes.of_loadState (by decide) _ hx (hread.trans (Device.withLast_self _).symm) ((Calm.refl s.dev).other rfl) rfl).mono fun e hdone => ?_
  obtain ⟨⟨hstate, hucs, hregs⟩, hmem⟩ := hdone
  exact ⟨hstate, hucs, hregs, hmem⟩

/-- A word of the range that has been found uncorrectable is one of its bad words. -/
theorem Device.badWords_poisonMem (d : Device) {a n w : Nat} (ha : a ≤ w) (hw : w / 8 * 8 < a + n) : (d.poisonMem (w / 8 * 8)).badWords a n ≠ [] := by
  have hkey : w / 8 * 8 / 8 = w / 8 := Nat.mul_div_cancel _ (by decide)
  have hmem : (w / 8, true) ∈ (d.poisonMem (w / 8 * 8)).mpoison := by
    unfold Device.poisonMem
    rw [hkey]
    have hget := Tab.get_set_same (dflt := fun _ => false) d.mpoison (w / 8) true
    rcases Tab.get_default_or_mem (dflt := fun _ => false) (Tab.set (fun _ => false) d.mpoison (w / 8) true) (w / 8) with hdefault | hlisted
    · exact absurd (hget.symm.trans hdefault) (by decide)
    · rwa [hget] at hlisted
  refine List.ne_nil_of_mem (a := w / 8 * 8) (List.mem_map.mpr ⟨_, List.mem_filter.mpr ⟨hmem, ?_⟩, rfl⟩)
  simp only [Bool.true_and, Bool.and_eq_true, decide_eq_true_eq]
  exact ⟨Nat.div_le_div_right ha, hw⟩

/-- An uncorrectable error, or a read that is refused, ends the load with code 0x04 (R142). -/
theorem Device.loadReadDone_fails {o : Nat} (hl : d.lstate = 1)
    (h : d.ucs.vend = false → d.memThere d.ucs.addr d.ucs.len = true → d.ucs.addr % 64 = 0 ∧ o < d.ucs.len) :
    ∃ x, Calm d x ∧ d.loadReadDone (some o) = x.loadRefused 0x04 0xFFFF := by
  have hrefuse (x : Device) : x.loadRefuse 0x04 0xFFFF = x.loadRefused 0x04 0xFFFF := Device.loadRefuse_unlogged (by decide) _
  have hstep : d.loadReadDone (some o) = if d.ucs.vend = true then _ else if (!d.memThere d.ucs.addr d.ucs.len) = true then _ else _ := if_neg (not_not.mpr hl)
  by_cases hv : d.ucs.vend = true
  · exact ⟨d, .refl d, hstep.trans ((if_pos hv).trans (hrefuse d))⟩
  by_cases hthere : d.memThere d.ucs.addr d.ucs.len = true
  · obtain ⟨haligned, ho⟩ := h (Bool.eq_false_iff.mpr hv) hthere
    have hcalm : Calm d ((d.touchRows d.ucs.addr d.ucs.len).poisonMem ((d.ucs.addr + o) / 8 * 8)) := (Calm.touchRows (.refl d)).other rfl
    refine ⟨_, hcalm.imageErrors (a := d.ucs.addr) (n := d.ucs.len), ?_⟩
    rw [Device.loadReadDone_some hl (Bool.eq_false_iff.mpr hv) hthere ho, Device.imageJudged, if_pos (Device.badWords_poisonMem _ (Nat.le_add_right ..) (by omega)), hrefuse]
  · exact ⟨d, .refl d, hstep.trans <| (if_neg hv).trans <| (if_pos (by rw [Bool.eq_false_iff.mpr hthere]; rfl)).trans (hrefuse d)⟩

theorem readDone_fails {w : BitVec 15} (hl : s.dev.lstate = 1)
    (h : s.dev.ucs.vend = false → s.dev.memThere s.dev.ucs.addr s.dev.ucs.len = true → s.dev.ucs.addr % 64 = 0 ∧ w.toNat < s.dev.ucs.len) :
    Completes (.ucsLoadReadDone (some w)) s (fun e => e.lstate = 0 ∧ e.reg Reg.UCS_LOAD_STATUS = 0xFFFF0004 ∧ e.bit (Reg.PG_EVT_RAW Page.UCS) 1 = true ∧
      e.ucs.stage = [] ∧ MemSame s.dev e) := by
  have hx : exec (.ucsLoadReadDone (some w)) s = s.run (fun d => d.loadReadDone (some w.toNat)) := rfl
  obtain ⟨x, hcalm, hread⟩ := Device.loadReadDone_fails (d := s.dev.fresh) hl h
  refine (Completes.of_loadRefused _ hx (hread.trans (Device.withLast_self _).symm) hcalm.of_fresh).mono fun e hdone => ?_
  obtain ⟨⟨hcode, hstate, hevent, hstage⟩, hmem⟩ := hdone
  exact ⟨hstate, hcode, hevent, hstage, hmem⟩

/-! ## CHECK (R142) -/

theorem CustInvalid.setLoad {n : Nat} (h : CustInvalid d e) : CustInvalid d (e.setLoad n) := by
  have hword (i : Nat) : (e.setLoad n).csWord (12288 + i) = e.csWord (12288 + i) := by
    refine Device.reg_congr_csWord (RegsBut.setReg _ _ _ _ ?_)
    unfold Reg.UCS_STATUS Page.UCS
    omega
  refine ⟨(congrArg (fun x : Device => x.setLoad n) h.frame :), fun i hi => ?_, ?_⟩
  · rw [hword]
    exact h.entries i hi
  · rw [Device.bit_eq, Device.setLoad, Device.setFld_eq, Device.reg_setReg_same, Word.bit_put_other _ _ (by decide)]
    exact h.valid

theorem CustInvalid.ucs (h : CustInvalid d e) : e.ucs = d.ucs := (congrArg Device.ucs h.frame :)

/-- A command at which a load whose image has passed goes over to WRITE. -/
theorem Completes.of_checked (f : Device → Device) (hx : exec k s = s.run f) (hf : f s.dev.fresh = y.setLoad 3) (h : CustInvalid s.dev.fresh y) :
    Completes k s (fun e => (e.lstate = 3 ∧ e.bit Reg.UCS_STATUS 8 = false ∧ (∀ i < 64, natBit (e.csWord (12288 + i)) 31 = false) ∧ e.ucs = s.dev.ucs) ∧
      MemSame s.dev e) := by
  refine Completes.of_calm f hx hf h.setLoad.calm.of_fresh ⟨?_, ?_, fun i hi => ?_, ?_⟩
  · rw [Device.settle_lstate, Device.lstate_setLoad y (by decide)]
  · rw [Device.settle_bit]
    exact h.setLoad.valid
  · rw [Device.reg_congr_csWord (Device.settle_reg _ _)]
    exact h.setLoad.entries i hi
  · rw [Device.settle_ucs]
    exact h.setLoad.ucs

/-- The steps of CHECK up to the verifier, for a customer image that passes them. -/
theorem Device.loadCheckDone_verify (hl : d.lstate = 2) (hv : d.ucs.vend = false) (hhead : imgHeaderOk d.ucs.stage false = true)
    (hsign : d.imgSignCheck d.ucs.stage = 0) :
    d.loadCheckDone = match verifyImage d.ucs.stage with
      | some (i, c) => d.loadRefuse c i
      | none => d.custInvalid.setLoad 3 := by
  have hheader : ¬ (!imgHeaderOk d.ucs.stage d.ucs.vend) = true := by rw [hv, hhead]; nofun
  have hvend {α : Type} (x z : α) : (if d.ucs.vend = true then x else z) = z := if_neg (by rw [hv]; nofun)
  unfold Device.loadCheckDone
  refine (if_neg (not_not.mpr hl)).trans <| (if_neg hheader).trans <| (if_neg (not_not.mpr hsign)).trans ?_
  dsimp only
  rw [hvend, hvend]
  rfl

theorem checkDone_passes (hl : s.dev.lstate = 2) (hv : s.dev.ucs.vend = false) (hhead : imgHeaderOk s.dev.ucs.stage false = true)
    (hsign : s.dev.imgSignCheck s.dev.ucs.stage = 0) (hverify : verifyImage s.dev.ucs.stage = none) :
    Completes .ucsLoadCheckDone s (fun e => e.lstate = 3 ∧ e.bit Reg.UCS_STATUS 8 = false ∧ (∀ i < 64, natBit (e.csWord (12288 + i)) 31 = false) ∧
      e.ucs = s.dev.ucs ∧ MemSame s.dev e) := by
  have hx : exec .ucsLoadCheckDone s = s.run (fun d => d.loadCheckDone) := rfl
  have hcheck := Device.loadCheckDone_verify (d := s.dev.fresh) hl hv hhead hsign
  have hnone : verifyImage s.dev.fresh.ucs.stage = none := hverify
  rw [hnone] at hcheck
  refine (Completes.of_checked _ hx hcheck (.custInvalid _)).mono fun e hdone => ?_
  obtain ⟨⟨hstate, hvalid, hentries, hucs⟩, hmem⟩ := hdone
  exact ⟨hstate, hvalid, hentries, hucs, hmem⟩

/-- The codes of a dispatch entry. -/
theorem entryCheck_mem (w : Nat) (b : Bool) : entryCheck w b ∈ [0, 0x0B, 0x0E] := by
  unfold entryCheck
  repeat' split
  all_goals decide

/-- The codes of a code word. -/
theorem uwCheck_mem (w : Nat) (last : Bool) : uwCheck w last ∈ [0, 0x0A, 0x0B, 0x0C, 0x0D, 0x0F] := by
  unfold uwCheck
  dsimp only
  repeat' split
  all_goals decide

/-- The verifier's codes are not those of the signature rules. -/
theorem verifyImage_code {ws : List Nat} {i c : Nat} (h : verifyImage ws = some (i, c)) : ¬ (c = 6 ∨ c = 7 ∨ c = 8) := by
  obtain ⟨j, -, hj⟩ := List.exists_of_findSome?_eq_some h
  dsimp only at hj
  obtain ⟨-, hpair⟩ := Option.ite_none_left_eq_some.mp hj
  obtain ⟨-, rfl⟩ := Prod.mk.inj (Option.some.inj hpair)
  have hentry := entryCheck_mem (imgPay ws j) (natBit (imgMask ws) j)
  have hword := uwCheck_mem (imgPay ws j) (j + 1 = imgWords ws)
  simp only [List.mem_cons, List.not_mem_nil, or_false] at hentry hword
  by_cases hlow : j < 64
  · rw [if_pos hlow]
    omega
  · rw [if_neg hlow]
    omega

theorem checkDone_refuses {i c : Nat} (hl : s.dev.lstate = 2) (hv : s.dev.ucs.vend = false) (hhead : imgHeaderOk s.dev.ucs.stage false = true)
    (hsign : s.dev.imgSignCheck s.dev.ucs.stage = 0) (hverify : verifyImage s.dev.ucs.stage = some (i, c)) (hi : i < 4096) (hc : c < 2 ^ 16) :
    Completes .ucsLoadCheckDone s (fun e => e.lstate = 0 ∧ e.regN Reg.UCS_LOAD_STATUS = i * 2 ^ 16 + c ∧ e.bit (Reg.PG_EVT_RAW Page.UCS) 1 = true ∧
      MemSame s.dev e) := by
  have hx : exec .ucsLoadCheckDone s = s.run (fun d => d.loadCheckDone) := rfl
  have hcheck := Device.loadCheckDone_verify (d := s.dev.fresh) hl hv hhead hsign
  have hsome : verifyImage s.dev.fresh.ucs.stage = some (i, c) := hverify
  rw [hsome] at hcheck
  dsimp only at hcheck
  rw [Device.loadRefuse_unlogged (verifyImage_code hverify)] at hcheck
  refine (Completes.of_loadRefused _ hx (hcheck.trans (Device.withLast_self _).symm) ((Calm.refl s.dev).other rfl)).mono fun e hdone => ?_
  obtain ⟨⟨hcode, hstate, hevent, -⟩, hmem⟩ := hdone
  refine ⟨hstate, ?_, hevent, hmem⟩
  rw [Device.regN_eq, hcode, BitVec.toNat_ofNat]
  exact Nat.mod_eq_of_lt (by omega)

/-! ## WRITE (R142) -/

/-- `e` is `d` with some of the first `n` words of the customer image written: those that `skip` leaves, each with its value `v`. -/
structure WordsPut (d e : Device) (n : Nat) (skip : Nat → Bool) (v : Nat → Nat) : Prop where
  frame : e = { d with regs := e.regs, poison := e.poison }
  low : ∀ a < 0x700000, e.reg a = d.reg a
  words : ∀ i, e.csWord (12288 + i) = if i < n ∧ skip i = false then v i % 2 ^ 32 else d.csWord (12288 + i)

/-- A control-store word of the customer image is written. -/
theorem Device.csWord_csPut (d : Device) (i j v : Nat) : (d.csPut (12288 + j) v).csWord (12288 + i) = if i = j then v % 2 ^ 32 else d.csWord (12288 + i) := by
  have hreg : (d.csPut (12288 + j) v).csWord (12288 + i) = (d.setReg (0x700000 + 4 * (12288 + j)) (BitVec.ofNat 32 v)).csWord (12288 + i) :=
    Device.reg_congr_csWord (Device.reg_setWinUE ..)
  rw [hreg]
  by_cases hij : i = j
  · rw [if_pos hij, hij, Device.csWord, Device.regN_eq, Device.reg_setReg_same]
    exact BitVec.toNat_ofNat ..
  · rw [if_neg hij]
    exact Device.reg_congr_csWord (RegsBut.setReg _ _ _ _ (by omega))

theorem WordsPut.succ {n : Nat} {skip : Nat → Bool} {v : Nat → Nat} (h : WordsPut d e n skip v) :
    WordsPut d (if skip n then e else e.csPut (12288 + n) (v n)) (n + 1) skip v := by
  obtain ⟨hframe, hlow, hwords⟩ := h
  by_cases hskip : skip n = true
  · rw [if_pos hskip]
    refine ⟨hframe, hlow, fun i => (hwords i).trans (if_congr ⟨fun ⟨hi, hs⟩ => ⟨by omega, hs⟩, fun ⟨hi, hs⟩ => ⟨?_, hs⟩⟩ rfl rfl)⟩
    exact Nat.lt_of_le_of_ne (Nat.le_of_lt_succ hi) fun hin => absurd (hskip.symm.trans (hin ▸ hs)) (by decide)
  · rw [if_neg hskip]
    refine ⟨(congrArg (fun x : Device => x.csPut (12288 + n) (v n)) hframe :), fun a ha => ?_, fun i => ?_⟩
    · exact (RegsBut.setReg e _ _ a (by omega)).trans (hlow a ha)
    · rw [Device.csWord_csPut]
      by_cases hin : i = n
      · subst hin
        rw [if_pos rfl, if_pos ⟨Nat.lt_succ_self i, Bool.eq_false_iff.mpr hskip⟩]
      · rw [if_neg hin, hwords i]
        exact if_congr ⟨fun ⟨hi, hs⟩ => ⟨by omega, hs⟩, fun ⟨hi, hs⟩ => ⟨by omega, hs⟩⟩ rfl rfl

theorem WordsPut.ucs {n : Nat} {skip : Nat → Bool} {v : Nat → Nat} (h : WordsPut d e n skip v) : e.ucs = d.ucs := (congrArg Device.ucs h.frame :)

/-- The words of an image written one after the other. -/
theorem WordsPut.forN {skip : Nat → Bool} {v : Nat → Nat} (f : Device → Nat → Device)
    (hf : ∀ e i, e.ucs = d.ucs → f e i = if skip i then e else e.csPut (12288 + i) (v i)) (n : Nat) : WordsPut d (d.forN n f) n skip v := by
  induction n with
  | zero => exact ⟨rfl, fun _ _ => rfl, fun i => (if_neg fun hi => absurd hi.1 (Nat.not_lt_zero i)).symm⟩
  | succ n ih =>
    rw [Device.forN_succ, hf _ n ih.ucs]
    exact ih.succ

/-- The hash of the customer image (R142). -/
def Device.withHash (d : Device) (h : Nat) : Device := { d with ucs := { d.ucs with hashC := h } }

/-- A load is over: LSTATE IDLE, the status of a load that passed, LOAD_DONE, and no image in staging (R142). -/
def Device.loadFinished (d : Device) : Device := (((d.setLoad 0).setRegN Reg.UCS_LOAD_STATUS 0xFFFF0000).event Page.UCS 0).unstaged

/-- The customer image is in the store: CUST_VALID, its version and its hash (R142). -/
def Device.custLoaded (d : Device) (svn h : Nat) : Device := (((d.setBit Reg.UCS_STATUS 8 true).setRegN Reg.UCS_CUST_SVN svn).withHash h).hashStale

/-- The payload in staging put into the `n` words of the store from `base` on, with zeros behind it; the dispatch entries of a customer image are left (R142). -/
def Device.payloadPut (d : Device) (n base : Nat) : Device := d.forN n fun e i =>
  if !e.ucs.vend && i < 64 then e else e.csPut (base + i) (if i < imgWords d.ucs.stage then imgPay d.ucs.stage i else 0)

/-- The dispatch entries of the image `ws` put into the store from `base` on (R142). -/
def Device.entriesPut (d : Device) (base : Nat) (ws : List Nat) : Device := d.forN 64 fun e i => e.csPut (base + i) (imgPay ws i)

theorem Device.payloadPut_spec (hv : d.ucs.vend = false) :
    WordsPut d (d.payloadPut 4096 12288) 4096 (· < 64) (fun i => if i < imgWords d.ucs.stage then imgPay d.ucs.stage i else 0) :=
  WordsPut.forN _ (fun e i he => by rw [he, hv]; rfl) 4096

theorem Device.entriesPut_spec (d : Device) (ws : List Nat) : WordsPut d (d.entriesPut 12288 ws) 64 (fun _ => false) (imgPay ws) :=
  WordsPut.forN (fun e i => e.csPut (12288 + i) (imgPay ws i)) (fun _ _ _ => (if_neg (by decide)).symm) 64

/-- A payload that reads back as written. -/
theorem Device.loadWriteDone_none (hl : d.lstate = 3) (hx : e = d.payloadPut (if d.ucs.vend then 6144 else 4096) (if d.ucs.vend then 6144 * d.ucs.half else 12288)) :
    ∃ z, d.loadWriteDone none = Device.loadFinished (if e.ucs.vend = true then z
      else (e.entriesPut (if d.ucs.vend then 6144 * d.ucs.half else 12288) d.ucs.stage).custLoaded (imgSvn d.ucs.stage) (Config.sha256 (imgSigned d.ucs.stage))) := by
  subst hx
  unfold Device.loadWriteDone
  exact ⟨_, if_neg (not_not.mpr hl)⟩

theorem Device.loadWriteDone_cust (hl : d.lstate = 3) (hv : d.ucs.vend = false) : d.loadWriteDone none =
    (((d.payloadPut 4096 12288).entriesPut 12288 d.ucs.stage).custLoaded (imgSvn d.ucs.stage) (Config.sha256 (imgSigned d.ucs.stage))).loadFinished := by
  have hcust : ¬ d.ucs.vend = true := by rw [hv]; nofun
  have hvend : ¬ (d.payloadPut 4096 12288).ucs.vend = true := by rw [(Device.payloadPut_spec hv).ucs]; exact hcust
  obtain ⟨z, hz⟩ := Device.loadWriteDone_none hl rfl
  rw [if_neg hcust, if_neg hcust, if_neg hvend] at hz
  exact hz

theorem Device.reg_loadFinished (d : Device) (a : Nat) :
    d.loadFinished.reg a = (((d.setLoad 0).setRegN Reg.UCS_LOAD_STATUS 0xFFFF0000).event Page.UCS 0).reg a := Device.reg_unstaged ..

/-- The registers that the end of a load leaves alone. -/
theorem RegsBut.loadFinished (d : Device) : RegsBut (fun a => a = Reg.UCS_STATUS ∨ a = Reg.UCS_LOAD_STATUS ∨ a = Reg.PG_EVT_RAW Page.UCS) d d.loadFinished := fun a ha => by
  simp only [not_or] at ha
  obtain ⟨hstatus, hload, hevent⟩ := ha
  rw [Device.reg_loadFinished, Device.event_eq, Device.reg_setReg, if_neg hevent, Device.setRegN_eq, Device.reg_setReg, if_neg hload]
  exact RegsBut.setReg _ _ _ a hstatus

theorem Device.status_loadFinished (d : Device) : d.loadFinished.reg Reg.UCS_STATUS = (d.reg Reg.UCS_STATUS).put 0 3 0 := by
  rw [Device.reg_loadFinished, Device.event_eq, Device.reg_setReg, if_neg (by decide), Device.setRegN_eq, Device.reg_setReg, if_neg (by decide), Device.setLoad,
    Device.setFld_eq, Device.reg_setReg_same]

theorem Device.loadStatus_loadFinished (d : Device) : d.loadFinished.reg Reg.UCS_LOAD_STATUS = 0xFFFF0000 := by
  rw [Device.reg_loadFinished, Device.event_eq, Device.reg_setReg, if_neg (by decide), Device.setRegN_eq, Device.reg_setReg_same]
  rfl

theorem Device.event_loadFinished (d : Device) : d.loadFinished.bit (Reg.PG_EVT_RAW Page.UCS) 0 = true := by
  rw [Device.bit_eq, Device.reg_loadFinished]
  exact Device.bit_event _ Page.UCS (by decide)

theorem Device.reg_custLoaded (d : Device) (svn h a : Nat) : (d.custLoaded svn h).reg a =
    if a = Reg.TWN_HSTAT then (((d.setBit Reg.UCS_STATUS 8 true).setRegN Reg.UCS_CUST_SVN svn).reg a).putBit 28 false
    else ((d.setBit Reg.UCS_STATUS 8 true).setRegN Reg.UCS_CUST_SVN svn).reg a := by
  rw [Device.custLoaded, Device.hashStale, Device.setBit_eq, Device.reg_setReg]
  exact ite_congr rfl (fun h => by subst h; rfl) fun _ => rfl

theorem Device.status_custLoaded (d : Device) (svn h : Nat) : (d.custLoaded svn h).reg Reg.UCS_STATUS = (d.reg Reg.UCS_STATUS).putBit 8 true := by
  rw [Device.reg_custLoaded, if_neg (by decide), Device.setRegN_eq, Device.reg_setReg, if_neg (by decide), Device.setBit_eq, Device.reg_setReg_same]

theorem Device.svn_custLoaded (d : Device) (svn h : Nat) : (d.custLoaded svn h).regN Reg.UCS_CUST_SVN = svn % 2 ^ 32 := by
  rw [Device.regN_eq, Device.reg_custLoaded, if_neg (by decide), Device.setRegN_eq, Device.reg_setReg_same, BitVec.toNat_ofNat]

/-- The end of a load and the note of a customer image leave the store's words alone. -/
theorem Device.csWord_loaded (d : Device) (svn h w : Nat) : (d.custLoaded svn h).loadFinished.csWord w = d.csWord w := by
  have hstore (a : Nat) (ha : a < 0x700000) : 0x700000 + 4 * w ≠ a := by omega
  refine Device.reg_congr_csWord ((RegsBut.loadFinished _ _ ?_).trans ?_)
  · simp only [not_or]
    exact ⟨hstore _ (by decide), hstore _ (by decide), hstore _ (by decide)⟩
  · rw [Device.reg_custLoaded, if_neg (hstore _ (by decide)), Device.setRegN_eq, Device.reg_setReg, if_neg (hstore _ (by decide))]
    exact RegsBut.setReg _ _ _ _ (hstore _ (by decide))

theorem Calm.custLoaded {svn h : Nat} (hc : Calm d e) : Calm d (e.custLoaded svn h) := hc.other rfl

theorem Calm.loadFinished (h : Calm d e) : Calm d e.loadFinished := Calm.unstaged h.setReg.setReg.setReg

theorem WordsPut.calm {n : Nat} {skip : Nat → Bool} {v : Nat → Nat} (h : WordsPut d e n skip v) : Calm d e := by
  rw [h.frame]
  exact (Calm.refl d).other rfl

/-- A command that ends the load of a customer image. -/
theorem Completes.of_custLoaded {svn h : Nat} (f : Device → Device) (hx : exec k s = s.run f) (hf : f s.dev.fresh = (y.custLoaded svn h).loadFinished) (hc : Calm s.dev y) :
    Completes k s (fun e => (e.lstate = 0 ∧ e.bit Reg.UCS_STATUS 8 = true ∧ e.reg Reg.UCS_LOAD_STATUS = 0xFFFF0000 ∧ e.regN Reg.UCS_CUST_SVN = svn % 2 ^ 32 ∧
      e.bit (Reg.PG_EVT_RAW Page.UCS) 0 = true ∧ ∀ w, e.csWord w = y.csWord w) ∧ MemSame s.dev e) := by
  refine Completes.of_calm f hx hf hc.custLoaded.loadFinished ⟨?_, ?_, ?_, ?_, ?_, fun w => ?_⟩
  · rw [Device.settle_lstate, Device.lstate, Device.fld_eq, Device.status_loadFinished]
    exact Word.get_put_same _ 0 (by decide)
  · rw [Device.settle_bit, Device.bit_eq, Device.status_loadFinished, Word.bit_put_other _ _ (by decide), Device.status_custLoaded]
    exact Word.bit_putBit _ true (by decide)
  · rw [Device.settle_reg, Device.loadStatus_loadFinished]
  · rw [Device.regN_eq, Device.settle_reg, RegsBut.loadFinished _ _ (by decide), ← Device.regN_eq, Device.svn_custLoaded]
  · rw [Device.settle_bit, Device.event_loadFinished]
  · exact (Device.reg_congr_csWord (Device.settle_reg _ _)).trans (Device.csWord_loaded ..)

/-- The words of the customer image once payload and dispatch entries are in the store. -/
theorem Device.csWord_entriesPut_payloadPut {ws : List Nat} (hv : d.ucs.vend = false) (hws : ws = d.ucs.stage) {i : Nat} (hi : i < 4096) :
    ((d.payloadPut 4096 12288).entriesPut 12288 ws).csWord (12288 + i) = (if i < imgWords ws ∨ i < 64 then imgPay ws i else 0) % 2 ^ 32 := by
  subst hws
  rw [(Device.entriesPut_spec _ _).words i, (Device.payloadPut_spec hv).words i]
  by_cases hentry : i < 64
  · rw [if_pos ⟨hentry, rfl⟩, if_pos (.inr hentry)]
  · rw [if_neg fun h => hentry h.1, if_pos ⟨hi, decide_eq_false hentry⟩]
    exact congrArg (· % 2 ^ 32) (if_congr (by simp [hentry]) rfl rfl)

theorem writeDone_loads {ws : List Nat} (hl : s.dev.lstate = 3) (hv : s.dev.ucs.vend = false) (hws : ws = s.dev.ucs.stage) :
    Completes (.ucsLoadWriteDone none) s (fun e => e.lstate = 0 ∧ e.bit Reg.UCS_STATUS 8 = true ∧ e.reg Reg.UCS_LOAD_STATUS = 0xFFFF0000 ∧
      e.regN Reg.UCS_CUST_SVN = imgSvn ws % 2 ^ 32 ∧ e.bit (Reg.PG_EVT_RAW Page.UCS) 0 = true ∧
      (∀ i < 4096, e.csWord (12288 + i) = (if i < imgWords ws ∨ i < 64 then imgPay ws i else 0) % 2 ^ 32) ∧ MemSame s.dev e) := by
  have hx : exec (.ucsLoadWriteDone none) s = s.run (fun d => d.loadWriteDone none) := rfl
  have hwrite := Device.loadWriteDone_cust (d := s.dev.fresh) hl hv
  have hcalm : Calm s.dev.fresh ((s.dev.fresh.payloadPut 4096 12288).entriesPut 12288 s.dev.fresh.ucs.stage) :=
    (Device.payloadPut_spec (d := s.dev.fresh) hv).calm.trans (Device.entriesPut_spec ..).calm
  refine (Completes.of_custLoaded _ hx hwrite hcalm.of_fresh).mono fun e hdone => ?_
  obtain ⟨⟨hstate, hvalid, hstatus, hsvn, hevent, hwords⟩, hmem⟩ := hdone
  subst hws
  exact ⟨hstate, hvalid, hstatus, hsvn, hevent, fun i hi => (hwords _).trans (Device.csWord_entriesPut_payloadPut (d := s.dev.fresh) hv rfl hi), hmem⟩

/-! ## The scrubber (R137) -/

theorem Device.csScrub_corrected {w : Nat} (hon : d.bit Reg.UCS_CTRL 0 = true) (hgood : d.csUE w = false) : d.csScrub w .corrected = d.csCorrected := by
  unfold Device.csScrub
  rw [if_neg (by rw [hon]; nofun), hgood]
  rfl

/-- The word is uncorrectable: it is marked, its address kept, and UE raised (R137). -/
def Device.csBad (d : Device) (w : Nat) : Device := ((d.setWinUE (csKey w) true).setRegN Reg.UCS_UE_ADDR (2 ^ 31 + w)).event Page.UCS 3

theorem Device.csScrub_bad {w : Nat} (hon : d.bit Reg.UCS_CTRL 0 = true) : d.csScrub w .bad = d.csBad w := by
  unfold Device.csScrub
  rw [if_neg (by rw [hon]; nofun), ite_self]
  rfl

theorem Device.csScrub_idle {w : Nat} {x : Ecc} (h : d.bit Reg.UCS_CTRL 0 = false ∨ x = .good ∧ d.csUE w = false) : d.csScrub w x = d := by
  unfold Device.csScrub
  rcases h with hoff | ⟨rfl, hgood⟩
  · exact if_pos (by rw [hoff]; rfl)
  · rw [hgood]
    exact ite_self d

theorem RegsBut.csBad (d : Device) (w : Nat) : RegsBut (fun a => a = Reg.UCS_UE_ADDR ∨ a = Reg.PG_EVT_RAW Page.UCS) d (d.csBad w) := fun a ha => by
  obtain ⟨haddr, hraw⟩ := not_or.mp ha
  exact ((RegsBut.setReg _ _ _ a hraw).trans (RegsBut.setReg _ _ _ a haddr)).trans (Device.reg_setWinUE ..)

theorem Device.regN_csBad (d : Device) {w : Nat} (hw : w < 2 ^ 31) : (d.csBad w).regN Reg.UCS_UE_ADDR = 2 ^ 31 + w := by
  rw [Device.regN_eq, Device.csBad, Device.event_eq, Device.reg_setReg, if_neg (by decide), Device.setRegN_eq, Device.reg_setReg_same, BitVec.toNat_ofNat]
  exact Nat.mod_eq_of_lt (by omega)

theorem Device.bit_csBad (d : Device) (w : Nat) : (d.csBad w).bit (Reg.PG_EVT_RAW Page.UCS) 3 = true := Device.bit_event _ _ (by decide)

theorem Device.csUE_csBad (d : Device) (w : Nat) : (d.csBad w).csUE w = true := Device.winUE_setWinUE d (csKey w) true

theorem Device.settle_csUE (d : Device) (w : Nat) : d.settle.csUE w = d.csUE w := by
  rw [Device.csUE, Device.winUE, Device.settle_poison]
  rfl

theorem Calm.csBad {w : Nat} (h : Calm d e) : Calm d (e.csBad w) := h.other rfl

theorem csScrub_corrects {w : BitVec 14} (hon : s.dev.bit Reg.UCS_CTRL 0 = true) (hgood : s.dev.csUE w.toNat = false)
    (hcount : s.dev.fld Reg.UCS_CE_CNT 0 16 < 0xFFFF) :
    Completes (.csScrubStep w .corrected) s (fun e => e.fld Reg.UCS_CE_CNT 0 16 = s.dev.fld Reg.UCS_CE_CNT 0 16 + 1 ∧
      e.bit (Reg.PG_EVT_RAW Page.UCS) 2 = true ∧ RegsBut (fun a => a = Reg.UCS_CE_CNT ∨ a = Reg.PG_EVT_RAW Page.UCS) s.dev e ∧ OnlyRegs s.dev e) := by
  have hstep := Device.csScrub_corrected (d := s.dev.fresh) hon hgood
  have hx : exec (.csScrubStep w .corrected) s = s.run (fun d => d.csScrub w.toNat .corrected) := rfl
  refine Completes.of_run _ hx hstep ⟨rfl, rfl, rfl⟩ ⟨?_, ?_, RegsBut.settle (RegsBut.csCorrected s.dev.fresh), OnlyRegs.settle rfl⟩
  · rw [Device.fld_eq, Device.settle_reg]
    exact Device.fld_csCorrected (d := s.dev.fresh) hcount
  · rw [Device.settle_bit, Device.bit_csCorrected]

theorem csScrub_marks {w : BitVec 14} (hon : s.dev.bit Reg.UCS_CTRL 0 = true) :
    Completes (.csScrubStep w .bad) s (fun e => e.csUE w.toNat = true ∧ e.regN Reg.UCS_UE_ADDR = 2 ^ 31 + w.toNat ∧ e.bit (Reg.PG_EVT_RAW Page.UCS) 3 = true ∧
      RegsBut (fun a => a = Reg.UCS_UE_ADDR ∨ a = Reg.PG_EVT_RAW Page.UCS) s.dev e ∧ MemSame s.dev e) := by
  have hstep := Device.csScrub_bad (d := s.dev.fresh) (w := w.toNat) hon
  have hx : exec (.csScrubStep w .bad) s = s.run (fun d => d.csScrub w.toNat .bad) := rfl
  have hmarks := Completes.of_calm (P := fun e => e.csUE w.toNat = true ∧ e.regN Reg.UCS_UE_ADDR = 2 ^ 31 + w.toNat ∧ e.bit (Reg.PG_EVT_RAW Page.UCS) 3 = true ∧
      RegsBut (fun a => a = Reg.UCS_UE_ADDR ∨ a = Reg.PG_EVT_RAW Page.UCS) s.dev e) _ hx hstep (Calm.refl s.dev.fresh).csBad.of_fresh
    ⟨(Device.settle_csUE ..).trans (Device.csUE_csBad ..), ?_, (Device.settle_bit ..).trans (Device.bit_csBad ..), RegsBut.settle (RegsBut.csBad s.dev.fresh w.toNat)⟩
  · exact hmarks.mono fun e ⟨⟨hmarked, haddr, hevent, hregs⟩, hmem⟩ => ⟨hmarked, haddr, hevent, hregs, hmem⟩
  · rw [Device.regN_eq, Device.settle_reg]
    exact Device.regN_csBad _ (by omega)

theorem csScrub_leaves {w : BitVec 14} {x : Ecc} (h : s.dev.bit Reg.UCS_CTRL 0 = false ∨ x = .good ∧ s.dev.csUE w.toNat = false) :
    Completes (.csScrubStep w x) s (fun e => e.regs = s.dev.regs ∧ OnlyRegs s.dev e) := by
  have hstep := Device.csScrub_idle (d := s.dev.fresh) h
  have hx : exec (.csScrubStep w x) s = s.run (fun d => d.csScrub w.toNat x) := rfl
  exact Completes.of_run _ hx hstep ⟨rfl, rfl, rfl⟩ ⟨Device.settle_regs _, OnlyRegs.settle rfl⟩

/-- Settles O27, clause by clause: LOAD_CUST, CLEAR_CUST, LOAD_VEND and VSWITCH, then READ, CHECK and WRITE, then the scrubber. -/
theorem controlStoreLoads : Obligations.ControlStoreLoads := by
  unfold Obligations.ControlStoreLoads
  refine ⟨fun s q a len hadmits hidle ha hlen => ⟨?_, loadCust_busy hadmits hidle, clearCust_clears hadmits hidle⟩, ?_, ?_, ?_, ?_, ?_, ?_, ?_, ?_, ?_, ?_, ?_⟩
  · exact fun hfree hfuse haligned hfilled hinside hstack hthere hgood hwords =>
      loadCust_starts hadmits hidle ha hlen ⟨hfree, hfuse, haligned, hfilled, hinside, hstack, hthere, hgood, hwords⟩
  · rintro s image h hidle rfl hunused
    exact loadVend_starts hidle hunused
  · exact fun s h hadmits hidle hh hverified => vswitch_switches hadmits hidle hh hverified
  · rintro s a len hl hv rfl rfl hthere hgood
    exact readDone_stages hl hv hthere hgood
  · exact fun s hl hv => readDone_vend hl hv
  · exact fun s w hl hbounds => readDone_fails hl hbounds
  · exact fun s hl hv hhead hsign hverify => checkDone_passes hl hv hhead hsign hverify
  · exact fun s i c hl hv hhead hsign hverify hi hc => checkDone_refuses hl hv hhead hsign hverify hi hc
  · exact fun s ws hl hv hws => writeDone_loads hl hv hws
  · exact fun s w hon hgood hcount => csScrub_corrects hon hgood hcount
  · exact fun s w hon => csScrub_marks hon
  · exact fun s w x h => csScrub_leaves h

end Sys2Proof.Machine
end
